-- ==== Sys2Proof/Word.lean ====
section
/-! DEFINITION. The word types of the HX4816: a byte of a record or of memory, a 32-bit sample or register, a 72-bit accumulator. -/
namespace Sys2Proof

/-- One byte of a record, a frame, a BLOB or of memory (R37). -/
abbrev Byte := BitVec 8

/-- One 32-bit word: a Q1.31 sample (R10), a Facet register (Table 12-1) or a memory word (R406). -/
abbrev W32 := BitVec 32

/-- One Facet accumulator lane of 72 bits (Table 12-1). -/
abbrev W72 := BitVec 72

end Sys2Proof
end

