-- ==== Sys2Proof/Syntax.lean ====
section
/-! DEFINITION. The commands of the block: every row of the table of steps as a constructor, with the operands that a sender, a pin or a measurement supplies. -/
namespace Sys2Proof

/-- The path an access arrives on, which fixes its privilege (Table 2-4); a TDT session by its slot. -/
inductive Path where
  | spi
  | i2c
  | tdt (slot : Nat)
  | locus
  | e2a
  | chord
  deriving DecidableEq, Repr

/-- What one request or access record carries beside its object (Table 2-10): FLAGS [0] STAGED and [1] HOLD, OFFSET, LENGTH as the most a reader accepts, and the
payload of a write. -/
structure Access where
  path : Path
  staged : Bool := false
  hold : Bool := false
  offset : Nat := 0
  length : Nat := 256
  data : List Byte := []
  deriving DecidableEq, Repr

/-- One access record of a TDT REQUEST (R57): OP, FLAGS, INDEX, SUBINDEX, LENGTH, OFFSET and payload. -/
structure AccessRecord where
  op : Nat
  flags : Nat
  index : Nat
  sub : Nat
  length : Nat
  offset : Nat
  data : List Byte := []
  deriving DecidableEq, Repr

/-- What the matcher finds for a phrase at an embedding frame (R254): its prefix score and full score, and for a full match the blocks of its first and last frames and the TIME64 of the last. -/
structure PhraseScore where
  phrase : Nat
  pre : Nat
  full : Nat := 0
  first : Nat := 0
  last : Nat := 0
  time : Nat := 0
  deriving DecidableEq, Repr

/-- What a history block's 10 ms brought (R245, R250, R251, R254, R260): the frames at the PDM clock ÷ 64, each the words of MIC4 to MIC11 and of the barge-in input; the frames at 16 kHz, each the words of MIC4 to MIC11, of beams 0 and 1 and of the
recogniser's input; whether a decimator saturated; the scores; whether each input stayed below SILENCE_LEVEL; and the length in ms of an enrolment utterance that ended. -/
structure HistIn where
  mics : List (List Nat) := []
  low : List (List Nat) := []
  ovr : Bool := false
  scores : List PhraseScore := []
  rawQuiet : Bool := false
  aecQuiet : Bool := false
  utter : Option Nat := none
  deriving DecidableEq, Repr

/-- What the checks of a staged image find that the bytes alone do not tell (R308, R309): the signature holds, the GCM tag holds, the payload in clear, the address at which control flow breaks, the longest path and the DMA use of each TASK record. -/
structure Verdict where
  sig : Bool
  gcm : Bool
  plain : List Byte
  flow : Option Nat
  wcet : List Nat
  dma : List Bool
  deriving DecidableEq, Repr

/-- A HEARTBEAT as received (Table 18-4): role, flags, mode, epoch, TIME64 at the comma, last boundary, SAFE causes, ready bits, the last sequence numbers launched and the Sync count; with the offset between the counters that its exchange gives (R428), whether
the ACTIVE's time state is SYNCED, GRANDMASTER or GM_DISCIPLINED (R432), and the talker starts reported since the last (talker, boundary, sequence number, SSRC or stream_id; R426). -/
structure Heart where
  role : Nat
  flags : Nat
  mode : Nat
  epoch : Nat := 0
  time : Nat := 0
  boundary : Nat := 0
  safe : Nat := 0
  ready : Nat := 0
  launched : List Nat := []
  syncs : Nat := 0
  offset : Int := 0
  synced : Bool := true
  starts : List (Nat × Nat × Nat × Nat) := []
  deriving DecidableEq, Repr

/-- A transaction of the debug protocol (R460): a 32-bit read or write of Tessera memory, of an engine's local or instruction memory, halting, stepping or resuming an engine, a register of its current task (kind 0 scalar, 1 vector and 2 accumulator by register × 4 + lane, 3 address generator by generator × 4 + field,
4 the instruction address), or a dictionary access. -/
inductive DbgOp where
  | readMem (addr : Nat)
  | writeMem (addr value : Nat)
  | readEngine (engine : Nat) (code : Bool) (addr : Nat)
  | writeEngine (engine : Nat) (code : Bool) (addr value : Nat)
  | halt (engine : Nat)
  | single (engine : Nat)
  | resume (engine : Nat)
  | readReg (engine kind number : Nat)
  | writeReg (engine kind number : Nat) (value : Int)
  | readObj (index sub : Nat) (staged : Bool) (offset length : Nat)
  | writeObj (index sub : Nat) (hold : Bool) (offset : Nat) (data : List Byte)
  deriving DecidableEq, Repr

/-- Where a Facet load or store goes (Table 12-1): a byte address of local memory, the place an address generator points at, a sample of an input port's block, or a sample of an output port's block. -/
inductive MemRef where
  | loc (addr : Nat)
  | gen (g : Nat)
  | inp (port sample : Nat)
  | out (port sample : Nat)
  deriving DecidableEq, Repr

/-- Where MOV and LI write: a scalar register, or a field of an address generator (0 base, 1 length, 2 step, 3 position, in bytes). -/
inductive SDest where
  | reg (s : Nat)
  | gen (g field : Nat)
  deriving DecidableEq, Repr

/-- The commands the HX4816 takes: one constructor for each row of the table of steps. -/
inductive Instr where
  /-- READ (R39): A READ request record (SPI, I2C or a TDT access record) returns an object's value, or its staged value with STAGED, after the checks of R41. -/
  | read (a : Access) (index sub : Nat) (singles doubles : List Nat)
  /-- WRITE (R41): A WRITE request record to an object with no row of its own is checked under R41, then acts, stages or is refused, and a failure is logged. -/
  | write (a : Access) (index sub : Nat) (hits : List (Nat × Nat))
  /-- RESEND (R53): A RESEND request returns the kept response of the last READ or WRITE on that transport, or NOT_READY if none is kept. -/
  | resend (i2c : Bool)
  /-- NOP (R53): A NOP request is answered with STATUS OK and LENGTH 0. -/
  | nop (i2c : Bool)
  /-- UNDEFINED_OP (R53): A request or record with an undefined OP is not executed and is answered with STATUS RANGE. -/
  | undefinedOp (i2c : Bool)
  /-- BAD_CRC_REQUEST (R53): A request with a bad CRC is not an access, is answered with 0x5B and is counted in 1250.00 or 1250.01. -/
  | badCrcRequest (i2c : Bool)
  /-- SPI_ABORTED (R480): SPI_CS_N rises before a request's CRC is complete, so the request is discarded and counted. -/
  | spiAborted
  /-- I2C_TIMEOUT (R481): I2C_SCL stays low for 25 ms mid-transfer, so SDA is released and the request discarded and counted. -/
  | i2cTimeout
  /-- I2C_SHORT_TRANSFER (R481): An I2C write transfer ends by STOP or repeated START before a complete request, and is discarded and counted. -/
  | i2cShortTransfer
  /-- DISCOVER (R63): A TDT DISCOVER frame arrives and, while discovery is enabled and within rate, schedules one ANNOUNCE after a random delay. -/
  | discover
  /-- ANNOUNCE (R63): The random delay after a DISCOVER expires and the HX4816 sends an ANNOUNCE frame. -/
  | announce
  /-- OPEN (R451): A TDT OPEN frame is verified and answered with an OPEN_ACK that holds the device nonce and a new session ID, or BUSY. -/
  | tdtOpen (keySel : Nat) (ok : Bool) (nonce : List Byte)
  /-- CLOSE (R452): A TDT CLOSE frame ends its session without an answer, releasing the session's write lock and partial BLOB write. -/
  | tdtClose (session : Nat) (ok : Bool) (seq len : Nat)
  /-- REQUEST (R57): A TDT REQUEST frame of 1 to 32 access records is sequenced, each record is executed in order, and a RESPONSE is sent. -/
  | request (session : Nat) (ok : Bool) (seq len : Nat) (records : List AccessRecord)
  /-- KEEPALIVE (R452): A host KEEPALIVE with a counter above the last accepted keeps its session alive and is echoed. -/
  | keepalive (session : Nat) (ok : Bool) (len counter : Nat)
  /-- BULK_READ (R61): A TDT BULK_READ is answered with up to 16 BULK_DATA fragments of response records in ascending object order. -/
  | bulkRead (session : Nat) (ok : Bool) (seq len : Nat) (firstIndex firstSub lastIndex lastSub : Nat) (staged : Bool)
  /-- SESSION_TIMEOUT (R59): 60 s pass without an authenticated frame of a session, so the session ends. -/
  | sessionTimeout (slot : Nat)
  /-- WRITE_LOCK (R60): A write of 1240.00 takes or frees the dictionary write lock for a TDT session. -/
  | writeLock (a : Access) (v : Nat)
  /-- LOCK_BREAK (R60): A HOST write of 1 to 1241.00 frees the dictionary write lock and raises EV5. -/
  | lockBreak (a : Access)
  /-- WRITE_LOCK_LEASE_EXPIRY (R31): The 10 s lease of the dictionary write lock runs out without renewal, so the lock is freed and EV5 raised. -/
  | writeLockLeaseExpiry
  /-- COMMIT_NOW (R46): Writing 0 to 1200.gg checks the group's rule and commits the staged set now, or refuses with AGREE. -/
  | commitNow (a : Access) (g : Nat)
  /-- COMMIT_SCHEDULE (R46): Writing a non-zero TIME64 to 1200.gg schedules the group's commit in a Locus entry, replacing any pending one. -/
  | commitSchedule (a : Access) (g time : Nat)
  /-- DISCARD (R46): Writing 1 to 1203.gg discards every staged value of the group and cancels its pending scheduled commit. -/
  | discard (a : Access) (g : Nat)
  /-- CHECK (R46): Writing 1 to 1204.gg evaluates the group's rule on the staged set and returns OK or AGREE, changing nothing else. -/
  | check (a : Access) (g : Nat)
  /-- SCHEDULED_COMMIT (R29): A pending scheduled commit falls due at its boundary, checks the staged set and commits it or is refused with EV6. -/
  | scheduledCommit (g : Nat)
  /-- LEDGER_CLEAR (R25): Writing 1 to 1150.00 clears every ledger except the energy ledger, and 1152.00, at the next boundary or tick. -/
  | ledgerClear (a : Access)
  /-- LEDGER_READ (R24): A read of a ledger's base subindex latches all its fields together. -/
  | ledgerRead (a : Access) (index sub : Nat)
  /-- MODE_REQUEST (R68): A write of 1100.00 sets the target mode, or is refused with RANGE, LIFECYCLE or BUSY, and starts the path of R69. -/
  | modeRequest (a : Access) (mode : Nat)
  /-- MODE_STEP_COMPLETE (R71): A transition step between adjacent modes completes, writes 1101.00, raises EV1 and continues the path toward the target. -/
  | modeStepComplete
  /-- SAFE_RETURN (R75): Every cause has been clear for 1 s with 1105.00 at 1, so the supervisor returns to the held mode and raises EV10. -/
  | safeReturn
  /-- HOST_WDT_PERIOD (R77): A write of 1125.00 starts, restarts or stops the host watchdog and clears SAFE cause [7]. -/
  | hostWdtPeriod (a : Access) (v : Nat)
  /-- HOST_WDT_KICK (R77): Writing 1 to 1126.00 restarts the host watchdog period and clears SAFE cause [7]. -/
  | hostWdtKick (a : Access)
  /-- HOST_WDT_EXPIRY (R77): The host watchdog period runs out, raising EV9 once and, with action 1, SAFE cause [7]. -/
  | hostWdtExpiry
  /-- POR (R83): VIN rises through the POR threshold, resetting the device and latching the reset cause. -/
  | por (twin : Bool)
  /-- BOR (R83): VIN falls below the BOR threshold for more than 10 µs, resetting the device. -/
  | bor
  /-- PIN_RESET (R483): RESET_N is held low for at least 1 µs, causing the PIN reset, which is held until release. -/
  | pinReset
  /-- RESET_N_RELEASE (R83): RESET_N rises and the PIN reset is released, starting bring-up. -/
  | resetNRelease
  /-- SUPERVISOR_WATCHDOG_EXPIRY (R86): The supervisor watchdog expires 20 ms after its last service, causing a WDT reset. -/
  | supervisorWatchdogExpiry
  /-- LOCKSTEP_MISMATCH (R86): The two lockstep cores disagree, causing a WDT reset with LOCKSTEP within 1 µs. -/
  | lockstepMismatch
  /-- CORE_SUPPLY (R83): VCORE lies outside 0.74 V to 0.86 V for longer than 5 µs, causing a CORE_SUPPLY reset. -/
  | coreSupply
  /-- SOFT_RESET (R87): Writing 4 to 7 to 1121.00 mutes the outputs, stops the power stage and restarts the Core domain seeking that mode. -/
  | softReset (a : Access) (mode : Nat)
  /-- SOFT_RESET_CORE_RESTART (R87): After the mute and stop sequence the Core domain restarts, ending sessions, Locus entries and descriptors. -/
  | softResetCoreRestart
  /-- DOMAIN_RESET (R88): A write of 1122.00 restarts one function: it clears its ready bit, drops held samples and loses its class O objects. -/
  | domainReset (a : Access) (function : Nat)
  /-- DOMAIN_RESET_DONE (R88): A restarting function sets its ready bit again and raises EV13. -/
  | domainResetDone (function : Nat)
  /-- CORE_RELEASE (R78): VCORE and VDD33 are in range at tc, so the Core domain is released and bring-up continues to its target. -/
  | coreRelease (erased : Bool)
  /-- RAIL_TIMEOUT (R82): VCORE or VDD33 is not in range 100 ms after GPIO14 rises, so the wake step is refused with SUPPLY. -/
  | railTimeout
  /-- SNAPSHOT_STORE (R92): Writing 1 to 1131.00 captures every value at the next boundary and starts writing the older slot. -/
  | snapshotStore (a : Access)
  /-- SNAPSHOT_STORE_DONE (R92): The slot write with its CRC-32 completes and EV12 is raised. -/
  | snapshotStoreDone
  /-- WAKE (R94): An enabled wake source fires in DORMANT or LISTEN, recording 1142.00, raising EV14 and seeking the wake target. -/
  | wake (sources : Nat)
  /-- WAKE_TIMER_EXPIRY (R95): The wake timer of 1141.00 runs out in DORMANT or LISTEN and fires as a wake source. -/
  | wakeTimerExpiry
  /-- VIN_WARN (R96): VIN stays below 9.5 V for longer than 1 ms, raising EV11. -/
  | vinWarn
  /-- VIN_UNDERVOLTAGE (R74): VIN stays below 8.5 V for longer than 100 µs, setting SAFE cause [1]. -/
  | vinUndervoltage
  /-- VIN_OVERVOLTAGE (R74): VIN stays above 30 V for longer than 10 µs, setting SAFE cause [2]. -/
  | vinOvervoltage
  /-- VIN_RECOVERY (R74): VIN has been back in range for 10 ms, clearing SAFE cause [1] or [2]. -/
  | vinRecovery (high : Bool)
  /-- SUPPLY_OUT_OF_RANGE (R490): A required supply leaves the recommended operating conditions for longer than 100 µs. -/
  | supplyOutOfRange
  /-- VDD33_LOSS (R492): VDD33 falls below 2.7 V for 5 µs, losing the SPLL, dropping the links and clearing mixed-signal ready bits. -/
  | vdd33Loss
  /-- VDDIO_LOSS (R492): A VDDIO bank falls below 1.5 V, so its pins go high impedance. -/
  | vddioLoss (bank : Nat) (frame : Bool)
  /-- INPUT_MONITOR_FAULT (R100): A clock input goes missing or out of tolerance, changing CLOCK_STATUS and raising EV17. -/
  | inputMonitorFault (ref present : Bool) (milliHz : Nat)
  /-- SPLL_LOSS (R113): The SPLL loses its input or phase lock, moving cores and tick to the internal oscillator, muting outputs and raising EV16. -/
  | spllLoss
  /-- SPLL_RELOCK (R113): The SPLL relocks, the cores and tick return at a phase-aligned edge, and EV17 is raised. -/
  | spllRelock
  /-- MPLL_LOCK (R110): MPLL acquisition ends with the phase error held within 200 ps for 2 µs. -/
  | mpllLock (adjacent : Option (Nat × Nat × Nat))
  /-- ACQUISITION_ATTEMPT_FAIL (R110): An acquisition attempt on the entry's band runs 400 µs without lock, so the adjacent bands are tried. -/
  | acquisitionAttemptFail
  /-- BAND_FAULT (R110): No band locks 1.2 ms after acquisition starts, setting BAND_FAULT and raising EV20. -/
  | bandFault
  /-- BAND_FAULT_RETRY (R110): Every 100 ms after a band fault the MPLL retries acquisition. -/
  | bandFaultRetry
  /-- MPLL_LOCK_LOSS (R111): The MPLL phase error exceeds 2 ns on 2 comparisons, so tracking freezes and the media domains switch to the DDS. -/
  | mpllLockLoss
  /-- HOLDOVER_RETURN (R112): The MPLL phases agree with the DDS within 20 ps and the media domains return to the MPLL, ending HLD. -/
  | holdoverReturn
  /-- HOLDOVER_2S (R112): A holdover reaches 2 s, raising EV21 and triggering MUTE-ON-HLD sinks. -/
  | holdover2s
  /-- SLEW_COMPLETE (R105): The holdover synthesiser finishes slewing to the new frequency word after a commit. -/
  | slewComplete
  /-- STEERING_SOURCE_LOST (R109): The valid steering source is lost, placing the media domains in holdover at the current word. -/
  | steeringSourceLost
  /-- STEERING_SOURCE_VALID (R109): The steering source becomes valid again and the MPLL takes back the domains. -/
  | steeringSourceValid
  /-- FALLBACK_TAKEN (R109): FALLBACK_DELAY passes in holdover, so the fallback source is taken by an internal commit and EV22 raised. -/
  | fallbackTaken
  /-- FALLBACK_RELEASE (R109): The primary source has been valid for 1 s while the fallback runs, so it is restored by an internal commit. -/
  | fallbackRelease
  /-- BAND_SCAN (R107): Writing 1 to 2130.00 starts the band scan of all 64 bands. -/
  | bandScan (a : Access)
  /-- BAND_SCAN_COMPLETE (R107): The band scan ends, writes the band table entries and raises EV23. -/
  | bandScanComplete (bands : List (Nat × Nat))
  /-- TIME_NOW (R116): A read of 2200.00 returns network time and latches the seconds, nanoseconds and fraction fields. -/
  | timeNow (a : Access)
  /-- SYNC (R124): A Sync message yields an offset measurement that the servo uses or that confirms a phase jump. -/
  | sync (offset : Int) (delay : Nat)
  /-- SLEW_PROFILE_END (R125): A slew profile ends with the error at 0, raising EV26 and returning to SYNCED. -/
  | slewProfileEnd
  /-- ANNOUNCE_MESSAGE (R122): An Announce message feeds the best master clock algorithm, which may qualify a master or select this device as grandmaster. -/
  | announceMessage (self : Bool) (gm steps port : Nat)
  /-- ANNOUNCE_RECEIPT_TIMEOUT (R123): announceReceiptTimeout expires with no other master, so the time unit coasts. -/
  | announceReceiptTimeout (self : Bool)
  /-- SYNC_TIMEOUT (R123): No Sync arrives for 3 sync intervals, so the time unit enters COASTING. -/
  | syncTimeout
  /-- EPOCH_STEP (R128): At the tick 5 ms after a step begins, the counter takes its new value, the epoch increments and Locus entries are re-evaluated. -/
  | epochStep
  /-- STROBE_RELOAD (R128): At a nominal boundary at least 1 ms after the step the Lattice strobe dividers are reloaded, tagging that period INV. -/
  | strobeReload
  /-- TIME_SET (R129): A write of 2210.00 begins an epoch with the written value and sets the state HOST, or fails with BUSY. -/
  | timeSet (a : Access) (time : Nat)
  /-- PPS_OUT_EDGE (R130): PPS_OUT rises at its nominal time plus PPS_ADJUST, or a pulse is suppressed after a step. -/
  | ppsOutEdge
  /-- PPS_OUT_FALL (R130): PPS_OUT falls after PPS_WIDTH. -/
  | ppsOutFall
  /-- TIME_CAP_EDGE (R131): A TIME_CAP edge is captured into the queue or counted as lost, raising EV28. -/
  | timeCapEdge (rising : Bool) (back : Nat)
  /-- PPS_DISCIPLINE_LOSS (R131): No PPS edge for 3 s returns the state to GRANDMASTER. -/
  | ppsDisciplineLoss
  /-- CAP_ENTRY (R131): A read of 2252.00 returns the oldest capture record and removes it. -/
  | capEntry (a : Access)
  /-- ENTRY (R133): A write of 2310.ee arms, replaces or frees a Locus entry after the arm checks. -/
  | entry (a : Access) (ee : Nat)
  /-- LOCUS_CLEAR (R132): Writing 1 to 2302.00 frees every Locus slot except scheduled commits. -/
  | locusClear (a : Access)
  /-- LOCUS_WRITE (R135): A due Locus or event-to-action WRITE action writes its target with HOST privilege, bypassing the lock. -/
  | locusWrite (queue : Bool)
  /-- LOCUS_COMMIT (R132): A due COMMIT entry commits its group as a scheduled commit. -/
  | locusCommit
  /-- LOCUS_LOAD (R382): A due LOAD action strobes the AUX load groups of the channels named. -/
  | locusLoad (queue : Bool)
  /-- LOCUS_GATE_SWAP (R151): A due GATE_SWAP action starts a port's pending gate list at its tick. -/
  | locusGateSwap (queue : Bool)
  /-- LOCUS_IMAGE_SWAP (R312): A due IMAGE_SWAP action requests a swap of the named Facet engines. -/
  | locusImageSwap (queue : Bool)
  /-- LOCUS_MODE (R68): A due MODE action writes 1100.00 as a mode request. -/
  | locusMode (queue : Bool)
  /-- LOCUS_GPIO (R476): A due GPIO action drives or toggles a pin assigned to Locus at its tick. -/
  | locusGpio (queue : Bool)
  /-- LOCUS_EVENT (R132): A due EVENT action raises EV31 and sets 2305.00 to its TAG. -/
  | locusEvent (queue : Bool)
  /-- E2A_ENTRY (R138): A write of 1340.ee sets an event-to-action entry after the arm checks. -/
  | e2aEntry (a : Access) (ee : Nat)
  /-- EV_CLEAR (R473): A write of 1303.0k clears the matching pending flags. -/
  | evClear (a : Access) (k mask : Nat)
  /-- IRQ_MASK (R474): A write of 1310+n.0k changes the events enabled on IRQn, asserting or deasserting a level pin. -/
  | irqMask (a : Access) (n k mask : Nat)
  /-- IRQ_CONFIG (R475): A write of 1314.0n changes an IRQ pin's mode, polarity or drive within 300 ns. -/
  | irqConfig (a : Access) (n v : Nat)
  /-- IRQ_PULSE_END (R474): A PULSE pin's pulse ends after PULSE_WIDTH and its gap begins. -/
  | irqPulseEnd (n : Nat)
  /-- IRQ_GAP_END (R474): The gap after a pulse ends and a queued further pulse starts. -/
  | irqGapEnd (n : Nat)
  /-- GPIO_FUNC (R476): A write of 1400.gg changes a GPIO pin's function within 1 µs. -/
  | gpioFunc (a : Access) (g v : Nat)
  /-- GPIO_OUT (R476): A write of 1403.00 sets the levels of OUTPUT pins. -/
  | gpioOut (a : Access) (levels : Nat)
  /-- GPIO_EDGE (R477): A GPIO input level holds for DEBOUNCE, qualifying an edge that sets the edge flag, counts and queues its action. -/
  | gpioEdge (g : Nat) (level : Bool)
  /-- GPIO_EDGE_CLEAR (R477): A write of 1405.00 clears the matching GPIO edge flags. -/
  | gpioEdgeClear (a : Access) (mask : Nat)
  /-- GPIO_ACTION (R477): A write of 1407.gg sets a GPIO edge action record after the arm checks. -/
  | gpioAction (a : Access) (g : Nat)
  /-- LINK_A (R143): Port A's link goes up, goes down or changes rate, raising EV32. -/
  | linkA (code : Nat) (mdix master eee : Bool)
  /-- LINK_B (R145): Port B's link goes up, goes down or changes rate, raising EV33. -/
  | linkB (code : Nat)
  /-- A_ADVERTISE (R143): A write of 3001.00 changes port A's advertised modes and restarts negotiation. -/
  | aAdvertise (a : Access) (v : Nat)
  /-- B_MODE (R145): A write of 3100.00 to 3102.00 takes port B's link down and restarts it with the new setting. -/
  | bMode (a : Access) (n v : Nat)
  /-- MAGIC_PACKET (R144): A magic packet is recognised on port A in LISTEN, raising EV34 as a wake source. -/
  | magicPacket (bytes : List Byte)
  /-- FRAME_RECEIVED (R148): A frame received whole at a port is classified, checked and forwarded, consumed or dropped. -/
  | frameReceived (port : Nat) (bytes : List Byte) (ok : Bool) (age full : Nat)
  /-- FRAME_TRANSMITTED (R157): A queued frame finishes transmission at an egress port, counting TRANSMITTED and returning its descriptors. -/
  | frameTransmitted (port : Nat)
  /-- ADDR_FLUSH (R148): Writing 1 to 3205.00 removes every learned address. -/
  | addrFlush (a : Access) (v : Nat)
  /-- ADDRESS_AGEING (R148): A learned address ages out after the ageing time. -/
  | addressAgeing
  /-- PAUSE (R146): A PAUSE frame on port B stops the selected classes for its quantum, freezing their credit. -/
  | pause (quantum : Nat)
  /-- PAUSE_QUANTUM_END (R146): A pause quantum runs out and the paused classes resume. -/
  | pauseQuantumEnd
  /-- PAUSE_WATCHDOG_TRIP (R147): Port B has held a class paused for PAUSE_WD_LIMIT ms, so PAUSE is ignored for the holdoff and EV43 raised. -/
  | pauseWatchdogTrip
  /-- PAUSE_WD_HOLDOFF_END (R147): The pause watchdog holdoff runs out, so PAUSE is honoured again and the watchdog restarts. -/
  | pauseWdHoldoffEnd
  /-- GATE_LIST_START (R151): A pending gate list becomes operating at its base time, cutting the old entry and raising EV36. -/
  | gateListStart (p : Nat)
  /-- GATE_ENTRY_CHANGE (R152): A gate list entry's interval ends and the next entry's gate states take effect. -/
  | gateEntryChange (p : Nat)
  /-- POST (R160): A write of 3330.0r posts a descriptor to a host ring. -/
  | post (a : Access) (r : Nat)
  /-- REAP (R160): A read of 3331.0r returns and removes the oldest returned descriptor. -/
  | reap (a : Access) (r : Nat)
  /-- RING_ENABLE (R163): Writing 0 to 3310+r.01 returns every outstanding descriptor FLUSHED. -/
  | ringEnable (a : Access) (r v : Nat)
  /-- LAUNCH (R167): A launch frame at the head of its ring reaches its TIME and is sent, or is marked late or dropped. -/
  | launch (r : Nat)
  /-- TS_RECORD (R166): A read of 3350.0q returns and removes the oldest host timestamp record. -/
  | tsRecord (a : Access) (q : Nat)
  /-- A_STATUS (R143): A read of 3003.00 returns port A status and clears the PAUSE-received bit. -/
  | aStatus (a : Access)
  /-- TS_ENABLE (R176): A write of TS_ENABLE enables a talker, or stops it at the end of the packet in progress. -/
  | tsEnable (a : Access) (n v : Nat)
  /-- TALKER_START (R176): An enabled talker with a committed set starts at the first boundary that is a multiple of spp, once resolved. -/
  | talkerStart (n : Nat)
  /-- TALKER_PACKET_COMPLETE (R177): A talker packet is complete at boundary n + spp and is placed on ring 4 or into the switch. -/
  | talkerPacketComplete (n : Nat)
  /-- RESOLVE_RETRY (R180): A unicast talker retries ARP or neighbour discovery each second, setting RESOLVE_FAIL after three failures. -/
  | resolveRetry (n : Nat) (found : Option Nat)
  /-- RESOLVE_REFRESH (R180): A resolved destination address is refreshed every 60 s. -/
  | resolveRefresh (n : Nat) (found : Option Nat)
  /-- LS_ENABLE (R184): A write of LS_ENABLE joins and starts a listener, or stops it and leaves its group. -/
  | lsEnable (a : Access) (n v : Nat)
  /-- LISTENER_PACKET (R188): An accepted packet is placed in the playout buffer by its level B, or counted late or early. -/
  | listenerPacket (n frac : Nat) (bytes : List Byte)
  /-- LOST_PACKET (R196): A packet slot's first boundary passes with no frames, so the slot presents INV and counts as lost. -/
  | lostPacket (n : Nat)
  /-- STREAM_STOP (R189): No accepted packet for 4 packet times returns a listener to WAITING and raises EV49. -/
  | streamStop (n : Nat)
  /-- LS_STATUS (R188): A read of 3500+n.29 returns the listener status and clears MARGIN. -/
  | lsStatus (a : Access) (n : Nat)
  /-- LS_LEVEL_MIN (R182): A read of 3500+n.2C restarts the recorded extremes of B. -/
  | lsLevelMin (a : Access) (n : Nat)
  /-- SAP_ENABLE (R209): A write of 40p0.00 enables or disables a port's directions, moving it out of or into OFF. -/
  | sapEnable (a : Access) (p v : Nat)
  /-- FRAME_START (R209): A SAP frame-start edge completes a frame, is measured and may lock, glitch, slip or change rate. -/
  | frameStart (p period bclks : Nat) (slots : List Nat)
  /-- SAP_STOP (R212): No frame-start edge arrives for 4 nominal periods, so the port enters STOPPED. -/
  | sapStop (p : Nat)
  /-- TEST_SLIP_ENABLE (R211): A write of 40p0.0C permits test slips in DIAGNOSE and sets taint bit [0]. -/
  | testSlipEnable (a : Access) (p v : Nat)
  /-- TEST_SLIP (R211): A write of 40p0.0D drops or repeats frames at the next frame in both directions. -/
  | testSlip (a : Access) (p v : Nat)
  /-- ASRC_ENABLE (R216): A write of 41g0.00 runs or stops an ASRC group. -/
  | asrcEnable (a : Access) (g v : Nat)
  /-- ASRC_LOCK (R216): An ASRC group's ratio estimate settles within 0.1 ppm and it enters LOCKED. -/
  | asrcLock (g : Nat)
  /-- CH_ENABLE_CAPTURE (R223): A write of 4200+c.00 powers an analogue channel and starts its enable interval. -/
  | chEnableCapture (a : Access) (c v : Nat)
  /-- INPUT_SEL (R223): A write of 4200+c.01 changes the input selector and starts its invalid interval. -/
  | inputSel (a : Access) (c v : Nat)
  /-- PGA_GAIN (R224): A write of 4200+c.02 applies a single gain change and makes 12 samples invalid. -/
  | pgaGain (a : Access) (c v : Nat)
  /-- FINAL_STAGE (R233): A write of 4300+c.00 changes the final decimation stage and starts its invalid interval. -/
  | finalStage (a : Access) (c v : Nat)
  /-- WIND_HPF (R233): A write of 4300+c.01 changes the wind high-pass and starts its invalid interval. -/
  | windHpf (a : Access) (c v : Nat)
  /-- DELAY (R239): A write of 4300+c.02 moves the fractional delay's read point at the next boundary. -/
  | delay (a : Access) (c v : Nat)
  /-- BIAS_ENABLE (R225): A write of 4210+k.00 turns a bias generator on or off, starting a bias-enable interval. -/
  | biasEnable (a : Access) (k v : Nat)
  /-- BIAS_VOLTAGE (R225): A write of 4210+k.01 changes the bias output, which while on counts as a bias enable. -/
  | biasVoltage (a : Access) (k v : Nat)
  /-- CAPTURE_VALID (R233): A channel's invalid interval ends, so it becomes VALID and EV65 is raised. -/
  | captureValid (c : Nat)
  /-- BIAS_SHORT (R226): A bias output stays over 4.5 mA or under half its setting for 1 ms, so the generator turns off and its channels FAULT. -/
  | biasShort (k : Nat)
  /-- BIAS_RETRY (R226): 1 s after a short the bias generator turns on again, clearing SHORT if the short is gone. -/
  | biasRetry (k : Nat) (gone : Bool)
  /-- BIAS_OPEN (R226): A bias current stays below 20 µA for 100 ms, setting OPEN, or above 50 µA for 100 ms, clearing it. -/
  | biasOpen (k : Nat) (opened : Bool)
  /-- PDM_STUCK (R230): A PDM data line stays constant for 1 ms, or toggles again for 1 ms, setting or clearing STUCK. -/
  | pdmStuck (line : Nat) (stuck : Bool)
  /-- CAPTURE_OVR (R236): A capture sample is over range, clipped and tagged OVR, setting its bit in 4220.00. -/
  | captureOvr (c : Nat) (hi : Bool)
  /-- OVR_STATUS (R236): A read of 4220.00 returns the over-range bits and clears them. -/
  | ovrStatus (a : Access)
  /-- CRYSTAL_LOSS (R247): The Perimeter loses its crystal clock, stopping its PDM clocks and suspending the recogniser. -/
  | crystalLoss
  /-- CRYSTAL_RETURN (R247): The crystal has run for 5 ms and the Perimeter's clocks restart. -/
  | crystalReturn
  /-- HISTORY_BLOCK (R251): A 10 ms history block completes and the recogniser computes its embedding frame. -/
  | historyBlock (x : HistIn)
  /-- LISTEN_MIC_STUCK (R250): A listening microphone's line stays constant or toggles again for 1 ms, changing its MIC_STATUS bit. -/
  | listenMicStuck (m : Nat) (stuck : Bool)
  /-- HIST_BLOCK (R252): A read of 4452.00 returns a segment of the block at HIST_READ_SEQ, advancing it after the last segment. -/
  | histBlock (a : Access)
  /-- HIST_READ_SEQ (R252): A write of 4451.00 moves the history read pointer within the held blocks. -/
  | histReadSeq (a : Access) (v : Nat)
  /-- ENROL_SLOT (R260): Writing 0x00 + p to 4440.00 starts enrolment of phrase p. -/
  | enrolSlot (a : Access) (p : Nat)
  /-- ENROL_ERASE (R260): Writing 0x80 + p to 4440.00 erases template slot p. -/
  | enrolErase (a : Access) (p : Nat)
  /-- ENROL_CANCEL (R260): Writing 0xFF to 4440.00 cancels an enrolment with result 4. -/
  | enrolCancel (a : Access)
  /-- ENROL_TIMEOUT (R260): 10 s pass without an accepted utterance, ending enrolment with result 3. -/
  | enrolTimeout
  /-- ENROL_STORE_DONE (R260): The averaged template is stored in 4442.0p and enrolment ends with its result. -/
  | enrolStoreDone (result : Nat) (template : List Byte)
  /-- TEMPLATE (R260): A write of 4442.0p replaces a template, used from the next embedding frame. -/
  | template (a : Access) (p : Nat)
  /-- WAKE_OUT_CLEAR (R262): Writing 1 to 4461.00 drives WAKE_OUT low. -/
  | wakeOutClear (a : Access) (v : Nat)
  /-- WAKE_OUT_PULSE_END (R262): A WAKE_OUT pulse ends after WAKE_OUT_WIDTH. -/
  | wakeOutPulseEnd
  /-- MUX_SELECTION (R276): A write to a multiplexer selection switches it at the next boundary, or starts a 10 ms ramp with RAMP set. -/
  | muxSelection (a : Access) (mux sub v : Nat)
  /-- RAMP_SWITCH_SAMPLE (R276): A ramped selection's fade-out ends and the switch sample applies the new node's tags. -/
  | rampSwitchSample (mux sub : Nat)
  /-- RAMP_END (R276): A ramped selection's fade-in reaches full level. -/
  | rampEnd (mux sub : Nat)
  /-- SINK_DEST (R278): A write of 5021.kk changes the sink node a sink lane drives, resolving conflicts. -/
  | sinkDest (a : Access) (lane v : Nat)
  /-- VTX_GAIN (R280): A write of a Vertex gain applies directly or starts a linear move over VTX_RAMP. -/
  | vtxGain (a : Access) (out inp v : Nat)
  /-- SINK_POLICY (R282): A write of a sink tag policy acts at the next boundary. -/
  | sinkPolicy (a : Access) (node v : Nat)
  /-- START (R290): Writing 1 to 5400+e.00 starts the active image at the next multiple of H. -/
  | start (a : Access) (e : Nat)
  /-- STOP (R290): Writing 2 to 5400+e.00 stops the engine at the next multiple of H. -/
  | stop (a : Access) (e : Nat)
  /-- SWAP (R312): Writing 3 to 5400+e.00 requests a swap to the standby image. -/
  | swap (a : Access) (e : Nat)
  /-- DISCARD_STANDBY (R310): Writing 4 to 5400+e.00 discards the standby image with its allocations and bindings. -/
  | discardStandby (a : Access) (e : Nat)
  /-- UNLOAD (R318): Writing 5 to 5400+e.00 unloads both banks. -/
  | unload (a : Access) (e : Nat)
  /-- CLEAR_FAULT (R318): Writing 6 to 5400+e.00 unloads a faulted engine, sets it EMPTY and boot-loads it if enabled. -/
  | clearFault (a : Access) (e : Nat)
  /-- SWAP_SET (R312): A write of 5420.00 requests a swap of several engines together. -/
  | swapSet (a : Access) (mask : Nat)
  /-- SWAP_BOUNDARY (R313): At the swap boundary S the incoming image begins and the outgoing image becomes standby, raising EV101. -/
  | swapBoundary
  /-- ENGINE_START_POINT (R290): A started image begins at the first multiple of H at least 1 µs after the START. -/
  | engineStartPoint (e : Nat)
  /-- TASK_RELEASE (R288): A task is released at a boundary that is a multiple of its block size. -/
  | taskRelease (e t : Nat) (outgoing : Bool)
  /-- OVERRUN (R316): A task that has not reached HALT at its deadline is aborted, counted and EV98 raised. -/
  | overrun (e t : Nat) (outgoing : Bool)
  /-- ENGINE_FAULT (R317): An engine fault stops the engine, fences it, makes a black-box record and raises EV99. -/
  | engineFault (e cause : Nat)
  /-- AUTO_RECOVER (R318): 100 ms after a fault with AUTO_RECOVER set, the engine performs CLEAR_FAULT by itself. -/
  | autoRecover (e : Nat)
  /-- ECO_CLOCK_CHANGE (R291): Every engine changes clock at the first multiple of 64 after a PLAY-ECO step begins. -/
  | ecoClockChange
  /-- ADD (R309): Scalar 32-bit addition. -/
  | facetAdd (e dst x y : Nat)
  /-- SUB (R309): Scalar 32-bit subtraction. -/
  | facetSub (e dst x y : Nat)
  /-- AND (R309): Scalar bitwise AND. -/
  | facetAnd (e dst x y : Nat)
  /-- OR (R309): Scalar bitwise OR. -/
  | facetOr (e dst x y : Nat)
  /-- XOR (R309): Scalar bitwise XOR. -/
  | facetXor (e dst x y : Nat)
  /-- SHL (R309): Scalar shift left. -/
  | facetShl (e dst x y : Nat)
  /-- SHR (R309): Scalar shift right. -/
  | facetShr (e dst x y : Nat)
  /-- MUL (R309): Scalar multiply. -/
  | facetMul (e dst x y : Nat)
  /-- MIN (R309): Scalar minimum. -/
  | facetMin (e dst x y : Nat)
  /-- MAX (R309): Scalar maximum. -/
  | facetMax (e dst x y : Nat)
  /-- CMP (R309): Scalar compare. -/
  | facetCmp (e x y : Nat)
  /-- MOV (R309): Scalar register move. -/
  | facetMov (e : Nat) (dst : SDest) (src : Nat)
  /-- LI (R309): Scalar load immediate. -/
  | facetLi (e : Nat) (dst : SDest) (v : Nat)
  /-- VMAC (R309): Four-lane fixed-point multiply-accumulate into 72-bit accumulators. -/
  | facetVmac (e acc x y : Nat)
  /-- VMSU (R309): Four-lane fixed-point multiply-subtract. -/
  | facetVmsu (e acc x y : Nat)
  /-- VMUL (R309): Four-lane fixed-point multiply. -/
  | facetVmul (e acc x y : Nat)
  /-- VADD (R309): Four-lane fixed-point addition. -/
  | facetVadd (e dst x y : Nat)
  /-- VSUB (R309): Four-lane fixed-point subtraction. -/
  | facetVsub (e dst x y : Nat)
  /-- VABS (R309): Four-lane fixed-point absolute value. -/
  | facetVabs (e dst x : Nat)
  /-- VMAX (R309): Four-lane fixed-point maximum. -/
  | facetVmax (e dst x y : Nat)
  /-- VSHR (R309): Four-lane fixed-point shift right. -/
  | facetVshr (e dst x n : Nat)
  /-- VEXT (R309): Extracts Q1.31 from accumulators with round-to-nearest and saturation. -/
  | facetVext (e dst acc : Nat)
  /-- FMAC (R309): Four-lane binary32 fused multiply-add. -/
  | facetFmac (e dst x y : Nat)
  /-- FMUL (R309): Four-lane binary32 multiply. -/
  | facetFmul (e dst x y : Nat)
  /-- FADD (R309): Four-lane binary32 addition. -/
  | facetFadd (e dst x y : Nat)
  /-- FSUB (R309): Four-lane binary32 subtraction. -/
  | facetFsub (e dst x y : Nat)
  /-- FMAX (R309): Four-lane binary32 maximum. -/
  | facetFmax (e dst x y : Nat)
  /-- FABS (R309): Four-lane binary32 absolute value. -/
  | facetFabs (e dst x : Nat)
  /-- FCVT (R309): Four-lane conversion between fixed point and binary32. -/
  | facetFcvt (e dst x : Nat) (toFixed : Bool)
  /-- FRCP (R309): Four-lane binary32 reciprocal, accurate to 22 bits. -/
  | facetFrcp (e dst x : Nat)
  /-- FRSQ (R309): Four-lane binary32 reciprocal square root, accurate to 22 bits. -/
  | facetFrsq (e dst x : Nat)
  /-- FLOG2 (R309): Four-lane binary32 base-2 logarithm, accurate to 22 bits. -/
  | facetFlog2 (e dst x : Nat)
  /-- FEXP2 (R309): Four-lane binary32 base-2 exponential, accurate to 22 bits. -/
  | facetFexp2 (e dst x : Nat)
  /-- LD (R309): Scalar load from local memory or a port buffer. -/
  | facetLd (e dst : Nat) (m : MemRef)
  /-- ST (R309): Scalar store to local memory or a port buffer. -/
  | facetSt (e src : Nat) (m : MemRef)
  /-- VLD (R309): Vector load from local memory or a port buffer. -/
  | facetVld (e dst : Nat) (m : MemRef)
  /-- VST (R309): Vector store to local memory or a port buffer. -/
  | facetVst (e src : Nat) (m : MemRef)
  /-- LOOP (R292): Starts a counted loop, clamped to the manifest's maximum count. -/
  | facetLoop (e count last : Nat)
  /-- BRF (R292): Forward conditional branch. -/
  | facetBrf (e mask target : Nat)
  /-- CALL (R292): Calls a subroutine, to a depth of 8. -/
  | facetCall (e target : Nat)
  /-- RET (R292): Returns from a subroutine. -/
  | facetRet (e : Nat)
  /-- HALT (R292): Ends the task's release, publishing user variables and envelope records. -/
  | facetHalt (e cycles : Nat)
  /-- TAGRD (R297): Returns the tags of one input port's current block. -/
  | facetTagrd (e dst port : Nat)
  /-- TAGSET (R297): ORs tag bits into a run of an output port's samples. -/
  | facetTagset (e port first count bits : Nat)
  /-- TAGCLR (R297): Removes SYN and HLD from a run of an output port's samples. -/
  | facetTagclr (e port first count bits : Nat)
  /-- UVRD (R300): Reads a bound user variable from the release snapshot. -/
  | facetUvrd (e dst rec : Nat)
  /-- UVWR (R300): Stores a value to an RO user object, published at the end of the release. -/
  | facetUvwr (e src rec : Nat)
  /-- DMARD (R294): Issues a DMA read from the image's own allocation into local memory. -/
  | facetDmard (e alloc off loc words : Nat)
  /-- DMAWR (R294): Issues a DMA write from local memory into the image's own allocation. -/
  | facetDmawr (e alloc off loc words : Nat)
  /-- DMAWAIT (R294): Waits for issued DMA transfers to complete. -/
  | facetDmawait (e : Nat) (singles doubles : List Nat) (hits : List (Nat × Nat))
  /-- LOCK (R416): Tries to take a pool-bank lock without waiting, returning 1 or 0. -/
  | facetLock (e dst k : Nat)
  /-- UNLOCK (R416): Frees a pool-bank lock held by the engine. -/
  | facetUnlock (e k : Nat)
  /-- BIQ (R293): Runs a biquad cascade over a block. -/
  | facetBiq (e : Nat) (areas : List (Nat × Nat))
  /-- CONV (R293): Runs uniform partitioned convolution over a block. -/
  | facetConv (e : Nat) (areas : List (Nat × Nat))
  /-- FFT (R293): Forward complex or real transform in local memory. -/
  | facetFft (e : Nat) (areas : List (Nat × Nat))
  /-- IFFT (R293): Inverse complex or real transform in local memory. -/
  | facetIfft (e : Nat) (areas : List (Nat × Nat))
  /-- ENV (R293): Envelope follower, peak or RMS. -/
  | facetEnv (e : Nat) (areas : List (Nat × Nat))
  /-- COMP (R293): Compressor over a block. -/
  | facetComp (e : Nat) (areas : List (Nat × Nat))
  /-- LIM (R293): Look-ahead limiter over a block. -/
  | facetLim (e : Nat) (areas : List (Nat × Nat))
  /-- RAMP (R293): Gain ramp from current to target. -/
  | facetRamp (e buf g target left : Nat) (cosine : Bool)
  /-- XFADE (R293): Crossfade of two buffers. -/
  | facetXfade (e dst x y pos len : Nat) (power : Bool)
  /-- DLY (R293): Delay line in a Facet bank or pool allocation. -/
  | facetDly (e buf alloc len : Nat)
  /-- TLU (R293): Interpolated table lookup. -/
  | facetTlu (e : Nat) (areas : List (Nat × Nat))
  /-- ENVX (R302): Writes envelope export records for the boost. -/
  | facetEnvx (e buf : Nat) (slots : List Nat)
  /-- PILOT (R303): Adds the power stage's pilot samples to a buffer with saturation. -/
  | facetPilot (e buf ch : Nat)
  /-- SIGNAL (R291): Raises EV103 with a 16-bit code in 5400+e.10. -/
  | facetSignal (e code : Nat)
  /-- LOAD_START (R307): Writing 1 to 5480.02 clears the staging area and makes the writing path the loader's owner. -/
  | loadStart (a : Access)
  /-- LOAD_CHUNK (R307): A write of 5480.03 appends a 1024-byte chunk to the staging area. -/
  | loadChunk (a : Access)
  /-- LOAD_FINISH (R307): Writing 1 to 5480.04 starts the loader's checks of the staged image. -/
  | loadFinish (a : Access)
  /-- LOAD_RESULT (R308): The loader's checks finish and the image is installed or refused, raising EV100. -/
  | loadResult (v : Verdict) (ecc : Option Nat)
  /-- LOADER_OWNER_TIMEOUT (R307): 10 s pass without a chunk and the loader's ownership ends. -/
  | loaderOwnerTimeout
  /-- BOOT_ERASE (R311): A write of 5493.00 in UPDATE empties a boot slot. -/
  | bootErase (a : Access) (slot : Nat)
  /-- CH_ENABLE (R328): A write of 60n0.00 arms a power channel, starting its common-mode ramp, or stops it. -/
  | chEnable (a : Access) (n v : Nat)
  /-- COMMON_MODE_RAMP_DONE (R328): A channel's 20 ms common-mode ramp up completes and it reaches MUTED. -/
  | commonModeRampDone (n : Nat)
  /-- MUTE_RAMP_DONE (R329): A channel's 5 ms mute or unmute ramp completes. -/
  | muteRampDone (n : Nat)
  /-- CM_DOWN_DONE (R329): A channel's 20 ms common-mode ramp down completes with both legs low. -/
  | cmDownDone (n : Nat)
  /-- SAMPLE_LINK_LOSS (R330): A power die's sample link delivers no frame for 2 µs, so the die runs its own stop. -/
  | sampleLinkLoss (die : Nat)
  /-- MOD_FREQ (R325): A write of 6100.00 changes the carrier at the next common edge and raises EV80. -/
  | modFreq (a : Access) (v : Nat)
  /-- FULL_SCALE_V (R324): A write of 60n0.01 steps the channel's output in proportion at the next boundary. -/
  | fullScaleV (a : Access) (n v : Nat)
  /-- BRIDGE_RECONFIG (R332): A commit changing BRIDGE stops the pair, reconfigures it and restarts it, raising EV80. -/
  | bridgeReconfig (k : Nat)
  /-- CURRENT_LIMIT (R334): A leg current reaches I_LIMIT and the rest of the carrier period's drive is cut. -/
  | currentLimit (n : Nat)
  /-- SHORT (R335): A short is declared after 16 sense samples and the channel goes to high impedance. -/
  | short (n : Nat)
  /-- OVERCURRENT (R336): 32 consecutive carrier periods are cut by the current limit, a counted fault. -/
  | overcurrent (n : Nat)
  /-- LEG_SHORT (R336): A leg current above 2 A for 2 µs during common mode, a counted fault. -/
  | legShort (n : Nat)
  /-- DC (R336): The 1 s mean output exceeds DC_LIMIT, a counted fault. -/
  | dc (n : Nat)
  /-- SENSE (R336): The sense converter reference check fails twice, a counted fault. -/
  | sense (n : Nat)
  /-- GATE_DRIVE (R336): A gate-drive supply is below threshold for 1 µs, taking the channel or boost phase off. -/
  | gateDrive (u : Nat)
  /-- GATE_DRIVE_RECOVERY (R336): A gate-drive supply has been back for 1 ms and the channel restarts softly. -/
  | gateDriveRecovery (u : Nat)
  /-- PVDD_OV (R336): PVDD exceeds 45 V for 1 µs, taking every channel to high impedance and stopping the boost. -/
  | pvddOv
  /-- PVDD_OV_RECOVERY (R336): PVDD has been below 43 V for 10 ms and the channels restart. -/
  | pvddOvRecovery
  /-- RETRY (R338): RETRY_DELAY after a counted fault the channel makes a soft restart. -/
  | retry (n : Nat)
  /-- CLEAR_LATCH (R338): Writing 1 to 60n0.25 clears the latch and RETRIES and restarts an enabled channel. -/
  | clearLatch (a : Access) (n v : Nat)
  /-- SOFT_RESTART_DONE (R337): A soft restart completes and EV73 is raised. -/
  | softRestartDone (n : Nat)
  /-- POWER_LIMIT_STEP (R339): Every 0.1 ms the integrators, allowed powers, gains and BOOST_FACTOR are updated. -/
  | powerLimitStep (powers : List Int) (vin pvdd iin : Nat)
  /-- DIE_TEMPERATURE (R343): Every 100 µs a power die measures its junction, setting WARN and foldback. -/
  | dieTemperature (die : Nat) (t : Int)
  /-- PILOT_RESULT (R345): A pilot window ends, updating Z_MAG, Z_PHASE or RE and the impedance and voice-coil flags. -/
  | pilotResult (n kind : Nat) (valid : Bool) (mag : Nat) (phase : Int)
  /-- RE_CAPTURE (R345): Writing 1 to 613n.08 copies RE into RE_REF. -/
  | reCapture (a : Access) (n : Nat)
  /-- ENVELOPE_RECORD (R352): An envelope record arrives at the boost and is stored or merged. -/
  | envelopeRecord
  /-- BOOST_COMMAND (R353): Every 10 µs the boost recomputes its rail command from the records and enters or leaves BYPASS. -/
  | boostCommand (vin pvdd iin : Nat)
  /-- RAIL_LOW (R359): PVDD stays more than 1 V below its target for 20 µs, setting RAIL_LOW and raising EV84. -/
  | railLow
  /-- BOOST_START (R362): The boost checks precharge and enters BYPASS or soft-starts to RAIL_MIN. -/
  | boostStart (pvdd vin : Nat)
  /-- RAIL_SHORT (R363): PVDD stays below half its command for 50 µs, stopping switching as a boost fault. -/
  | railShort
  /-- RAIL_SHORT_RESTART (R363): 100 ms after a RAIL_SHORT the boost restarts, or latches on the fourth within 10 s. -/
  | railShortRestart
  /-- PHASE_IMBALANCE (R363): One phase's current differs by over 40 % for 10 ms and that phase is disabled. -/
  | phaseImbalance (p : Nat)
  /-- BOOST_CLEAR (R363): Writing 1 to 6211.04 clears LATCHED, re-enables phases and restarts the boost. -/
  | boostClear (a : Access) (v : Nat)
  /-- HP_ENABLE (R370): A write of 4500.00 starts or stops the headphone output. -/
  | hpEnable (a : Access) (v : Nat)
  /-- LOUT_ENABLE (R370): A write of 4510.00 starts or stops the line output. -/
  | loutEnable (a : Access) (v : Nat)
  /-- OUTPUT_START_DONE (R370): A headphone or line start sequence completes and the output is ON. -/
  | outputStartDone (o : Nat)
  /-- OUTPUT_STOP_DONE (R370): A headphone or line stop sequence completes and the output is OFF. -/
  | outputStopDone (o : Nat)
  /-- HP_RANGE (R369): A write of 4500.01 while ON changes the range through mute and unmute ramps. -/
  | hpRange (a : Access) (v : Nat)
  /-- VOLUME_STEP (R369): Every 0.25 ms a moving volume steps 0.5 dB toward its written value. -/
  | volumeStep
  /-- HP_LINE_FAULT (R372): An output current limit acts for 10 ms, clamping the output and raising EV69. -/
  | hpLineFault (o : Nat)
  /-- HP_LINE_RETRY (R372): 1 s after a fault the output restarts. -/
  | hpLineRetry (o : Nat)
  /-- JACK_MUTE (R371): A used jack switch indicates absence, muting the headphone within 1 ms. -/
  | jackMute (raw : Nat)
  /-- JACK_INSERTION (R374): Every used switch indicates presence for 50 ms, declaring insertion and raising EV66. -/
  | jackInsertion
  /-- JACK_REMOVAL (R374): A used switch indicates absence for 50 ms, declaring removal and raising EV66. -/
  | jackRemoval (raw : Nat)
  /-- JACK_IDENTIFY (R375): After settling and averaging the BIAS1 current, JACK_TYPE is set and EV67 raised. -/
  | jackIdentify (ua : Nat)
  /-- BUTTON (R376): A BIAS1 current class holds for 30 ms, declaring a button press or release and raising EV68. -/
  | button (ua : Nat)
  /-- RANGE (R381): A write of 4610+c.00 clears an AUX channel and sets RANGE_PENDING for at least 200 µs. -/
  | range (a : Access) (c v : Nat)
  /-- LOAD_CMD (R382): A write of 4600.00 strobes the AUX load groups named. -/
  | loadCmd (a : Access) (mask : Nat)
  /-- LOAD_PIN_EDGE (R382): An edge on the LOAD pin strobes the groups that 4600.01 names. -/
  | loadPinEdge (falling : Bool)
  /-- HELD_VALUES_APPLY (R382): At the first carrier period 200 ns after a strobe, the group's held values come into force. -/
  | heldValuesApply
  /-- CLEAR_N_FALL (R383): CLEAR_N falls and every AUX channel enters its clear state within 1 µs. -/
  | clearNFall
  /-- CLEAR_N_RISE (R383): CLEAR_N rises and channels await their group's next strobe. -/
  | clearNRise
  /-- COMPLIANCE_LOSS (R379): An AUX output loses compliance for 8 carrier periods, setting COMPLIANCE and raising EV70. -/
  | complianceLoss (c : Nat)
  /-- COMPLIANCE (R379): A read of 4600.03 returns the latched compliance bits and clears them. -/
  | compliance (a : Access)
  /-- WAVE_SIZE (R385): A write of 4620+w.00 reserves or frees a waveform allocation in the pool. -/
  | waveSize (a : Access) (w v : Nat)
  /-- WAVE_DATA (R385): A write of 4620+w.05 stores 512 points at WAVE_INDEX and advances it. -/
  | waveData (a : Access) (w : Nat) (hits : List (Nat × Nat))
  /-- WAVE_RESTART (R385): Writing 1 to 4620+w.06 restarts the waveform at the next strobe. -/
  | waveRestart (a : Access) (w : Nat)
  /-- WAVE_DONE (R385): A one-shot waveform pass ends, holding its last point and raising EV71. -/
  | waveDone (w : Nat)
  /-- SEQ_START (R396): Writing 1 to 6300.01 starts the HKA sequence under its trigger mode. -/
  | seqStart (a : Access)
  /-- SEQ_STOP (R396): Writing 1 to 6300.02 stops the sequence after the running conversion. -/
  | seqStop (a : Access)
  /-- PERIODIC_TRIGGER (R396): At each tick where TIME64 is a multiple of PERIOD a pass starts, or is skipped if one runs. -/
  | periodicTrigger
  /-- CONVERSION_DONE (R391): An HKA conversion completes, its corrected result written with flags and windows checked. -/
  | conversionDone (raw : Nat) (ovr und : Bool)
  /-- MONITOR_REQUEST (R399): Every 50 µs the supervisor requests a monitor conversion of the next input in its cycle. -/
  | monitorRequest
  /-- URGENT (R400): A write of 6350.00 aborts a running sequence conversion and converts the named input at once. -/
  | urgent (a : Access) (v : Nat)
  /-- CALIBRATE (R401): Writing 1 to 6340.00 starts a self-calibration after the running conversion. -/
  | calibrate (a : Access)
  /-- CALIBRATION_DONE (R401): A calibration ends, storing new factors or reporting FAILED, and raises EV127. -/
  | calibrationDone (offset : Int) (gain : Nat)
  /-- RESULT (R390): A read of 6320.qq returns a result and clears its NEW flag. -/
  | result (a : Access) (q : Nat)
  /-- WINDOW_STATUS (R398): A read of 6323.00 returns the window bits and clears them. -/
  | windowStatus (a : Access)
  /-- BG_TEST_SLOT (R413): Every 686.644 µs the tester stalls a bank, March-tests one region and restores it. -/
  | bgTestSlot (singles doubles : List Nat) (fails : Bool)
  /-- LOCK_TAKE (R416): A TDT write of 5831.kk takes or frees a pool-bank lock. -/
  | lockTake (a : Access) (k v : Nat)
  /-- LOCK_REVOKED (R417): A pool-bank lock lease of 50 µs expires, so the holder is fenced and the lock freed. -/
  | lockRevoked (k : Nat)
  /-- FENCE_IN (R433): FENCE_IN_N qualifies low, idling the transmitters, releasing leases and setting FENCED. -/
  | fenceIn
  /-- FENCE_IN_RELEASE (R436): FENCE_IN_N has been high for 10 µs and the released twin re-enables and rejoins as SHADOW. -/
  | fenceInRelease
  /-- HEARTBEAT_SEND (R428): Every 20 µs each twin sends a HEARTBEAT frame. -/
  | heartbeatSend
  /-- HEARTBEAT (R428): A received HEARTBEAT renews leases, measures the counter offset and retires launched packets. -/
  | heartbeat (h : Heart)
  /-- HEARTBEAT_LOSS (R435): No valid HEARTBEAT for 100 µs as SHADOW, or 300 µs as ACTIVE, so the twin fences its partner. -/
  | heartbeatLoss
  /-- SAMPLES (R429): A received SAMPLES frame delivers partner samples to Chord receive nodes two boundaries later. -/
  | samples (n : Nat) (samples : List (Int × Nat))
  /-- SAMPLES_SEND (R429): At every media boundary each twin sends a SAMPLES frame. -/
  | samplesSend
  /-- SAMPLES_MISSING (R429): A boundary finds no good SAMPLES frame and nodes take their fallback or INV. -/
  | samplesMissing (crc : Bool)
  /-- HELLO (R439): A HELLO frame's identities are checked and roles chosen, or pairing is refused. -/
  | hello (model variant rev : Nat) (twin holds : Bool)
  /-- CHORD_WRITE (R424): A mirrored WRITE frame is executed on the SHADOW with TWIN privilege at its boundary. -/
  | chordWrite (record : AccessRecord) (time : Nat)
  /-- BLACKBOX (R466): A BLACKBOX frame is stored in the receiver's ring as a twin copy. -/
  | blackbox (record : List Byte)
  /-- HANDOVER_REQUEST (R438): A HANDOVER REQUEST frame proposes a handover at boundary S. -/
  | handoverRequest (s0 cause : Nat)
  /-- HANDOVER_GRANT (R438): A HANDOVER GRANT frame accepts the handover at boundary S. -/
  | handoverGrant (s0 : Nat)
  /-- HANDOVER_DONE (R438): A HANDOVER DONE frame confirms the handover. -/
  | handoverDone
  /-- HANDOVER_BOUNDARY (R438): At boundary S launching moves between twins and the roles exchange. -/
  | handoverBoundary
  /-- HANDOVER_TIMEOUT (R435): A granted handover is not DONE within 50 µs, so the SHADOW fences. -/
  | handoverTimeout
  /-- LEAVE (R438): A LEAVE frame makes the partner ALONE without fencing. -/
  | leave
  /-- MIRROR_DATA (R439): MIRROR_DATA frames carry the committed mirrored state, which the SHADOW commits at one boundary. -/
  | mirrorData (records : List AccessRecord)
  /-- LANE_FAULT (R427): A Chord lane delivers no good frame for 100 µs and is declared faulty. -/
  | laneFault (lane : Nat)
  /-- LANE_GOOD (R427): A faulty lane delivers good frames for 1 ms and is declared good. -/
  | laneGood (lane : Nat)
  /-- CHORD_TRAINED (R439): The Chord lanes finish training and alignment. -/
  | chordTrained
  /-- GM_LEASE_EXPIRY (R431): The grandmaster lease expires while heartbeats continue and the other twin takes the role. -/
  | gmLeaseExpiry
  /-- SWITCHOVER (R438): Writing 1 to 7002.00 requests a host handover. -/
  | switchover (a : Access) (v : Nat)
  /-- FAILOVER (R438): An enabled takeover trigger arises on the ACTIVE, setting FAILOVER and starting a handover. -/
  | failover (trigger : Nat)
  /-- FENCE_RELEASE (R436): Writing 1 to 7002.01 releases FENCE_OUT_N. -/
  | fenceRelease (a : Access) (v : Nat)
  /-- AUTO_REJOIN (R436): AUTO_REJOIN seconds after a fence was asserted, the fencing twin releases it. -/
  | autoRejoin
  /-- FORCE_ALONE (R435): Writing 1 to 7002.02 asserts FENCE_OUT_N and claims the shared identity. -/
  | forceAlone (a : Access) (v : Nat)
  /-- CLAIM_WAIT (R440): A twin not paired within CLAIM_WAIT fences, claims the identity and becomes ALONE. -/
  | claimWait
  /-- LIFECYCLE_PROVISION (R446): A LIFECYCLE_CMD with target 1 generates the root secret and moves to PROVISIONED. -/
  | lifecycleProvision (a : Access) (trng : Bool)
  /-- LIFECYCLE_DEPLOY (R446): A LIFECYCLE_CMD with target 2 locks the key table and moves to DEPLOYED. -/
  | lifecycleDeploy (a : Access)
  /-- KEY_PUBLIC (R449): A write of 7111.ss stores a public key under the lifecycle rules. -/
  | keyPublic (a : Access) (slot : Nat)
  /-- KEY_SECRET (R449): A write of 7112.ss stores a secret key, ending sessions opened with that slot. -/
  | keySecret (a : Access) (slot : Nat)
  /-- KEY_REVOKE (R449): Writing 1 to 7113.ss revokes a signing slot. -/
  | keyRevoke (a : Access) (slot : Nat)
  /-- UNLOCK_SCAN (R454): Writing 1 to 7121.00 requests a SCAN debug open, forming a challenge or opening at once. -/
  | unlockScan (a : Access)
  /-- UNLOCK_FULL (R454): Writing 2 to 7121.00 requests a FULL debug open, forming a challenge or opening at once. -/
  | unlockFull (a : Access)
  /-- UNLOCK_SERVICE (R454): Writing 3 to 7121.00 requests the SERVICE transition, forming a challenge. -/
  | unlockService (a : Access)
  /-- UNLOCK_RETIRE (R454): Writing 4 to 7121.00 requests the RETIRE transition, forming a challenge or acting at once. -/
  | unlockRetire (a : Access) (erased : Bool)
  /-- TOKEN (R455): A write of 7123.00 submits an unlock token for verification. -/
  | token (a : Access)
  /-- TOKEN_VERIFIED (R455): Token verification completes, starting the action of its level or counting a failure. -/
  | tokenVerified (sigOk erased : Bool)
  /-- LOCKOUT_END (R455): A 600 s token lockout ends. -/
  | lockoutEnd
  /-- BYPASS (R459): The TAP BYPASS instruction selects the bypass register. -/
  | tapBypass
  /-- IDCODE (R459): The TAP IDCODE instruction returns 0x148166BF. -/
  | tapIdcode
  /-- SAMPLE_PRELOAD (R459): The TAP SAMPLE/PRELOAD instruction samples or preloads the boundary-scan register while open. -/
  | tapSamplePreload (pins : Nat) (scan : Option Nat)
  /-- EXTEST (R459): The TAP EXTEST instruction drives pins from the boundary-scan register while open. -/
  | tapExtest (pins : Nat) (scan : Option Nat)
  /-- CLAMP (R459): The TAP CLAMP instruction holds pins from the boundary-scan register while open. -/
  | tapClamp
  /-- HIGHZ (R459): The TAP HIGHZ instruction puts the scanned pins at high impedance while open. -/
  | tapHighz
  /-- DBG_CHALLENGE (R459): The TAP DBG_CHALLENGE instruction requests a level and returns the challenge and identity signature. -/
  | dbgChallenge (level : Nat)
  /-- DBG_UNLOCK (R459): The TAP DBG_UNLOCK instruction submits a token and returns the result. -/
  | dbgUnlock (sigOk erased : Bool)
  /-- DBG_ACCESS (R460): The TAP DBG_ACCESS instruction carries debug transactions within the reach of R460. -/
  | dbgAccess (op : DbgOp)
  /-- TRST_N (R459): A low TRST_N resets the TAP controller and leaves the debug state unchanged. -/
  | trstN
  /-- BB_RECORD_WRITE (R464): A queued black-box record is written whole to its ring slot and the count advances. -/
  | bbRecordWrite
  /-- BB_RECORD (R467): A read of 7202.00 returns the record at BB_READ and advances BB_READ. -/
  | bbRecord (a : Access)
  /-- BB_CLEAR (R465): A HOST write of 1 to 7206.00 clears the black box and makes a HOST record. -/
  | bbClear (a : Access) (v : Nat)
  /-- TICK (R116): On every 250 MHz tick the network time counter adds its increment, and shaper credit and the clamp counts move. -/
  | tick (n : Nat)
  /-- MEDIA_SAMPLE_BOUNDARY (R15): At each Lattice sample strobe every source writes a sample and tag, the fabric, Vertex and sink policies act, and every sink takes a sample. -/
  | mediaSampleBoundary (inputs : List (Nat × Int))
  /-- SYNC_TRANSMIT (R431): A serving grandmaster sends a Sync at its sync interval, advancing SYNC_COUNT and renewing the grandmaster lease for 1 s. -/
  | syncTransmit
  /-- INPUT_MONITOR_RETURN (R100): A clock input that was missing or out of tolerance returns, setting its CLOCK_STATUS bit and raising EV17, and REFCLK back for 100 ms lets a waiting SPLL lock. -/
  | inputMonitorReturn (ref : Bool) (milliHz : Nat)
  /-- VDD33_RECOVERY (R492): VDD33 has been back in range for 1 ms after a loss, and recovery follows R113 with the mixed-signal functions ready again. -/
  | vdd33Recovery
  /-- VDDIO_RETURN (R491): A VDDIO bank rises back above 1.5 V, its level is detected and its pins are driven again as configured. -/
  | vddioReturn (bank : Nat)
  /-- PRESENCE_RETURNS (R371): A jack switch indicates presence again before removal is declared, and the headphone ramps back over 5 ms. -/
  | presenceReturns (raw : Nat)
  /-- RANGE_PENDING_EXPIRY (R381): For an IMMEDIATE channel, the first carrier period 200 µs after a RANGE write applies the new range and held values and clears RANGE_PENDING. -/
  | rangePendingExpiry (c : Nat)
  /-- COMPLIANCE_CLEAR (R379): An AUX channel's live COMPLIANCE bit clears after 1 ms without the compliance condition. -/
  | complianceClear (c : Nat)
  deriving DecidableEq, Repr

end Sys2Proof
end

