-- ==== Sys2Proof/Decode.lean ====
section
/-! DEFINITION. Commands spelled as words. The rows of the table of steps give no bits: a command arrives as a request, a frame, a pin's edge or a timer's end, never as an encoded word. -/
namespace Sys2Proof

/-- The command that a word of `nbits` bits spells by the table's bits: the table gives no row any bits, so that no word spells a command. -/
def decodeTableWord (_nbits _w : Nat) : Option Instr := none

end Sys2Proof
end

