-- ==== Sys2Proof/Config.lean ====
section
/-! DEFINITION. What the spec leaves to the part or to its makers: values fixed at manufacture, and the free values of the model (assumption log 3). None has a body that a proof can see. -/
namespace Sys2Proof

/-- A value that nothing in the spec fixes: the n-th one used in a run. -/
opaque Config.free : Nat → Nat

/-- The MAC address assigned at manufacture, 3301.00. -/
opaque Config.factoryMac : Nat

/-- The unique identity of the device set at manufacture, 7103.00. -/
opaque Config.deviceUid : Nat

/-- The output of the 4 Hz DC block (R281), whose coefficients and rounding the spec does not give: a function of the rate, the sample, the sample before it and the output before it. -/
opaque Config.dcBlock : Nat → Int → Int → Int → Int

/-- Whether the CRC-32 in a template's header holds (Table 10-9), whose place and coverage the spec does not give. -/
opaque Config.templateOk : List Byte → Bool

/-- The frame count in a template's header (Table 10-9), whose place the spec does not give. -/
opaque Config.templateFrames : List Byte → Nat

/-- The code of CONV in PRIM records, which Table 12-5 does not list. -/
opaque Config.primConv : Nat

/-- Whether the Facet scalar unit reads its 32-bit integers as signed, where MIN, MAX, CMP and SHR differ by it (Table 12-2 does not say). -/
opaque Config.scalarSigned : Bool

/-- Whether 64 bytes, x then y, are a point on P-256 (R449): the spec does not give the byte order of a coordinate. -/
opaque Config.onCurve : List Byte → Bool

/-- The first four bytes of SHA-256 of the evaluation image key in ROM, 7114.00 (Table 19-4). -/
opaque Config.romKeyDigest : Nat

/-- What GROUP_INFO [7:0] reads for a group of more than 255 members, such as a gate list's (Table 2-7). -/
opaque Config.groupCount : Nat → BitVec 8

end Sys2Proof
end

