-- ==== Sys2Proof/Machine/Bits.lean ====
section
/-! DEFINITION. Bit fields, two's complement and byte order: the plain arithmetic every chapter uses (R8, R10, R37). -/
namespace Sys2Proof.Machine

/-- Bit `i` of a field word, R8. -/
def bit (v i : Nat) : Bool := v.testBit i

/-- Field [hi:lo] of a word, R8. -/
def fld (v hi lo : Nat) : Nat := (v >>> lo) % 2 ^ (hi + 1 - lo)

/-- The word with field [hi:lo] replaced. -/
def setFld (v hi lo x : Nat) : Nat :=
  let w := 2 ^ (hi + 1 - lo)
  v - (fld v hi lo) * 2 ^ lo + (x % w) * 2 ^ lo

/-- The word with bit `i` set to `b`. -/
def setBit (v i : Nat) (b : Bool) : Nat := setFld v i i (if b then 1 else 0)

/-- The word with the bits of mask `m` cleared. -/
def clearBits (v m : Nat) : Nat := v - (v &&& m)

/-- 1 for true, 0 for false: how a BOOL object holds it (Table 2-2). -/
def b2n (b : Bool) : Nat := if b then 1 else 0

/-- A `w`-bit two's complement value as an integer. -/
def toInt (w n : Nat) : Int :=
  if n % 2 ^ w < 2 ^ (w - 1) then (n % 2 ^ w : Nat) else ((n % 2 ^ w : Nat) : Int) - (2 ^ w : Nat)

/-- An integer as a `w`-bit two's complement value. -/
def ofInt (w : Nat) (i : Int) : Nat := (i % ((2 ^ w : Nat) : Int)).toNat

/-- An integer held between two bounds. -/
def clampI (lo hi i : Int) : Int := if i < lo then lo else if hi < i then hi else i

/-- An integer is a signed value of `w` bits. -/
def fitsS (w : Nat) : Int → Bool
  | .ofNat n => n < 2 ^ (w - 1)
  | .negSucc n => n < 2 ^ (w - 1)

/-- An integer is an unsigned value of `w` bits. -/
def fitsU (w : Nat) : Int → Bool
  | .ofNat n => n < 2 ^ w
  | .negSucc _ => false

/-- An integer saturated to a signed value of `w` bits, R10. -/
def satS (w : Nat) (i : Int) : Int :=
  if fitsS w i then i
  else match i with
    | .ofNat _ => ((2 ^ (w - 1) - 1 : Nat) : Int)
    | .negSucc _ => -((2 ^ (w - 1) : Nat) : Int)

/-- A count increased and held at the top of an unsigned field of `w` bits. -/
def satAdd (w n k : Nat) : Nat := min (n + k) (2 ^ w - 1)

/-- Division rounded to the nearest integer, a tie away from zero (R10). -/
def roundDiv (n : Int) (d : Nat) : Int :=
  if d = 0 then 0
  else if 0 ≤ n then ((2 * n.toNat + d) / (2 * d) : Nat)
  else -(((2 * (-n).toNat + d) / (2 * d) : Nat) : Int)

/-- Division rounded towards minus infinity. -/
def floorDiv (n : Int) (d : Nat) : Int := n.fdiv d

/-- Division rounded up. -/
def ceilDiv (n d : Nat) : Nat := if d = 0 then 0 else (n + d - 1) / d

/-- The value of bytes sent least significant byte first (R37). -/
def leNat : List Byte → Nat
  | [] => 0
  | b :: t => b.toNat + 256 * leNat t

/-- `n` bytes of a value, least significant byte first (R37). -/
def leBytes : Nat → Nat → List Byte
  | 0, _ => []
  | n + 1, v => BitVec.ofNat 8 v :: leBytes n (v / 256)

/-- `n` zero bytes. -/
def zeros (n : Nat) : List Byte := List.replicate n 0#8

/-- The `n` bytes at offset `o`, read as zero beyond the end. -/
def slice (o n : Nat) (l : List Byte) : List Byte :=
  let t := (l.drop o).take n
  t ++ zeros (n - t.length)

/-- The value of the `n` bytes at offset `o` (R37). -/
def fieldAt (o n : Nat) (l : List Byte) : Nat := leNat (slice o n l)

/-- The first value held for a key. -/
def assoc {β : Type} (k : Nat) : List (Nat × β) → Option β
  | [] => none
  | (j, v) :: t => if j = k then some v else assoc k t

/-- The list with the value of one key set, kept in rising key order. -/
def assocPut {β : Type} (k : Nat) (v : β) : List (Nat × β) → List (Nat × β)
  | [] => [(k, v)]
  | (j, w) :: t => if k < j then (k, v) :: (j, w) :: t else if j = k then (k, v) :: t else (j, w) :: assocPut k v t

/-- The list without one key. -/
def assocDel {β : Type} (k : Nat) (l : List (Nat × β)) : List (Nat × β) := l.filter (fun e => e.1 != k)

/-- Element `i` of a list, `d` beyond its end. -/
def nthD {β : Type} (d : β) : List β → Nat → β
  | [], _ => d
  | a :: _, 0 => a
  | _ :: t, n + 1 => nthD d t n

/-- The list with element `i` changed. -/
def modNth {β : Type} (f : β → β) : List β → Nat → List β
  | [], _ => []
  | a :: t, 0 => f a :: t
  | a :: t, n + 1 => a :: modNth f t n

/-- A function applied `n` times. -/
def times {β : Type} (f : β → β) : Nat → β → β
  | 0, a => a
  | n + 1, a => times f n (f a)

/-- The numbers 0 to `n` - 1 in rising order. -/
def upto (n : Nat) : List Nat := List.range n

/-- One step of the CRC of R52: polynomial 0x1021, most significant bit first. -/
def crcBit (c : Nat) (b : Bool) : Nat :=
  let top := bit c 15 != b
  let s := (c * 2) % 65536
  if top then s ^^^ 0x1021 else s

/-- The CRC of R52 over one byte. -/
def crcByte (c : Nat) (b : Byte) : Nat :=
  [7, 6, 5, 4, 3, 2, 1, 0].foldl (fun a i => crcBit a (bit b.toNat i)) c

/-- CRC-16 CCITT of R52: initial value 0xFFFF, no reflection. -/
def crc16 (l : List Byte) : Nat := l.foldl crcByte 0xFFFF

end Sys2Proof.Machine
end

