-- ==== Sys2Proof/Machine/Mem.lean ====
section
/-! DEFINITION. Tessera memory as bytes by address: reading, writing and its canonical form (R405, R406). -/
namespace Sys2Proof.Machine

/-- What a byte of Tessera memory that is not listed reads as: 0 (R405). -/
def memUnlisted : Byte := 0#8

/-- One byte of memory. -/
def memRead : List Host.Cell → Nat → Byte
  | [], _ => memUnlisted
  | (a, b) :: t, k => if a = k then b else memRead t k

/-- Memory with one byte written, in canonical form: an address whose byte reads as an unlisted one is not listed. -/
def memWrite (k : Nat) (v : Byte) : List Host.Cell → List Host.Cell
  | [] => if v = memUnlisted then [] else [(k, v)]
  | (a, b) :: t =>
    if k < a then (if v = memUnlisted then (a, b) :: t else (k, v) :: (a, b) :: t)
    else if a = k then (if v = memUnlisted then t else (k, v) :: t)
    else (a, b) :: memWrite k v t

/-- Memory with a list of bytes written, first to last. -/
def memWriteAll : List Host.Cell → List Host.Cell → List Host.Cell
  | [], m => m
  | (a, b) :: t, m => memWriteAll t (memWrite a b m)

/-- The canonical form of memory: addresses strictly rising, no byte that reads as an unlisted one. -/
def Memory.wf : List Host.Cell → Bool
  | [] => true
  | [(_, b)] => b != memUnlisted
  | (a, b) :: (c, d) :: t => b != memUnlisted && decide (a < c) && Memory.wf ((c, d) :: t)

/-- `n` bytes of memory from an address. -/
def memReadN (m : List Host.Cell) (a : Nat) : Nat → List Byte
  | 0 => []
  | n + 1 => memRead m a :: memReadN m (a + 1) n

/-- The cells of bytes stored from an address. -/
def cellsAt (a : Nat) : List Byte → List Host.Cell
  | [] => []
  | b :: t => (a, b) :: cellsAt (a + 1) t

end Sys2Proof.Machine
end

