-- ==== Sys2Proof/Machine/ObjTable.lean ====
section
/-! DEFINITION. The object dictionary's map: every object of the spec's object maps with its type, access class, default,
retention class, agreement group and range (R36, R37, R39, R89, R47), and the lookups over it. -/
namespace Sys2Proof.Machine

/-- Dictionary types, Table 2-2. -/
inductive Ty where
  | bool | u8 | u16 | u32 | u64 | s16 | s32 | q31 | q428 | f32 | time64 | enum | bits16 | bits32 | str | blob
  deriving DecidableEq, Repr

/-- Access classes, Table 2-3. -/
inductive Acc where
  | ro | rw | wo | st | cmd
  deriving DecidableEq, Repr

/-- Retention classes of Table 3-11; `none` is the dash of an object that holds no value. -/
inductive Ret where
  | p | a | n | o | none
  deriving DecidableEq, Repr

/-- The range an object's map states for a write: everything its type holds, intervals of unsigned or of two's complement
values, the mask of the fields that are not reserved (R8), or the size in bytes of a BLOB or the most a STRING holds. -/
inductive Rng where
  | any
  | nat (l : List (Nat × Nat))
  | int (l : List (Int × Int))
  | mask (m : Nat)
  | blob (n : Nat)
  | str (n : Nat)
  deriving DecidableEq, Repr

/-- One row of an object map, for a family of objects: indices `idx`, `idx` + `stride`, … (`cnt` of them), subindices `sub`
to `sub` + `subs` - 1. The group of an object is `grp` + instance / `gdiv`, or `grp` alone where `gdiv` is 0; 0 is no group. -/
structure ObjRow where
  idx : Nat
  stride : Nat
  cnt : Nat
  sub : Nat
  subs : Nat
  ty : Ty
  acc : Acc
  dflt : Nat
  ret : Ret
  grp : Nat
  gdiv : Nat
  rng : Rng
  deriving DecidableEq, Repr

/-- Objects of 1000h-10FFh as the object maps of R2 give them. -/
def objs10 : List ObjRow := [
  .mk 0x1000 1 1 0x0 1 .u32 .ro 0x4816 .p 0 0 .any /- DEVICE_CODE -/,
  .mk 0x1001 1 1 0x0 1 .u16 .ro 177 .p 0 0 .any /- SILICON_REV -/,
  .mk 0x1002 1 1 0x0 1 .u16 .ro 516 .p 0 0 .any /- ROM_VERSION -/]

/-- Objects of 1100h-11FFh as the object maps of R25, R34, R67, R77, R84, R91, R94 give them. -/
def objs11 : List ObjRow := [
  .mk 0x1150 1 1 0x0 1 .bool .cmd 0 .none 0 0 (.nat [(0, 1)]) /- LEDGER_CLEAR -/,
  .mk 0x1151 1 1 0x0 1 .time64 .ro 0 .a 0 0 .any /- LEDGER_CLEAR_TIME -/,
  .mk 0x1152 1 1 0x0 1 .bits16 .ro 0x0 .a 0 0 .any /- LEDGER_TAINT -/,
  .mk 0x1110 1 1 0x0 1 .bits32 .ro 0x0 .o 0 0 .any /- READY -/,
  .mk 0x1100 1 1 0x0 1 .enum .rw 4 .o 0 0 (.nat [(2, 9), (11, 11)]) /- MODE_REQUEST -/,
  .mk 0x1101 1 1 0x0 1 .enum .ro 0 .a 0 0 .any /- MODE -/,
  .mk 0x1102 1 1 0x0 1 .bits16 .ro 0x0 .o 0 0 .any /- MODE_STATUS -/,
  .mk 0x1103 1 1 0x0 1 .enum .rw 4 .p 0 0 (.nat [(2, 7)]) /- BOOT_MODE -/,
  .mk 0x1104 1 1 0x0 1 .bits16 .ro 0x0 .o 0 0 .any /- SAFE_CAUSE -/,
  .mk 0x1105 1 1 0x0 1 .bool .rw 1 .p 0 0 (.nat [(0, 1)]) /- SAFE_RETURN -/,
  .mk 0x1125 1 1 0x0 1 .u32 .rw 0 .o 0 0 (.nat [(0, 0), (100, 60000)]) /- HOST_WDT_PERIOD -/,
  .mk 0x1126 1 1 0x0 1 .bool .cmd 0 .none 0 0 (.nat [(0, 1)]) /- HOST_WDT_KICK -/,
  .mk 0x1127 1 1 0x0 1 .enum .rw 0 .o 0 0 (.nat [(0, 1)]) /- HOST_WDT_ACTION -/,
  .mk 0x1120 1 1 0x0 1 .bits16 .ro 0x0 .a 0 0 .any /- RESET_CAUSE -/,
  .mk 0x1121 1 1 0x0 1 .enum .cmd 0 .none 0 0 (.nat [(4, 7)]) /- SOFT_RESET -/,
  .mk 0x1122 1 1 0x0 1 .u8 .cmd 0 .none 0 0 (.nat [(4, 19), (21, 26)]) /- DOMAIN_RESET -/,
  .mk 0x1123 1 1 0x0 1 .u32 .ro 0 .a 0 0 .any /- DOMAIN_RESET_COUNT -/,
  .mk 0x1130 1 1 0x0 1 .bits16 .rw 0x0 .p 0 0 (.mask 0x3) /- SNAPSHOT_POLICY -/,
  .mk 0x1131 1 1 0x0 1 .bool .cmd 0 .none 0 0 (.nat [(0, 1)]) /- SNAPSHOT_STORE -/,
  .mk 0x1132 1 1 0x0 1 .time64 .ro 0 .p 0 0 .any /- SNAPSHOT_TIME -/,
  .mk 0x1133 1 1 0x0 1 .bits16 .ro 0x0 .a 0 0 .any /- SNAPSHOT_STATUS -/,
  .mk 0x1140 1 1 0x0 1 .bits16 .rw 0x1 .p 0 0 (.mask 0x3f) /- WAKE_ENABLE -/,
  .mk 0x1141 1 1 0x0 1 .u32 .rw 0 .a 0 0 (.nat [(0, 604800)]) /- WAKE_TIMER -/,
  .mk 0x1142 1 1 0x0 1 .bits16 .ro 0x0 .a 0 0 .any /- WAKE_CAUSE -/,
  .mk 0x1143 1 1 0x0 1 .enum .rw 4 .p 0 0 (.nat [(3, 7)]) /- WAKE_TARGET -/,
  .mk 0x1144 1 1 0x0 1 .bits16 .rw 0x0 .a 0 0 (.mask 0xffff) /- WAKE_GPIO -/,
  .mk 0x1145 1 1 0x0 1 .enum .rw 0 .p 0 0 (.nat [(0, 1)]) /- RAIL_CONTROL -/]

/-- Objects of 1200h-12FFh as the object maps of R46, R64 give them. -/
def objs12 : List ObjRow := [
  .mk 0x1200 1 1 0x0 256 .time64 .cmd 0 .none 0 0 .any /- COMMIT -/,
  .mk 0x1201 1 1 0x0 256 .time64 .ro 0 .o 0 0 .any /- PENDING_TIME -/,
  .mk 0x1202 1 1 0x0 256 .bits16 .ro 0x0 .o 0 0 .any /- GROUP_STATE -/,
  .mk 0x1203 1 1 0x0 256 .bool .cmd 0 .none 0 0 (.nat [(0, 1)]) /- DISCARD -/,
  .mk 0x1204 1 1 0x0 256 .bool .cmd 0 .none 0 0 (.nat [(0, 1)]) /- CHECK -/,
  .mk 0x1210 1 1 0x0 256 .u32 .ro 0 .o 0 0 .any /- GROUP_INFO -/,
  .mk 0x1220 1 1 0x0 1 .u32 .ro 0 .a 0 0 .any /- ERR_COUNT -/,
  .mk 0x1221 1 1 0x0 16 .blob .ro 0 .a 0 0 (.blob 16) /- ERR_ENTRY -/,
  .mk 0x1230 1 1 0x0 16 .u32 .rw 0 .p 0 0 .any /- USER_WRITE_RANGE -/,
  .mk 0x1232 1 1 0x0 1 .bool .rw 1 .p 0 0 (.nat [(0, 1)]) /- DISCOVERY_ENABLE -/,
  .mk 0x1233 1 1 0x0 1 .str .rw 0 .p 0 0 (.str 32) /- DEVICE_NAME -/,
  .mk 0x1240 1 1 0x0 1 .u32 .rw 0 .o 0 0 (.nat [(0, 1)]) /- WRITE_LOCK -/,
  .mk 0x1241 1 1 0x0 1 .bool .cmd 0 .none 0 0 (.nat [(0, 1)]) /- LOCK_BREAK -/,
  .mk 0x1250 1 1 0x0 1 .u32 .ro 0 .a 0 0 .any /- SPI_FRAME_ERR -/,
  .mk 0x1250 1 1 0x1 1 .u32 .ro 0 .a 0 0 .any /- I2C_FRAME_ERR -/,
  .mk 0x1250 1 1 0x2 1 .u32 .ro 0 .a 0 0 .any /- TDT_AUTH_DROP -/,
  .mk 0x1250 1 1 0x3 1 .u32 .ro 0 .a 0 0 .any /- TDT_SEQ_DROP -/,
  .mk 0x1260 1 1 0x0 8 .u32 .ro 0 .o 0 0 .any /- SESSION_ID -/,
  .mk 0x1261 1 1 0x0 8 .enum .ro 0 .o 0 0 .any /- SESSION_PRIV -/]

/-- Objects of 1300h-13FFh as the object maps of R138, R475 give them. -/
def objs13 : List ObjRow := [
  .mk 0x1300 1 1 0x0 128 .u32 .ro 0 .a 0 0 .any /- EV_COUNT -/,
  .mk 0x1301 1 1 0x0 4 .bits32 .ro 0x0 .a 0 0 .any /- EV_OVERFLOW -/,
  .mk 0x1302 1 1 0x0 4 .bits32 .ro 0x0 .a 0 0 .any /- EV_PENDING -/,
  .mk 0x1303 1 1 0x0 4 .bits32 .cmd 0x0 .none 0 0 (.mask 0xffffffff) /- EV_CLEAR -/,
  .mk 0x1310 1 4 0x0 4 .bits32 .rw 0x0 .n 0 0 (.mask 0xffffffff) /- IRQ_MASK -/,
  .mk 0x1314 1 1 0x0 4 .bits16 .rw 0x0 .n 0 0 (.mask 0x7) /- IRQ_CONFIG -/,
  .mk 0x1315 1 1 0x0 4 .u32 .rw 1000 .n 0 0 (.nat [(100, 1000000)]) /- PULSE_WIDTH -/,
  .mk 0x1316 1 1 0x0 4 .u8 .ro 255 .o 0 0 .any /- IRQ_VECTOR -/,
  .mk 0x1317 1 1 0x0 4 .bool .ro 0 .o 0 0 .any /- IRQ_STATE -/,
  .mk 0x1318 1 1 0x0 4 .bits16 .rw 0x0 .n 0 0 (.mask 0xffff) /- IRQ_GPIO_MASK -/,
  .mk 0x1340 1 1 0x0 64 .blob .rw 0 .n 0 0 (.blob 24) /- E2A_ENTRY -/,
  .mk 0x1341 1 1 0x0 1 .u32 .ro 0 .a 0 0 .any /- E2A_DROP -/]

/-- Objects of 1400h-14FFh as the object maps of R478, R482 give them. -/
def objs14 : List ObjRow := [
  .mk 0x1400 1 1 0x0 16 .enum .rw 0 .a 0 0 (.nat [(0, 3)]) /- GPIO_FUNC -/,
  .mk 0x1401 1 1 0x0 16 .bits16 .rw 0x0 .a 0 0 (.mask 0xff1f) /- GPIO_ATTR -/,
  .mk 0x1402 1 1 0x0 1 .bits16 .ro 0x0 .a 0 0 .any /- GPIO_IN -/,
  .mk 0x1403 1 1 0x0 1 .bits16 .rw 0x0 .a 0 0 (.mask 0xffff) /- GPIO_OUT -/,
  .mk 0x1404 1 1 0x0 1 .bits16 .ro 0x0 .a 0 0 .any /- GPIO_EDGE -/,
  .mk 0x1405 1 1 0x0 1 .bits16 .cmd 0x0 .none 0 0 (.mask 0xffff) /- GPIO_EDGE_CLEAR -/,
  .mk 0x1406 1 1 0x0 16 .u32 .ro 0 .a 0 0 .any /- GPIO_EDGE_COUNT -/,
  .mk 0x1407 1 1 0x0 16 .blob .rw 0 .a 0 0 (.blob 24) /- GPIO_ACTION -/,
  .mk 0x1410 1 1 0x0 1 .u32 .ro 0 .a 0 0 .any /- SPI_ABORTED -/,
  .mk 0x1410 1 1 0x1 1 .u32 .ro 0 .a 0 0 .any /- I2C_TIMEOUT -/]

/-- Objects of 2000h-20FFh as the object maps of R99 give them. -/
def objs20 : List ObjRow := [
  .mk 0x2000 1 1 0x0 1 .enum .st 0 .n 0x1 0 (.nat [(0, 1)]) /- REF_SELECT -/,
  .mk 0x2001 1 1 0x0 1 .enum .st 2 .n 0x1 0 (.nat [(0, 2)]) /- REFCLK_FREQ -/,
  .mk 0x2002 1 1 0x0 1 .bool .rw 1 .n 0 0 (.nat [(0, 1)]) /- REF_FALLBACK -/,
  .mk 0x2003 1 1 0x0 1 .enum .ro 0 .o 0 0 .any /- REF_ACTIVE -/,
  .mk 0x2004 1 1 0x0 1 .bits16 .ro 0x0 .o 0 0 .any /- CLOCK_STATUS -/,
  .mk 0x2005 1 1 0x0 1 .s32 .ro 0 .o 0 0 .any /- REFCLK_OFFSET -/,
  .mk 0x2006 1 1 0x0 1 .u32 .ro 0 .a 0 0 .any /- SPLL_LOSS_COUNT -/]

/-- Objects of 2100h-21FFh as the object maps of R103, R106 give them. -/
def objs21 : List ObjRow := [
  .mk 0x2100 1 1 0x0 1 .enum .st 1 .o 0x2 0 (.nat [(0, 5)]) /- MEDIA_RATE -/,
  .mk 0x2101 1 1 0x0 1 .u8 .st 62 .o 0x2 0 (.nat [(56, 71)]) /- MPLL_N -/,
  .mk 0x2102 1 1 0x0 1 .u32 .st 0xea209aaa .o 0x2 0 .any /- MPLL_FRAC -/,
  .mk 0x2103 1 1 0x0 1 .u8 .st 0 .o 0x2 0 (.nat [(0, 15)]) /- BAND_ENTRY -/,
  .mk 0x2104 1 1 0x0 1 .u8 .st 0 .o 0x2 0 (.nat [(0, 15)]) /- STEER_INDEX -/,
  .mk 0x2105 1 1 0x0 1 .enum .st 0 .o 0x2 0 (.nat [(0, 3)]) /- STEER_SOURCE -/,
  .mk 0x2106 1 1 0x0 1 .u16 .st 200 .o 0x2 0 (.nat [(10, 1000)]) /- PULL_RANGE -/,
  .mk 0x2107 1 1 0x0 1 .u16 .st 1000 .o 0x2 0 (.nat [(10, 10000)]) /- STEER_BW -/,
  .mk 0x2108 1 1 0x0 1 .enum .rw 0 .o 0 0 (.nat [(0, 3)]) /- MCLK_OUT_SEL -/,
  .mk 0x2110 1 1 0x0 1 .enum .ro 0 .o 0 0 .any /- MPLL_STATE -/,
  .mk 0x2111 1 1 0x0 1 .bits16 .ro 0x0 .o 0 0 .any /- MPLL_STATUS -/,
  .mk 0x2112 1 1 0x0 1 .enum .rw 0 .o 0 0 (.nat [(0, 2)]) /- FALLBACK_SOURCE -/,
  .mk 0x2113 1 1 0x0 1 .u16 .rw 500 .o 0 0 (.nat [(0, 10000)]) /- FALLBACK_DELAY -/,
  .mk 0x2114 1 1 0x0 1 .s32 .ro 0 .o 0 0 .any /- FREQ_OFFSET -/,
  .mk 0x2115 1 1 0x0 1 .u64 .ro 0 .o 0 0 .any /- FREQ_WORD -/,
  .mk 0x2116 1 1 0x0 1 .u32 .ro 0 .o 0 0 .any /- HOLDOVER_TIME -/,
  .mk 0x2117 1 1 0x0 1 .u32 .ro 0 .a 0 0 .any /- HOLDOVER_COUNT -/,
  .mk 0x2118 1 1 0x0 1 .u32 .ro 0 .a 0 0 .any /- MPLL_LOCK_LOSS -/,
  .mk 0x2120 1 1 0x0 16 .u32 .rw 0 .n 0 0 .any /- TARGET -/,
  .mk 0x2121 1 1 0x0 16 .u8 .rw 255 .n 0 0 (.nat [(0, 63), (255, 255)]) /- BAND -/,
  .mk 0x2122 1 1 0x0 16 .u32 .rw 0 .n 0 0 .any /- FMIN -/,
  .mk 0x2123 1 1 0x0 16 .u32 .rw 0 .n 0 0 .any /- FMAX -/,
  .mk 0x2130 1 1 0x0 1 .bool .cmd 0 .none 0 0 (.nat [(0, 1)]) /- BAND_SCAN -/,
  .mk 0x2131 1 1 0x0 1 .bits16 .ro 0x0 .n 0 0 .any /- SCAN_RESULT -/]

/-- Objects of 2200h-22FFh as the object maps of R117, R118, R120, R131 give them. -/
def objs22a : List ObjRow := [
  .mk 0x2200 1 1 0x0 1 .time64 .ro 0 .n 0 0 .any /- TIME_NOW -/,
  .mk 0x2200 1 1 0x1 1 .u64 .ro 0 .n 0 0 .any /- SECONDS -/,
  .mk 0x2200 1 1 0x2 1 .u32 .ro 0 .n 0 0 .any /- NANOSECONDS -/,
  .mk 0x2200 1 1 0x3 1 .u64 .ro 0 .n 0 0 .any /- FRACTION -/,
  .mk 0x2201 1 1 0x0 1 .u64 .ro 0x40000000000 .n 0 0 .any /- INCREMENT -/,
  .mk 0x2202 1 1 0x0 1 .u32 .ro 0 .a 0 0 .any /- EPOCH -/,
  .mk 0x2203 1 1 0x0 1 .time64 .ro 0 .n 0 0 .any /- EPOCH_START -/,
  .mk 0x2204 1 1 0x0 1 .time64 .ro 0 .n 0 0 .any /- EPOCH_PREV_END -/,
  .mk 0x2205 1 1 0x0 1 .enum .ro 0 .n 0 0 .any /- TIME_STATE -/,
  .mk 0x2206 1 1 0x0 1 .s32 .ro 0 .o 0 0 .any /- OFFSET -/,
  .mk 0x2207 1 1 0x0 1 .s32 .ro 0 .o 0 0 .any /- RATE -/,
  .mk 0x2208 1 1 0x0 1 .s32 .ro 0 .o 0 0 .any /- JUMP -/,
  .mk 0x2210 1 1 0x0 1 .time64 .cmd 0 .none 0 0 .any /- TIME_SET -/,
  .mk 0x2211 1 1 0x0 1 .s32 .rw 0 .o 0 0 (.int [(-1000000, 1000000)]) /- HOST_RATE -/,
  .mk 0x2220 1 1 0x0 1 .enum .st 0 .n 0x3 0 (.nat [(0, 4)]) /- PTP_PROFILE -/,
  .mk 0x2221 1 1 0x0 1 .u8 .st 0 .n 0x3 0 (.nat [(0, 127)]) /- PTP_DOMAIN -/,
  .mk 0x2222 1 1 0x0 1 .bits16 .st 0x3 .n 0x3 0 (.mask 0x3) /- PTP_PORTS -/,
  .mk 0x2223 1 1 0x0 1 .u8 .st 255 .n 0x3 0 .any /- PRIORITY1 -/,
  .mk 0x2224 1 1 0x0 1 .u8 .st 128 .n 0x3 0 .any /- PRIORITY2 -/,
  .mk 0x2225 1 1 0x0 1 .bool .st 0 .n 0x3 0 (.nat [(0, 1)]) /- GM_CAPABLE -/,
  .mk 0x2226 1 1 0x0 1 .s16 .st 0 .n 0x3 0 .any /- LOG_SYNC -/,
  .mk 0x2227 1 1 0x0 1 .s16 .st 1 .n 0x3 0 .any /- LOG_ANNOUNCE -/,
  .mk 0x2228 1 1 0x0 1 .s16 .st 0 .n 0x3 0 (.int [(-4, 5)]) /- LOG_DELAY_REQ -/,
  .mk 0x2229 1 1 0x0 1 .u8 .st 3 .n 0x3 0 (.nat [(2, 10)]) /- ANNOUNCE_TIMEOUT -/,
  .mk 0x222a 1 1 0x0 1 .bool .st 0 .n 0x3 0 (.nat [(0, 1)]) /- TWO_STEP -/,
  .mk 0x222b 1 1 0x0 1 .enum .st 0 .n 0x3 0 (.nat [(0, 2)]) /- PTP_TRANSPORT -/,
  .mk 0x2230 1 1 0x0 1 .enum .ro 0 .o 0 0 .any /- PORT_STATE -/,
  .mk 0x2230 1 1 0x1 1 .enum .ro 0 .o 0 0 .any /- PORT_STATE_A -/,
  .mk 0x2230 1 1 0x2 1 .enum .ro 0 .o 0 0 .any /- PORT_STATE_B -/,
  .mk 0x2231 1 1 0x0 1 .enum .ro 0 .o 0 0 .any /- MASTER_PORT -/,
  .mk 0x2232 1 1 0x0 1 .u64 .ro 0 .o 0 0 .any /- GM_IDENTITY -/,
  .mk 0x2233 1 1 0x0 1 .u16 .ro 0 .o 0 0 .any /- STEPS_REMOVED -/,
  .mk 0x2234 1 1 0x0 1 .u32 .ro 0 .o 0 0 .any /- MEAN_PATH_DELAY -/,
  .mk 0x2235 1 1 0x0 1 .u8 .rw 248 .n 0 0 .any /- GM_CLOCK_CLASS -/,
  .mk 0x2236 1 1 0x0 1 .u8 .rw 254 .n 0 0 .any /- GM_CLOCK_ACCURACY -/,
  .mk 0x2240 1 1 0x0 1 .s32 .rw 0 .n 0 0 (.int [(-10000, 10000)]) /- B_RX_LATENCY -/,
  .mk 0x2240 1 1 0x1 1 .s32 .rw 0 .n 0 0 (.int [(-10000, 10000)]) /- B_TX_LATENCY -/,
  .mk 0x2241 1 1 0x0 1 .s32 .rw 0 .n 0 0 .any /- ASYM_A -/,
  .mk 0x2241 1 1 0x1 1 .s32 .rw 0 .n 0 0 .any /- ASYM_B -/,
  .mk 0x2250 1 1 0x0 1 .enum .rw 0 .n 0 0 (.nat [(0, 4)]) /- CAP_MODE -/]

/-- Objects of 2200h-22FFh as the object maps of R131 give them. -/
def objs22b : List ObjRow := [
  .mk 0x2251 1 1 0x0 1 .u8 .ro 0 .o 0 0 .any /- CAP_COUNT -/,
  .mk 0x2252 1 1 0x0 1 .blob .ro 0 .o 0 0 (.blob 16) /- CAP_ENTRY -/,
  .mk 0x2253 1 1 0x0 1 .u32 .ro 0 .a 0 0 .any /- CAP_LOST -/,
  .mk 0x2260 1 1 0x0 1 .enum .rw 0 .n 0 0 (.nat [(0, 2)]) /- PPS_MODE -/,
  .mk 0x2261 1 1 0x0 1 .u32 .rw 0x5f5e100 .n 0 0 (.nat [(1000, 999999999)]) /- PPS_WIDTH -/,
  .mk 0x2262 1 1 0x0 1 .u32 .rw 0x3b9aca00 .n 0 0 (.nat [(10000, 1000000000)]) /- PPS_PERIOD -/,
  .mk 0x2263 1 1 0x0 1 .s32 .rw 0 .n 0 0 (.int [(-1000000, 1000000)]) /- PPS_ADJUST -/]

/-- Objects of 2300h-23FFh as the object maps of R135 give them. -/
def objs23 : List ObjRow := [
  .mk 0x2300 1 1 0x0 1 .u16 .ro 256 .o 0 0 .any /- LOCUS_FREE -/,
  .mk 0x2301 1 1 0x0 1 .time64 .ro 0 .o 0 0 .any /- LOCUS_NEXT -/,
  .mk 0x2302 1 1 0x0 1 .bool .cmd 0 .none 0 0 (.nat [(0, 1)]) /- LOCUS_CLEAR -/,
  .mk 0x2303 1 1 0x0 1 .u32 .ro 0 .a 0 0 .any /- LATE_COUNT -/,
  .mk 0x2304 1 1 0x0 1 .u32 .ro 0 .a 0 0 .any /- DISCARD_COUNT -/,
  .mk 0x2305 1 1 0x0 1 .u16 .ro 0 .o 0 0 .any /- LAST_EVENT_TAG -/,
  .mk 0x2306 1 1 0x0 1 .u32 .ro 0 .a 0 0 .any /- FAIL_COUNT -/,
  .mk 0x2310 1 1 0x0 256 .blob .rw 0 .o 0 0 (.blob 40) /- ENTRY -/,
  .mk 0x2311 1 1 0x0 256 .enum .ro 0 .o 0 0 .any /- SLOT_STATE -/,
  .mk 0x2312 1 1 0x0 256 .u32 .ro 0 .o 0 0 .any /- LAST_RESULT -/]

/-- Objects of 3000h-30FFh as the object maps of R144 give them. -/
def objs30 : List ObjRow := [
  .mk 0x3000 1 1 0x0 1 .bool .rw 1 .n 0 0 (.nat [(0, 1)]) /- A_ENABLE -/,
  .mk 0x3001 1 1 0x0 1 .bits16 .rw 0x7 .n 0 0 (.mask 0x7) /- A_ADVERTISE -/,
  .mk 0x3002 1 1 0x0 1 .enum .ro 0 .o 0 0 .any /- A_LINK -/,
  .mk 0x3003 1 1 0x0 1 .bits16 .ro 0x0 .o 0 0 .any /- A_STATUS -/,
  .mk 0x3004 1 1 0x0 1 .bool .rw 0 .n 0 0 (.nat [(0, 1)]) /- A_WOL -/,
  .mk 0x3005 1 1 0x0 1 .u32 .ro 0 .a 0 0 .any /- A_LINK_DOWN -/]

/-- Objects of 3100h-31FFh as the object maps of R147 give them. -/
def objs31 : List ObjRow := [
  .mk 0x3100 1 1 0x0 1 .enum .rw 0 .n 0 0 (.nat [(0, 2)]) /- B_MODE -/,
  .mk 0x3101 1 1 0x0 1 .enum .rw 0 .n 0 0 (.nat [(0, 3)]) /- B_SPEED -/,
  .mk 0x3102 1 1 0x0 1 .bits16 .rw 0x3 .n 0 0 (.mask 0x3) /- B_RGMII_DELAY -/,
  .mk 0x3103 1 1 0x0 1 .enum .ro 0 .o 0 0 .any /- B_LINK -/,
  .mk 0x3104 1 1 0x0 1 .bool .rw 1 .n 0 0 (.nat [(0, 1)]) /- B_PAUSE -/,
  .mk 0x3105 1 1 0x0 1 .bits16 .rw 0x1f .n 0 0 (.mask 0xff) /- PAUSE_CLASSES -/,
  .mk 0x3106 1 1 0x0 1 .u16 .rw 10 .n 0 0 (.nat [(1, 1000)]) /- PAUSE_WD_LIMIT -/,
  .mk 0x3107 1 1 0x0 1 .u16 .rw 1000 .n 0 0 (.nat [(10, 60000)]) /- PAUSE_WD_HOLDOFF -/,
  .mk 0x3108 1 1 0x0 1 .u32 .ro 0 .a 0 0 .any /- PAUSE_WD_COUNT -/,
  .mk 0x3109 1 1 0x0 1 .u32 .ro 0 .a 0 0 .any /- B_LINK_DOWN -/]

/-- Objects of 3200h-32FFh as the object maps of R149, R152, R155, R157 give them. -/
def objs32 : List ObjRow := [
  .mk 0x3200 1 1 0x0 1 .u32 .rw 0xfe3d48 .n 0 0 (.mask 0xffffff) /- PCP_MAP -/,
  .mk 0x3201 1 1 0x0 1 .u32 .rw 0x80077001 .n 0 0 (.mask 0x80077fff) /- VLAN_ENTRY -/,
  .mk 0x3201 1 1 0x1 63 .u32 .rw 0 .n 0 0 (.mask 0x80077fff) /- VLAN_ENTRY -/,
  .mk 0x3202 1 1 0x0 3 .u16 .rw 1 .n 0 0 (.nat [(1, 4094)]) /- PVID -/,
  .mk 0x3203 1 1 0x0 1 .u16 .rw 300 .n 0 0 (.nat [(10, 3600)]) /- AGEING -/,
  .mk 0x3204 1 1 0x0 1 .u16 .ro 0 .o 0 0 .any /- ADDR_COUNT -/,
  .mk 0x3205 1 1 0x0 1 .bool .cmd 0 .none 0 0 (.nat [(0, 1)]) /- ADDR_FLUSH -/,
  .mk 0x3206 1 1 0x0 64 .u64 .rw 0 .n 0 0 (.mask 0x8007ffffffffffff) /- MCAST_ENTRY -/,
  .mk 0x3210 1 3 0x0 1 .time64 .st 0 .n 0x8 1 .any /- BASE_TIME -/,
  .mk 0x3210 1 3 0x1 1 .u32 .st 0xf4240 .n 0x8 1 .any /- CYCLE_TIME -/,
  .mk 0x3210 1 3 0x2 1 .u16 .st 0 .n 0x8 1 (.nat [(0, 256)]) /- LIST_LENGTH -/,
  .mk 0x3210 1 3 0x3 1 .bool .st 0 .n 0x8 1 (.nat [(0, 1)]) /- GATE_ENABLE -/,
  .mk 0x3218 1 3 0x0 256 .u64 .st 0xf4240ff .n 0x8 1 (.mask 0xffffffffff) /- GATE_ENTRY -/,
  .mk 0x3214 1 1 0x0 3 .time64 .ro 0 .o 0 0 .any /- OPER_BASE -/,
  .mk 0x3214 1 1 0x3 1 .u32 .ro 0 .a 0 0 .any /- SWAP_EMPTY -/,
  .mk 0x3215 1 1 0x0 3 .bits16 .ro 0x0 .o 0 0 .any /- GATE_STATUS -/,
  .mk 0x3220 1 3 0x0 1 .u32 .st 0 .n 0xc 1 .any /- IDLE_A -/,
  .mk 0x3220 1 3 0x1 1 .u32 .st 0 .n 0xc 1 .any /- IDLE_B -/,
  .mk 0x3220 1 3 0x2 1 .u16 .st 1522 .n 0xc 1 .any /- MAXFRAME_A -/,
  .mk 0x3220 1 3 0x3 1 .u16 .st 1522 .n 0xc 1 .any /- MAXFRAME_B -/,
  .mk 0x3220 1 3 0x4 4 .s32 .ro 0 .o 0 0 .any /- HI_A, LO_A, HI_B, LO_B -/,
  .mk 0x3228 1 3 0x0 2 .s32 .ro 0 .o 0 0 .any /- CREDIT_A, CREDIT_B -/,
  .mk 0x3228 1 3 0x2 4 .u64 .ro 0 .a 0 0 .any /- CLAMP_HI_A, CLAMP_LO_A, CLAMP_HI_B, CLAMP_LO_B -/,
  .mk 0x3230 1 3 0x0 7 .u64 .ro 0 .a 0 0 .any /- FRAME_INGRESS -/,
  .mk 0x3234 1 3 0x0 4 .u64 .ro 0 .a 0 0 .any /- FRAME_EGRESS -/,
  .mk 0x3240 1 3 0x0 16 .u32 .ro 0 .a 0 0 .any /- FRAME_EGRESS_DROP -/]

/-- Objects of 3300h-33FFh as the object maps of R158, R163, R166 give them. -/
def objs33 : List ObjRow := [
  .mk 0x3300 1 1 0x0 1 .u64 .rw 0 .p 0 0 (.mask 0xffffffffffff) /- E_MAC -/,
  .mk 0x3301 1 1 0x0 1 .u64 .ro 0 .p 0 0 .any /- FACTORY_MAC -/,
  .mk 0x3302 1 1 0x0 1 .u32 .rw 0 .n 0 0 .any /- IPV4_ADDR -/,
  .mk 0x3303 1 1 0x0 1 .u32 .rw 0 .n 0 0 .any /- IPV4_MASK -/,
  .mk 0x3304 1 1 0x0 1 .u32 .rw 0 .n 0 0 .any /- IPV4_GW -/,
  .mk 0x3305 1 1 0x0 1 .blob .rw 0 .n 0 0 (.blob 16) /- IPV6_GLOBAL -/,
  .mk 0x3308 1 1 0x0 1 .u16 .rw 1522 .n 0 0 (.nat [(1518, 2000)]) /- MAX_FRAME -/,
  .mk 0x3309 1 1 0x0 1 .bool .rw 1 .n 0 0 (.nat [(0, 1)]) /- ICMP_ECHO -/,
  .mk 0x3310 1 4 0x0 1 .u16 .rw 64 .n 0 0 (.nat [(16, 256)]) /- RING_SIZE -/,
  .mk 0x3314 1 4 0x0 1 .u16 .ro 64 .n 0 0 .any /- RING_SIZE -/,
  .mk 0x3310 1 4 0x1 1 .bool .rw 1 .n 0 0 (.nat [(0, 1)]) /- RING_ENABLE -/,
  .mk 0x3314 1 4 0x1 1 .bool .ro 1 .n 0 0 .any /- RING_ENABLE -/,
  .mk 0x3310 1 8 0x2 1 .u8 .rw 0 .n 0 0 (.nat [(0, 7)]) /- RING_TC -/,
  .mk 0x3310 1 8 0x3 1 .enum .rw 0 .n 0 0 (.nat [(0, 1)]) /- LATE_POLICY -/,
  .mk 0x3310 1 8 0x4 1 .u32 .rw 1000 .n 0 0 (.nat [(100, 1000000)]) /- LAUNCH_TOLERANCE -/,
  .mk 0x3310 1 8 0x5 1 .bool .rw 0 .n 0 0 (.nat [(0, 1)]) /- RX_TS -/,
  .mk 0x3310 1 8 0x8 3 .u64 .ro 0 .a 0 0 .any /- GIVEN, RETURNED, OUTSTANDING -/,
  .mk 0x3310 1 8 0xb 1 .u32 .ro 0 .a 0 0 .any /- LATE_COUNT -/,
  .mk 0x3310 1 8 0xc 1 .u32 .ro 0 .a 0 0 .any /- RX_CUT -/,
  .mk 0x3310 1 8 0xd 1 .u32 .ro 0 .a 0 0 .any /- RX_NO_DESC -/,
  .mk 0x3318 1 1 0x0 8 .u32 .rw 0 .n 0 0 (.mask 0x8003ffff) /- RX1_RULE -/,
  .mk 0x3330 1 1 0x0 4 .blob .wo 0 .none 0 0 (.blob 24) /- POST -/,
  .mk 0x3331 1 1 0x0 4 .blob .ro 0 .o 0 0 (.blob 24) /- REAP -/,
  .mk 0x3340 1 1 0x0 128 .blob .rw 0 .o 0 0 (.blob 512) /- BUFFER -/,
  .mk 0x3350 1 1 0x0 4 .blob .ro 0 .o 0 0 (.blob 16) /- TS_RECORD -/,
  .mk 0x3351 1 1 0x0 4 .u8 .ro 0 .o 0 0 .any /- TS_COUNT -/,
  .mk 0x3352 1 1 0x0 4 .u64 .ro 0 .a 0 0 .any /- TS_LOST -/,
  .mk 0x3353 1 1 0x0 4 .u64 .ro 0 .a 0 0 .any /- TS_TIMED -/,
  .mk 0x3360 1 1 0x0 1 .u32 .ro 0 .a 0 0 .any /- TC_NO_TRAILER -/]

/-- Objects of 3400h-34FFh as the object maps of R174 give them. -/
def objs34 : List ObjRow := [
  .mk 0x3400 1 16 0x0 1 .bool .rw 0 .o 0 0 (.nat [(0, 1)]) /- TS_ENABLE -/,
  .mk 0x3400 1 16 0x1 1 .enum .st 1 .o 0x10 1 (.nat [(0, 5)]) /- TS_FORMAT -/,
  .mk 0x3400 1 16 0x2 1 .u8 .st 2 .o 0x10 1 (.nat [(1, 64)]) /- TS_CHANNELS -/,
  .mk 0x3400 1 16 0x3 1 .enum .st 2 .o 0x10 1 (.nat [(0, 2)]) /- TS_PTIME -/,
  .mk 0x3400 1 16 0x4 1 .enum .st 0 .o 0x10 1 (.nat [(0, 1)]) /- TS_NET -/,
  .mk 0x3400 1 16 0x5 1 .u32 .st 0 .o 0x10 1 .any /- TS_DEST_IP4 -/,
  .mk 0x3400 1 16 0x6 1 .blob .st 0 .o 0x10 1 (.blob 16) /- TS_DEST_IP6 -/,
  .mk 0x3400 1 16 0x7 1 .u16 .st 5004 .o 0x10 1 (.nat [(1, 65535)]) /- TS_PORT -/,
  .mk 0x3400 1 16 0x8 1 .u64 .st 0 .o 0x10 1 (.mask 0xffffffffffff) /- TS_DEST_MAC -/,
  .mk 0x3400 1 16 0x9 1 .bits16 .st 0x3000 .o 0x10 1 (.mask 0x7fff) /- TS_VLAN -/,
  .mk 0x3400 1 16 0xa 1 .u8 .st 34 .o 0x10 1 (.nat [(0, 63)]) /- TS_DSCP -/,
  .mk 0x3400 1 16 0xb 1 .u8 .st 16 .o 0x10 1 (.nat [(1, 255)]) /- TS_HOPS -/,
  .mk 0x3400 1 16 0xc 1 .u32 .st 0 .o 0x10 1 .any /- TS_SSRC -/,
  .mk 0x3400 1 16 0xd 1 .u8 .st 98 .o 0x10 1 (.nat [(96, 127)]) /- TS_PT -/,
  .mk 0x3400 1 16 0xe 1 .u32 .st 0 .o 0x10 1 .any /- TS_RTP_OFFSET -/,
  .mk 0x3400 1 16 0xf 1 .u64 .st 0 .o 0x10 1 .any /- TS_STREAM_ID -/,
  .mk 0x3400 1 16 0x10 1 .u32 .st 0x1e8480 .o 0x10 1 (.nat [(125000, 50000000)]) /- TS_TRANSIT -/,
  .mk 0x3400 1 16 0x11 1 .enum .st 1 .o 0x10 1 (.nat [(0, 2)]) /- TS_TX_PORT -/,
  .mk 0x3400 1 16 0x12 1 .u32 .st 0x4e20 .o 0x10 1 (.nat [(5000, 1000000)]) /- TS_TX_OFFSET -/,
  .mk 0x3400 1 16 0x13 1 .u8 .st 0 .o 0x10 1 (.nat [(0, 255)]) /- TS_TAG_EXT -/,
  .mk 0x3400 1 16 0x20 5 .u64 .ro 0 .a 0 0 .any /- TS_LEDGER -/,
  .mk 0x3400 1 16 0x28 1 .bits16 .ro 0x0 .o 0 0 .any /- TS_STATUS -/,
  .mk 0x3400 1 16 0x29 1 .u64 .ro 0 .a 0 0 .any /- TS_PACKETS -/,
  .mk 0x3400 1 16 0x2a 1 .u32 .ro 0 .a 0 0 .any /- TS_PKT_DROPPED -/,
  .mk 0x3400 1 16 0x2b 4 .u64 .ro 0 .a 0 0 .any /- TS_TAG_INV, TS_TAG_OVR, TS_TAG_SYN, TS_TAG_HLD -/,
  .mk 0x3400 1 16 0x40 64 .u16 .st 0xffff .o 0x10 1 .any /- TS_MAP -/]

/-- Objects of 3500h-35FFh as the object maps of R182 give them. -/
def objs35 : List ObjRow := [
  .mk 0x3500 1 16 0x0 1 .bool .rw 0 .o 0 0 (.nat [(0, 1)]) /- LS_ENABLE -/,
  .mk 0x3500 1 16 0x1 1 .enum .st 1 .o 0x20 1 (.nat [(0, 5)]) /- LS_FORMAT -/,
  .mk 0x3500 1 16 0x2 1 .u8 .st 2 .o 0x20 1 (.nat [(1, 64)]) /- LS_CHANNELS -/,
  .mk 0x3500 1 16 0x3 1 .enum .st 2 .o 0x20 1 (.nat [(0, 2)]) /- LS_PTIME -/,
  .mk 0x3500 1 16 0x4 1 .enum .st 0 .o 0x20 1 (.nat [(0, 1)]) /- LS_NET -/,
  .mk 0x3500 1 16 0x5 1 .u32 .st 0 .o 0x20 1 .any /- LS_DEST_IP4 -/,
  .mk 0x3500 1 16 0x6 1 .blob .st 0 .o 0x20 1 (.blob 16) /- LS_DEST_IP6 -/,
  .mk 0x3500 1 16 0x7 1 .u16 .st 5004 .o 0x20 1 (.nat [(1, 65535)]) /- LS_PORT -/,
  .mk 0x3500 1 16 0x8 1 .u32 .st 0 .o 0x20 1 .any /- LS_SRC_IP4 -/,
  .mk 0x3500 1 16 0x9 1 .blob .st 0 .o 0x20 1 (.blob 16) /- LS_SRC_IP6 -/,
  .mk 0x3500 1 16 0xa 1 .u64 .st 0 .o 0x20 1 (.mask 0xffffffffffff) /- LS_DEST_MAC -/,
  .mk 0x3500 1 16 0xb 1 .u64 .st 0 .o 0x20 1 .any /- LS_STREAM_ID -/,
  .mk 0x3500 1 16 0xc 1 .u8 .st 0 .o 0x20 1 (.nat [(0, 0), (96, 127)]) /- LS_PT -/,
  .mk 0x3500 1 16 0xd 1 .u32 .st 0 .o 0x20 1 .any /- LS_RTP_OFFSET -/,
  .mk 0x3500 1 16 0xe 1 .u16 .st 96 .o 0x20 1 .any /- LS_LINK_OFFSET -/,
  .mk 0x3500 1 16 0xf 1 .u16 .st 192 .o 0x20 1 .any /- LS_DEPTH -/,
  .mk 0x3500 1 16 0x10 1 .enum .st 1 .o 0x20 1 (.nat [(0, 5)]) /- LS_RATE -/,
  .mk 0x3500 1 16 0x11 1 .enum .st 0 .o 0x20 1 (.nat [(0, 1)]) /- LS_TIMING -/,
  .mk 0x3500 1 16 0x12 1 .u8 .st 0 .o 0x20 1 .any /- LS_TAG_IMPORT -/,
  .mk 0x3500 1 16 0x13 1 .bits16 .st 0x0 .o 0x20 1 (.mask 0x3) /- LS_FORWARD -/,
  .mk 0x3500 1 16 0x20 5 .u64 .ro 0 .a 0 0 .any /- LS_LEDGER -/,
  .mk 0x3500 1 16 0x28 1 .enum .ro 0 .o 0 0 .any /- LS_STATE -/,
  .mk 0x3500 1 16 0x29 1 .bits16 .ro 0x0 .o 0 0 .any /- LS_STATUS -/,
  .mk 0x3500 1 16 0x2a 1 .s32 .ro 0 .o 0 0 .any /- LS_LEVEL -/,
  .mk 0x3500 1 16 0x2b 1 .s32 .ro 0 .o 0 0 .any /- LS_TARGET -/,
  .mk 0x3500 1 16 0x2c 2 .s32 .ro 0 .o 0 0 .any /- LS_LEVEL_MIN, LS_LEVEL_MAX -/,
  .mk 0x3500 1 16 0x2e 1 .u32 .ro 0 .o 0 0 .any /- LS_SENDER -/,
  .mk 0x3500 1 16 0x30 8 .u64 .ro 0 .a 0 0 .any /- LS_PKT_RX, LS_PKT_LOST, LS_PKT_LATE, LS_PKT_EARLY, LS_PKT_DUP, LS_PKT_REORDER, LS_FOREIGN, LS_FORMAT_ERR -/,
  .mk 0x3500 1 16 0x38 1 .u32 .ro 0 .a 0 0 .any /- LS_SENDER_CHANGES -/,
  .mk 0x3500 1 16 0x40 64 .u16 .st 0xffff .o 0x20 1 .any /- LS_MAP -/]

/-- Objects of 4000h-40FFh as the object maps of R203, R212 give them. -/
def objs40 : List ObjRow := [
  .mk 0x4000 16 4 0x0 1 .bits16 .rw 0x0 .o 0 0 (.mask 0x3) /- SAP_ENABLE -/,
  .mk 0x4000 16 4 0x1 1 .enum .st 0 .o 0x30 1 (.nat [(0, 3)]) /- FORMAT -/,
  .mk 0x4000 16 4 0x2 1 .enum .st 2 .o 0x30 1 (.nat [(0, 2)]) /- SLOT_WIDTH -/,
  .mk 0x4000 16 4 0x3 1 .u8 .st 2 .o 0x30 1 (.nat [(1, 16)]) /- SLOT_COUNT -/,
  .mk 0x4000 16 4 0x4 1 .u16 .st 64 .o 0x30 1 (.nat [(16, 512)]) /- FRAME_BCLKS -/,
  .mk 0x4000 16 4 0x5 1 .enum .st 0 .o 0x30 1 (.nat [(0, 1)]) /- CLOCK_ROLE -/,
  .mk 0x4000 16 4 0x6 1 .enum .st 0 .o 0x30 1 (.nat [(0, 1)]) /- CLOCK_DOMAIN -/,
  .mk 0x4000 16 4 0x7 1 .bits16 .st 0x0 .o 0x30 1 (.mask 0x7) /- SIGNALLING -/,
  .mk 0x4000 16 4 0x8 1 .enum .st 1 .o 0x30 1 (.nat [(0, 3)]) /- DEPTH -/,
  .mk 0x4000 16 4 0x9 1 .bits32 .st 0x30003 .o 0x30 1 (.mask 0xffffffff) /- MASK -/,
  .mk 0x4000 16 4 0xa 1 .enum .rw 0 .o 0 0 (.nat [(0, 1)]) /- TX_PAD -/,
  .mk 0x4000 16 4 0xb 1 .bits16 .rw 0x1ff .o 0 0 (.mask 0x1ff) /- ALLOWED_RATES -/,
  .mk 0x4000 16 4 0xc 1 .bool .rw 0 .o 0 0 (.nat [(0, 1)]) /- TEST_SLIP_ENABLE -/,
  .mk 0x4000 16 4 0xd 1 .s16 .cmd 0 .none 0 0 (.int [(-16, 16)]) /- TEST_SLIP -/,
  .mk 0x4001 16 4 0x0 5 .u64 .ro 0 .a 0 0 .any /- RX_LEDGER -/,
  .mk 0x4001 16 4 0x9 1 .s32 .ro 0 .o 0 0 .any /- RX_LEVEL -/,
  .mk 0x4001 16 4 0xa 1 .u32 .ro 0 .a 0 0 .any /- RX_SLIPS -/,
  .mk 0x4001 16 4 0xb 1 .u8 .ro 0 .o 0 0 .any /- RX_MASK_EPOCH -/,
  .mk 0x4001 16 4 0xc 1 .time64 .ro 0 .o 0 0 .any /- RX_EPOCH_TIME -/,
  .mk 0x4001 16 4 0xd 1 .bits16 .ro 0x0 .o 0 0 .any /- RX_ACTIVE_MASK -/,
  .mk 0x4002 16 4 0x0 5 .u64 .ro 0 .a 0 0 .any /- TX -/,
  .mk 0x4002 16 4 0x9 1 .s32 .ro 0 .o 0 0 .any /- TX -/,
  .mk 0x4002 16 4 0xa 1 .u32 .ro 0 .a 0 0 .any /- TX -/,
  .mk 0x4002 16 4 0xb 1 .u8 .ro 0 .o 0 0 .any /- TX -/,
  .mk 0x4002 16 4 0xc 1 .time64 .ro 0 .o 0 0 .any /- TX -/,
  .mk 0x4002 16 4 0xd 1 .bits16 .ro 0x0 .o 0 0 .any /- TX -/,
  .mk 0x4003 16 4 0x0 1 .u32 .ro 0 .o 0 0 .any /- RATE_MEASURED -/,
  .mk 0x4003 16 4 0x1 1 .bits16 .ro 0x0 .o 0 0 .any /- CLOCK_STATUS -/,
  .mk 0x4003 16 4 0x2 1 .u32 .ro 0 .a 0 0 .any /- GLITCH_COUNT -/,
  .mk 0x4003 16 4 0x3 1 .u32 .ro 0 .a 0 0 .any /- STOP_COUNT -/,
  .mk 0x4003 16 4 0x4 1 .enum .ro 0 .o 0 0 .any /- PORT_STATE -/]

/-- Objects of 4100h-41FFh as the object maps of R214 give them. -/
def objs41 : List ObjRow := [
  .mk 0x4100 16 2 0x0 1 .bool .rw 0 .o 0 0 (.nat [(0, 1)]) /- ASRC_ENABLE -/,
  .mk 0x4100 16 2 0x1 1 .enum .st 0 .o 0x34 1 (.nat [(0, 1)]) /- DIRECTION -/,
  .mk 0x4100 16 2 0x2 1 .u8 .st 0 .o 0x34 1 (.nat [(0, 3)]) /- SAP_PORT -/,
  .mk 0x4100 16 2 0x3 1 .u8 .st 0 .o 0x34 1 (.nat [(0, 15)]) /- FIRST_NODE -/,
  .mk 0x4100 16 2 0x4 1 .enum .st 0 .o 0x34 1 (.nat [(0, 1)]) /- FILTER -/,
  .mk 0x4100 16 2 0x5 1 .u8 .st 2 .o 0x34 1 (.nat [(1, 16)]) /- CHANNELS -/,
  .mk 0x4100 16 2 0x6 1 .enum .rw 1 .o 0 0 (.nat [(0, 2)]) /- TRACK_BW -/,
  .mk 0x4101 16 2 0x0 5 .u64 .ro 0 .a 0 0 .any /- ASRC_LEDGER -/,
  .mk 0x4101 16 2 0x8 1 .enum .ro 0 .o 0 0 .any /- ASRC_STATE -/,
  .mk 0x4101 16 2 0x9 1 .u32 .ro 0 .o 0 0 .any /- RATIO -/,
  .mk 0x4101 16 2 0xa 1 .u32 .ro 0 .a 0 0 .any /- UNLOCK_COUNT -/,
  .mk 0x4101 16 2 0xb 1 .u64 .ro 0 .a 0 0 .any /- INPUT_FRAMES -/]

/-- Objects of 4200h-42FFh as the object maps of R223, R225, R228 give them. -/
def objs42 : List ObjRow := [
  .mk 0x4200 1 4 0x0 1 .bool .rw 0 .o 0 0 (.nat [(0, 1)]) /- CH_ENABLE -/,
  .mk 0x420c 1 2 0x0 1 .bool .rw 0 .o 0 0 (.nat [(0, 1)]) /- CH_ENABLE -/,
  .mk 0x4200 1 4 0x1 1 .enum .rw 0 .o 0 0 (.nat [(0, 3)]) /- INPUT_SEL -/,
  .mk 0x420c 1 2 0x1 1 .enum .rw 0 .o 0 0 (.nat [(0, 3)]) /- INPUT_SEL -/,
  .mk 0x4200 1 4 0x2 1 .s16 .rw 0 .o 0 0 (.int [(-12, 42)]) /- PGA_GAIN -/,
  .mk 0x420c 1 2 0x2 1 .s16 .rw 0 .o 0 0 (.int [(-12, 42)]) /- PGA_GAIN -/,
  .mk 0x4200 1 4 0x3 1 .enum .rw 0 .o 0 0 (.nat [(0, 2)]) /- BIAS_SEL -/,
  .mk 0x420c 1 2 0x3 1 .enum .rw 0 .o 0 0 (.nat [(0, 2)]) /- BIAS_SEL -/,
  .mk 0x4200 1 4 0x4 1 .u32 .ro 0 .a 0 0 .any /- OVR_COUNT -/,
  .mk 0x420c 1 2 0x4 1 .u32 .ro 0 .a 0 0 .any /- OVR_COUNT -/,
  .mk 0x4210 1 2 0x0 1 .bool .rw 0 .o 0 0 (.nat [(0, 1)]) /- BIAS_ENABLE -/,
  .mk 0x4210 1 2 0x1 1 .u8 .rw 20 .o 0 0 (.nat [(18, 28)]) /- BIAS_VOLTAGE -/,
  .mk 0x4210 1 2 0x2 1 .bits16 .ro 0x0 .o 0 0 .any /- BIAS_STATUS -/,
  .mk 0x4210 1 2 0x3 1 .u16 .ro 0 .o 0 0 .any /- BIAS_CURRENT -/,
  .mk 0x4210 1 2 0x4 1 .u32 .ro 0 .a 0 0 .any /- SHORT_COUNT -/,
  .mk 0x4220 1 1 0x0 1 .bits16 .ro 0x0 .o 0 0 .any /- OVR_STATUS -/,
  .mk 0x4230 1 1 0x0 1 .bits16 .st 0x0 .a 0x38 0 (.mask 0x3) /- PDM_CLK_ENABLE -/,
  .mk 0x4230 1 1 0x1 1 .bits16 .st 0x0 .a 0x38 0 (.mask 0xf) /- PDM_LINE_CLK -/,
  .mk 0x4230 1 1 0x2 1 .bits16 .st 0x0 .a 0x38 0 (.mask 0xf) /- PDM_EDGE_SWAP -/,
  .mk 0x4230 1 1 0x3 1 .u8 .st 20 .a 0x38 0 (.nat [(1, 50)]) /- PDM_WAKE -/,
  .mk 0x4230 1 1 0x4 1 .bits16 .st 0x0 .a 0x38 0 (.mask 0xff) /- PDM_CH_ENABLE -/,
  .mk 0x4231 1 1 0x0 1 .bits16 .ro 0x0 .o 0 0 .any /- PDM_STATUS -/]

/-- Objects of 4300h-43FFh as the object maps of R232 give them. -/
def objs43 : List ObjRow := [
  .mk 0x4300 1 14 0x0 1 .enum .rw 0 .o 0 0 (.nat [(0, 1)]) /- FINAL_STAGE -/,
  .mk 0x4300 1 14 0x1 1 .enum .rw 0 .o 0 0 (.nat [(0, 4)]) /- WIND_HPF -/,
  .mk 0x4300 1 14 0x2 1 .u16 .rw 0 .o 0 0 (.nat [(0, 12288)]) /- DELAY -/,
  .mk 0x4300 1 14 0x3 1 .enum .ro 0 .o 0 0 .any /- CH_STATE -/,
  .mk 0x4300 1 14 0x4 1 .u16 .ro 0 .o 0 0 .any /- SETTLE_REMAIN -/,
  .mk 0x4320 1 14 0x0 5 .u64 .ro 0 .a 0 0 .any /- CAP_LEDGER -/]

/-- Objects of 4400h-44FFh as the object maps of R248, R252, R255, R260, R262 give them. -/
def objs44 : List ObjRow := [
  .mk 0x4400 1 1 0x0 1 .bits16 .st 0x0 .a 0x3c 0 (.mask 0xff) /- LISTEN_MICS -/,
  .mk 0x4401 1 1 0x0 1 .u8 .st 0 .a 0x3c 0 (.nat [(0, 2)]) /- BEAM_COUNT -/,
  .mk 0x4402 1 1 0x0 8 .u8 .st 0 .a 0x3c 0 (.nat [(0, 63)]) /- BEAM0_DELAY -/,
  .mk 0x4403 1 1 0x0 8 .u8 .st 0 .a 0x3c 0 (.nat [(0, 63)]) /- BEAM1_DELAY -/,
  .mk 0x4404 1 1 0x0 8 .q428 .st 0 .a 0x3c 0 .any /- BEAM0_GAIN -/,
  .mk 0x4405 1 1 0x0 8 .q428 .st 0 .a 0x3c 0 .any /- BEAM1_GAIN -/,
  .mk 0x4406 1 1 0x0 1 .enum .st 0 .a 0x3c 0 (.nat [(0, 2)]) /- HIST_FORMAT -/,
  .mk 0x4407 1 1 0x0 8 .u8 .st 255 .a 0x3c 0 (.nat [(0, 7), (16, 17), (24, 24), (255, 255)]) /- HIST_SOURCE -/,
  .mk 0x4408 1 1 0x0 1 .u8 .st 0 .a 0x3c 0 (.nat [(0, 1)]) /- REC_BEAM -/,
  .mk 0x4450 1 1 0x0 1 .u32 .ro 0 .a 0 0 .any /- HIST_WRITE_SEQ -/,
  .mk 0x4451 1 1 0x0 1 .u32 .rw 0 .a 0 0 .any /- HIST_READ_SEQ -/,
  .mk 0x4452 1 1 0x0 1 .blob .ro 0 .a 0 0 (.blob 0) /- HIST_BLOCK -/,
  .mk 0x4453 1 1 0x0 1 .u32 .ro 0 .a 0 0 .any /- HIST_OLDEST -/,
  .mk 0x4454 1 1 0x0 1 .u32 .ro 0 .a 0 0 .any /- HIST_LOST -/,
  .mk 0x4410 1 1 0x0 1 .bool .rw 0 .a 0 0 (.nat [(0, 1)]) /- REC_ENABLE -/,
  .mk 0x4411 1 1 0x0 8 .bits16 .rw 0x0 .a 0 0 (.mask 0x7) /- PHRASE_CTRL -/,
  .mk 0x4412 1 1 0x0 8 .u16 .rw 600 .a 0 0 (.nat [(100, 1000)]) /- THRESHOLD -/,
  .mk 0x4414 1 1 0x0 1 .u16 .rw 300 .a 0 0 (.nat [(50, 1000)]) /- PARTIAL_THRESHOLD -/,
  .mk 0x4415 1 1 0x0 1 .s16 .rw 0xffc4 .a 0 0 (.int [(-90, -20)]) /- SILENCE_LEVEL -/,
  .mk 0x4416 1 1 0x0 1 .bool .rw 0 .a 0 0 (.nat [(0, 1)]) /- BARGE_IN -/,
  .mk 0x4417 1 1 0x0 1 .u16 .rw 500 .a 0 0 (.nat [(0, 1500)]) /- PREROLL -/,
  .mk 0x4418 1 1 0x0 1 .u16 .rw 1000 .a 0 0 (.nat [(0, 5000)]) /- COOLDOWN -/,
  .mk 0x4420 1 1 0x0 1 .enum .ro 0 .a 0 0 .any /- REC_STATE -/,
  .mk 0x4421 1 1 0x0 1 .bits16 .ro 0x0 .a 0 0 .any /- REC_INPUT -/,
  .mk 0x4422 1 1 0x0 1 .u32 .ro 0 .a 0 0 .any /- DETECT_COUNT -/,
  .mk 0x4423 1 1 0x0 1 .u32 .ro 0 .a 0 0 .any /- ABANDON_COUNT -/,
  .mk 0x4424 1 1 0x0 1 .u32 .ro 0 .a 0 0 .any /- REJECT_COUNT -/,
  .mk 0x4425 1 1 0x0 1 .u32 .ro 0 .a 0 0 .any /- SWITCH_COUNT -/,
  .mk 0x4426 1 1 0x0 1 .bits16 .ro 0x0 .a 0 0 .any /- MIC_STATUS -/,
  .mk 0x4430 1 1 0x0 1 .blob .ro 0 .a 0 0 (.blob 32) /- LAST_DETECT -/,
  .mk 0x4440 1 1 0x0 1 .u8 .cmd 0 .none 0 0 (.nat [(0, 7), (128, 135), (255, 255)]) /- ENROL -/,
  .mk 0x4441 1 1 0x0 1 .bits16 .ro 0x0 .a 0 0 .any /- ENROL_STATUS -/,
  .mk 0x4442 1 1 0x0 8 .blob .rw 0 .p 0 0 (.blob 3632) /- TEMPLATE -/,
  .mk 0x4443 1 1 0x0 8 .u32 .ro 0 .p 0 0 .any /- TEMPLATE_INFO -/,
  .mk 0x4460 1 1 0x0 1 .enum .rw 0 .a 0 0 (.nat [(0, 2)]) /- WAKE_OUT_MODE -/,
  .mk 0x4461 1 1 0x0 1 .bool .cmd 0 .none 0 0 (.nat [(0, 1)]) /- WAKE_OUT_CLEAR -/,
  .mk 0x4462 1 1 0x0 1 .u16 .rw 1000 .a 0 0 (.nat [(10, 65000)]) /- WAKE_OUT_WIDTH -/]

/-- Objects of 4500h-45FFh as the object maps of R372, R376 give them. -/
def objs45 : List ObjRow := [
  .mk 0x4500 1 1 0x0 1 .bool .rw 0 .o 0 0 (.nat [(0, 1)]) /- HP_ENABLE -/,
  .mk 0x4500 1 1 0x1 1 .enum .rw 0 .o 0 0 (.nat [(0, 1)]) /- HP_RANGE -/,
  .mk 0x4500 1 1 0x2 2 .s16 .rw 0 .o 0 0 (.int [(-240, 0)]) /- HP_VOL_L, HP_VOL_R -/,
  .mk 0x4500 1 1 0x4 1 .enum .ro 0 .o 0 0 .any /- HP_STATE -/,
  .mk 0x4500 1 1 0x5 1 .bits16 .ro 0x1 .o 0 0 .any /- HP_STATUS -/,
  .mk 0x4500 1 1 0x6 1 .u32 .ro 0 .a 0 0 .any /- HP_FAULT_COUNT -/,
  .mk 0x4510 1 1 0x0 1 .bool .rw 0 .o 0 0 (.nat [(0, 1)]) /- LOUT_ENABLE -/,
  .mk 0x4510 1 1 0x2 2 .s16 .rw 0 .o 0 0 (.int [(-240, 0)]) /- LOUT_VOL_L, LOUT_VOL_R -/,
  .mk 0x4510 1 1 0x4 1 .enum .ro 0 .o 0 0 .any /- LOUT_STATE -/,
  .mk 0x4510 1 1 0x5 1 .bits16 .ro 0x1 .o 0 0 .any /- LOUT_STATUS -/,
  .mk 0x4510 1 1 0x6 1 .u32 .ro 0 .a 0 0 .any /- LOUT_FAULT_COUNT -/,
  .mk 0x4520 1 1 0x0 1 .bits16 .rw 0x35 .a 0 0 (.mask 0x3f) /- JD_CONFIG -/,
  .mk 0x4520 1 1 0x1 1 .enum .ro 0 .a 0 0 .any /- JD_STATE -/,
  .mk 0x4520 1 1 0x2 1 .bits16 .ro 0x0 .a 0 0 .any /- JD_RAW -/,
  .mk 0x4520 1 1 0x3 1 .enum .ro 0 .a 0 0 .any /- JACK_TYPE -/,
  .mk 0x4520 1 1 0x4 1 .bits16 .ro 0x0 .a 0 0 .any /- BUTTONS -/,
  .mk 0x4520 1 1 0x5 1 .u32 .ro 0 .a 0 0 .any /- INSERT_COUNT -/,
  .mk 0x4521 1 1 0x0 1 .u16 .rw 865 .a 0 0 .any /- BTN_MIN -/,
  .mk 0x4521 1 1 0x1 1 .u16 .rw 785 .a 0 0 .any /- BTN_MIN -/,
  .mk 0x4521 1 1 0x2 1 .u16 .rw 700 .a 0 0 .any /- BTN_MIN -/,
  .mk 0x4521 1 1 0x3 1 .u16 .rw 20 .a 0 0 .any /- MIC_MIN -/]

/-- Objects of 4600h-46FFh as the object maps of R385 give them. -/
def objs46 : List ObjRow := [
  .mk 0x4600 1 1 0x0 1 .bits16 .cmd 0x0 .none 0 0 (.mask 0xf) /- LOAD_CMD -/,
  .mk 0x4600 1 1 0x1 1 .bits16 .rw 0x0 .o 0 0 (.mask 0x1f) /- LOAD_PIN -/,
  .mk 0x4600 1 1 0x2 1 .bits16 .ro 0xff .o 0 0 .any /- AUX_STATUS -/,
  .mk 0x4600 1 1 0x3 1 .bits16 .ro 0x0 .o 0 0 .any /- COMPLIANCE -/,
  .mk 0x4610 1 8 0x0 1 .enum .rw 0 .o 0 0 (.nat [(0, 4)]) /- RANGE -/,
  .mk 0x4610 1 8 0x1 1 .u16 .rw 0 .o 0 0 .any /- CODE -/,
  .mk 0x4610 1 8 0x2 1 .enum .rw 0 .o 0 0 (.nat [(0, 2)]) /- SOURCE -/,
  .mk 0x4610 1 8 0x3 1 .enum .rw 4 .o 0 0 (.nat [(0, 4)]) /- LOAD_GROUP -/,
  .mk 0x4610 1 8 0x4 1 .u32 .rw 0 .o 0 0 (.nat [(0, 20000000)]) /- SINE_FREQ -/,
  .mk 0x4610 1 8 0x5 1 .q31 .rw 0 .o 0 0 (.nat [(0, 2147483647)]) /- SINE_AMPL -/,
  .mk 0x4610 1 8 0x6 1 .u16 .rw 0x8000 .o 0 0 .any /- SINE_OFFSET -/,
  .mk 0x4610 1 8 0x7 1 .u32 .rw 0 .o 0 0 .any /- SINE_PHASE -/,
  .mk 0x4610 1 8 0x8 1 .u16 .rw 0 .p 0 0 .any /- CLEAR_CODE -/,
  .mk 0x4610 1 8 0x9 1 .enum .rw 0 .p 0 0 (.nat [(0, 4)]) /- CLEAR_RANGE -/,
  .mk 0x4610 1 8 0xa 1 .bits16 .ro 0x1 .o 0 0 .any /- CH_STATUS -/,
  .mk 0x4610 1 8 0xb 1 .u16 .ro 0 .o 0 0 .any /- ACTIVE_CODE -/,
  .mk 0x4610 1 8 0xc 1 .u32 .ro 0 .a 0 0 .any /- COMPLIANCE_COUNT -/,
  .mk 0x4610 1 8 0xd 1 .u32 .ro 0 .o 0 0 .any /- SINE_WORD -/,
  .mk 0x4620 1 2 0x0 1 .u32 .rw 0 .o 0 0 (.nat [(0, 65536)]) /- WAVE_SIZE -/,
  .mk 0x4620 1 2 0x1 1 .u32 .rw 0 .o 0 0 (.nat [(0, 0), (2, 65536)]) /- WAVE_LENGTH -/,
  .mk 0x4620 1 2 0x2 1 .u32 .rw 1000 .o 0 0 (.nat [(1, 1000000)]) /- WAVE_RATE -/,
  .mk 0x4620 1 2 0x3 1 .enum .rw 0 .o 0 0 (.nat [(0, 1)]) /- WAVE_MODE -/,
  .mk 0x4620 1 2 0x4 1 .u32 .rw 0 .o 0 0 .any /- WAVE_INDEX -/,
  .mk 0x4620 1 2 0x5 1 .blob .rw 0 .o 0 0 (.blob 1024) /- WAVE_DATA -/,
  .mk 0x4620 1 2 0x6 1 .bool .cmd 0 .none 0 0 (.nat [(0, 1)]) /- WAVE_RESTART -/,
  .mk 0x4620 1 2 0x7 1 .u32 .ro 0 .o 0 0 .any /- WAVE_POS -/]

/-- Objects of 5000h-50FFh as the object maps of R283 give them. -/
def objs50 : List ObjRow := [
  .mk 0x5000 1 1 0x0 1 .u16 .ro 256 .o 0 0 .any /- LANES -/,
  .mk 0x5001 1 1 0x0 1 .bits16 .ro 0x0 .o 0 0 .any /- LATTICE_STATUS -/,
  .mk 0x5002 1 1 0x0 1 .u32 .ro 0 .a 0 0 .any /- CONFLICT_COUNT -/,
  .mk 0x5010 1 1 0x0 256 .u16 .rw 0xffff .o 0 0 (.nat [(0, 349), (352, 375), (65535, 65535)]) /- SRC_SEL -/,
  .mk 0x5011 1 1 0x0 256 .bits16 .rw 0x0 .o 0 0 (.mask 0x1) /- SRC_ATTR -/,
  .mk 0x5012 1 1 0x0 256 .bits16 .ro 0x0 .o 0 0 .any /- SRC_STATE -/,
  .mk 0x5020 1 1 0x0 256 .u16 .rw 0xffff .o 0 0 .any /- OUT_SEL -/,
  .mk 0x5021 1 1 0x0 256 .u16 .rw 0xffff .o 0 0 (.nat [(0, 349), (65535, 65535)]) /- SINK_DEST -/,
  .mk 0x5022 1 1 0x0 256 .bits16 .rw 0x0 .o 0 0 (.mask 0x1) /- SINK_ATTR -/,
  .mk 0x5023 1 1 0x0 256 .bits16 .ro 0x0 .o 0 0 .any /- SINK_STATE -/,
  .mk 0x5030 1 8 0x0 32 .u16 .rw 0xffff .o 0 0 .any /- FACET_IN_SEL -/,
  .mk 0x5038 1 8 0x0 32 .bits16 .rw 0x0 .o 0 0 (.mask 0x1) /- FACET_IN_ATTR -/,
  .mk 0x5040 1 1 0x0 96 .u16 .rw 0xffff .o 0 0 .any /- VTX_IN_SEL -/,
  .mk 0x5041 1 1 0x0 96 .bits16 .rw 0x0 .o 0 0 (.mask 0x1) /- VTX_IN_ATTR -/,
  .mk 0x5050 1 1 0x0 64 .u16 .rw 0 .o 0 0 (.nat [(0, 1000)]) /- VTX_RAMP -/,
  .mk 0x5051 1 1 0x0 64 .u32 .ro 0 .a 0 0 .any /- VTX_CLIP -/]

/-- Objects of 5100h-51FFh as the object maps of R283 give them. -/
def objs51 : List ObjRow := [
  .mk 0x5100 1 64 0x0 96 .q428 .rw 0 .o 0 0 .any /- VTX_GAIN -/]

/-- Objects of 5200h-52FFh as the object maps of R283 give them. -/
def objs52 : List ObjRow := [
  .mk 0x5200 1 1 0x0 256 .bits16 .rw 0x0 .o 0 0 (.mask 0x3) /- IN_COND -/,
  .mk 0x5201 1 1 0x0 94 .bits16 .rw 0x0 .o 0 0 (.mask 0x3) /- IN_COND -/,
  .mk 0x5201 1 1 0x60 24 .bits16 .rw 0x0 .o 0 0 (.mask 0x3) /- IN_COND -/,
  .mk 0x5202 1 1 0x0 256 .bits16 .rw 0x1 .o 0 0 (.mask 0x3) /- OUT_COND -/,
  .mk 0x5210 1 1 0x0 256 .bits16 .rw 0x0 .o 0 0 (.mask 0x7) /- SINK_POLICY -/,
  .mk 0x5211 1 1 0x0 80 .bits16 .rw 0x0 .o 0 0 (.mask 0x7) /- SINK_POLICY -/,
  .mk 0x5211 1 1 0x50 12 .bits16 .rw 0x1 .o 0 0 (.mask 0x7) /- SINK_POLICY -/,
  .mk 0x5211 1 1 0x5c 2 .bits16 .rw 0x0 .o 0 0 (.mask 0x7) /- SINK_POLICY -/,
  .mk 0x5212 1 1 0x0 256 .bits16 .ro 0x10 .o 0 0 .any /- SINK_STATUS -/,
  .mk 0x5213 1 1 0x0 94 .bits16 .ro 0x10 .o 0 0 .any /- SINK_STATUS -/]

/-- Objects of 5400h-54FFh as the object maps of R319 give them. -/
def objs54 : List ObjRow := [
  .mk 0x5400 1 8 0x0 1 .u8 .cmd 0 .none 0 0 (.nat [(1, 6)]) /- ENGINE_CTRL -/,
  .mk 0x5400 1 8 0x1 1 .enum .ro 0 .o 0 0 .any /- ENGINE_STATE -/,
  .mk 0x5400 1 8 0x2 1 .bits16 .ro 0x0 .o 0 0 .any /- ENGINE_STATUS -/,
  .mk 0x5400 1 8 0x3 1 .time64 .ro 0 .o 0 0 .any /- SWAP_BOUNDARY -/,
  .mk 0x5400 1 8 0x4 1 .bits16 .ro 0x0 .o 0 0 .any /- FAULT_CAUSE -/,
  .mk 0x5400 1 8 0x5 1 .u32 .ro 0 .o 0 0 .any /- FAULT_ADDR -/,
  .mk 0x5400 1 8 0x6 1 .u32 .ro 0 .a 0 0 .any /- OVERRUN_COUNT -/,
  .mk 0x5400 1 8 0x7 1 .u32 .ro 0 .a 0 0 .any /- SWAP_COUNT -/,
  .mk 0x5400 1 8 0x8 1 .bool .rw 0 .p 0 0 (.nat [(0, 1)]) /- BOOT_ENABLE -/,
  .mk 0x5400 1 8 0x9 1 .bool .rw 0 .p 0 0 (.nat [(0, 1)]) /- AUTO_RECOVER -/,
  .mk 0x5400 1 8 0xa 4 .u32 .ro 0 .o 0 0 .any /- ACTIVE_ID, ACTIVE_VERSION, STANDBY_ID, STANDBY_VERSION -/,
  .mk 0x5400 1 8 0xe 1 .u32 .ro 0 .a 0 0 .any /- LOOP_CLAMP -/,
  .mk 0x5400 1 8 0xf 1 .u32 .ro 0 .a 0 0 .any /- FAULT_COUNT -/,
  .mk 0x5400 1 8 0x10 1 .u16 .ro 0 .o 0 0 .any /- SIGNAL_CODE -/,
  .mk 0x5410 1 8 0x0 1 .u16 .ro 0 .o 0 0 .any /- UTIL -/,
  .mk 0x5410 1 8 0x1 1 .u16 .ro 0 .o 0 0 .any /- UTIL_400 -/,
  .mk 0x5410 1 8 0x2 1 .u16 .ro 0 .o 0 0 .any /- UTIL_SWAP -/,
  .mk 0x5410 1 8 0x10 16 .u32 .ro 0 .o 0 0 .any /- TASK_COST -/,
  .mk 0x5410 1 8 0x20 16 .u32 .ro 0 .o 0 0 .any /- TASK_RESPONSE -/,
  .mk 0x5410 1 8 0x30 16 .u32 .ro 0 .o 0 0 .any /- TASK_OBSERVED -/,
  .mk 0x5420 1 1 0x0 1 .bits16 .cmd 0x0 .none 0 0 (.mask 0xff) /- SWAP_SET -/,
  .mk 0x5480 1 1 0x0 1 .u8 .rw 0 .o 0 0 (.nat [(0, 7)]) /- LOAD_ENGINE -/,
  .mk 0x5480 1 1 0x1 1 .enum .rw 0 .o 0 0 (.nat [(0, 1)]) /- LOAD_DEST -/,
  .mk 0x5480 1 1 0x2 1 .bool .cmd 0 .none 0 0 (.nat [(0, 1)]) /- LOAD_START -/,
  .mk 0x5480 1 1 0x3 1 .blob .wo 0 .none 0 0 (.blob 1024) /- LOAD_CHUNK -/,
  .mk 0x5480 1 1 0x4 1 .bool .cmd 0 .none 0 0 (.nat [(0, 1)]) /- LOAD_FINISH -/,
  .mk 0x5480 1 1 0x5 1 .enum .ro 0 .o 0 0 .any /- LOAD_RESULT -/,
  .mk 0x5480 1 1 0x6 1 .u32 .ro 0 .o 0 0 .any /- LOAD_DETAIL -/,
  .mk 0x5480 1 1 0x7 1 .u32 .ro 0 .o 0 0 .any /- STAGED_BYTES -/,
  .mk 0x5490 1 1 0x0 8 .u32 .ro 0 .p 0 0 .any /- BOOT_ID -/,
  .mk 0x5491 1 1 0x0 8 .u32 .ro 0 .p 0 0 .any /- BOOT_SIZE -/,
  .mk 0x5492 1 1 0x0 1 .u32 .ro 0x28000 .p 0 0 .any /- BOOT_FREE -/,
  .mk 0x5493 1 1 0x0 1 .u8 .cmd 0 .none 0 0 (.nat [(0, 7)]) /- BOOT_ERASE -/]

/-- Objects of 5600h-56FFh as the object maps of R319 give them. -/
def objs56 : List ObjRow := [
  .mk 0x5600 1 1 0x0 8 .u16 .ro 0 .o 0 0 .any /- ENV_LAST -/,
  .mk 0x5601 1 1 0x0 1 .bits16 .ro 0x0 .o 0 0 .any /- ENV_STATUS -/,
  .mk 0x5602 1 1 0x0 1 .u32 .ro 0 .a 0 0 .any /- ENV_MISS_COUNT -/,
  .mk 0x5603 1 1 0x0 8 .u8 .ro 255 .o 0 0 .any /- PILOT_OWNER -/]

/-- Objects of 5800h-58FFh as the object maps of R417 give them. -/
def objs58 : List ObjRow := [
  .mk 0x5800 1 1 0x0 17 .enum .rw 1 .o 0 0 (.nat [(0, 1)]) /- PRIORITY_PORT -/,
  .mk 0x5801 1 1 0x0 17 .u32 .ro 0 .a 0 0 .any /- COLLISIONS -/,
  .mk 0x5802 1 1 0x0 1 .u32 .ro 0 .a 0 0 .any /- LAST_COLLISION -/,
  .mk 0x5810 1 1 0x0 20 .u32 .ro 0 .a 0 0 .any /- ECC_CORRECTED -/,
  .mk 0x5811 1 1 0x0 20 .u32 .ro 0 .a 0 0 .any /- ECC_UNCORRECTED -/,
  .mk 0x5812 1 1 0x0 1 .u64 .ro 0 .a 0 0 .any /- ECC_LAST -/,
  .mk 0x5820 1 1 0x0 1 .bool .rw 1 .o 0 0 (.nat [(0, 1)]) /- BG_ENABLE -/,
  .mk 0x5821 1 1 0x0 1 .u32 .ro 0 .a 0 0 .any /- BG_PASSES -/,
  .mk 0x5822 1 1 0x0 1 .u32 .ro 0 .o 0 0 .any /- BG_POSITION -/,
  .mk 0x5823 1 1 0x0 20 .u32 .ro 0 .a 0 0 .any /- BG_FAILS -/,
  .mk 0x5824 1 1 0x0 20 .u8 .ro 0 .p 0 0 .any /- SPARES_USED -/,
  .mk 0x5825 1 1 0x0 1 .bits16 .ro 0x0 .a 0 0 .any /- BG_STATUS -/,
  .mk 0x5830 1 1 0x0 16 .u8 .ro 255 .o 0 0 .any /- LOCK_HOLDER -/,
  .mk 0x5831 1 1 0x0 16 .bool .rw 0 .o 0 0 (.nat [(0, 1)]) /- LOCK_TAKE -/,
  .mk 0x5832 1 1 0x0 1 .u32 .ro 0 .a 0 0 .any /- LOCK_REVOKED -/,
  .mk 0x5840 1 1 0x0 1 .u32 .ro 0x100000 .o 0 0 .any /- FACET_BANK_FREE -/,
  .mk 0x5840 1 1 0x1 1 .u32 .ro 0x400000 .o 0 0 .any /- POOL_FREE -/,
  .mk 0x5840 1 1 0x2 1 .u32 .ro 0x400000 .o 0 0 .any /- POOL_LARGEST -/]

/-- Objects of 6000h-60FFh as the object maps of R324 give them. -/
def objs60 : List ObjRow := [
  .mk 0x6000 16 8 0x0 1 .bool .rw 1 .o 0 0 (.nat [(0, 1)]) /- CH_ENABLE -/,
  .mk 0x6000 16 8 0x1 1 .u16 .rw 2828 .o 0 0 (.nat [(500, 4000)]) /- FULL_SCALE_V -/,
  .mk 0x6000 16 8 0x2 1 .u8 .st 12 .o 0x41 2 (.nat [(6, 16)]) /- I_LIMIT -/,
  .mk 0x6000 16 8 0x3 1 .u16 .rw 1000 .o 0 0 (.nat [(250, 1500)]) /- SHORT_THRESHOLD -/,
  .mk 0x6000 16 8 0x4 1 .u16 .rw 500 .o 0 0 (.nat [(50, 5000)]) /- RETRY_DELAY -/,
  .mk 0x6000 16 8 0x5 1 .u16 .rw 2000 .o 0 0 (.nat [(0, 0), (500, 5000)]) /- DC_LIMIT -/,
  .mk 0x6000 16 8 0x6 1 .u16 .st 40 .o 0x40 0 (.nat [(15, 160)]) /- LOAD_NOMINAL -/,
  .mk 0x6000 16 8 0x7 1 .u16 .st 500 .o 0x40 0 (.nat [(10, 1000)]) /- P_CONT -/,
  .mk 0x6000 16 8 0x8 1 .u16 .st 1000 .o 0x40 0 (.nat [(10, 2000)]) /- P_PEAK -/,
  .mk 0x6000 32 4 0xa 1 .bool .st 0 .o 0x41 1 (.nat [(0, 1)]) /- BRIDGE -/,
  .mk 0x6000 16 8 0x20 1 .enum .ro 0 .o 0 0 .any /- CH_STATE -/,
  .mk 0x6000 16 8 0x21 1 .bits16 .ro 0x0 .o 0 0 .any /- CH_STATUS -/,
  .mk 0x6000 16 8 0x22 1 .bits16 .ro 0x0 .o 0 0 .any /- FAULT_CAUSE -/,
  .mk 0x6000 16 8 0x23 1 .u8 .ro 0 .a 0 0 .any /- RETRIES -/,
  .mk 0x6000 16 8 0x24 1 .bool .ro 0 .a 0 0 .any /- LATCHED -/,
  .mk 0x6000 16 8 0x25 1 .bool .cmd 0 .none 0 0 (.nat [(0, 1)]) /- CLEAR_LATCH -/,
  .mk 0x6000 16 8 0x26 1 .u32 .ro 0 .a 0 0 .any /- FAULT_COUNT -/,
  .mk 0x6000 16 8 0x27 1 .u32 .ro 0 .a 0 0 .any /- CLIP_COUNT -/,
  .mk 0x6000 16 8 0x28 1 .u64 .ro 0 .a 0 0 .any /- LIMIT_CYCLES -/]

/-- Objects of 6100h-61FFh as the object maps of R342, R345 give them. -/
def objs61 : List ObjRow := [
  .mk 0x6100 1 1 0x0 1 .enum .rw 1 .o 0 0 (.nat [(0, 1)]) /- MOD_FREQ -/,
  .mk 0x6101 1 1 0x0 1 .u16 .st 2400 .o 0x40 0 (.nat [(10, 2400)]) /- TOTAL_P_CONT -/,
  .mk 0x6101 1 1 0x1 1 .u16 .st 4000 .o 0x40 0 (.nat [(10, 4000)]) /- TOTAL_P_PEAK -/,
  .mk 0x6102 1 1 0x0 1 .u16 .ro 0x2710 .o 0 0 .any /- TOTAL_GAIN -/,
  .mk 0x6103 1 1 0x0 8 .u16 .ro 0x2710 .o 0 0 .any /- CH_GAIN -/,
  .mk 0x6104 1 1 0x0 1 .u16 .ro 0x2710 .o 0 0 .any /- TOTAL_FACTOR -/,
  .mk 0x6105 1 1 0x0 2 .bits16 .ro 0x0 .o 0 0 .any /- DIE_STATUS -/,
  .mk 0x6106 1 1 0x0 2 .u16 .ro 0x2710 .o 0 0 .any /- DIE_FACTOR -/,
  .mk 0x6110 1 1 0x0 8 .u64 .ro 0 .a 0 0 .any /- E_CH -/,
  .mk 0x6110 1 1 0x8 1 .u64 .ro 0 .a 0 0 .any /- E_TOTAL -/,
  .mk 0x6111 1 1 0x0 9 .u64 .ro 0 .a 0 0 .any /- LIMIT_TIME -/,
  .mk 0x6120 1 1 0x0 1 .bits16 .rw 0x0 .o 0 0 (.mask 0xffff) /- PILOT_ENABLE -/,
  .mk 0x6121 1 1 0x0 1 .u16 .rw 0x5014 .o 0 0 .any /- US_FREQ -/,
  .mk 0x6122 1 1 0x0 1 .s16 .rw 0xffd8 .o 0 0 (.int [(-60, -30)]) /- SUB_LEVEL -/,
  .mk 0x6130 1 8 0x0 1 .u32 .ro 0 .o 0 0 .any /- Z_MAG -/,
  .mk 0x6130 1 8 0x1 1 .s16 .ro 0 .o 0 0 .any /- Z_PHASE -/,
  .mk 0x6130 1 8 0x2 1 .u32 .ro 0 .o 0 0 .any /- RE -/,
  .mk 0x6130 1 8 0x3 1 .s16 .ro 0 .o 0 0 .any /- VC_TEMP -/,
  .mk 0x6130 1 8 0x4 1 .bits16 .ro 0x0 .o 0 0 .any /- Z_STATUS -/,
  .mk 0x6130 1 8 0x5 1 .u32 .rw 0 .p 0 0 .any /- RE_REF -/,
  .mk 0x6130 1 8 0x6 1 .s16 .rw 250 .p 0 0 (.int [(-400, 850)]) /- T_REF -/,
  .mk 0x6130 1 8 0x7 1 .u16 .rw 3930 .p 0 0 (.nat [(3000, 4500)]) /- ALPHA -/,
  .mk 0x6130 1 8 0x8 1 .bool .cmd 0 .none 0 0 (.nat [(0, 1)]) /- RE_CAPTURE -/,
  .mk 0x6130 1 8 0x9 1 .u32 .rw 0 .o 0 0 .any /- Z_MIN -/,
  .mk 0x6130 1 8 0xa 1 .u32 .rw 0 .o 0 0 .any /- Z_MAX -/,
  .mk 0x6130 1 8 0xb 1 .s16 .rw 1500 .o 0 0 (.int [(500, 2500)]) /- VC_LIMIT -/,
  .mk 0x6130 1 8 0xc 1 .enum .rw 0 .o 0 0 (.nat [(0, 1)]) /- VC_ACTION -/]

/-- Objects of 6200h-62FFh as the object maps of R360 give them. -/
def objs62 : List ObjRow := [
  .mk 0x6200 1 1 0x0 1 .u16 .st 1200 .o 0x40 0 (.nat [(1200, 4200)]) /- RAIL_MIN -/,
  .mk 0x6200 1 1 0x1 1 .u16 .st 4200 .o 0x40 0 (.nat [(1200, 4200)]) /- RAIL_MAX -/,
  .mk 0x6200 1 1 0x2 1 .u16 .st 150 .o 0x40 0 (.nat [(100, 600)]) /- HEADROOM -/,
  .mk 0x6201 1 1 0x0 1 .u16 .rw 400 .o 0 0 (.nat [(50, 400)]) /- SLEW_UP -/,
  .mk 0x6201 1 1 0x1 1 .u16 .rw 50 .o 0 0 (.nat [(5, 200)]) /- SLEW_DOWN -/,
  .mk 0x6202 1 1 0x0 1 .u16 .rw 3000 .o 0 0 (.nat [(100, 4000)]) /- IIN_LIMIT -/,
  .mk 0x6202 1 1 0x1 1 .u16 .rw 1050 .o 0 0 (.nat [(950, 2800)]) /- SAG_START -/,
  .mk 0x6202 1 1 0x2 1 .u16 .rw 200 .o 0 0 (.nat [(0, 600)]) /- ECO_CLIP -/,
  .mk 0x6202 1 1 0x3 1 .bool .rw 1 .o 0 0 (.nat [(0, 1)]) /- BYPASS_ENABLE -/,
  .mk 0x6203 1 1 0x0 1 .enum .rw 0 .o 0 0 (.nat [(0, 2)]) /- TRACK_MODE -/,
  .mk 0x6210 1 1 0x0 1 .enum .ro 0 .o 0 0 .any /- BOOST_STATE -/,
  .mk 0x6210 1 1 0x1 1 .bits16 .ro 0x0 .o 0 0 .any /- BOOST_STATUS -/,
  .mk 0x6210 1 1 0x2 1 .u16 .ro 0 .o 0 0 .any /- RAIL_CMD -/,
  .mk 0x6210 1 1 0x3 1 .u16 .ro 0 .o 0 0 .any /- PVDD_MEAS -/,
  .mk 0x6210 1 1 0x4 1 .u16 .ro 0 .o 0 0 .any /- VIN_MEAS -/,
  .mk 0x6210 1 1 0x5 1 .u16 .ro 0 .o 0 0 .any /- IIN_MEAS -/,
  .mk 0x6210 1 1 0x6 1 .u16 .ro 0x2710 .o 0 0 .any /- BOOST_FACTOR -/,
  .mk 0x6210 1 1 0x7 1 .u16 .ro 2978 .o 0 0 .any /- V_SUP -/,
  .mk 0x6211 1 1 0x0 1 .u32 .ro 0 .a 0 0 .any /- LATE_RECORDS -/,
  .mk 0x6211 1 1 0x1 1 .u32 .ro 0 .a 0 0 .any /- RAIL_LOW_COUNT -/,
  .mk 0x6211 1 1 0x2 1 .bits16 .ro 0x0 .o 0 0 .any /- BOOST_FAULT_CAUSE -/,
  .mk 0x6211 1 1 0x3 1 .u32 .ro 0 .a 0 0 .any /- BOOST_FAULT_COUNT -/,
  .mk 0x6211 1 1 0x4 1 .bool .cmd 0 .none 0 0 (.nat [(0, 1)]) /- BOOST_CLEAR -/]

/-- Objects of 6300h-63FFh as the object maps of R401 give them. -/
def objs63 : List ObjRow := [
  .mk 0x6300 1 1 0x0 1 .enum .ro 0 .o 0 0 .any /- HKA_STATE -/,
  .mk 0x6300 1 1 0x1 1 .bool .cmd 0 .none 0 0 (.nat [(0, 1)]) /- SEQ_START -/,
  .mk 0x6300 1 1 0x2 1 .bool .cmd 0 .none 0 0 (.nat [(0, 1)]) /- SEQ_STOP -/,
  .mk 0x6300 1 1 0x3 1 .u32 .ro 0 .a 0 0 .any /- PASS_COUNT -/,
  .mk 0x6300 1 1 0x4 1 .u32 .ro 0 .a 0 0 .any /- TRIG_OVERRUN -/,
  .mk 0x6300 1 1 0x5 1 .u32 .ro 0 .a 0 0 .any /- ABORT_COUNT -/,
  .mk 0x6300 1 1 0x6 1 .u32 .ro 0 .a 0 0 .any /- RANGE_COUNT -/,
  .mk 0x6300 1 1 0x7 1 .bits16 .ro 0x0 .o 0 0 .any /- HKA_STATUS -/,
  .mk 0x6300 1 1 0x8 1 .bool .rw 0 .o 0 0 (.nat [(0, 1)]) /- PASS_EVENT -/,
  .mk 0x6310 1 1 0x0 1 .enum .st 0 .o 0x48 0 (.nat [(0, 3)]) /- TRIGGER -/,
  .mk 0x6310 1 1 0x1 1 .u32 .st 1000 .o 0x48 0 (.nat [(50, 10000000)]) /- PERIOD -/,
  .mk 0x6311 1 1 0x0 32 .u32 .st 1024 .o 0x48 0 (.mask 0x7ff1f) /- ENTRY -/,
  .mk 0x6312 1 1 0x0 1 .u8 .st 1 .o 0x48 0 (.nat [(1, 32)]) /- SEQ_LENGTH -/,
  .mk 0x6320 1 1 0x0 32 .u32 .ro 0 .o 0 0 .any /- RESULT -/,
  .mk 0x6321 1 1 0x0 32 .time64 .ro 0 .o 0 0 .any /- RESULT_TIME -/,
  .mk 0x6322 1 1 0x0 32 .u32 .rw 0xffff0000 .o 0 0 .any /- WINDOW -/,
  .mk 0x6323 1 1 0x0 1 .bits32 .ro 0x0 .o 0 0 .any /- WINDOW_STATUS -/,
  .mk 0x6330 1 1 0x0 24 .s16 .rw 0 .o 0 0 (.int [(-4096, 4095)]) /- CH_OFFSET -/,
  .mk 0x6331 1 1 0x0 24 .u16 .rw 0x8000 .o 0 0 (.nat [(16384, 49151)]) /- CH_GAIN -/,
  .mk 0x6332 1 1 0x0 12 .u32 .rw 1000 .o 0 0 (.nat [(0, 1000000)]) /- SRC_OHMS -/,
  .mk 0x6332 1 1 0xc 12 .u32 .ro 0 .o 0 0 .any /- SRC_OHMS -/,
  .mk 0x6340 1 1 0x0 1 .bool .cmd 0 .none 0 0 (.nat [(0, 1)]) /- CALIBRATE -/,
  .mk 0x6340 1 1 0x1 1 .s16 .ro 0 .p 0 0 .any /- CAL_OFFSET -/,
  .mk 0x6340 1 1 0x2 1 .u16 .ro 0x8000 .p 0 0 .any /- CAL_GAIN -/,
  .mk 0x6340 1 1 0x3 1 .time64 .ro 0 .p 0 0 .any /- CAL_TIME -/,
  .mk 0x6340 1 1 0x4 1 .s16 .ro 0 .p 0 0 .any /- CAL_TEMP -/,
  .mk 0x6340 1 1 0x5 1 .enum .ro 0 .o 0 0 .any /- CAL_RESULT -/,
  .mk 0x6350 1 1 0x0 1 .u16 .cmd 0 .none 0 0 (.mask 0xff1f) /- URGENT -/,
  .mk 0x6350 1 1 0x1 1 .u32 .ro 0 .o 0 0 .any /- URGENT_RESULT -/,
  .mk 0x6350 1 1 0x2 1 .time64 .ro 0 .o 0 0 .any /- URGENT_TIME -/,
  .mk 0x6360 1 1 0x0 8 .u16 .ro 0 .o 0 0 .any /- MONITOR -/]

/-- Objects of 7000h-70FFh as the object maps of R441 give them. -/
def objs70 : List ObjRow := [
  .mk 0x7000 1 1 0x0 1 .bool .rw 0 .n 0 0 (.nat [(0, 1)]) /- TWIN_ENABLE -/,
  .mk 0x7000 1 1 0x1 1 .enum .rw 0 .n 0 0 (.nat [(0, 1)]) /- PREFERRED -/,
  .mk 0x7000 1 1 0x2 1 .enum .rw 0 .n 0 0 (.nat [(0, 1)]) /- FENCED_OUTPUT -/,
  .mk 0x7000 1 1 0x3 1 .u16 .rw 0 .n 0 0 (.nat [(0, 600)]) /- AUTO_REJOIN -/,
  .mk 0x7000 1 1 0x4 1 .u16 .rw 2000 .n 0 0 (.nat [(100, 60000)]) /- CLAIM_WAIT -/,
  .mk 0x7000 1 1 0x5 1 .bits16 .rw 0x3 .n 0 0 .any /- TAKEOVER_TRIGGERS -/,
  .mk 0x7000 1 1 0x6 1 .bool .rw 1 .n 0 0 (.nat [(0, 1)]) /- MIRROR_STREAMS -/,
  .mk 0x7001 1 1 0x0 1 .u64 .rw 0 .p 0 0 (.mask 0xffffffffffff) /- TWIN_MAC -/,
  .mk 0x7001 1 1 0x1 1 .u32 .rw 0 .p 0 0 .any /- TWIN_IPV4 -/,
  .mk 0x7001 1 1 0x2 1 .blob .rw 0 .p 0 0 (.blob 16) /- TWIN_IPV6 -/,
  .mk 0x7002 1 1 0x0 1 .bool .cmd 0 .none 0 0 (.nat [(0, 1)]) /- SWITCHOVER -/,
  .mk 0x7002 1 1 0x1 1 .bool .cmd 0 .none 0 0 (.nat [(0, 1)]) /- FENCE_RELEASE -/,
  .mk 0x7002 1 1 0x2 1 .bool .cmd 0 .none 0 0 (.nat [(0, 1)]) /- FORCE_ALONE -/,
  .mk 0x7003 1 1 0x0 1 .enum .ro 0 .o 0 0 .any /- TWIN_STATE -/,
  .mk 0x7003 1 1 0x1 1 .enum .ro 0 .o 0 0 .any /- TWIN_ROLE -/,
  .mk 0x7003 1 1 0x2 1 .bool .ro 0 .a 0 0 .any /- TWIN_ID -/,
  .mk 0x7003 1 1 0x3 1 .bits16 .ro 0x0 .o 0 0 .any /- TWIN_STATUS -/,
  .mk 0x7003 1 1 0x4 1 .enum .ro 0 .o 0 0 .any /- PARTNER_MODE -/,
  .mk 0x7004 1 1 0x0 1 .u32 .ro 0 .a 0 0 .any /- TAKEOVER_COUNT -/,
  .mk 0x7004 1 1 0x1 1 .enum .ro 0 .a 0 0 .any /- TAKEOVER_CAUSE -/,
  .mk 0x7004 1 1 0x2 1 .u32 .ro 0 .a 0 0 .any /- CLAIM_TIME -/,
  .mk 0x7004 1 1 0x3 3 .u32 .ro 0 .a 0 0 .any /- CRC_ERRORS, FRAMES_LOST, LANE_FAULTS -/,
  .mk 0x7005 1 1 0x0 16 .u64 .ro 0 .a 0 0 .any /- SHADOW_RETIRED -/,
  .mk 0x7008 1 1 0x0 1 .u8 .st 0 .n 0x50 0 (.nat [(0, 128)]) /- MIRROR_CHANNELS -/,
  .mk 0x7008 1 1 0x1 1 .u8 .st 4 .n 0x50 0 (.nat [(0, 64)]) /- FALLBACK_DELAY -/,
  .mk 0x7009 1 1 0x0 128 .u16 .st 0xffff .n 0x50 0 .any /- FALLBACK_NODE -/]

/-- Objects of 7100h-71FFh as the object maps of R447, R449, R461 give them. -/
def objs71 : List ObjRow := [
  .mk 0x7100 1 1 0x0 1 .enum .ro 0 .p 0 0 .any /- LIFECYCLE -/,
  .mk 0x7101 1 1 0x0 1 .u32 .cmd 0 .none 0 0 .any /- LIFECYCLE_CMD -/,
  .mk 0x7102 1 1 0x0 1 .bits16 .ro 0x0 .o 0 0 .any /- LIFECYCLE_STATUS -/,
  .mk 0x7103 1 1 0x0 1 .u64 .ro 0 .p 0 0 .any /- DEVICE_UID -/,
  .mk 0x7104 1 1 0x0 1 .blob .ro 0 .p 0 0 (.blob 64) /- IDENTITY_KEY -/,
  .mk 0x7105 1 1 0x0 1 .u32 .ro 0 .p 0 0 .any /- LIFECYCLE_COUNT -/,
  .mk 0x7110 1 1 0x0 1 .enum .ro 3 .p 0 0 .any /- KEY_STATE -/,
  .mk 0x7110 1 1 0x1 15 .enum .ro 0 .p 0 0 .any /- KEY_STATE -/,
  .mk 0x7111 1 1 0x1 4 .blob .rw 0 .p 0 0 (.blob 64) /- KEY_PUBLIC -/,
  .mk 0x7111 1 1 0x9 1 .blob .rw 0 .p 0 0 (.blob 64) /- KEY_PUBLIC -/,
  .mk 0x7112 1 1 0x5 4 .blob .wo 0 .p 0 0 (.blob 32) /- KEY_SECRET -/,
  .mk 0x7112 1 1 0xa 2 .blob .wo 0 .p 0 0 (.blob 32) /- KEY_SECRET -/,
  .mk 0x7113 1 1 0x1 4 .bool .cmd 0 .none 0 0 (.nat [(0, 1)]) /- KEY_REVOKE -/,
  .mk 0x7114 1 1 0x0 16 .u32 .ro 0 .p 0 0 .any /- KEY_DIGEST -/,
  .mk 0x7120 1 1 0x0 1 .enum .ro 0 .o 0 0 .any /- DEBUG_STATE -/,
  .mk 0x7121 1 1 0x0 1 .u8 .cmd 0 .none 0 0 (.nat [(1, 4)]) /- UNLOCK_REQUEST -/,
  .mk 0x7122 1 1 0x0 1 .blob .ro 0 .o 0 0 (.blob 32) /- CHALLENGE -/,
  .mk 0x7123 1 1 0x0 1 .blob .wo 0 .none 0 0 (.blob 64) /- TOKEN -/,
  .mk 0x7124 1 1 0x0 1 .u8 .ro 0 .a 0 0 .any /- TOKEN_FAILS -/,
  .mk 0x7125 1 1 0x0 1 .u16 .ro 0 .a 0 0 .any /- LOCKOUT_REMAIN -/,
  .mk 0x7126 1 1 0x0 1 .u32 .ro 0 .p 0 0 .any /- DEBUG_OPEN_COUNT -/,
  .mk 0x7127 1 1 0x0 1 .blob .ro 0 .o 0 0 (.blob 64) /- CHALLENGE_SIG -/,
  .mk 0x7130 1 1 0x0 1 .u32 .ro 0 .a 0 0 .any /- SESSION_OPENS -/,
  .mk 0x7130 1 1 0x1 1 .u32 .ro 0 .a 0 0 .any /- SESSION_BUSY -/]

/-- Objects of 7200h-72FFh as the object maps of R467 give them. -/
def objs72 : List ObjRow := [
  .mk 0x7200 1 1 0x0 1 .u32 .ro 0 .p 0 0 .any /- BB_COUNT -/,
  .mk 0x7201 1 1 0x0 1 .u32 .rw 0 .o 0 0 .any /- BB_READ -/,
  .mk 0x7202 1 1 0x0 1 .blob .ro 0 .p 0 0 (.blob 32) /- BB_RECORD -/,
  .mk 0x7203 1 1 0x0 1 .u32 .ro 0 .p 0 0 .any /- BB_OLDEST -/,
  .mk 0x7204 1 1 0x0 32 .blob .ro 0 .p 0 0 (.blob 32) /- BB_PINNED -/,
  .mk 0x7205 1 1 0x0 1 .u8 .ro 0 .p 0 0 .any /- BB_PINNED_COUNT -/,
  .mk 0x7206 1 1 0x0 1 .bool .cmd 0 .none 0 0 (.nat [(0, 1)]) /- BB_CLEAR -/,
  .mk 0x7207 1 1 0x0 1 .u32 .ro 0 .a 0 0 .any /- BB_DROPPED -/]

/-- The object rows of one index page (index divided by 256), R36 and Table 2-1. -/
def objPage (page : Nat) : List ObjRow :=
  match page with
  | 0x10 => objs10
  | 0x11 => objs11
  | 0x12 => objs12
  | 0x13 => objs13
  | 0x14 => objs14
  | 0x20 => objs20
  | 0x21 => objs21
  | 0x22 => objs22a ++ objs22b
  | 0x23 => objs23
  | 0x30 => objs30
  | 0x31 => objs31
  | 0x32 => objs32
  | 0x33 => objs33
  | 0x34 => objs34
  | 0x35 => objs35
  | 0x40 => objs40
  | 0x41 => objs41
  | 0x42 => objs42
  | 0x43 => objs43
  | 0x44 => objs44
  | 0x45 => objs45
  | 0x46 => objs46
  | 0x50 => objs50
  | 0x51 => objs51
  | 0x52 => objs52
  | 0x54 => objs54
  | 0x56 => objs56
  | 0x58 => objs58
  | 0x60 => objs60
  | 0x61 => objs61
  | 0x62 => objs62
  | 0x63 => objs63
  | 0x70 => objs70
  | 0x71 => objs71
  | 0x72 => objs72
  | _ => []

/-- The key of an object: index and subindex as one number (R5). -/
def key (index sub : Nat) : Nat := index * 256 + sub

/-- The row holds the object with this key. -/
def ObjRow.covers (r : ObjRow) (k : Nat) : Bool :=
  let i := k / 256
  let s := k % 256
  r.idx ≤ i && (i - r.idx) % r.stride == 0 && decide ((i - r.idx) / r.stride < r.cnt) && r.sub ≤ s && decide (s < r.sub + r.subs)

/-- The row of an object, by key; none where the object maps name no object (R36). -/
def objRow (k : Nat) : Option ObjRow := (objPage (k / 65536)).find? (fun r => r.covers k)

/-- The agreement group of an object of a row, 0 for none. -/
def ObjRow.group (r : ObjRow) (k : Nat) : Nat :=
  if r.grp = 0 then 0
  else if r.gdiv = 0 then r.grp
  else r.grp + ((k / 256 - r.idx) / r.stride) / r.gdiv

/-- The default of an object as its map gives it; 0 where there is no object. -/
def objDefault (k : Nat) : Nat := match objRow k with | some r => r.dflt | none => 0

/-- Bytes of a value of a type, 0 for STRING and BLOB, Table 2-2. -/
def Ty.bytes : Ty → Nat
  | .bool => 1 | .u8 => 1 | .u16 => 2 | .u32 => 4 | .u64 => 8 | .s16 => 2 | .s32 => 4 | .q31 => 4 | .q428 => 4 | .f32 => 4
  | .time64 => 8 | .enum => 1 | .bits16 => 2 | .bits32 => 4 | .str => 0 | .blob => 0

/-- The type holds bytes, not a number. -/
def Ty.isBytes : Ty → Bool
  | .str => true
  | .blob => true
  | _ => false

/-- The size in bytes of a row's BLOB, or the most its STRING holds. -/
def ObjRow.size (r : ObjRow) : Nat := match r.rng with | .blob n => n | .str n => n | _ => r.ty.bytes

/-- A value lies in the range a row states. -/
def Rng.holds (g : Rng) (ty : Ty) (v : Nat) : Bool :=
  match g with
  | .any => true
  | .mask _ => true
  | .nat l => l.any (fun p => p.1 ≤ v && v ≤ p.2)
  | .int l => let i := toInt (8 * ty.bytes) v; l.any (fun p => p.1 ≤ i && i ≤ p.2)
  | .blob _ => true
  | .str _ => true

/-- The value a write leaves in the object: the reserved fields read 0 whatever was written (R8). -/
def Rng.keep (g : Rng) (v : Nat) : Nat := match g with | .mask m => v &&& m | _ => v

end Sys2Proof.Machine
end

