-- ==== Sys2Proof/Machine/Parts.lean ====
section
/-! DEFINITION. The parts of the state, one structure for each subsystem: what the spec gives the block beside the objects of the dictionary. -/
namespace Sys2Proof.Machine

/-- The value store of the dictionary: the committed numbers, the committed BLOBs and STRINGs with their GEN counts (R38), the staged values (R26), the ledger fields
as their base subindex last latched them, and the sample ledgers as they stood at the last media boundary (R24). An object not listed has its default. -/
structure Store where
  obj : List (Nat × Nat) := []
  blob : List (Nat × List Byte) := []
  gen : List (Nat × Nat) := []
  staged : List (Nat × Nat) := []
  stagedBlob : List (Nat × List Byte) := []
  latched : List (Nat × Nat) := []
  edge : List (Nat × Nat) := []
  deriving DecidableEq, Repr

/-- A response record of Table 2-11 or of R57: status, GEN and data. -/
structure Reply where
  status : Nat
  gen : Nat := 0
  data : List Byte := []
  deriving DecidableEq, Repr

/-- What an SPI or I2C request is answered with: a response, the single byte 0x5B of a bad CRC, or nothing (R53, R480). -/
inductive Answer where
  | none
  | badCrc
  | reply (r : Reply)
  deriving DecidableEq, Repr

/-- One TDT session in a slot (R58, R59, R451, R452): its ID, privilege (1 USER, 2 ADMIN), the key slot it was opened with, the last SEQ accepted, the
cached RESPONSE, the count of fresh executions of the last BULK_READ, the last KEEPALIVE counter, and the local time of its last authenticated frame. -/
structure Session where
  slot : Nat
  id : Nat
  priv : Nat
  keySlot : Nat
  nonces : List Byte
  lastSeq : Nat
  cached : List Byte
  bulk : Nat
  alive : Nat
  seen : Nat
  deriving DecidableEq, Repr

/-- The transports (R42 to R65): kept responses and last answers of SPI and I2C, partial BLOB writes by buffer (0 SPI, 1 I2C, 2 + slot for TDT),
the sessions, the write lock's holder and lease end (R60), the ANNOUNCE frames scheduled and the times of those sent in the last second (R63), the TDT frames last sent, before sealing, and the number of the next error
log entry (R44). -/
structure Bus where
  keptSpi : Option Reply := none
  keptI2c : Option Reply := none
  outSpi : Answer := .none
  outI2c : Answer := .none
  parts : List (Nat × Nat × List Byte) := []
  sessions : List Session := []
  lock : Option (Nat × Nat) := none
  announces : List Nat := []
  announced : List Nat := []
  outTdt : List (List Byte) := []
  errNext : Nat := 0
  deriving DecidableEq, Repr

/-- One snapshot slot of R91: when captured, under which identity, the values, and those of user objects with their type codes. -/
structure Snap where
  valid : Bool := false
  time : Nat := 0
  rev : Nat := 0
  rom : Nat := 0
  vals : List (Nat × Nat) := []
  blobs : List (Nat × List Byte) := []
  user : List (Nat × Nat × Nat) := []
  deriving DecidableEq, Repr

/-- A command that waits for a snapshot's capture to end (R92): a write with its object and its collisions, or a REQUEST that writes. -/
inductive Wait where
  | write (k : Nat) (a : Access) (hits : List (Nat × Nat))
  | request (session : Nat) (ok : Bool) (seq len : Nat) (records : List AccessRecord)
  deriving DecidableEq, Repr

/-- The supervisor beside its objects (R66 to R96): held mode of SAFE and the time its last cause cleared (R75), the mode a bring-up seeks (R80), the SOFT
reset accepted (R87) and whether its Core restart has come, what holds the part in reset (R483), the supplies present, the Core domain powered, host watchdog (R77),
functions restarting (R88), the snapshot slots, the capture and store in progress and the commands that wait for the capture (R92), wake timer and rail time-out (R82, R95), a ledger clear that waits for its
boundary (R25), the local time of the last POR or BOR, the epoch number at the last reset, and class N objects lost since the last bring-up. -/
structure Sup where
  heldMode : Nat := 4
  causesClear : Option Nat := none
  seek : Nat := 4
  soft : Option Nat := none
  softCut : Bool := false
  resetLow : Bool := false
  vinDown : Bool := false
  vcore : Bool := false
  vdd33 : Bool := false
  vddio0 : Bool := true
  vddio1 : Bool := true
  vinLow : Bool := false
  vinHigh : Bool := false
  coreOn : Bool := false
  railAt : Option Nat := none
  wdtAt : Option Nat := none
  restarts : List Nat := []
  capture : Bool := false
  waits : List Wait := []
  storing : Option Nat := none
  slot0 : Snap := {}
  slot1 : Snap := {}
  newest : Nat := 0
  wakeAt : Option Nat := none
  ledgerClear : Bool := false
  bootAt : Nat := 0
  epochAt : Nat := 0
  lostN : Bool := true
  deriving DecidableEq, Repr

/-- One IRQ pin in PULSE mode (R474): phase 0 idle, 1 pulse, 2 gap, the end of the phase, and a further pulse due. -/
structure Pulse where
  phase : Nat := 0
  endAt : Nat := 0
  more : Bool := false
  deriving DecidableEq, Repr

/-- An action queued by an event or a GPIO edge (R139, R477): the entry's key and fields, and the local time of the occurrence. -/
structure QAct where
  src : Nat
  action : Nat
  hold : Bool
  target : Nat
  value : Nat
  tag : Nat
  at_ : Nat
  deriving DecidableEq, Repr

/-- The event fabric and the GPIO pins beside their objects (R73, R263, R471 to R478): occurrences held while EVENTS is clear, the pulse state of IRQ0 to IRQ3,
the GPIO inputs whose level has qualified, GPIO edges whose action waits, and the event-to-action queue. -/
structure Evt where
  held : List Nat := []
  pulses : List Pulse := [{}, {}, {}, {}]
  gpioKnown : Nat := 0
  gpioHeld : List Nat := []
  queue : List QAct := []
  deriving DecidableEq, Repr

/-- An armed Locus entry (Table 5-10) or a scheduled commit (R132); `order` is its place among entries of equal TIME. -/
structure LEntry where
  slot : Nat
  time : Nat
  action : Nat
  flags : Nat
  tag : Nat
  target : Nat
  value : Nat
  period : Nat
  epochReq : Nat
  order : Nat
  late : Bool := false
  deriving DecidableEq, Repr

/-- The Locus scheduler beside its objects: the armed entries in table order, the count of entries ever armed, and the boundary
last served with the late entries run at it (R137). -/
structure Loc where
  table : List LEntry := []
  armed : Nat := 0
  ranIndex : Nat := 0
  ranCount : Nat := 0
  deriving DecidableEq, Repr

/-- What a step of the counter takes it to (R128): a jump's error E taken off, a value the host wrote, or the nanoseconds field set to 0 (R131). -/
inductive StepTo where
  | jump (e : Int)
  | value (t : Nat)
  | pps (e : Int)
  deriving DecidableEq, Repr

/-- A record of TIME_CAP (R131). -/
structure CapRec where
  time : Nat
  epoch : Nat
  rising : Bool
  deriving DecidableEq, Repr

/-- The network time unit beside its objects (R116 to R131): the counter's three fields; the servo's and the slew's terms in parts per 10^12; the offset measurements taken
since the last confirmation; whether a master is qualified and its first three measurements are awaited (R124); a step due at a local time (R128) and the strobe reload
that follows it; the remaining error of a slew in units of 4 x 10^-12 ns; the counter lost with its domain (R126); PPS_OUT's level, the nominal time of its last pulse, the local times of its last rise and of its fall; the capture queue; and, in PPS
discipline, whether its first correction is made, its run of edges within 1 us and the last edge; the last Sync and the end of announceReceiptTimeout; and the fields latched by a read of 2200.00. -/
structure Tim where
  sec : Nat := 0
  ns : Nat := 0
  frac : Nat := 0
  servo : Int := 0
  slew : Int := 0
  meas : List Int := []
  master : Bool := false
  fresh : Bool := false
  step : Option (Nat × StepTo) := none
  reload : Option Nat := none
  remain : Int := 0
  lost : Bool := true
  pps : Bool := false
  ppsNom : Option Nat := none
  ppsRise : Option Nat := none
  ppsFall : Option Nat := none
  caps : List CapRec := []
  ppsFirst : Bool := false
  ppsRun : Nat := 0
  ppsSeen : Option Nat := none
  lastSync : Option Nat := none
  announceAt : Option Nat := none
  latSec : Nat := 0
  latNs : Nat := 0
  latFrac : Nat := 0
  deriving DecidableEq, Repr

/-- The black box in MRAM (R462 to R467): the records of the ring by number, the pinned records in order, the records that wait in the queue, and the number at the last
clear. -/
structure Bb where
  ring : List (Nat × List Byte) := []
  pinned : List (List Byte) := []
  queue : List (List Byte) := []
  cleared : Nat := 0
  deriving DecidableEq, Repr

/-- The clocks beside their objects (R97 to R115): the crystal and REFCLK as their monitors see them, REFCLK's measured frequency in mHz and the local time since which it is
in tolerance, bring-up waiting at step 7, the input the SPLL relocks on; the MPLL powered, the media domains running, the start of the acquisition in progress and whether
the adjacent bands are tried, the retry after a band fault; what keeps the domains on the synthesiser (`slewing` after a commit, `srcLost`, `timeSlew` of R125 or R128,
`scan`), the start of the holdover and whether EV21 is raised for it; the frequency word in use and the one sought, the steering offset; a commit that waits for the scan;
when the source was lost, and since when the primary source is valid while the fallback runs. -/
structure Clk where
  xtal : Bool := true
  refPresent : Bool := false
  refMilliHz : Nat := 0
  refTolAt : Option Nat := none
  waitRef : Bool := false
  relockOn : Nat := 0
  run : Bool := false
  acq : Option Nat := none
  adjacent : Bool := false
  retryAt : Option Nat := none
  slewing : Bool := false
  srcLost : Bool := false
  timeSlew : Bool := false
  scan : Bool := false
  hldAt : Option Nat := none
  hld2s : Bool := false
  word : Nat := 0
  offset : Int := 0
  waitCommit : Bool := false
  lostAt : Option Nat := none
  primaryAt : Option Nat := none
  deriving DecidableEq, Repr

/-- The Lattice sample strobe (R15): the strobe dividers run, the index of the last strobe, and, after a reload, the sample period that is tagged INV at every source (Table 5-8). -/
structure Med where
  run : Bool := false
  index : Nat := 0
  invOnce : Bool := false
  deriving DecidableEq, Repr

/-- A descriptor of Table 6-10. -/
structure Desc where
  buf : Nat
  control : Nat
  port : Nat
  len : Nat
  status : Nat := 0
  tsRef : Nat := 0
  serial : Nat := 0
  time : Nat := 0
  deriving DecidableEq, Repr

/-- A frame in the endpoint or the switch (R148 to R167): its bytes without FCS, its traffic class, the ring and descriptors it came from, the PORT asked for (0 by address), its launch
time, whether a transmit timestamp was asked for and under which reference, the residence it has had since its ingress timestamp point (none: not a frame the switch corrects), whether it is marked LATE,
and for a talker packet the talker, its sample frames and its sequence number. -/
structure QFrame where
  bytes : List Byte
  cls : Nat
  ring : Option Nat := none
  chain : List Desc := []
  port : Nat := 0
  launch : Option Nat := none
  tsReq : Bool := false
  tsRef : Nat := 0
  rxAt : Option Nat := none
  late : Bool := false
  talker : Option Nat := none
  frames : Nat := 0
  seq : Nat := 0
  deriving DecidableEq, Repr

/-- A gate control list (R150): enabled, base time, cycle time, and its entries as gate states and interval. -/
structure GList where
  enable : Bool := false
  base : Nat := 0
  cycle : Nat := 1000000
  entries : List (Nat × Nat) := []
  deriving DecidableEq, Repr

/-- One egress port: the frames queued, the frame in transmission with the counter and local time of its start and its end, the end of the inter-frame gap; the credits of classes A and B in 10^-6 bit and the
suspension of R155; the operating and the pending gate list with the local time of the commit, the entry in progress and the counter value of the next; the last EV38 and EV47, and which of the FCS, RUNT and
JABBER counts have risen since they were read. -/
structure NetPort where
  q : List QFrame := []
  tx : Option (QFrame × Nat × Nat × Nat) := none
  idleAt : Nat := 0
  crA : Int := 0
  crB : Int := 0
  susp : Bool := false
  oper : GList := {}
  pend : Option (GList × Nat) := none
  entry : Nat := 0
  nextAt : Nat := 0
  ev38 : Option Nat := none
  ev47 : Option Nat := none
  bad : Nat := 0
  deriving DecidableEq, Repr

/-- One ring of the endpoint (Table 6-9): the descriptors posted and not returned, in order, the serials of those whose frame has left the ring, the returned ones that wait to be reaped, and the posting count. -/
structure Ring where
  posted : List Desc := []
  taken : List Nat := []
  reap : List Desc := []
  serial : Nat := 0
  deriving DecidableEq, Repr

/-- A timestamp record of Table 6-13. -/
structure TsRec where
  time : Nat
  epoch : Nat
  ref : Nat
  kind : Nat
  deriving DecidableEq, Repr

/-- The switch and the endpoint beside their objects (R142 to R169): ports A, B and E; the frames the endpoint has handed to the switch; the learned addresses with port and
time, and whether the table is full; port B's pause end, the time since which a class is paused, and the end of the watchdog's holdoff; rings 0 to 7, the talker packets that wait on ring 4, the four
timestamp queues, and the last frame each of ports A and B put on the wire. -/
structure Net where
  ports : List NetPort := [{}, {}, {}]
  handed : List QFrame := []
  addrs : List (Nat × Nat × Nat) := []
  full : Bool := false
  pauseEnd : Option Nat := none
  pausedAt : Option Nat := none
  pauseOff : Option Nat := none
  rings : List Ring := [{}, {}, {}, {}, {}, {}, {}, {}]
  media : List QFrame := []
  ts : List (List TsRec) := [[], [], [], []]
  wireA : List Byte := []
  wireB : List Byte := []
  deriving DecidableEq, Repr

/-- A sample with its tag field (R10, R20): the value as a signed number of 2^-31, and INV, OVR, SYN and HLD as bits 3 to 0. Presented by nothing, it is 0 tagged INV. -/
structure Smp where
  v : Int := 0
  t : Nat := 8
  deriving DecidableEq, Repr

/-- A multiplexer's ramp (R276, R277): fading out of `old`, or fading in, the node passed and the node sought, and the gain in steps of 1/r. -/
structure Fade where
  out : Bool
  old : Nat
  new : Nat
  g : Nat
  deriving DecidableEq, Repr

/-- A gain that moves (R280): from, to, the step and the number of steps. -/
structure GMove where
  src : Int
  dst : Int
  i : Nat
  n : Nat
  deriving DecidableEq, Repr

/-- A sink's tag policy at work (R22, R282): consecutive samples with and without INV, muted by INV and by HLD and by a stop of all sinks, the gain as a numerator over the product of the ramp lengths, the ramp's step, and the last sample without INV. -/
structure SinkSt where
  bad : Nat := 0
  good : Nat := 0
  inv : Bool := false
  hld : Bool := false
  stop : Bool := false
  gain : Option Nat := none
  back : Nat := 0
  held : Int := 0
  holding : Bool := false
  deriving DecidableEq, Repr

/-- The Lattice beside its objects (R267 to R285): the samples of the sources at the last boundary and after the input row, the last valid value of each source; the source lanes, Vertex outputs, Facet
output ports, the Vertex inputs and the output row; what each sink node received; the state of the conditioning filters (last input and last output) by position; the ramps by selection, the gains that move, the sink policies at
work; the sink lanes in conflict; and the sinks ramping to silence before a stop. -/
structure Lat where
  srcs : List (Nat × Smp) := []
  cond : List (Nat × Smp) := []
  valid : List (Nat × Int) := []
  lanes : List (Nat × Smp) := []
  vtx : List (Nat × Smp) := []
  facet : List (Nat × Smp) := []
  vin : List (Nat × Smp) := []
  rows : List (Nat × Smp) := []
  sinks : List (Nat × Smp) := []
  inFilt : List (Nat × Int × Int) := []
  outFilt : List (Nat × Int × Int) := []
  fades : List (Nat × Fade) := []
  moves : List (Nat × GMove) := []
  pol : List (Nat × SinkSt) := []
  conf : List Nat := []
  stopping : Bool := false
  deriving DecidableEq, Repr

/-- A talker at work (R176 to R180): running, asked to stop at the end of its packet, a first packet due and the marker to be sent with it, the mr bit, the sequence number and whether it is set, the index of the first frame held and the frames taken; the
resolved address, failures so far, the next try, and the next refresh; the last sequence number launched; on a SHADOW, the packets kept, oldest first, and the start the ACTIVE reported (boundary, sequence number, SSRC or stream_id). -/
structure Talker where
  run : Bool := false
  stop : Bool := false
  marker : Bool := true
  mr : Bool := false
  seq : Option Nat := none
  start : Nat := 0
  frames : List (List Smp) := []
  mac : Option Nat := none
  fails : Nat := 0
  tryAt : Nat := 0
  refreshAt : Nat := 0
  launched : Nat := 0
  held : List QFrame := []
  report : Option (Nat × Nat × Nat) := none
  deriving DecidableEq, Repr

/-- A listener at work (R182 to R196): the frames in its playout buffer by boundary, the last valid values by channel, the sender adopted (address and SSRC, or stream_id), whether it had one before, ARRIVAL's alignment A, the sequence number and timestamp of the last 64
packets accepted, the highest and the last sequence number, the local time of the last accepted packet, runs of timely and untimely packets, the boundary a packet slot starts at, slots passed without frames, the sum and count for LS_TARGET, extremes to restart, and
the last EV50, EV51, EV52 and EV53. -/
structure Listener where
  buf : List (Nat × List Smp) := []
  last : List Int := []
  sender : Option (Nat × Nat) := none
  had : Bool := false
  align : Option Int := none
  recent : List (Nat × Nat) := []
  high : Option Nat := none
  prev : Option Nat := none
  heard : Option Nat := none
  good : Nat := 0
  late : Nat := 0
  slot : Option Nat := none
  missed : Nat := 0
  sum : Int := 0
  cnt : Nat := 0
  fresh : Bool := true
  ev50 : Option Nat := none
  ev51 : Option Nat := none
  ev52 : Option Nat := none
  ev53 : Option Nat := none
  deriving DecidableEq, Repr

/-- The stream engine: sixteen talkers and sixteen listeners. -/
structure Str where
  tx : List Talker := List.replicate 16 {}
  rx : List Listener := List.replicate 16 {}
  deriving DecidableEq, Repr

/-- A FIFO record of Table 8-4: mask epoch, tag, frame count, the samples of the enabled slots in order, the boundary index at its frame-start or when it was taken, and whether it is a low frame that carries no samples. -/
structure SapRec where
  epoch : Nat
  tag : Nat := 0
  seq : Nat := 0
  vals : List Int := []
  idx : Nat := 0
  pad : Bool := false
  deriving DecidableEq, Repr

/-- One serial audio port (R200 to R214): the receive and transmit FIFOs, oldest first, and the frame on the wire; the start-up waits; the last 64 periods in ns with their BCLK counts, the run of glitches, the runs outside the recovery window, the test
slip due; the local time of the last frame-start and the boundary index then; the classified rate in Hz; masks that wait for a boundary, the masks in use, the epoch last presented, the last value of each node, the frame counts, the last EV56 and EV59 of a
glitch, and the slots of the last frame sent. -/
structure SapPort where
  rx : List SapRec := []
  tx : List SapRec := []
  sending : Option SapRec := none
  rwait : Bool := false
  twait : Bool := false
  hist : List (Nat × Nat) := []
  glitches : Nat := 0
  rOut : Nat := 0
  tOut : Nat := 0
  slip : Int := 0
  edge : Option Nat := none
  edgeIdx : Nat := 0
  cls : Nat := 0
  rPend : Option (Nat × Nat) := none
  tPend : Option (Nat × Nat) := none
  rMask : Nat := 0
  tMask : Nat := 0
  shown : Option Nat := none
  last : List Int := []
  rSeq : Nat := 0
  tSeq : Nat := 0
  quiet : Option Nat := none
  dout : List Nat := []
  deriving DecidableEq, Repr

/-- One ASRC group (R215 to R217): the tags of the last two input frames, the last valid value of each channel. -/
structure AsrcGrp where
  tags : List Nat := []
  last : List Int := []
  deriving DecidableEq, Repr

/-- The serial audio ports and the ASRC groups. -/
structure Sap where
  ports : List SapPort := [{}, {}, {}, {}]
  grps : List AsrcGrp := [{}, {}]
  deriving DecidableEq, Repr

/-- One capture channel (R222 to R237): invalid samples still to come, whether the interval's end is not yet reported, the last valid value, an over-range sample announced for the next boundary (its sign), recovery samples left, and the local time of the last EV63. -/
structure CapCh where
  left : Nat := 0
  settling : Bool := false
  last : Int := 0
  excess : Option Bool := none
  tail : Nat := 0
  ev63 : Option Nat := none
  deriving DecidableEq, Repr

/-- The capture chain beside its objects: fourteen channels; the retry times of BIAS0 and BIAS1 (R226); the PDM clocks running, and the members of group 0x38 last acted on (R229). -/
structure Cap where
  chans : List CapCh := List.replicate 14 {}
  retry : List (Option Nat) := [none, none]
  clocks : Nat := 0
  lineClk : Nat := 0
  swap : Nat := 0
  chEn : Nat := 0
  deriving DecidableEq, Repr

/-- One block of the history buffer (Table 10-3): its number and its bytes, header included. -/
structure HBlock where
  seq : Nat
  bytes : List Byte
  deriving DecidableEq, Repr

/-- A partial match in progress (R254): the embedding frame it began at, and how many frames its prefix score has stayed below the threshold. -/
structure Partial where
  phrase : Nat
  start : Nat
  low : Nat
  deriving DecidableEq, Repr

/-- The Perimeter beside its objects (R243 to R265): the domain on; its crystal clock running, the end of the settling after the crystal's return; on the media clock, and whether the block in progress and the next are of the 44.1 kHz family; the listening set in use and a committed one that waits for its block boundary; the TIME64 and the local time of the first frame of the block in progress; the ring; what the block in progress is flagged with; microphones settling until a local time; the delay lines of the
microphones, newest first; embedding frames computed; the partial match; the frame at which each phrase's cooldown ends; the barge-in input heard, available, substituted, runs of its samples without and with INV, whether it or the substitution was heard in the block in
progress, and the frames each input has stayed below SILENCE_LEVEL; an enrolment's slot and the local time of its last progress; WAKE_OUT and the end of its pulse; a wake that a detection asks for; and the last EV92. -/
structure Per where
  on : Bool := false
  xtal : Bool := true
  suspUntil : Nat := 0
  media : Bool := false
  rate44 : Bool := false
  nextRate44 : Bool := false
  use : List (Nat × Nat) := []
  setPend : Bool := false
  blockTime : Nat := 0
  blockAt : Nat := 0
  ring : List HBlock := []
  gap : Bool := false
  syn : Bool := false
  ovr : Bool := false
  settle : List (Nat × Nat) := []
  lines : List (List Int) := []
  frame : Nat := 0
  part : Option Partial := none
  cool : List (Nat × Nat) := []
  aec : Bool := false
  avail : Bool := false
  subst : Bool := false
  goodRun : Nat := 0
  badRun : Nat := 0
  heardAec : Bool := false
  heardSubst : Bool := false
  rawQuiet : Nat := 0
  aecQuiet : Nat := 0
  enrol : Option (Nat × Nat) := none
  wakeOut : Bool := false
  wakeEnd : Option Nat := none
  wakeReq : Option Nat := none
  ev92 : Option Nat := none
  deriving DecidableEq, Repr

/-- Tessera memory beside its bytes (R405 to R418): words whose check bits are bad until they are written; the last EV104 and, by bank, the last EV106; regions remapped (bank, region, spare); the ends of the leases of the pool-bank locks held, and the locks a session lost
with its lease (slot, lock); and the space in use in the Facet bank and the pool (start, bytes). -/
structure Tes where
  bad : List Nat := []
  ev104 : Option Nat := none
  ev106 : List (Nat × Nat) := []
  remap : List (Nat × Nat × Nat) := []
  lease : List (Nat × Nat) := []
  lost : List (Nat × Nat) := []
  used : List (Nat × Nat) := []
  deriving DecidableEq, Repr

/-- A TASK record (Table 12-5) with the cost of its longest path and whether it issues DMA. -/
structure ImgTask where
  num : Nat
  block : Nat
  entry : Nat
  ins : Nat
  outs : Nat
  wcet : Nat := 0
  dma : Bool := false
  deriving DecidableEq, Repr

/-- An OUT_PORT record: port, task, source set and program delay. -/
structure ImgPort where
  port : Nat
  task : Nat
  srcs : Nat
  delay : Nat
  deriving DecidableEq, Repr

/-- An ALLOC record, and where the loader put it: in local memory, or at a Tessera address, its own or its partner's. -/
structure ImgAlloc where
  name : Nat
  size : Nat
  place : Nat
  inherit_ : Bool
  zero : Bool
  align : Nat
  loc : Bool := true
  addr : Nat := 0
  shared : Bool := false
  deriving DecidableEq, Repr

/-- A BIND record: the object, its type code, access, group, retention, USER-writable, range, default and variable address. -/
structure ImgBind where
  obj : Nat
  ty : Nat
  acc : Nat
  grp : Nat
  ret : Nat
  user : Bool
  lo : Nat
  hi : Nat
  dflt : Nat
  var : Nat
  deriving DecidableEq, Repr

/-- A GROUP record: the group, its last member's object (0 if none), and its relations as form, three references and constant. -/
structure ImgGroup where
  grp : Nat
  last : Nat
  rels : List (Nat × Nat × Nat × Nat × Nat)
  deriving DecidableEq, Repr

/-- An image as its manifest declares it (Tables 12-4, 12-5): ENV records as power channel, port and lead; PILOT records as power channel and task; PRIM records as primitive, task, call address, channels, S or n, and N; LOOP records as address and maximum; INIT sections as
address and bytes. -/
structure Image where
  id : Nat
  version : Nat
  wide : Bool
  rates : Nat
  keyId : Nat
  enc : Bool
  size : Nat
  tasks : List ImgTask := []
  ports : List ImgPort := []
  allocs : List ImgAlloc := []
  binds : List ImgBind := []
  groups : List ImgGroup := []
  envs : List (Nat × Nat × Nat) := []
  pilots : List (Nat × Nat) := []
  prims : List (Nat × Nat × Nat × Nat × Nat × Nat) := []
  loops : List (Nat × Nat) := []
  inits : List (Nat × List Byte) := []
  deriving DecidableEq, Repr

/-- A DMA transfer issued and not waited for: write or read, allocation, offset, local address, words. -/
structure Dma where
  write : Bool
  alloc : Nat
  off : Nat
  loc : Nat
  words : Nat
  deriving DecidableEq, Repr

/-- The registers of a task (Table 12-1): scalar, vector (four lanes each) and accumulator registers (four lanes each), the address generators as base, length, step and position, the result of the last CMP (0 equal, 1 below, 2 above), the instruction address, the loop stack as
first address, last address and passes left, the call stack, and the DMA transfers outstanding. -/
structure Ctx where
  s : List Nat := List.replicate 32 0
  v : List (List Nat) := List.replicate 16 [0, 0, 0, 0]
  a : List (List Int) := List.replicate 8 [0, 0, 0, 0]
  gen : List (Nat × Nat × Nat × Nat) := [(0, 0, 0, 0), (0, 0, 0, 0), (0, 0, 0, 0), (0, 0, 0, 0)]
  cmp : Nat := 0
  pc : Nat := 0
  loops : List (Nat × Nat × Nat) := []
  calls : List Nat := []
  dma : List Dma := []
  deriving DecidableEq, Repr

/-- A task at work: its registers, the boundary of the release in progress and of the last one, consecutive overruns, the samples stored to output ports (port × 64 + place), the tag bits set and cleared in them, the snapshot of its bound variables and the values to publish (by BIND record), the envelope slots written
(ENV record, peak), and the most cycles a release took. -/
structure TaskRun where
  num : Nat
  ctx : Ctx := {}
  rel : Option Nat := none
  seen : Option Nat := none
  excess : Nat := 0
  vals : List (Nat × Int) := []
  sets : List (Nat × Nat) := []
  clrs : List (Nat × Nat) := []
  snap : List (Nat × Nat) := []
  publ : List (Nat × Nat) := []
  envs : List (Nat × Nat) := []
  observed : Nat := 0
  deriving DecidableEq, Repr

/-- An image bank: the image, its half of local memory, its tasks, the output blocks produced (port, first boundary, samples as value and bits set and cleared), and for each output port the boundary from which its tag pipeline holds real tags; and the boundary its first blocks begin at. -/
structure Bank where
  img : Image
  mem : List Host.Cell := []
  tasks : List TaskRun := []
  outs : List (Nat × Nat × List (Int × Nat × Nat)) := []
  pipe : List (Nat × Nat) := []
  since : Nat := 0
  deriving DecidableEq, Repr

/-- An engine beside its objects (R286 to R320): its banks; the boundaries of a pending start, stop, swap and clock change; the boundary the outgoing image's outputs end at after a swap; the clock at 400 MHz; RUNNING when READY was last left; the input port samples by boundary, newest first, and the runs of input tags by
port, newest first; the value each output port holds; fenced; the retry of AUTO_RECOVER and its times; the last EV98; a standby image that failed the check of R319; and the Locus slot a pending swap came from. -/
structure Eng where
  active : Option Bank := none
  standby : Option Bank := none
  startAt : Option Nat := none
  stopAt : Option Nat := none
  swapAt : Option Nat := none
  clkAt : Option (Nat × Bool) := none
  drain : Option Nat := none
  slow : Bool := false
  resume : Bool := false
  ins : List (Nat × List (Nat × Smp)) := []
  hist : List (Nat × List (Nat × Nat)) := []
  last : List (Nat × Int) := []
  fenced : Bool := false
  recoverAt : Option Nat := none
  recovers : List Nat := []
  ev98 : Option Nat := none
  standbyBad : Bool := false
  swapKey : Option Nat := none
  deriving DecidableEq, Repr

/-- The Facet array, the loader and the boot store: eight engines; the staging area, its owner and the time of the last chunk, and checks in progress; the boot slots with what their checks find; the MRAM region of class P user objects (object, type, value); the envelope records that wait for the boost
(power channel, first boundary, block, peak); the delay lines' positions by Tessera address; and the user objects of a restored snapshot (object, type, value). -/
structure Fac where
  engs : List Eng := [{}, {}, {}, {}, {}, {}, {}, {}]
  staged : List Byte := []
  owner : Option Nat := none
  chunkAt : Nat := 0
  checking : Bool := false
  boot : List (Nat × List Byte × Verdict) := []
  pvals : List (Nat × Nat × Nat) := []
  envQ : List (Nat × Nat × Nat × Nat) := []
  dly : List (Nat × Nat) := []
  restore : List (Nat × Nat × Nat) := []
  deriving DecidableEq, Repr

/-- One power channel (R323 to R347): the end of the ramp in progress; the mute ramp's gain in samples of its length, whether it rises; a common-mode ramp down that follows; a soft restart in progress; its gate-drive supply down; the retry due and the starts of the retries; the two demands on
their way to the terminals; the power-limit gain in 10^-9, the integrator in 10^-10 J and the continuous limit last in force in uW, 0.1 ms steps with P_LIMITING and the flag itself, the last EV75 and EV79, the last cut period; the demand's clipping; consecutive valid impedances
below, above and within the bounds, the voice-coil factor in 10^-5; and the last sensed current and voltage. -/
structure PwrCh where
  due : Option Nat := none
  gain : Nat := 0
  up : Bool := false
  ramping : Bool := false
  stop : Bool := false
  soft : Bool := false
  gate : Bool := false
  retryAt : Option Nat := none
  retries : List Nat := []
  pipe : List Int := [0, 0]
  g : Nat := 1000000000
  e : Nat := 0
  lim : Nat := 50000000
  steps : Nat := 0
  limiting : Bool := false
  ev75 : Option Nat := none
  ev79 : Option Nat := none
  cutAt : Option Nat := none
  clip : Bool := false
  low : Nat := 0
  high : Nat := 0
  inLow : Nat := 0
  inHigh : Nat := 0
  fvc : Nat := 100000
  current : Int := 0
  volt : Int := 0
  deriving DecidableEq, Repr

/-- The power stage (R322 to R348): the dies powered, and the channels allowed to start; the channels; the device's integrator, gain, limit, steps and flag; the pairs bridged, and the pairs whose change waits (1 to be stopped, 2 restarted); the dies cut off by their sample link; the dies
whose channels stay muted until SAFE is left; the factor of each die in 10^-5; PVDD over 45 V; and the local time the dies lost power. -/
structure Pwr where
  on : Bool := false
  go : Bool := false
  chans : List PwrCh := List.replicate 8 {}
  dev : PwrCh := { lim := 240000000 }
  pairs : List Bool := [false, false, false, false]
  recon : List Nat := [0, 0, 0, 0]
  cut : Nat := 0
  dieMute : Nat := 0
  fdie : List Nat := [100000, 100000]
  ov : Bool := false
  offAt : Option Nat := none
  deriving DecidableEq, Repr

/-- The boost (R349 to R366): PVDD, VIN in 10 mV and the input current in 10 mA as last measured; the command in uV; the envelope records by channel, oldest first (first boundary, last boundary, peak); the channels that wait for records after an epoch step; the phases in use; phases disabled
for imbalance and for their gate drive; the flags of `6210.01` that the commands set; the start of the time within 1 V of the target; the restart after a short and the times of the shorts; and the last EV82, EV83 and EV84 of the limited kinds. -/
structure Bst where
  vin : Nat := 0
  pvdd : Nat := 0
  iin : Nat := 0
  cmd : Nat := 0
  recs : List (List (Nat × Nat × Nat)) := List.replicate 8 []
  await : List Nat := []
  phases : Nat := 0
  disabled : Nat := 0
  gates : Nat := 0
  flags : Nat := 0
  goodAt : Option Nat := none
  restartAt : Option Nat := none
  shorts : List Nat := []
  ev82 : Option Nat := none
  ev83 : Option Nat := none
  factor : Nat := 100000
  deriving DecidableEq, Repr

/-- The headphone or the line output (R367 to R372): the start of the sequence in progress; the signal gain and its safe or range mute in samples of a 5 ms ramp; the range in force and the stage of a change of it (1 muting, 2 unmuting); the jack mute and its gain over the product of a 1 ms and a 5 ms ramp; the volumes
in 0.5 dB as they stand; the retry after a fault and whether the start is one. -/
structure OutCh where
  since : Nat := 0
  gain : Nat := 0
  mute : Nat := 0
  range : Nat := 0
  stage : Nat := 0
  jack : Bool := false
  jackGain : Nat := 0
  vols : List Int := [0, 0]
  retryAt : Option Nat := none
  retry : Bool := false
  deriving DecidableEq, Repr

/-- The headphone and line outputs and the jack: the two outputs; the four samples on their way to the pins by boundary, oldest first; the start of an identification, BIAS1 connected to the jack, and BIAS1 turned on for it. -/
structure Hp where
  outs : List OutCh := [{}, {}]
  pipe : List (List Int) := List.replicate 16 [0, 0, 0, 0]
  ident : Option Nat := none
  biasJack : Bool := false
  deriving DecidableEq, Repr

/-- One AUX channel (R377 to R385): RANGE not written since its class O objects were lost; the range in force; the end of the 200 us after a RANGE write; a strobe taken and its time; a held value of the IMMEDIATE group written; the clear state kept after CLEAR_N rose; the clear state last reported; the values in force; a phase
to be loaded, the phase in 2^-34 of a cycle; the waveform's phase in 2^-34, whether it plays, has reached its end, and its restart; the value at the last carrier period known; and the local time compliance was last lost. -/
structure AuxCh where
  fresh : Bool := true
  range : Nat := 0
  pend : Option Nat := none
  arm : Option Nat := none
  dirty : Bool := false
  await : Bool := false
  clear : Bool := true
  code : Nat := 0
  source : Nat := 0
  freq : Nat := 0
  ampl : Nat := 0
  offset : Nat := 0x8000
  len : Nat := 0
  rate : Nat := 1000
  mode : Nat := 0
  phaseDue : Bool := false
  phi : Nat := 0
  wphi : Nat := 0
  play : Bool := false
  ended : Bool := false
  restart : Bool := false
  value : Nat := 0
  lostAt : Option Nat := none
  deriving DecidableEq, Repr

/-- The AUX outputs: eight channels, CLEAR_N low, the pool addresses of the two waveforms, and the base-rate phase of the boundary. -/
structure Aux where
  chans : List AuxCh := List.replicate 8 {}
  clearN : Bool := false
  waves : List (Option Nat) := [none, none]
  sub : Nat := 0
  deriving DecidableEq, Repr

/-- What the converter converts (R391, R396, R399, R400): an entry of the sequence, an urgent request (input, ACQ), or a monitor input of the cycle. -/
inductive Conv where
  | seq (q : Nat)
  | urgent (input acq : Nat)
  | monitor (m : Nat)
  deriving DecidableEq, Repr

/-- The housekeeping converter (R389 to R402): the conversion in progress; an entry's conversions so far with their sum and flags; the sequence active, a stop asked for, the entry the pass is at; the urgent and monitor requests that wait, and the place in the monitor cycle; a calibration that waits or runs, its start, and a pass
to restart after it; the last conversion out of range; the last EV127 of that kind; the period and the monitor interval last acted on; and the temperatures of the last 1 ms (input, local time, code). -/
structure Hka where
  conv : Option Conv := none
  void : Bool := false
  done : Nat := 0
  sum : Nat := 0
  flags : Nat := 0
  allOut : Bool := true
  active : Bool := false
  stop : Bool := false
  pass : Option Nat := none
  urgent : Option (Nat × Nat) := none
  mons : List Nat := []
  cycle : Nat := 0
  calWait : Bool := false
  calAt : Option Nat := none
  again : Bool := false
  out : Bool := false
  ev127 : Option Nat := none
  trig : Nat := 0
  mon : Nat := 0
  temps : List (Nat × Nat × Nat) := []
  deriving DecidableEq, Repr

/-- A handover under way (R438): its boundary S and cause; granted; S passed and DONE awaited; and whether the ACTIVE leaves by it. -/
structure Hand where
  s : Nat
  cause : Nat
  granted : Bool := false
  passed : Bool := false
  leaving : Bool := false
  deriving DecidableEq, Repr

/-- A mirrored write or commit that acts at a boundary (R424): one this twin accepted as the ACTIVE, or one its partner sent. -/
structure Mirror where
  at_ : Nat
  key : Nat
  access : Access
  own : Bool
  deriving DecidableEq, Repr

/-- The twin and the Chord link (R420 to R443): the strap; FENCE_OUT_N asserted and since when; FENCE_IN_N low; no claim alone until POR or BOR (R436); the local time of the CHORD bit and of the last HEARTBEAT with its flags and Sync count; the ends of the endpoint and grandmaster leases; the partner's channel count; the SAMPLES frames received by
boundary, the last values of the receive nodes and the sources of the last 65 boundaries, newest first; heartbeats out of step in succession and since when they agree, the last EV117; the handover under way, FAILOVER set; the boundary from which, and the one up to which, this twin launches; mirrored writes that wait; and the last frame sent with
the count of frames. -/
structure Twin where
  id : Bool := false
  fenceOut : Bool := false
  fenceOutAt : Nat := 0
  fenceIn : Bool := false
  barred : Bool := false
  upAt : Nat := 0
  beatAt : Nat := 0
  flags : Nat := 0
  syncs : Nat := 0
  endLease : Nat := 0
  gmLease : Nat := 0
  channels : Nat := 0
  frames : List (Nat × List (Int × Nat)) := []
  last : List (Nat × Int) := []
  hist : List (List (Nat × Smp)) := []
  apart : Nat := 0
  agreeAt : Option Nat := none
  ev117 : Option Nat := none
  hand : Option Hand := none
  failover : Bool := false
  launchFrom : Nat := 0
  launchTo : Nat := 0
  mirror : List Mirror := []
  wire : List Byte := []
  sent : Nat := 0
  deriving DecidableEq, Repr

/-- A challenge (Table 19-8): the level asked for, when it was formed, and the lifecycle state and transition count it carries. -/
structure Chal where
  level : Nat
  at_ : Nat
  life : Nat
  count : Nat
  deriving DecidableEq, Repr

/-- A token that is being verified (R455): the path it came on (none for the debug port), the level of its challenge, and whether it came in time, unused, with the lifecycle unchanged. -/
structure Tok where
  path : Option Path
  level : Nat
  timely : Bool
  deriving DecidableEq, Repr

/-- The test access port (R459): the instruction in its register, the boundary-scan register, how the scanned pins are driven (0 by the part, 1 by EXTEST, 2 by CLAMP, 3 high impedance), the bits last shifted out, whether the last debug transaction was outside its reach, and the engines that the debugger holds halted with the steps it has granted (R460). -/
structure Tap where
  ir : Nat := 1
  bsr : Nat := 0
  drive : Nat := 0
  out : Nat := 0
  err : Bool := false
  halted : Nat := 0
  steps : List Nat := [0, 0, 0, 0, 0, 0, 0, 0]
  deriving DecidableEq, Repr

/-- The security function (R444 to R461): the root secret, the secret slots of the MRAM region, ERASE_PENDING with its target state, ERASE_FAILED, SECRET_ERASED and TRNG_FAULT; the challenge, the token being verified, the end of a lockout; whether the erase last tried read back wrong; the level of the open under way, the level the port is
open at, the times of the OPEN frames verified in the last second, the local and instruction memory words the debugger has written (engine × 2^32 + space × 2^31 + address), and the test access port. -/
structure Sec where
  root : Option Nat := none
  secrets : List (Nat × List Byte) := []
  pending : Option Nat := none
  failed : Bool := false
  erased : Bool := false
  trngFault : Bool := false
  chal : Option Chal := none
  verify : Option Tok := none
  lockEnd : Option Nat := none
  eraseBad : Bool := false
  opening : Option Nat := none
  port : Nat := 0
  opens : List Nat := []
  words : List (Nat × Nat) := []
  tap : Tap := {}
  deriving DecidableEq, Repr

end Sys2Proof.Machine
end

