-- ==== Sys2Proof/Machine/State.lean ====
section
/-! DEFINITION. The state of the HX4816: the queue of waiting commands, the Tessera memory, and the part itself; the state right after reset; and the reasons a
step can stop. -/
namespace Sys2Proof.Machine

/-- The part itself: the dictionary's values, each subsystem's own state, and the model's own fields: `now`, the local time in ns of the 250 MHz tick since power was
first applied; `free`, the counter of free values used; `stores`, the bytes one command stores to Tessera memory, empty between commands. -/
structure Dev where
  st : Store := {}
  now : Nat := 0
  free : Nat := 0
  bus : Bus := {}
  sup : Sup := {}
  evt : Evt := {}
  loc : Loc := {}
  tim : Tim := {}
  bb : Bb := {}
  clk : Clk := {}
  med : Med := {}
  net : Net := {}
  lat : Lat := {}
  str : Str := {}
  sap : Sap := {}
  cap : Cap := {}
  per : Per := {}
  tes : Tes := {}
  fac : Fac := {}
  pwr : Pwr := {}
  bst : Bst := {}
  hp : Hp := {}
  aux : Aux := {}
  hka : Hka := {}
  twin : Twin := {}
  sec : Sec := {}
  stores : List Host.Cell := []
  deriving DecidableEq, Repr

/-- The whole state: `pending`, the commands that wait, first in, first out; `mem`, the bytes of Tessera memory (R406) that do not read 0, in rising order of
address; and the part. -/
structure State where
  pending : List Instr
  mem : List Host.Cell
  dev : Dev
  deriving DecidableEq, Repr

/-- The reasons a step stops with a fault. The block has none: every happening the spec names has an effect. -/
inductive Fault where
  /-- Raised by no command; kept so that the type of outcomes names a fault. Safe. -/
  | none
  deriving DecidableEq, Repr

/-- The reasons a step gives a command no meaning. -/
inductive Refusal where
  /-- Raised by the arm of a command that has no meaning in this model yet. Safe. -/
  | notModelled (mnemonic : String)
  deriving DecidableEq, Repr

/-- The part right after the power-on reset: steps 1 to 4 of Table 3-7 have passed, so it is in BRINGUP (mode 1) with the MRAM and PERIMETER bits set, each of which
raised EV2, held until EVENTS is set (R73, R78). Every object not listed has its default. -/
def Dev.reset : Dev :=
  { st := { obj := [(0x110100, 1), (0x111000, 0x20004), (0x130002, 2)] }
    evt := { held := [2, 2] } }

/-- The state right after reset: no command waits, memory lists nothing (R405). -/
def State.reset : State := { pending := [], mem := [], dev := Dev.reset }

end Sys2Proof.Machine
end

