-- ==== Sys2Proof/Machine/Ops.lean ====
section
/-! DEFINITION. The named operations every chapter uses: reading and writing objects, ready bits, network time, events, the interrupt pins, the error log, black-box records,
SAFE causes, leases of time, and the one shape every command's effect has. -/
namespace Sys2Proof.Machine

/-- The effect of a command that stores to Tessera memory: a function of memory and of the part, whose stores are then made in memory. -/
def State.run (s : State) (f : List Host.Cell → Dev → Dev) : State :=
  let d := f s.mem s.dev
  { s with mem := memWriteAll d.stores s.mem, dev := { d with stores := [] } }

/-- The effect of a command that may read memory and stores nothing there. -/
def State.quiet (s : State) (f : List Host.Cell → Dev → Dev) : State := { s with dev := { f s.mem s.dev with stores := s.dev.stores } }

/-- The effect of a command that neither reads nor stores memory. -/
def State.act (s : State) (f : Dev → Dev) : State := s.quiet (fun _ d => f d)

/-! Objects by name -/

abbrev kModeRequest : Nat := 0x110000
abbrev kMode : Nat := 0x110100
abbrev kModeStatus : Nat := 0x110200
abbrev kBootMode : Nat := 0x110300
abbrev kSafeCause : Nat := 0x110400
abbrev kSafeReturn : Nat := 0x110500
abbrev kReady : Nat := 0x111000
abbrev kResetCause : Nat := 0x112000
abbrev kTaint : Nat := 0x115200
abbrev kErrCount : Nat := 0x122000
abbrev kEpoch : Nat := 0x220200
abbrev kTimeState : Nat := 0x220500
abbrev kLifecycle : Nat := 0x710000

/-! Error codes, Table 2-5 -/

abbrev eOk : Nat := 0
abbrev eNoObject : Nat := 1
abbrev eType : Nat := 2
abbrev eRange : Nat := 3
abbrev eAccess : Nat := 4
abbrev ePrivilege : Nat := 5
abbrev eNotReady : Nat := 6
abbrev eAgree : Nat := 7
abbrev eBusy : Nat := 8
abbrev eLocked : Nat := 9
abbrev eLifecycle : Nat := 10
abbrev eTimePast : Nat := 11

/-- The codes in the order of the Precedence column (R41). -/
def errOrder : List Nat := [eNoObject, eLifecycle, ePrivilege, eAccess, eType, eNotReady, eLocked, eRange, eTimePast, eBusy, eAgree]

/-- Of the codes that apply, the one listed first; OK where none applies (R41). -/
def firstError (l : List Nat) : Nat := match errOrder.find? (fun e => l.contains e) with | some e => e | none => eOk

/-- A code that applies where a condition holds. -/
def errIf (c : Bool) (e : Nat) : List Nat := if c then [e] else []

/-! Reading and writing objects -/

/-- The default of an object: of its map, or the value another object or the manufacture gives it (Tables 3-2, 6-8, 19-3). -/
def Dev.dflt (d : Dev) (k : Nat) : Nat :=
  if k = kModeRequest then (match assoc kBootMode d.st.obj with | some v => v | none => 4)
  else if k = 0x330000 || k = 0x330100 then Config.factoryMac % 2 ^ 48
  else if k = 0x710300 then Config.deviceUid % 2 ^ 64
  else objDefault k

/-- The committed value of an object held as a number. -/
def Dev.get (d : Dev) (k : Nat) : Nat := match assoc k d.st.obj with | some v => v | none => d.dflt k

/-- The part with the committed value of an object set. -/
def Dev.put (k v : Nat) (d : Dev) : Dev := { d with st := { d.st with obj := assocPut k v d.st.obj } }

/-- A signed object's value. -/
def Dev.getI (d : Dev) (w k : Nat) : Int := toInt w (d.get k)

/-- A signed object set, saturating to its width. -/
def Dev.putI (w k : Nat) (i : Int) (d : Dev) : Dev := d.put k (ofInt w (satS w i))

/-- A saturating counter of `w` bits increased. -/
def Dev.bump (w k n : Nat) (d : Dev) : Dev := d.put k (satAdd w (d.get k) n)

/-- A 32-bit saturating counter increased by 1. -/
def Dev.inc (k : Nat) (d : Dev) : Dev := d.bump 32 k 1

/-- A 64-bit ledger count increased. -/
def Dev.add64 (k n : Nat) (d : Dev) : Dev := d.put k ((d.get k + n) % 2 ^ 64)

/-- Bit `i` of an object. -/
def Dev.bitOf (d : Dev) (k i : Nat) : Bool := bit (d.get k) i

/-- Bit `i` of an object set or cleared. -/
def Dev.putBit (k i : Nat) (b : Bool) (d : Dev) : Dev := d.put k (setBit (d.get k) i b)

/-- Field [hi:lo] of an object set. -/
def Dev.putFld (k hi lo v : Nat) (d : Dev) : Dev := d.put k (setFld (d.get k) hi lo v)

/-- The committed bytes of a BLOB or STRING: zeros of its size by default, the empty STRING for `1233.00`. -/
def Dev.blobOf (d : Dev) (k : Nat) : List Byte :=
  match assoc k d.st.blob with
  | some b => b
  | none => match objRow k with
    | some r => if r.ty == .str then [] else zeros r.size
    | none => []

/-- The generation count of a BLOB or STRING (R38). -/
def Dev.genOf (d : Dev) (k : Nat) : Nat := match assoc k d.st.gen with | some g => g | none => 0

/-- A BLOB or STRING changed whole: its bytes, and its GEN one higher (R38). -/
def Dev.putBlob (k : Nat) (b : List Byte) (d : Dev) : Dev :=
  { d with st := { d.st with blob := assocPut k b d.st.blob, gen := assocPut k ((d.genOf k + 1) % 65536) d.st.gen } }

/-- The GEN of a BLOB whose content changes other than by a write: one higher (R38). -/
def Dev.genUp (k : Nat) (d : Dev) : Dev := { d with st := { d.st with gen := assocPut k ((d.genOf k + 1) % 65536) d.st.gen } }

/-- The staged value of a member, or its committed value if none is staged (R27, R39). -/
def Dev.view (d : Dev) (k : Nat) : Nat := match assoc k d.st.staged with | some v => v | none => d.get k

/-- The staged bytes of a member, or its committed bytes. -/
def Dev.viewBlob (d : Dev) (k : Nat) : List Byte := match assoc k d.st.stagedBlob with | some b => b | none => d.blobOf k

/-- A chain of changes made from left to right. -/
def Dev.does (d : Dev) (l : List (Dev → Dev)) : Dev := l.foldl (fun a f => f a) d

/-- A change made only where a condition holds. -/
def Dev.when (c : Bool) (f : Dev → Dev) (d : Dev) : Dev := if c then f d else d

/-- A fresh free value, and the part with the count of free values advanced (assumption log 3). -/
def Dev.fresh (d : Dev) : Nat × Dev := (Config.free d.free, { d with free := d.free + 1 })

/-! Modes and ready bits -/

/-- The current mode, 1101.00. -/
def Dev.mode (d : Dev) : Nat := d.get kMode

/-- A ready bit of 1110.00, Table 1-12. -/
def Dev.ready (d : Dev) (i : Nat) : Bool := d.bitOf kReady i

/-- The lifecycle state, 7100.00. -/
def Dev.life (d : Dev) : Nat := d.get kLifecycle

/-- The mode whose settings apply: the held mode while in SAFE, the current mode otherwise. -/
def Dev.effMode (d : Dev) : Nat := if d.mode = 9 then d.sup.heldMode else d.mode

/-- Audio runs: READY, PLAY, PLAY-ECO, DIAGNOSE, or SAFE held from one of these. -/
def Dev.audioRuns (d : Dev) : Bool := let m := d.effMode; m = 5 || m = 6 || m = 7 || m = 8

/-! Network time -/

/-- The counter's TIME64 value (R116). -/
def Dev.time64 (d : Dev) : Nat := d.tim.sec * 1000000000 + d.tim.ns

/-- The TIME function is ready, bit [5]. -/
def Dev.timeReady (d : Dev) : Bool := d.ready 5

/-- TIME64 as records carry it: 0 while TIME is not ready. -/
def Dev.stamp (d : Dev) : Nat := if d.timeReady then d.time64 else 0

/-- The Lattice rate in Hz of a code of 2100.00. -/
def rateHz (c : Nat) : Nat := nthD 48000 [44100, 48000, 88200, 96000, 176400, 192000] c

/-- The committed Lattice rate in Hz. -/
def Dev.fs (d : Dev) : Nat := rateHz (d.get 0x210000)

/-- The nominal time of media boundary `n` (R15). -/
def boundaryTime (fs n : Nat) : Nat := n * 1000000000 / fs

/-- The index of the first media boundary whose nominal time is at or after `t` (R14, R15). -/
def boundaryAt (fs t : Nat) : Nat :=
  let n := t * fs / 1000000000
  if boundaryTime fs n ≥ t then n
  else if boundaryTime fs (n + 1) ≥ t then n + 1 else n + 2

/-! Events and interrupt pins -/

/-- Some event or GPIO edge flag enabled on IRQn is pending (R474, R478). -/
def Dev.irqPending (d : Dev) (n : Nat) : Bool :=
  (upto 4).any (fun k => d.get (key 0x1302 k) &&& d.get (key (0x1310 + n) k) != 0)
    || d.get 0x140400 &&& d.get (key 0x1318 n) != 0

/-- IRQn is in PULSE mode. -/
def Dev.irqPulsed (d : Dev) (n : Nat) : Bool := d.bitOf (key 0x1314 n) 0

/-- The pins of IRQ0 to IRQ3 as their flags, masks and pulses leave them (R474): inactive while EVENTS is clear (R475). -/
def Dev.irqSettle (d : Dev) : Dev :=
  (upto 4).foldl (fun a n =>
    let on := a.ready 28 && (if a.irqPulsed n then (nthD {} a.evt.pulses n).phase == 1 else a.irqPending n)
    a.put (key 0x1317 n) (b2n on)) d

/-- An occurrence enabled on a pin in PULSE mode: it starts a pulse, or queues one further pulse while a pulse or its gap runs (R474). -/
def Dev.pulseOn (n : Nat) (d : Dev) : Dev :=
  if d.irqPulsed n then
    let w := d.get (key 0x1315 n)
    { d with evt := { d.evt with pulses := modNth (fun p =>
        if p.phase = 0 then { phase := 1, endAt := d.now + w, more := false } else { p with more := true }) d.evt.pulses n } }
  else d

/-- The 64 event-to-action entries bound to an event and enabled, in ascending entry order (R139). -/
def Dev.e2aFor (d : Dev) (e : Nat) : List QAct :=
  (upto 64).filterMap (fun i =>
    let b := d.blobOf (key 0x1340 i)
    if fieldAt 0 1 b = e && fieldAt 1 1 b != 0 && bit (fieldAt 2 1 b) 0 then
      some { src := key 0x1340 i, action := fieldAt 1 1 b, hold := bit (fieldAt 2 1 b) 2, target := fieldAt 4 4 b, value := fieldAt 8 8 b,
             tag := fieldAt 16 2 b, at_ := d.now }
    else none)

/-- An entry with ONCE set loses ENABLE after it has fired (R138). -/
def Dev.e2aOnce (k : Nat) (d : Dev) : Dev :=
  let b := d.blobOf k
  if bit (fieldAt 2 1 b) 1 then d.putBlob k (modNth (fun f => f &&& 0xFE#8) b 2) else d

/-- The counter of an event (R471): a counter at the top stays and sets the overflow flag. -/
def Dev.countEvent (e : Nat) (d : Dev) : Dev :=
  let k := key 0x1300 e
  if d.get k = 0xFFFFFFFF then d.putBit (key 0x1301 (e / 32)) (e % 32) true else d.put k (d.get k + 1)

/-- An occurrence reaches its pending flag and the pins (R471, R474). -/
def Dev.route (e : Nat) (d : Dev) : Dev :=
  let d := d.putBit (key 0x1302 (e / 32)) (e % 32) true
  let d := (upto 4).foldl (fun a n => if a.bitOf (key (0x1310 + n) (e / 32)) (e % 32) then a.pulseOn n else a) d
  d.irqSettle

/-- An occurrence raised by an event-to-action action: counted and routed, no entry triggered (R139); while EVENTS is clear it is counted and held (R73, R263). -/
def Dev.raiseQuiet (e : Nat) (d : Dev) : Dev :=
  let d := d.countEvent e
  if d.ready 28 then d.route e else { d with evt := { d.evt with held := d.evt.held ++ [e] } }

/-- An action offered to the queue of 32: dropped with EV30 and counted in 1341.00 where the queue is full (R139). -/
def Dev.offer (q : QAct) (d : Dev) : Dev :=
  if d.evt.queue.length < 32 then { d with evt := { d.evt with queue := d.evt.queue ++ [q] } }
  else (d.inc 0x134100).raiseQuiet 30

/-- The actions of every enabled entry bound to an event are queued (R139). -/
def Dev.trigger (e : Nat) (d : Dev) : Dev := (d.e2aFor e).foldl (fun a q => (a.offer q).e2aOnce q.src) d

/-- An occurrence of an event (R471): counted; with EVENTS set it reaches flags, pins and entries, and with EVENTS clear it is held until EVENTS is set (R73, R263). -/
def Dev.raise (e : Nat) (d : Dev) : Dev :=
  let d := d.countEvent e
  if d.ready 28 then (d.route e).trigger e else { d with evt := { d.evt with held := d.evt.held ++ [e] } }

/-- The occurrences held while EVENTS was clear are delivered (R73, R263). -/
def Dev.deliverHeld (d : Dev) : Dev :=
  let l := d.evt.held
  l.foldl (fun a e => (a.route e).trigger e) { d with evt := { d.evt with held := [] } }

/-- Ready bits cleared and set; a change of 1110.00 raises EV2 (R34). -/
def Dev.setReady (on off : Nat) (d : Dev) : Dev :=
  let v := clearBits (d.get kReady) off ||| on
  if v = d.get kReady then d else (d.put kReady v).raise 2

/-! The error log -/

/-- An entry of the error log, Table 2-6, in ring slot number modulo 16 (R44). -/
def Dev.logError (index sub code source session rule : Nat) (d : Dev) : Dev :=
  let e := leBytes 8 d.stamp ++ leBytes 2 index ++ leBytes 1 sub ++ leBytes 1 code ++ leBytes 1 source ++ leBytes 1 session ++ leBytes 2 rule
  let d := (d.putBlob (key 0x1221 (d.bus.errNext % 16)) e).inc kErrCount
  { d with bus := { d.bus with errNext := d.bus.errNext + 1 } }

/-! Taint and leases -/

/-- A cause that voids R23 sets its bit of 1152.00; a bit newly set raises EV4 (R25). -/
def Dev.taint (i : Nat) (d : Dev) : Dev := if d.bitOf kTaint i then d else (d.putBit kTaint i true).raise 4

/-! Black-box records -/

/-- Milliseconds since the last POR or BOR (Table 19-13). -/
def Dev.uptime (d : Dev) : Nat := (d.now - d.sup.bootAt) / 1000000 % 2 ^ 32

/-- A monitor value of 6360.0m in the unit of Table 19-13: `num` steps over the full scale of 65 536 codes; 0xFF while the HKA is unpowered or has not measured it
(the value 0 of a monitor that no conversion has written). -/
def Dev.bbMon (d : Dev) (m num : Nat) : Nat :=
  match assoc (key 0x6360 m) d.st.obj with
  | none => 0xFF
  | some v => if d.ready 25 then min 0xFE (v * num / 65536) else 0xFF

/-- A temperature of 6360.0m in degrees C + 50: codes of 0.004 degrees C from -50 degrees (Table 16-1). -/
def Dev.bbTemp (d : Dev) (m : Nat) : Nat :=
  match assoc (key 0x6360 m) d.st.obj with
  | none => 0xFF
  | some v => if d.ready 25 then min 0xFE (v / 250) else 0xFF

/-- The 32 bytes of a record (Table 19-13). -/
def Dev.bbBytes (d : Dev) (kind severity code unit ctx0 ctx1 : Nat) : List Byte :=
  let b := leBytes 1 (kind + 16 * severity) ++ leBytes 1 code ++ leBytes 8 d.stamp ++ leBytes 4 d.uptime ++ leBytes 1 (d.mode + 16 * d.life) ++ leBytes 1 unit
    ++ leBytes 1 (d.bbTemp 4) ++ leBytes 1 (d.bbTemp 5) ++ leBytes 1 (d.bbTemp 6) ++ leBytes 1 (d.bbTemp 7)
    ++ leBytes 1 (d.bbMon 0 200) ++ leBytes 1 (d.bbMon 1 250) ++ leBytes 4 ctx0 ++ leBytes 4 ctx1
  b ++ leBytes 2 (crc16 b)

/-- A record written whole to its ring slot, record n in slot n mod 2016, and the count advanced (R464): the record it overwrites is gone, BB_OLDEST and BB_READ
move with it, and a FATAL record that is no twin copy is pinned while a pinned slot is free (R466). A record of severity ERROR or FATAL raises EV122 (Table 19-17). -/
def Dev.bbStore (r : List Byte) (d : Dev) : Dev :=
  let n := d.get 0x720000
  let t := fieldAt 0 1 r
  let sev := fld t 5 4
  let d := { d with bb := { d.bb with ring := assocPut n r (if n < 2016 then d.bb.ring else assocDel (n - 2016) d.bb.ring) } }
  let d := d.put 0x720000 (satAdd 32 n 1)
  let old := max (d.get 0x720000 - 2016) d.bb.cleared
  let d := d.put 0x720300 old
  let d := if d.get 0x720100 < old then (d.put 0x720100 old).genUp 0x720200 else if d.get 0x720100 = n then d.genUp 0x720200 else d
  let d := if sev = 3 && !bit t 6 && d.bb.pinned.length < 32 then
      let d := { d with bb := { d.bb with pinned := d.bb.pinned ++ [r] } }
      (d.put 0x720500 d.bb.pinned.length).genUp (key 0x7204 (d.bb.pinned.length - 1))
    else d
  if sev ≥ 2 then d.raise 122 else d

/-- A black-box record is formed and queued for MRAM; a full queue loses it, and while the Core domain is unpowered it is written at once (R463, R464). -/
def Dev.bbMake (kind severity code unit ctx0 ctx1 : Nat) (d : Dev) : Dev :=
  let r := d.bbBytes kind severity code unit ctx0 ctx1
  if !d.sup.coreOn then d.bbStore r
  else if d.bb.queue.length < 16 then { d with bb := { d.bb with queue := d.bb.queue ++ [r] } }
  else (d.inc 0x720700).raise 122

/-! SAFE causes -/

/-- SAFE is entered with the mode last fully entered as the held mode; the earlier target is discarded (R74, R76). -/
def Dev.enterSafe (d : Dev) : Dev :=
  let m := d.mode
  let d := { d with sup := { d.sup with heldMode := m } }
  d.does [Dev.put kMode 9, Dev.put kModeRequest 9, Dev.raise 8, Dev.raise 1]

/-- The modes SAFE is entered from: 4 to 8 and 11 (R74). -/
def safeFrom (m : Nat) : Bool := (4 ≤ m && m ≤ 8) || m = 11

/-- A transition step is in progress, 1102.00 [0]. -/
def Dev.inStep (d : Dev) : Bool := d.bitOf kModeStatus 0

/-- A SAFE cause of Table 3-4 arises: its bit is set and a black-box record made. From modes 4 to 8 and 11 SAFE is entered, in SAFE EV8 is raised again, and during a
transition step or below LINKED the entry waits for the mode that step enters (R74, R76). -/
def Dev.causeSet (i : Nat) (d : Dev) : Dev :=
  if d.bitOf kSafeCause i then d
  else
    let d := d.putBit kSafeCause i true
    let d := { d with sup := { d.sup with causesClear := none } }
    let d := d.bbMake 2 1 8 i (d.get kSafeCause) (if safeFrom d.mode then d.mode else d.sup.heldMode)
    if d.mode = 9 then d.raise 8
    else if d.inStep then d
    else if safeFrom d.mode then d.enterSafe
    else d

/-- The clearing condition of a SAFE cause holds: its bit clears, and with the last one the time of R75 starts. -/
def Dev.causeClear (i : Nat) (d : Dev) : Dev :=
  if d.bitOf kSafeCause i then
    let d := d.putBit kSafeCause i false
    if d.get kSafeCause = 0 then { d with sup := { d.sup with causesClear := some d.now } } else d
  else d

end Sys2Proof.Machine
end

