-- ==== Sys2Proof/Machine/Events.lean ====
section
/-! DEFINITION. The event fabric's host side and the GPIO pins (R473 to R478). -/
namespace Sys2Proof.Machine

/-- Each 1 written to 1303.0k clears the matching pending flag; counters stay (R473). -/
def Dev.evClear (k v : Nat) (d : Dev) : Dev := (d.put (key 0x1302 k) (clearBits (d.get (key 0x1302 k)) v)).irqSettle

/-- A change of IRQ_CONFIG restarts the pin in its new mode: from PULSE to LEVEL it asserts at once if an enabled flag is pending (R475). -/
def Dev.irqConfigured (n : Nat) (d : Dev) : Dev :=
  let d := if d.irqPulsed n then d else { d with evt := { d.evt with pulses := modNth (fun _ => {}) d.evt.pulses n } }
  d.irqSettle

/-- A pulse has lasted PULSE_WIDTH and its gap begins (R474). -/
def Dev.pulseEnd (n : Nat) (d : Dev) : Dev :=
  let p := nthD {} d.evt.pulses n
  if n < 4 && p.phase = 1 && p.endAt ≤ d.now then
    let w := d.get (key 0x1315 n)
    { d with evt := { d.evt with pulses := modNth (fun q => { q with phase := 2, endAt := d.now + w }) d.evt.pulses n } }.irqSettle
  else d

/-- The gap has lasted PULSE_WIDTH: a queued further pulse starts, or the pin is idle (R474). -/
def Dev.gapEnd (n : Nat) (d : Dev) : Dev :=
  let p := nthD {} d.evt.pulses n
  if n < 4 && p.phase = 2 && p.endAt ≤ d.now then
    let w := d.get (key 0x1315 n)
    { d with evt := { d.evt with pulses := modNth (fun q =>
        if q.more then { phase := 1, endAt := d.now + w, more := false } else {}) d.evt.pulses n } }.irqSettle
  else d

/-- IRQ_VECTOR: the lowest event pending and enabled on the pin, else 0x80 + g for the lowest GPIO edge flag enabled and set, else 0xFF (R474, R478). -/
def Dev.irqVector (d : Dev) (n : Nat) : Nat :=
  match (upto 128).find? (fun e => d.bitOf (key 0x1302 (e / 32)) (e % 32) && d.bitOf (key (0x1310 + n) (e / 32)) (e % 32)) with
  | some e => e
  | none => match (upto 16).find? (fun g => d.bitOf 0x140400 g && d.bitOf (key 0x1318 n) g) with
    | some g => 0x80 + g
    | none => 0xFF

/-- The function of a GPIO pin: GPIO14 is an output while it is the rail enable (R476). -/
def Dev.gpioFunc (d : Dev) (g : Nat) : Nat := if g = 14 && d.get 0x114500 = 1 then 2 else d.get (key 0x1400 g)

/-- A pin's function changes (R476, R477): a pin that becomes INPUT has no qualified level yet, and one that leaves INPUT reads 0. -/
def Dev.gpioFuncSet (g : Nat) (d : Dev) : Dev :=
  let d := d.putBit 0x140200 g false
  { d with evt := { d.evt with gpioKnown := setBit d.evt.gpioKnown g false } }

/-- A write of GPIO_OUT sets the OUTPUT pins and leaves the other bits unchanged (Table 20-4, Table 20-7). -/
def Dev.gpioOut (v : Nat) (d : Dev) : Dev :=
  (upto 16).foldl (fun a g => if a.gpioFunc g = 2 && !(g = 14 && a.get 0x114500 = 1) then a.putBit 0x140300 g (bit v g) else a) d

/-- GPIO_OUT reads the levels driven on OUTPUT and LOCUS pins. -/
def Dev.gpioOutRead (d : Dev) : Nat :=
  (upto 16).foldl (fun a g => if d.gpioFunc g ≥ 2 && d.bitOf 0x140300 g then a + 2 ^ g else a) 0

/-- The action record of a pin, queued as an event-to-action entry's is (R477). -/
def Dev.gpioAct (g : Nat) (d : Dev) : Dev :=
  let k := key 0x1407 g
  let b := d.blobOf k
  if bit (fieldAt 2 1 b) 0 && fieldAt 1 1 b != 0 then
    (d.offer { src := k, action := fieldAt 1 1 b, hold := bit (fieldAt 2 1 b) 2, target := fieldAt 4 4 b, value := fieldAt 8 8 b, tag := fieldAt 16 2 b,
               at_ := d.now }).e2aOnce k
  else d

/-- An edge of a selected polarity: flag, count, pins and action; while EVENTS is clear the action waits (R477, R478). -/
def Dev.gpioEdge (g : Nat) (d : Dev) : Dev :=
  let d := (d.putBit 0x140400 g true).bump 32 (key 0x1406 g) 1
  if d.ready 28 then
    let d := (upto 4).foldl (fun a n => if a.bitOf (key 0x1318 n) g then a.pulseOn n else a) d
    d.irqSettle.gpioAct g
  else { d with evt := { d.evt with gpioHeld := d.evt.gpioHeld ++ [g] } }

/-- A level of an INPUT pin has held for DEBOUNCE (R477): the first after the pin became INPUT is the qualified level without an edge, and a change after it is an edge. -/
def Dev.gpioLevel (g : Nat) (level : Bool) (d : Dev) : Dev :=
  if d.gpioFunc g ≠ 1 then d
  else if !bit d.evt.gpioKnown g then
    { d with evt := { d.evt with gpioKnown := setBit d.evt.gpioKnown g true } }.putBit 0x140200 g level
  else if d.bitOf 0x140200 g = level then d
  else
    let d := d.putBit 0x140200 g level
    let sel := fld (d.get (key 0x1401 g)) 4 3
    if (level && bit sel 0) || (!level && bit sel 1) then d.gpioEdge g else d

/-- The GPIO actions that waited for EVENTS are queued (R477). -/
def Dev.deliverGpio (d : Dev) : Dev :=
  let l := d.evt.gpioHeld
  (l.foldl (fun (a : Dev) g =>
    let a := (upto 4).foldl (fun (b : Dev) n => if b.bitOf (key 0x1318 n) g then b.pulseOn n else b) a
    a.gpioAct g) { d with evt := { d.evt with gpioHeld := [] } }).irqSettle

/-- A GPIO action drives or toggles its pin at its tick; it fails with ACCESS where the pin is not assigned to Locus (Table 5-11, R133, R476). -/
def Dev.gpioAction (target : Nat) (d : Dev) : Dev × Nat :=
  let g := fld target 3 0
  if d.gpioFunc g ≠ 3 then (d, 4)
  else
    let lvl := if bit target 9 then !d.bitOf 0x140300 g else bit target 8
    (d.putBit 0x140300 g lvl, 0)

end Sys2Proof.Machine
end

