-- ==== Sys2Proof/Machine/Float.lean ====
section
/-! DEFINITION. IEEE 754 binary32 arithmetic as the Facet vector lanes do it (Table 12-1, Table 12-2): exact, then rounded to nearest, ties to even. A free value `x` supplies what the standard leaves open. -/
namespace Sys2Proof.Machine

/-- A binary32 datum: not a number, an infinity, or sign, integer significand and exponent of 2. -/
inductive Flt where
  | nan
  | inf (neg : Bool)
  | fin (neg : Bool) (m : Nat) (e : Int)
  deriving DecidableEq, Repr

/-- The datum of a word. -/
def fltOf (w : Nat) : Flt :=
  let neg := bit w 31
  let ex := fld w 30 23
  let f := fld w 22 0
  if ex = 255 then (if f = 0 then .inf neg else .nan)
  else if ex = 0 then .fin neg f (-149)
  else .fin neg (f + 2 ^ 23) ((ex : Int) - 150)

/-- The sign bit of a word. -/
def signW (neg : Bool) : Nat := if neg then 2 ^ 31 else 0

/-- An infinity as a word. -/
def infW (neg : Bool) : Nat := signW neg + 0x7F800000

/-- A quiet NaN whose sign and payload are open. -/
def nanW (x : Nat) : Nat := 0x7FC00000 + x % 2 ^ 22 + signW (bit x 22)

/-- m × 2^e rounded to nearest, ties to even, as a word. -/
def fltRound (neg : Bool) (m : Nat) (e : Int) : Nat :=
  if m = 0 then signW neg
  else
    let t : Int := max ((Nat.log2 m : Int) + e - 23) (-149)
    let q := if t ≤ e then m * 2 ^ (e - t).toNat
      else
        let d := 2 ^ (t - e).toNat
        let q := m / d
        let r := m % d
        if 2 * r > d || (2 * r = d && q % 2 = 1) then q + 1 else q
    let (q, t) := if q = 2 ^ 24 then (2 ^ 23, t + 1) else (q, t)
    if q < 2 ^ 23 then signW neg + q
    else if t + 150 ≥ 255 then infW neg
    else signW neg + (t + 150).toNat * 2 ^ 23 + (q - 2 ^ 23)

/-- A signed integer × 2^e rounded; `zneg` is the sign of an exact zero. -/
def fltRoundI (s : Int) (e : Int) (zneg : Bool) : Nat := if s = 0 then signW zneg else fltRound (decide (s < 0)) s.natAbs e

/-- A significand with its sign. -/
def sgn (neg : Bool) (m : Nat) : Int := if neg then -(m : Int) else m

/-- The sum of two finite values, exactly: integer and exponent. -/
def addExact (s1 : Int) (e1 : Int) (s2 : Int) (e2 : Int) : Int × Int :=
  let e := min e1 e2
  (s1 * 2 ^ (e1 - e).toNat + s2 * 2 ^ (e2 - e).toNat, e)

/-- FMUL. -/
def fltMul (x a b : Nat) : Nat :=
  match fltOf a, fltOf b with
  | .nan, _ => nanW x
  | _, .nan => nanW x
  | .inf s, .inf t => infW (s != t)
  | .inf s, .fin t m _ => if m = 0 then nanW x else infW (s != t)
  | .fin s m _, .inf t => if m = 0 then nanW x else infW (s != t)
  | .fin s m e, .fin t n f => fltRound (s != t) (m * n) (e + f)

/-- FADD. -/
def fltAdd (x a b : Nat) : Nat :=
  match fltOf a, fltOf b with
  | .nan, _ => nanW x
  | _, .nan => nanW x
  | .inf s, .inf t => if s = t then infW s else nanW x
  | .inf s, .fin _ _ _ => infW s
  | .fin _ _ _, .inf t => infW t
  | .fin s m e, .fin t n f => let (v, g) := addExact (sgn s m) e (sgn t n) f; fltRoundI v g (s && t)

/-- The word with its sign changed. -/
def fltNeg (a : Nat) : Nat := if bit a 31 then a - 2 ^ 31 else a + 2 ^ 31

/-- FABS. -/
def fltAbs (a : Nat) : Nat := a % 2 ^ 31

/-- FMAC: a × b + c with one rounding. -/
def fltFma (x a b c : Nat) : Nat :=
  match fltOf a, fltOf b, fltOf c with
  | .nan, _, _ => nanW x
  | _, .nan, _ => nanW x
  | _, _, .nan => nanW x
  | .fin s m e, .fin t n f, .fin u k g =>
    let (v, h) := addExact (sgn (s != t) (m * n)) (e + f) (sgn u k) g
    fltRoundI v h ((s != t) && u)
  | .fin _ _ _, .fin _ _ _, .inf u => infW u
  | p, q, r =>
    let bad : Bool := match p, q with | .fin _ m _, _ => m == 0 | _, .fin _ n _ => n == 0 | _, _ => false
    let neg := bit a 31 != bit b 31
    match r with
    | .inf u => if bad || u != neg then nanW x else infW neg
    | _ => if bad then nanW x else infW neg

/-- The order of two finite or infinite data: below, or equal in value. -/
def fltLt (a b : Nat) : Bool :=
  match fltOf a, fltOf b with
  | .nan, _ => false
  | _, .nan => false
  | .inf s, .inf t => s && !t
  | .inf s, .fin _ _ _ => s
  | .fin _ _ _, .inf t => !t
  | .fin s m e, .fin t n f => decide ((addExact (sgn s m) e (-(sgn t n)) f).1 < 0)

/-- FMAX: the larger; where an operand is a NaN, or both are equal in value, which of the two is open. -/
def fltMax (x a b : Nat) : Nat := if fltLt a b then b else if fltLt b a then a else if x % 2 = 0 then a else b

/-- FCVT of a Q1.31 word. -/
def fltOfFix (w : Nat) : Nat := let v := toInt 32 w; fltRoundI v (-31) false

/-- FCVT to a Q1.31 word: nearest, ties away from zero, saturating (R10); of a NaN the result is open. -/
def fixOfFlt (x a : Nat) : Nat :=
  match fltOf a with
  | .nan => x % 2 ^ 32
  | .inf s => if s then 0x80000000 else 0x7FFFFFFF
  | .fin s m e =>
    let v := sgn s m
    let k := e + 31
    ofInt 32 (satS 32 (if k ≥ 0 then v * 2 ^ (min k.toNat 64) else roundDiv v (2 ^ (-k).toNat)))

/-- Two positive values within 2^-22 of one another, relative to the second: m × 2^e against 1. -/
def near1 (m : Nat) (e : Int) (num : Nat) : Bool :=
  let s := (-e).toNat
  if e > 0 then false
  else
    let one := 2 ^ s
    decide ((if m ≥ one then m - one else one - m) * 2 ^ 22 ≤ num * one)

/-- m × 2^e over n × 2^f rounded to a word, with 64 guard bits. -/
def fltDiv (neg : Bool) (m : Nat) (e : Int) (n : Nat) (f : Int) : Nat :=
  let q := m * 2 ^ 128 / n
  fltRound neg (2 * q + (if m * 2 ^ 128 % n = 0 then 0 else 1)) (e - f - 129)

/-- FRCP: any word accurate to 22 bits, `x` where it is one, the rounded reciprocal otherwise; of 0, an infinity and a NaN the result is open. -/
def fltRcp (x a : Nat) : Nat :=
  match fltOf a, fltOf (x % 2 ^ 32) with
  | .fin s m e, c =>
    if m = 0 then x % 2 ^ 32
    else
      let ok : Bool := match c with | .fin t n f => s == t && near1 (m * n) (e + f) 1 | _ => false
      if ok then x % 2 ^ 32 else fltDiv s 1 0 m e
  | _, _ => x % 2 ^ 32

/-- The integer square root, by bits from the top. -/
def isqrt (n : Nat) : Nat → Nat → Nat
  | 0, r => r
  | k + 1, r => let c := r + 2 ^ k; isqrt n k (if c * c ≤ n then c else r)

/-- FRSQ: any word accurate to 22 bits, `x` where it is one, the rounded value otherwise; of 0, a negative value, an infinity and a NaN the result is open. -/
def fltRsq (x a : Nat) : Nat :=
  match fltOf a, fltOf (x % 2 ^ 32) with
  | .fin s m e, c =>
    if m = 0 || s then x % 2 ^ 32
    else
      let ok : Bool := match c with | .fin t n f => !t && near1 (n * n * m) (2 * f + e) 2 | _ => false
      if ok then x % 2 ^ 32
      else
        let (m, e) := if e % 2 = 0 then (m, e) else (2 * m, e - 1)
        let r := isqrt (m * 2 ^ 80) 60 0
        fltDiv false 1 0 r (e / 2 - 40)
  | _, _ => x % 2 ^ 32

/-- A value as an exact number: integer and exponent; none of an infinity or a NaN. -/
def fltExact (a : Nat) : Option (Int × Int) := match fltOf a with | .fin s m e => some (sgn s m, e) | _ => none

end Sys2Proof.Machine
end

