-- ==== Sys2Proof/Machine/Tessera.lean ====
section
/-! DEFINITION. Tessera memory (R405 to R418): banks, space, errors, collisions, the background tester and the pool-bank locks. -/
namespace Sys2Proof.Machine

/-! Banks and words (R406) -/

/-- The bank number of a byte address. -/
def bankOf (a : Nat) : Nat := if a < 0x400000 then a / 4 % 16 else 0x10 + (a - 0x400000) / 0x100000

/-- One 32-bit word of memory, least significant byte first. -/
def memWord (m : List Host.Cell) (a : Nat) : Nat := leNat (memReadN m a 4)

/-- A stored word has bad check bits. -/
def Dev.wordBad (d : Dev) (a : Nat) : Bool := d.tes.bad.contains (a / 4 * 4)

/-- Bytes stored to memory by this command; a word written has good check bits again (R412). -/
def Dev.store (a : Nat) (b : List Byte) (d : Dev) : Dev :=
  { d with stores := d.stores ++ cellsAt a b, tes := { d.tes with bad := d.tes.bad.filter (fun w => !(a ≤ w + 3 && w < a + b.length)) } }

/-! Errors (R411, R412) -/

/-- ECC_LAST for a word (Table 17-4). -/
def Dev.eccLast (a : Nat) (bad : Bool) (d : Dev) : Dev :=
  d.put 0x581200 (a / 4 * 4 % 2 ^ 23 + 2 ^ 23 * b2n bad + 2 ^ 24 * bankOf a + 2 ^ 32 * (d.stamp % 2 ^ 32))

/-- A read finds a single-bit error: corrected and counted, EV104 at most once per ms. -/
def Dev.eccFix (a : Nat) (d : Dev) : Dev :=
  let d := (d.inc (key 0x5810 (bankOf a))).eccLast a false
  let quiet : Bool := match d.tes.ev104 with | some t => decide (d.now < t + 1000000) | none => false
  if quiet then d else ({ d with tes := { d.tes with ev104 := some d.now } }).raise 104

/-- An uncorrectable error is found: counted, recorded, EV105 and a black-box record; the word stays bad until it is written. -/
def Dev.eccBad (a : Nat) (d : Dev) : Dev :=
  let w := a / 4 * 4
  let b := bankOf a
  let d := { d with tes := { d.tes with bad := if d.tes.bad.contains w then d.tes.bad else d.tes.bad ++ [w] } }
  let d := (d.inc (key 0x5811 b)).eccLast a true
  (d.bbMake 8 (if b = 0x13 then 3 else 2) 105 b w (d.get (key 0x5811 b))).raise 105

/-- The supervisor, the dictionary engine or the loader reads a word of the pool or the Facet bank: a bad one is returned as 0 with SAFE cause [5] (Table 17-3). -/
def Dev.readWord (m : List Host.Cell) (a : Nat) (d : Dev) : Nat × Dev :=
  if d.wordBad a then (0, (d.eccBad a).causeSet 5) else (memWord m a, d)

/-- A same-word collision of two writes (R410): counted, recorded with the losing master, EV106 at most once per ms for the bank. -/
def Dev.collision (a loser : Nat) (d : Dev) : Dev :=
  let b := bankOf a
  let d := (d.inc (key 0x5801 b)).put 0x580200 (a / 4 * 4 % 2 ^ 23 + 2 ^ 28 * loser)
  let quiet : Bool := match assoc b d.tes.ev106 with | some t => decide (d.now < t + 1000000) | none => false
  if quiet then d else ({ d with tes := { d.tes with ev106 := assocPut b d.now d.tes.ev106 } }).raise 106

/-- Port B is the bank's priority port (R410). -/
def Dev.portBWins (d : Dev) (a : Nat) : Bool := d.get (key 0x5800 (bankOf a)) = 1

/-! Space (R407) -/

/-- Sizes are taken in units of 64 bytes. -/
def unit64 (n : Nat) : Nat := ceilDiv n 64 * 64

/-- Areas in use within [lo, hi), by rising start. -/
def usedIn (l : List (Nat × Nat)) (lo hi : Nat) : List (Nat × Nat) := l.filter (fun e => lo ≤ e.1 && e.1 < hi)

/-- An area put in its place by start. -/
def areaPut (e : Nat × Nat) : List (Nat × Nat) → List (Nat × Nat)
  | [] => [e]
  | x :: t => if e.1 < x.1 then e :: x :: t else x :: areaPut e t

/-- The first place at or after `p` where `size` bytes fit before `hi`, aligned. -/
def findSpace (size align hi : Nat) : List (Nat × Nat) → Nat → Option Nat
  | [], p => let q := ceilDiv p align * align; if q + size ≤ hi then some q else none
  | (s, n) :: t, p => let q := ceilDiv p align * align; if q + size ≤ s then some q else findSpace size align hi t (max p (s + n))

/-- Free space of a range, and the largest contiguous part of it. -/
def freeSpace (hi : Nat) : List (Nat × Nat) → Nat → Nat × Nat
  | [], p => (hi - p, hi - p)
  | (s, n) :: t, p => let (f, m) := freeSpace hi t (s + n); (f + (s - p), max m (s - p))

/-- The range of a placement: the Facet bank or the pool. -/
def spaceRange (pool : Bool) : Nat × Nat := if pool then (0, 0x400000) else (0x400000, 0x500000)

/-- A place for an allocation in the Facet bank or the pool. -/
def Dev.place (d : Dev) (pool : Bool) (size align : Nat) : Option Nat :=
  let (lo, hi) := spaceRange pool
  findSpace (unit64 size) (max 64 align) hi (usedIn d.tes.used lo hi) lo

/-- An area taken. -/
def Dev.takeArea (a size : Nat) (d : Dev) : Dev := { d with tes := { d.tes with used := areaPut (a, unit64 size) d.tes.used } }

/-- An area freed. -/
def Dev.freeArea (a : Nat) (d : Dev) : Dev := { d with tes := { d.tes with used := d.tes.used.filter (fun e => e.1 != a) } }

/-- Space that remains (Table 17-4): (free, largest). -/
def Dev.spaceLeft (d : Dev) (pool : Bool) : Nat × Nat :=
  let (lo, hi) := spaceRange pool
  freeSpace hi (usedIn d.tes.used lo hi) lo

/-! The background test (R413 to R415) -/

/-- The bank and region of a slot of the pass (R414): the cycle F, F, O, F, F, O, F, O; F slots take P, P, P, P, Facet and O slots the other banks in rotation. -/
def bgSlot (i : Nat) : Nat × Nat :=
  let j := i % 8
  if j = 2 || j = 5 || j = 7 then
    let o := 3 * (i / 8) + (if j = 2 then 0 else if j = 5 then 1 else 2)
    (0x11 + o % 3, o / 3)
  else
    let f := 5 * (i / 8) + (if j = 0 then 0 else if j = 1 then 1 else if j = 3 then 2 else if j = 4 then 3 else 4)
    if f % 5 = 4 then (0x10, f / 5)
    else
      let p := 4 * (f / 5) + f % 5
      (p % 16, p / 16)

/-- Byte address of word `j` of a region (R413). -/
def regionWord (b r j : Nat) : Nat := if b < 16 then 1024 * r + 4 * b + 64 * j else 0x400000 + (b - 16) * 0x100000 + 64 * r + 4 * j

/-- A region fails its March test (R415): remapped to a spare with EV107, or with no spare left MEM_FAULT and EV110. -/
def Dev.regionFail (b r : Nat) (d : Dev) : Dev :=
  let d := d.inc (key 0x5823 b)
  let n := d.get (key 0x5824 b)
  if n < 16 then
    let d := { d with tes := { d.tes with remap := d.tes.remap ++ [(b, r, n)] } }
    let d := d.put (key 0x5824 b) (n + 1)
    (d.bbMake 8 2 107 b (regionWord b r 0) (d.get (key 0x5811 b))).raise 107
  else
    let d := d.putBit 0x582500 0 true
    (d.bbMake 8 3 110 b (regionWord b r 0) (d.get (key 0x5811 b))).raise 110

/-- One slot of the tester (R413): words of the region found with single-bit errors are corrected and with double errors counted, a failed region is remapped, and the next slot is due; a pass ends with EV108. -/
def Dev.bgTest (singles doubles : List Nat) (fails : Bool) (d : Dev) : Dev :=
  if !d.sup.coreOn || !d.ready 20 || d.get 0x582000 ≠ 1 then d
  else
    let i := d.get 0x582200
    let (b, r) := bgSlot i
    let d := singles.foldl (fun (a : Dev) j => a.eccFix (regionWord b r (j % 16))) d
    let d := doubles.foldl (fun (a : Dev) j => a.eccBad (regionWord b r (j % 16))) d
    let d := if fails then d.regionFail b r else d
    if i + 1 < 131072 then d.put 0x582200 (i + 1)
    else ((d.put 0x582200 0).inc 0x582100).raise 108

/-! Pool-bank locks (R416, R417) -/

def lockObj (k : Nat) : Nat := key 0x5830 k

/-- The lock's lease begins or is renewed: 50 µs. -/
def Dev.lockRenew (k : Nat) (d : Dev) : Dev := { d with tes := { d.tes with lease := assocPut k (d.now + 50000) d.tes.lease } }

/-- A lock taken by a holder where it is free or already its own. -/
def Dev.lockTake (k holder : Nat) (d : Dev) : Bool × Dev :=
  let h := d.get (lockObj k)
  if h = 0xFF || h = holder then
    let d := d.lockRenew k
    (true, { d with tes := { d.tes with lost := d.tes.lost.filter (fun e => e != (holder, k)) } }.put (lockObj k) holder)
  else (false, d)

/-- A lock freed. -/
def Dev.lockFree (k : Nat) (d : Dev) : Dev :=
  let d := d.put (lockObj k) 0xFF
  { d with tes := { d.tes with lease := assocDel k d.tes.lease } }.put (key 0x5831 k) 0

/-- Every lock of a holder freed. -/
def Dev.locksFree (holder : Nat) (d : Dev) : Dev := (upto 16).foldl (fun (a : Dev) k => if a.get (lockObj k) = holder then a.lockFree k else a) d

/-- A memory access by a holder renews its leases. -/
def Dev.locksRenew (holder : Nat) (d : Dev) : Dev := (upto 16).foldl (fun (a : Dev) k => if a.get (lockObj k) = holder then a.lockRenew k else a) d

/-- A lease that has run out: its holder. -/
def Dev.leaseOver (d : Dev) (k : Nat) : Option Nat :=
  match assoc k d.tes.lease with
  | some t => if t ≤ d.now && d.get (lockObj k) ≠ 0xFF then some (d.get (lockObj k)) else none
  | none => none

/-- A lock revoked (R417, R32): freed, counted, EV109, EV5 and a black-box record; a session's later release of it fails with LOCKED. -/
def Dev.lockRevoke (k : Nat) (d : Dev) : Dev :=
  match d.leaseOver k with
  | some h =>
    let d := (d.lockFree k).inc 0x583200
    let d := if h ≥ 0x20 then { d with tes := { d.tes with lost := d.tes.lost ++ [(h, k)] } } else d
    let d := d.bbMake 7 1 109 (if h < 8 then h + 1 else 0) 1 k
    (d.raise 109).raise 5
  | none => d

/-! Power (Table 17-1, R418) -/

/-- The Core domain loses power: its banks' contents go, and locks are freed without revocation. The Facet bank and pool are the bytes below 0x500000; the Perimeter bank is kept in LISTEN. -/
def Dev.tesLose (m : List Host.Cell) (d : Dev) : Dev :=
  let d := (upto 16).foldl (fun (a : Dev) k => a.put (lockObj k) 0xFF) d
  { d with stores := d.stores ++ (m.filter (fun c => c.1 < 0x600000 || c.1 ≥ 0x700000)).map (fun c => (c.1, memUnlisted)),
           tes := { d.tes with lease := [], lost := [], bad := d.tes.bad.filter (fun a => 0x600000 ≤ a && a < 0x700000), used := [] } }

/-! Objects of 5800h to 58FFh -/

/-- Values computed when they are read. -/
def Dev.tesValue (d : Dev) (k : Nat) : Option Nat :=
  if k = 0x582500 then some (setBit (d.get k) 1 (d.sup.coreOn && d.ready 20 && d.get 0x582000 = 1))
  else if k = 0x584000 then some (d.spaceLeft false).1
  else if k = 0x584001 then some (d.spaceLeft true).1
  else if k = 0x584002 then some (d.spaceLeft true).2
  else none

/-- Refusals of LOCK_TAKE (R416): over SPI or I2C PRIVILEGE; LOCKED while another master holds the lock, or where the holder's lease is gone. `slot` is the session's, none over SPI and I2C. -/
def Dev.lockCheck (slot : Option Nat) (k v : Nat) (d : Dev) : List Nat :=
  match slot with
  | none => [ePrivilege]
  | some s =>
    let h := d.get (lockObj k)
    errIf (h ≠ 0xFF && h ≠ 0x20 + s) eLocked ++ errIf (v = 0 && d.tes.lost.contains (0x20 + s, k)) eLocked

/-- A session takes or frees lock k. -/
def Dev.lockWrite (slot k v : Nat) (d : Dev) : Dev := if v = 1 then (d.lockTake k (0x20 + slot)).2 else d.lockFree k

end Sys2Proof.Machine
end

