-- ==== Sys2Proof/Machine/Image.lean ====
section
/-! DEFINITION. Facet images (R305 to R310): the header and the manifest, and the loader's checks of Table 12-6 that bytes decide. -/
namespace Sys2Proof.Machine

/-- Body length of a manifest record (Table 12-5); a GROUP's depends on its relation count. -/
def recLen (kind : Nat) (body : List Byte) : Option Nat :=
  match kind with
  | 1 => some 16 | 2 => some 12 | 3 => some 20 | 4 => some 36
  | 5 => some (8 + 12 * fieldAt 1 1 body)
  | 6 => some 8 | 7 => some 4 | 8 => some 16 | 9 => some 8 | 10 => some 12
  | _ => none

/-- The records of a manifest as (offset in the image, kind, body), or the offset of the first that is inconsistent. -/
def records : Nat → Nat → List Byte → Except Nat (List (Nat × Nat × List Byte))
  | 0, _, _ => .ok []
  | fuel + 1, o, b =>
    if b.isEmpty then .ok []
    else if b.length < 4 then .error o
    else
      let kind := fieldAt 0 2 b
      let n := fieldAt 2 2 b
      let body := (b.drop 4).take n
      if body.length < n || recLen kind body ≠ some n then .error o
      else match records fuel (o + 4 + n) (b.drop (4 + n)) with
        | .ok l => .ok ((o, kind, body) :: l)
        | .error e => .error e

/-- The image with one record added. -/
def Image.addRec (i : Image) (kind : Nat) (b : List Byte) (payload : List Byte) : Image :=
  match kind with
  | 1 => { i with tasks := i.tasks ++ [{ num := fieldAt 0 1 b, block := fieldAt 1 1 b, entry := fieldAt 2 2 b, ins := fieldAt 4 4 b, outs := fieldAt 8 4 b }] }
  | 2 => { i with ports := i.ports ++ [{ port := fieldAt 0 1 b, task := fieldAt 1 1 b, srcs := fieldAt 4 4 b, delay := fieldAt 8 4 b }] }
  | 3 => { i with allocs := i.allocs ++ [{ name := fieldAt 0 8 b, size := fieldAt 8 4 b, place := fieldAt 12 1 b, inherit_ := bit (fieldAt 13 1 b) 0, zero := bit (fieldAt 13 1 b) 1, align := fieldAt 16 4 b }] }
  | 4 => { i with binds := i.binds ++ [{ obj := fieldAt 0 2 b * 256 + fieldAt 2 1 b, ty := fieldAt 3 1 b, acc := fieldAt 4 1 b, grp := fieldAt 5 1 b, ret := fieldAt 6 1 b,
                                         user := bit (fieldAt 7 1 b) 0, lo := fieldAt 8 8 b, hi := fieldAt 16 8 b, dflt := fieldAt 24 8 b, var := fieldAt 32 4 b }] }
  | 5 => { i with groups := i.groups ++ [{ grp := fieldAt 0 1 b, last := fieldAt 2 2 b * 256 + fieldAt 4 1 b,
                                           rels := (upto (fieldAt 1 1 b)).map (fun r => let c := b.drop (8 + 12 * r)
                                             (fieldAt 0 1 c, fieldAt 1 1 c, fieldAt 2 1 c, fieldAt 3 1 c, fieldAt 4 8 c)) }] }
  | 6 => { i with envs := i.envs ++ [(fieldAt 0 1 b, fieldAt 1 1 b, fieldAt 4 4 b)] }
  | 7 => { i with pilots := i.pilots ++ [(fieldAt 0 1 b, fieldAt 1 1 b)] }
  | 8 => { i with prims := i.prims ++ [(fieldAt 0 1 b, fieldAt 1 1 b, fieldAt 2 2 b, fieldAt 4 2 b, fieldAt 6 2 b, fieldAt 8 4 b)] }
  | 9 => { i with loops := i.loops ++ [(fieldAt 2 2 b, fieldAt 4 4 b)] }
  | _ => { i with inits := i.inits ++ [(fieldAt 0 4 b, (payload.drop (fieldAt 8 4 b)).take (fieldAt 4 4 b))] }

/-- FORMAT (code 3): the header and the manifest read from the staged bytes with the payload in clear, or the byte offset at fault. -/
def readImage (v : Verdict) (b : List Byte) : Except Nat Image :=
  let total := fieldAt 24 4 b
  let man := fieldAt 28 4 b
  let pay := fieldAt 32 4 b
  let enc := bit (fieldAt 6 2 b) 0
  if b.length < 64 || fieldAt 0 4 b ≠ 0x46435449 then .error 0
  else if fieldAt 4 2 b ≠ 1 then .error 4
  else if total > b.length || total ≠ 64 + man + pay + (if enc then 16 else 0) + 64 then .error 24
  else match records man 64 ((b.drop 64).take man) with
    | .error e => .error e
    | .ok l =>
      let payload := if enc then v.plain else (b.drop (64 + man)).take pay
      let i0 : Image := { id := fieldAt 8 4 b, version := fieldAt 12 4 b, wide := bit (fieldAt 6 2 b) 1, rates := fieldAt 22 2 b, keyId := fieldAt 36 4 b, enc := enc, size := total }
      match l.find? (fun r => r.2.1 == 1 && (fieldAt 0 1 r.2.2 > 15 || !([1, 8, 16, 32, 64].contains (fieldAt 1 1 r.2.2)))) with
      | some r => .error r.1
      | none =>
        let i := l.foldl (fun (a : Image) r => a.addRec r.2.1 r.2.2 payload) i0
        if i.tasks.isEmpty || i.tasks.length > 16 || i.binds.length > 256 || i.groups.length > 4 then .error 64
        else .ok { i with tasks := (i.tasks.zip (upto 16)).map (fun t => { t.1 with wcet := nthD 0 v.wcet t.2, dma := nthD false v.dma t.2 }) }

/-! Budget (R309) -/

/-- H: the largest block size of an image (R287). -/
def Image.hyper (i : Image) : Nat := i.tasks.foldl (fun a t => max a t.block) 1

/-- Ports in a mask. -/
def popCount (n : Nat) : Nat := (upto 32).foldl (fun a k => a + b2n (bit n k)) 0

/-- C_t at a clock in Hz: the longest path, the release overhead and the allowance of R295. -/
def ImgTask.cost (t : ImgTask) (fclk : Nat) : Nat := t.wcet + 64 + 4 * (popCount t.ins + popCount t.outs) + (if t.dma then fclk * 12 / 10000000 else 0)

/-- T_t. -/
def ImgTask.period (t : ImgTask) (fclk fs : Nat) : Nat := t.block * fclk / fs

/-- Task `j` runs ahead of `t` (R289): a smaller block, or an equal one and a lower number. -/
def ahead (j t : ImgTask) : Bool := j.block < t.block || (j.block = t.block && j.num < t.num)

/-- resp_t: the least fixed point from below, or the first value above the limit. -/
def respIter (c : Nat) (hi : List (Nat × Nat)) (limit : Nat) : Nat → Nat → Nat
  | 0, r => r
  | n + 1, r =>
    let r' := c + hi.foldl (fun a p => a + ceilDiv r p.2 * p.1) 0
    if r' = r || r' > limit then r' else respIter c hi limit n r'

/-- resp_t among a set of tasks; `hiOf` picks those that run ahead. -/
def respOf (t : ImgTask) (hi : List ImgTask) (fclk fs : Nat) : Nat :=
  let c := t.cost fclk
  respIter c (hi.map (fun j => (j.cost fclk, j.period fclk fs))) (t.period fclk fs) 4096 c

/-- The first task whose response exceeds its period, in task order. -/
def overBudget (l : List ImgTask) (fclk fs : Nat) : Option Nat :=
  ((upto 16).filterMap (fun k => l.find? (fun t => t.num == k))).findSome? (fun t =>
    if respOf t (l.filter (fun j => ahead j t)) fclk fs > t.period fclk fs then some t.num else none)

/-- R309 for two task sets taken together: the tasks of one image count as ahead of the other's of equal block size. -/
def pairFits (a b : List ImgTask) (fclk fs : Nat) : Bool :=
  a.all (fun t => respOf t (a.filter (fun j => ahead j t) ++ b.filter (fun j => j.block ≤ t.block)) fclk fs ≤ t.period fclk fs)
    && b.all (fun t => respOf t (b.filter (fun j => ahead j t) ++ a.filter (fun j => j.block ≤ t.block)) fclk fs ≤ t.period fclk fs)

/-- UTIL of a task set in 0.01 %, to the nearest. -/
def utilOf (l : List ImgTask) (fclk fs : Nat) : Nat :=
  let h := l.foldl (fun a t => max a t.block) 1
  let sum := l.foldl (fun a t => a + t.cost fclk * (h / t.block)) 0
  (roundDiv ((sum * fs * 10000 : Nat) : Int) (h * fclk)).toNat

/-! Rate, ports and control flow -/

/-- A CONV call's tap limit by the multiple of base rate (Table 12-3). -/
def tapLimit (mul : Nat) : Nat := 65536 / 2 ^ mul

/-- R308 step RATE at a MEDIA_RATE code. -/
def Image.rateOk (i : Image) (rate : Nat) : Bool :=
  bit i.rates rate && i.prims.all (fun p => p.1 != Config.primConv || p.2.2.2.2.2 ≤ tapLimit (rate / 2))

/-- The delay 2B_t + D_p of an output port. -/
def Image.portDelay (i : Image) (p : ImgPort) : Nat := 2 * (match i.tasks.find? (fun t => t.num == p.task) with | some t => t.block | none => 1) + p.delay

/-- R308 step PORTS: the port at fault. -/
def Image.portBad (i : Image) : Option Nat :=
  let twice := (upto 32).find? (fun p => (i.tasks.filter (fun t => bit t.outs p)).length > 1 || (i.ports.filter (fun x => x.port == p)).length > 1)
  match twice with
  | some p => some p
  | none => match i.ports.find? (fun p => p.delay > 65536) with
    | some p => some p.port
    | none => match i.envs.find? (fun e => match i.ports.find? (fun p => p.port == e.2.1) with | some p => e.2.2 > p.delay | none => true) with
      | some e => some e.2.1
      | none => match i.pilots.find? (fun e =>
            let ps := (i.envs.filter (fun x => x.1 == e.1)).map (·.2.1)
            !(i.ports.any (fun p => p.task == e.2 && (ps.isEmpty || ps.contains p.port)))) with
        | some e => some (match i.ports.find? (fun p => p.task == e.2) with | some p => p.port | none => 0)
        | none => none

/-! User group relations (R51) -/

/-- A value of a type code as an exact number: integer and exponent of 2; none of a NaN or an infinity. -/
def exactOf (ty v : Nat) : Option (Int × Int) :=
  match ty with
  | 5 => some (toInt 16 v, 0)
  | 6 => some (toInt 32 v, 0)
  | 7 => some (toInt 32 v, -31)
  | 8 => some (toInt 32 v, -28)
  | 9 => fltExact v
  | _ => some ((v : Int), 0)

/-- The sign of a difference of two exact numbers. -/
def exactCmp (a b : Int × Int) : Int := (addExact a.1 a.2 (-b.1) b.2).1

/-- One relation of a group, over the set being checked: forms a ≤ b, a < b, a + b ≤ c, a ≤ k × b in the order of R51. -/
def relHolds (form : Nat) (a b c : Option (Int × Int)) : Bool :=
  match form, a, b, c with
  | 0, some a, some b, _ => decide (exactCmp a b ≤ 0)
  | 1, some a, some b, _ => decide (exactCmp a b < 0)
  | 2, some a, some b, some c => decide (exactCmp (addExact a.1 a.2 b.1 b.2) c ≤ 0)
  | 3, some a, some b, some k => decide (exactCmp a (k.1 * b.1, k.2 + b.2) ≤ 0)
  | _, _, _, _ => false

/-- The rule of a user group: the first relation that fails. -/
def Image.ruleUser (i : Image) (g : ImgGroup) (v : Nat → Nat) : Option Nat :=
  let tyOf := fun r => match i.binds[r]? with | some b => b.ty | none => 0
  ((g.rels.zip (upto 8)).find? (fun (x : (Nat × Nat × Nat × Nat × Nat) × Nat) =>
    let (form, a, b, c, k) := x.1
    let ty := tyOf (if a = 0xFF then b else a)
    let ref := fun r => if r = 0xFF then exactOf ty k else match i.binds[r]? with | some m => exactOf m.ty (v m.obj) | none => none
    !(if form = 3 then relHolds 3 (ref a) (ref b) (exactOf ty k) else relHolds form (ref a) (ref b) (ref c)))).map (·.2)

end Sys2Proof.Machine
end

