-- ==== Sys2Proof/Machine/Lattice.lean ====
section
/-! DEFINITION. The Lattice and the Vertex mixer (R267 to R285): nodes, multiplexers and their ramps, gains, conditioning rows, and sink tag policies (R22). -/
namespace Sys2Proof.Machine

/-! Samples -/

/-- The value as a Q1.31 word (R10). -/
def Smp.word (s : Smp) : Nat := ofInt 32 s.v

/-- A sample from a Q1.31 word. -/
def smpOf (w t : Nat) : Smp := { v := toInt 32 w, t := t }

def Smp.isInv (s : Smp) : Bool := bit s.t 3

/-- Samples in a number of microseconds at a rate, a part-sample counted whole (R11). -/
def samplesIn (fs us : Nat) : Nat := ceilDiv (fs * us) 1000000

/-- The multiple of base rate of the committed rate: 0 base, 1 double, 2 quadruple. -/
def Dev.rateMul (d : Dev) : Nat := d.get 0x210000 / 2

/-- Lanes carried each side (R272). -/
def Dev.lanesCarried (d : Dev) : Nat := 256 / 2 ^ d.rateMul

/-! Nodes (R269, R270) -/

/-- A source node number that is not reserved. -/
def srcNode (n : Nat) : Bool := n < 0x15E || (0x160 ≤ n && n < 0x178)

/-- A sink node number that is not reserved. -/
def sinkNode (n : Nat) : Bool := n < 0x15E

/-- A node is there at the committed rate: stream and Chord rows hold fewer nodes at higher rates. -/
def Dev.nodeHere (d : Dev) (n : Nat) : Bool := n ≥ 0x100 || n % 0x80 < 128 / 2 ^ d.rateMul

/-- A fabric node code that is a source lane, a Vertex output or a Facet output port (Table 11-4a). -/
def isLane (c : Nat) : Bool := c < 0x100
def isVtx (c : Nat) : Bool := 0x100 ≤ c && c < 0x140
def isFacet (c : Nat) : Bool := 0x200 ≤ c && c < 0x300

/-- A multiplexer selection holds (Table 11-4b). -/
def selOk (i v : Nat) : Bool :=
  v = 0xFFFF ||
    (if i = 0x5010 then srcNode v
     else if i = 0x5021 then sinkNode v
     else if i = 0x5040 then isLane v || isFacet v
     else isLane v || isVtx v || isFacet v)

/-! Ramps of multiplexers (R275 to R277) -/

/-- The attribute object of a selection. -/
def attrOf (k : Nat) : Nat :=
  let i := k / 256
  if i = 0x5010 then key 0x5011 (k % 256) else if i = 0x5020 then key 0x5022 (k % 256) else if i = 0x5040 then key 0x5041 (k % 256) else key (i + 8) (k % 256)

/-- r of R276. -/
def Dev.fadeLen (d : Dev) : Nat := samplesIn d.fs 5000

def Dev.setFade (k : Nat) (f : Option Fade) (d : Dev) : Dev :=
  { d with lat := { d.lat with fades := match f with | some x => assocPut k x d.lat.fades | none => assocDel k d.lat.fades } }

/-- A selection written, `old` the value it had (R275, R276, R277). -/
def Dev.selWrite (k old new : Nat) (d : Dev) : Dev :=
  if !d.bitOf (attrOf k) 0 then d.setFade k none
  else
    let r := d.fadeLen
    match assoc k d.lat.fades with
    | none => if new = old then d else d.setFade k (some { out := true, old := old, new := new, g := r })
    | some f =>
      if f.out then
        (if new = f.old then (if f.g = r then d.setFade k none else d.setFade k (some { f with out := false, new := f.old }))
         else d.setFade k (some { f with new := new }))
      else d.setFade k (some { out := true, old := f.new, new := new, g := f.g })

/-- The ramp at the next boundary: the node passed and the gain, and what the ramp is afterwards. -/
def Fade.step (f : Fade) (r : Nat) : Nat × Nat × Option Fade :=
  if f.out then
    (if f.g = 0 then (f.new, 1, if r ≤ 1 then none else some { f with out := false, g := 1 })
     else (f.old, f.g - 1, some { f with g := f.g - 1 }))
  else (f.new, f.g + 1, if f.g + 1 ≥ r then none else some { f with g := f.g + 1 })

/-- A sample scaled by g/r, the tag kept. -/
def Smp.scale (s : Smp) (g r : Nat) : Smp := if g ≥ r then s else { s with v := roundDiv (s.v * g) r }

/-- What a multiplexer passes at this boundary, from the samples of the nodes it may take, and the part with its ramp advanced (R273, R275, R276). -/
def Dev.muxPass (k : Nat) (nodes : Nat → Smp) (d : Dev) : Smp × Dev :=
  match assoc k d.lat.fades with
  | none => (nodes (d.get k), d)
  | some f =>
    let r := d.fadeLen
    let (n, g, f') := f.step r
    ((nodes n).scale g r, d.setFade k f')

/-! Conditioning rows (R281) -/

/-- Inversion, saturating. -/
def invertV (v : Int) : Int := satS 32 (-v)

/-- One position of a conditioning row: the filter's state runs whether or not it is switched in, and the tag is kept. -/
def condStep (rate cond : Nat) (st : Option (Int × Int)) (s : Smp) : Smp × (Int × Int) :=
  let (x1, y1) := match st with | some p => p | none => (0, 0)
  let y := satS 32 (Config.dcBlock rate s.v x1 y1)
  let a := if bit cond 0 then y else s.v
  ({ s with v := if bit cond 1 then invertV a else a }, (s.v, y))

/-! The Vertex mixer (R279, R280) -/

/-- The present gain of a moving or standing gain, as a numerator over a denominator. -/
def Dev.gainNow (d : Dev) (k : Nat) : Int × Nat :=
  match assoc k d.lat.moves with
  | some m => (m.src * (m.n - m.i : Nat) + m.dst * m.i, m.n)
  | none => (d.getI 32 k, 1)

/-- A gain written, `old` the value it had: direct, or a move from the present value over the output's VTX_RAMP. -/
def Dev.gainWrite (k old new : Nat) (d : Dev) : Dev :=
  let o := k / 256 - 0x5100
  let t := d.get (key 0x5050 o)
  if t = 0 then { d with lat := { d.lat with moves := assocDel k d.lat.moves } }
  else
    let (a, n) := match assoc k d.lat.moves with | some _ => d.gainNow k | none => (toInt 32 old, 1)
    let steps := max 1 (ceilDiv (t * d.fs) 10000)
    { d with lat := { d.lat with moves := assocPut k { src := roundDiv a n, dst := toInt 32 new, i := 0, n := steps } d.lat.moves } }

/-- Every moving gain one step on; a move that has arrived ends at the next. -/
def Dev.gainStep (d : Dev) : Dev :=
  { d with lat := { d.lat with moves := (d.lat.moves.filter (fun e => e.2.i < e.2.n)).map (fun e => (e.1, { e.2 with i := e.2.i + 1 })) } }

/-- The gains of one Vertex output that are set or move: input, numerator and denominator. -/
def Dev.gainsOf (d : Dev) (o : Nat) : List (Nat × Int × Nat) :=
  let ks := ((d.st.obj.filter (fun e => e.1 / 256 == 0x5100 + o)).map (·.1)) ++ ((d.lat.moves.filter (fun e => e.1 / 256 == 0x5100 + o && (assoc e.1 d.st.obj).isNone)).map (·.1))
  ks.map (fun k => (k % 256, d.gainNow k))

/-- A weighted sum of Vertex inputs in units of 2^-59, exact: the numerator over the product of the denominators of moving gains, kept as a sum of fractions. -/
def addFrac (a b : Int × Nat) : Int × Nat := if a.2 = b.2 then (a.1 + b.1, a.2) else (a.1 * b.2 + b.1 * a.2, a.2 * b.2)

/-- One Vertex output (R279): the sample, and whether it saturated. -/
def vertexSum (gains : List (Nat × Int × Nat)) (ins : List (Nat × Smp)) : Smp × Bool :=
  let terms : List ((Int × Nat) × Nat) := gains.filterMap (fun (g : Nat × Int × Nat) => match assoc g.1 ins with
    | some (x : Smp) => if g.2.1 = 0 then none else some ((g.2.1 * x.v, g.2.2), x.t)
    | none => none)
  let (n, q) := terms.foldl (fun a t => addFrac a t.1) ((0 : Int), 1)
  let y := roundDiv n (q * 2 ^ 28)
  let s := satS 32 y
  ({ v := s, t := terms.foldl (fun a t => a ||| t.2) 0 }, s != y)

/-! Sink policies (R22, R282) -/

/-- One sample through a sink's policy, which the 4 or 32 samples before it decide; `hld2` while EV21's holdover lasts, `stop` while every sink is ramped to silence, over 1 ms before a stop and over 5 ms otherwise. -/
def SinkSt.step (st : SinkSt) (fs pol : Nat) (hld2 stop stopFast : Bool) (s : Smp) : Smp × SinkSt :=
  let r1 := samplesIn fs 1000
  let r5 := samplesIn fs 5000
  let full := r1 * r5
  let bad := if s.isInv then min (st.bad + 1) 4 else 0
  let good := if s.isInv then 0 else min (st.good + 1) 32
  let inv := fld pol 1 0 = 1 && (if st.inv then st.good < 32 else st.bad ≥ 4)
  let hld := bit pol 2 && hld2
  let g := match st.gain with | some g => g | none => full
  let down := inv || hld || stop
  let back := if inv then r5 else if hld || stop then (if stop && stopFast then r5 else r1) else if (st.inv && fld pol 1 0 ≠ 1) || (st.hld && !bit pol 2) then r5 else if st.back = 0 then r5 else st.back
  let step := if inv then r5 else if stop && stopFast then r5 else if down then r1 else back
  let g' := if down then g - step else min full (g + step)
  let holding := fld pol 1 0 = 2 && s.isInv
  let v := if holding then st.held else s.v
  let st' : SinkSt := { bad := bad, good := good, inv := inv, hld := hld, stop := stop, gain := if g' = full then none else some g', back := back,
                        held := if s.isInv then st.held else s.v, holding := holding }
  ({ s with v := if g' ≥ full then v else roundDiv (v * g') full }, st')

/-! Sink multiplexers (R278) -/

/-- The carried sink lanes that name a sink node present at the rate: (lane, node), by rising lane. -/
def Dev.sinkLanes (d : Dev) : List (Nat × Nat) :=
  ((d.st.obj.filter (fun e => e.1 / 256 == 0x5021 && e.2 != 0xFFFF && e.1 % 256 < d.lanesCarried && d.nodeHere e.2)).map (fun e => (e.1 % 256, e.2)))

/-- The lane that drives a node: the lowest of those that name it. -/
def drives (l : List (Nat × Nat)) (e : Nat × Nat) : Bool := !(l.any (fun x => x.2 == e.2 && x.1 < e.1))

/-- SINK_STATUS of a node (Table 11-6). -/
def Dev.sinkStatus (d : Dev) (n : Nat) : Nat :=
  let st : SinkSt := match assoc n d.lat.pol with | some s => s | none => {}
  let fed := d.bitOf 0x500100 0 && d.sinkLanes.any (fun e => e.2 == n)
  let moving := match st.gain with | some g => g != 0 || !(st.inv || st.hld || st.stop) | none => false
  b2n st.inv + 2 * b2n st.hld + 4 * b2n st.holding + 8 * b2n moving + 16 * b2n (!fed)

/-- Conflicts as the selections now stand: EV96 for each lane that enters or leaves, and the count of entries (R278). -/
def Dev.conflicts (d : Dev) : Dev :=
  let l := d.sinkLanes
  let now := (l.filter (fun e => !drives l e)).map (·.1)
  let was := d.lat.conf
  let d := { d with lat := { d.lat with conf := now } }
  let d := (now.filter (fun k => !was.contains k)).foldl (fun (a : Dev) _ => (a.inc 0x500200).raise 96) d
  (was.filter (fun k => !now.contains k)).foldl (fun (a : Dev) _ => a.raise 96) d

/-! One boundary -/

/-- The sample a source presents at this boundary: HLD in holdover, and in the period that spans a reload its last valid value tagged INV (Tables 1-5, 5-8). -/
def Dev.srcTag (d : Dev) (n : Nat) (s : Smp) : Smp :=
  let s := if d.clk.hldAt.isSome then { s with t := s.t ||| 1 } else s
  if d.med.invOnce then { v := (match assoc n d.lat.valid with | some v => v | none => 0), t := s.t ||| 8 } else s

/-- Sources written, through the input row (R281): the values that lanes take at the next boundary. -/
def Dev.latSources (l : List (Nat × Smp)) (d : Dev) : Dev :=
  let l := l.map (fun e => (e.1, d.srcTag e.1 e.2))
  let ok := l.foldl (fun a e => if e.2.isInv then a else assocPut e.1 e.2.v a) d.lat.valid
  let d := { d with lat := { d.lat with srcs := l, cond := [], valid := ok } }
  l.foldl (fun (a : Dev) e =>
    let c := a.get (if e.1 < 0x100 then key 0x5200 e.1 else key 0x5201 (e.1 - 0x100))
    let (s, f) := condStep (a.get 0x210000) c (assoc e.1 a.lat.inFilt) e.2
    { a with lat := { a.lat with cond := assocPut e.1 s a.lat.cond, inFilt := assocPut e.1 f a.lat.inFilt } }) d

/-- The multiplexers of one index that select something or ramp. -/
def Dev.muxKeys (d : Dev) (i : Nat) : List Nat :=
  (((d.st.obj.filter (fun e => e.1 / 256 == i && e.2 != 0xFFFF)).map (·.1)) ++ (d.lat.fades.filter (fun e => e.1 / 256 == i && d.get e.1 = 0xFFFF)).map (·.1))

/-- The samples of a list of multiplexers, by subindex. -/
def Dev.muxAll (nodes : Nat → Smp) : List Nat → Dev → List (Nat × Smp) × Dev
  | [], d => ([], d)
  | k :: t, d =>
    let (s, d) := d.muxPass k nodes
    let (l, d) := d.muxAll nodes t
    ((k % 256, s) :: l, d)

def sampleAt (l : List (Nat × Smp)) (n : Nat) : Smp := match assoc n l with | some s => s | none => {}

/-- A fabric node's sample at this boundary: a carried lane, a Vertex output or a Facet output port; otherwise 0 tagged INV (R272, R273). -/
def Dev.fabric (d : Dev) (c : Nat) : Smp :=
  if isLane c then (if c < d.lanesCarried then sampleAt d.lat.lanes c else {})
  else if isVtx c then sampleAt d.lat.vtx (c - 0x100)
  else if isFacet c then sampleAt d.lat.facet c
  else {}

/-- The fabric at a boundary (R274): lanes from the sources of the boundary before, Vertex outputs from the Vertex inputs of the boundary before, sinks from the output row of the boundary before; then the new
Vertex inputs and output row from this boundary's nodes. `facet` are the Facet output ports of this boundary. -/
def Dev.latFabric (facet : List (Nat × Smp)) (d : Dev) : Dev :=
  let before := d.lat.cond
  let (lanes, d) := d.muxAll (fun n => if srcNode n && d.nodeHere n then sampleAt before n else {}) (d.muxKeys 0x5010)
  let d := d.gainStep
  let vin := d.lat.vin
  let (vtx, d) := (upto 64).foldl (fun (r : List (Nat × Smp) × Dev) o =>
    let gs := r.2.gainsOf o
    if gs.isEmpty then (r.1 ++ [(o, { v := 0, t := 0 })], r.2)
    else
      let (s, c) := vertexSum gs vin
      (r.1 ++ [(o, s)], r.2.when c (Dev.inc (key 0x5051 o)))) ([], d)
  let d := { d with lat := { d.lat with lanes := lanes, vtx := vtx, facet := facet } }
  let d' := d
  let (vin', d) := d.muxAll (fun n => d'.fabric n) (d.muxKeys 0x5040)
  let vin' := vin'.filter (fun e => d'.get (key 0x5040 e.1) != 0xFFFF || (assoc (key 0x5040 e.1) d'.lat.fades).isSome)
  { d with lat := { d.lat with vin := vin' } }

/-- The sink nodes whose policy is not PASS. -/
def Dev.muting (d : Dev) : List Nat :=
  ((d.st.obj.filter (fun e => (e.1 / 256 == 0x5210 || e.1 / 256 == 0x5211) && e.2 != 0)).map (fun e => e.1 - 0x521000)) ++ ((upto 12).map (0x150 + ·)).filter (fun n => d.get (0x521000 + n) != 0)

/-- The sinks at a boundary (R273, R278, R282): each driven node takes its lane's row sample of the boundary before, any other 0 tagged INV, through its policy; then the output row takes this boundary's nodes. -/
def Dev.latSinks (d : Dev) : Dev :=
  let d := d.conflicts
  let l := d.sinkLanes
  let drive := (l.filter (fun e => drives l e)).map (fun e => (e.2, sampleAt d.lat.rows e.1))
  let unfed := (d.lat.pol.map (·.1) ++ d.muting).eraseDups.filter (fun n => !drive.any (fun e => e.1 == n))
  let hld2 := d.clk.hldAt.isSome && d.clk.hld2s
  let stop := d.lat.stopping || d.tim.step.isSome || d.tim.reload.isSome
  let fast := d.lat.stopping
  let d := { d with lat := { d.lat with sinks := [] } }
  let d := (drive ++ unfed.map (fun n => (n, ({} : Smp)))).foldl (fun (a : Dev) e =>
    let n := e.1
    let pol := a.get (if n < 0x100 then key 0x5210 n else key 0x5211 (n - 0x100))
    let st : SinkSt := match assoc n a.lat.pol with | some s => s | none => {}
    let (s, st') := st.step a.fs pol hld2 stop fast e.2
    { a with lat := { a.lat with sinks := assocPut n s a.lat.sinks, pol := assocPut n st' a.lat.pol } }) d
  let d' := d
  let (row, d) := d.muxAll (fun n => d'.fabric n) (d.muxKeys 0x5020)
  row.foldl (fun (a : Dev) e =>
    let (s, f) := condStep (a.get 0x210000) (a.get (key 0x5202 e.1)) (assoc e.1 a.lat.outFilt) e.2
    { a with lat := { a.lat with rows := assocPut e.1 s a.lat.rows, outFilt := assocPut e.1 f a.lat.outFilt } })
    { d with lat := { d.lat with rows := [] } }

/-- What a sink node receives: 0 tagged INV where no lane drives it (R273). -/
def Dev.sinkSample (d : Dev) (n : Nat) : Smp := sampleAt d.lat.sinks n

/-- The Lattice starts with the media domains: every sample 0 tagged INV, the lanes of the running rate carried (R272). -/
def Dev.latStart (d : Dev) : Dev := { d with lat := {} }.does [Dev.put 0x500000 d.lanesCarried, Dev.putBit 0x500100 0 true]

/-- The Lattice stops (R267): every sink node presents 0 tagged INV. -/
def Dev.latStop (d : Dev) : Dev := { d with lat := {} }.putBit 0x500100 0 false

/-! Objects of 5000h to 52FFh -/

/-- The default of SINK_POLICY: MUTE-ON-INV for nodes 0x150 to 0x15B (Table 11-6 holds it in the map). Values the Lattice computes when they are read. -/
def Dev.latValue (d : Dev) (k : Nat) : Option Nat :=
  let i := k / 256
  let s := k % 256
  let fade := fun (sel : Nat) => match assoc sel d.lat.fades with | some f => if f.out then 1 else 2 | none => 0
  if i = 0x5001 then some (setBit (d.get k) 1 (!d.lat.conf.isEmpty))
  else if i = 0x5012 then some (b2n (s ≥ d.lanesCarried) + 2 * fade (key 0x5010 s))
  else if i = 0x5023 then
    let l := d.sinkLanes
    let me := l.find? (fun e => e.1 == s)
    let dr := match me with | some e => drives l e | none => false
    some (b2n dr + 2 * b2n (d.lat.conf.contains s) + 4 * b2n (s ≥ d.lanesCarried) + 8 * fade (key 0x5020 s))
  else if i = 0x5212 then some (d.sinkStatus s)
  else if i = 0x5213 then some (d.sinkStatus (0x100 + s))
  else none

/-- The objects' own refusals: a selection outside Table 11-4b, and policy 3. -/
def latCheck (k v : Nat) : List Nat :=
  let i := k / 256
  if i = 0x5010 || i = 0x5020 || i = 0x5021 || i = 0x5040 || (0x5030 ≤ i && i ≤ 0x5037) then errIf (!selOk i v) eRange
  else if i = 0x5210 || i = 0x5211 then errIf (fld v 1 0 = 3) eRange
  else []

/-- What a write does beside setting the value, `old` the value before. -/
def Dev.latWrite (k old v : Nat) (d : Dev) : Dev :=
  let i := k / 256
  if i = 0x5010 || i = 0x5020 || i = 0x5040 || (0x5030 ≤ i && i ≤ 0x5037) then d.selWrite k old v
  else if 0x5100 ≤ i && i ≤ 0x513F then d.gainWrite k old v
  else d

end Sys2Proof.Machine
end

