-- ==== Sys2Proof/Machine/Clocks.lean ====
section
/-! DEFINITION. Clocks and the media PLL (R97 to R115): input monitors, the rules of groups 0x01 and 0x02, acquisition, holdover, steering and the band scan. -/
namespace Sys2Proof.Machine

def Dev.modClk (f : Clk → Clk) (d : Dev) : Dev := { d with clk := f d.clk }

/-! The inputs -/

/-- The nominal frequency of REFCLK in mHz for a code of 2001.00 (Table 4-1). -/
def refNominal (c : Nat) : Nat := nthD 24576000000 [10000000000, 12288000000, 24576000000] c

/-- REFCLK is present and within 1000 ppm of a nominal frequency in mHz (R99, R100). -/
def Clk.refInTol (c : Clk) (nom : Nat) : Bool :=
  c.refPresent && decide ((if c.refMilliHz ≥ nom then c.refMilliHz - nom else nom - c.refMilliHz) * 1000 ≤ nom)

/-- REFCLK is in tolerance against the committed REFCLK_FREQ. -/
def Dev.refTol (d : Dev) : Bool := d.clk.refInTol (refNominal (d.get 0x200100))

/-- CLOCK_STATUS [2:0] and REFCLK_OFFSET as the monitors report them (Table 4-1). -/
def Dev.clockReport (d : Dev) : Dev :=
  let nom := refNominal (d.get 0x200100)
  let d := d.put 0x200400 (setFld (d.get 0x200400) 2 0 (b2n d.clk.xtal + 2 * b2n d.clk.refPresent + 4 * b2n d.refTol))
  if d.clk.refPresent then d.putI 32 0x200500 (roundDiv (((d.clk.refMilliHz : Int) - nom) * 1000000000) nom) else d

/-- Time since which REFCLK is in tolerance, kept at each change of its monitor. -/
def Dev.refTrack (d : Dev) : Dev :=
  let c := d.clk
  let at' := if d.refTol then (match c.refTolAt with | some x => some x | none => some d.now) else none
  { d with clk := { c with refTolAt := at' } }

/-- The rule of group 0x01 (R99), over the set being checked: the first relation that fails. -/
def Dev.rule01 (d : Dev) (v : Nat → Nat) : Option Nat :=
  if d.mode ≠ 4 then some 0
  else if v 0x200000 = 1 && !d.clk.refInTol (refNominal (v 0x200100)) then some 1
  else none

/-! The MPLL's word and the rule of group 0x02 -/

/-- A frequency word from N and FRAC: fVCO is 50 MHz times it, over 2^32 (R102). -/
def vcoWord (n frac : Nat) : Nat := n * 2 ^ 32 + frac

/-- The committed frequency word. -/
def Dev.commitWord (d : Dev) : Nat := vcoWord (d.get 0x210100) (d.get 0x210200)

/-- fbase of a MEDIA_RATE code (R104). -/
def baseHz (c : Nat) : Nat := if c % 2 = 1 then 48000 else 44100

/-- Relation 1 of R104 for a word, a pull range in ppm and a band in kHz, exactly. -/
def bandFits (w pull fmin fmax : Nat) : Bool :=
  decide (fmin * 2 ^ 32 * 1000000 + 50000 * w * 5000 ≤ 50000 * w * (1000000 - pull))
    && decide (50000 * w * (1000000 + pull) + 50000 * w * 5000 ≤ fmax * 2 ^ 32 * 1000000)

/-- The rule of group 0x02 (R104), over the set being checked: the first relation that fails. -/
def Dev.rule02 (d : Dev) (v : Nat → Nat) : Option Nat :=
  let e := v 0x210300
  let fmin := d.get (key 0x2122 e)
  let fmax := d.get (key 0x2123 e)
  let w := vcoWord (v 0x210100) (v 0x210200)
  let rate := v 0x210000
  let nom := 65536 * baseHz rate * 2 ^ 32
  let src := v 0x210500
  let ix := v 0x210400
  if d.get (key 0x2121 e) = 255 || fmax ≤ fmin then some 0
  else if !bandFits w (v 0x210600) fmin fmax then some 1
  else if !decide ((if 50000000 * w ≥ nom then 50000000 * w - nom else nom - 50000000 * w) * 1000 ≤ nom) then some 2
  else if src = 2 && d.get (key (0x3500 + ix) 0x10) ≠ rate then some 3
  else if src = 3 && (ix > 3 || d.get (key (0x4000 + 16 * ix) 5) ≠ 0) then some 3
  else if rate ≠ d.get 0x210000 && d.mode ≠ 4 then some 4
  else none

/-! Holdover -/

/-- The media domains run from the holdover synthesiser. -/
def Dev.onDds (d : Dev) : Bool := d.clk.hldAt.isSome

/-- Something keeps the domains on the synthesiser: acquisition, a slew, a lost source, a slew or step of network time, or a band scan (R105, R107, R109, R111, R125). -/
def Clk.held (c : Clk) : Bool := c.acq.isSome || c.retryAt.isSome || c.slewing || c.srcLost || c.timeSlew || c.scan

/-- MPLL_STATE and MPLL_STATUS [1:0], [6] as R110 and Table 4-4 read them. -/
def Dev.mpllReport (d : Dev) : Dev :=
  let c := d.clk
  let locked := c.run && d.ready 3 && c.acq.isNone && c.retryAt.isNone && !c.scan
  let st := if c.scan then 4 else if c.hldAt.isSome then 3 else if c.acq.isSome then 1 else if c.run then 2 else 0
  let s := d.get 0x211100
  let s := setBit (setBit (setBit s 0 locked) 1 c.hldAt.isSome) 6 c.slewing
  (d.put 0x211000 st).put 0x211100 s

/-- The running media domains move to the holdover synthesiser at the word in use: EV18 and HOLDOVER_COUNT, once for each holdover (R111, Table 4-11). -/
def Dev.holdover (d : Dev) : Dev :=
  if d.clk.run && d.clk.hldAt.isNone then
    let d := { d with clk := { d.clk with hldAt := some d.now, hld2s := false } }
    d.does [Dev.put 0x211600 0, Dev.inc 0x211700, Dev.mpllReport, Dev.raise 18]
  else d.mpllReport

/-- The MPLL takes the domains back when the SPLL runs and nothing holds them on the synthesiser: HOLDOVER_TIME is written, MPLL_STATE becomes LOCKED and EV19 is raised (R110, R112). -/
def Dev.holdoverEnd (d : Dev) : Dev :=
  match d.clk.hldAt with
  | some t =>
    if d.clk.held || !d.ready 3 then d
    else
      let d := { d with clk := { d.clk with hldAt := none, hld2s := false } }
      d.does [Dev.put 0x211600 (min ((d.now - t) / 1000000) (2 ^ 32 - 1)), Dev.mpllReport, Dev.raise 19]
  | none => d

/-- HOLDOVER_TIME as a read gives it: the running holdover's duration in ms so far. -/
def Dev.holdoverTime (d : Dev) : Nat :=
  match d.clk.hldAt with
  | some t => min ((d.now - t) / 1000000) (2 ^ 32 - 1)
  | none => d.get 0x211600

/-- The frequency word in use, steering included (2115.00). -/
def Dev.freqWord (d : Dev) : Nat := ((d.clk.word : Int) + d.clk.offset).toNat

/-- FREQ_OFFSET: the word in use against 65 536 times the family's base rate, in ppb. -/
def Dev.freqOffset (d : Dev) : Int :=
  if d.clk.word = 0 then 0
  else
    let nom : Nat := 65536 * baseHz (d.get 0x210000) * 2 ^ 32
    let now : Nat := 50000000 * d.freqWord
    roundDiv (((now : Int) - (nom : Int)) * 1000000000) nom

/-! Acquisition -/

/-- Acquisition starts with the committed set on the entry's band: the offset starts at 0 (R108, R110). -/
def Dev.acquire (d : Dev) : Dev :=
  let d := { d with clk := { d.clk with acq := some d.now, adjacent := false, retryAt := none } }
  d.mpllReport

/-- A commit of group 0x02 (R105): while the media domains run they move to the synthesiser at the word in use, the MPLL reacquires, and the synthesiser slews to the new word. During a band scan
the set waits (Table 4-10). With the MPLL off, in LINKED, only the committed word changes. A commit ends the use of the fallback. -/
def Dev.mpllCommit (d : Dev) : Dev :=
  let d := d.putBit 0x211100 5 false
  let d := { d with clk := { d.clk with primaryAt := none } }
  if d.clk.scan then { d with clk := { d.clk with waitCommit := true } }
  else if d.clk.run then
    let w := d.freqWord
    let d := { d with clk := { d.clk with word := w, offset := 0, slewing := w != d.commitWord } }
    d.acquire.holdover
  else if d.clk.acq.isSome then
    let d := { d with clk := { d.clk with word := d.commitWord, offset := 0 } }
    d.acquire
  else { d with clk := { d.clk with word := d.commitWord, offset := 0 } }

/-- The steering source in use: the committed one, or the fallback while it is active (R109). -/
def Dev.steerSource (d : Dev) : Nat :=
  if d.bitOf 0x211100 5 then (if d.get 0x211200 = 1 then 1 else 0) else d.get 0x210500

/-- Network time is a valid steering source (Table 4-6); a slew of R125 is not a loss. -/
def Dev.timeSteers (d : Dev) : Bool :=
  let s := d.get kTimeState
  d.timeReady && (s = 3 || s = 6 || s = 7 || s = 1 || s = 0 || s = 5)

/-- The committed steering source is valid (Table 4-6): the listener LOCKED, or the SAP LOCKED with its start-up wait complete (R214). -/
def Dev.primaryValid (d : Dev) : Bool :=
  let ix := d.get 0x210400
  match d.get 0x210500 with
  | 0 => true
  | 1 => d.timeSteers
  | 2 => d.get (key (0x3500 + ix) 0x28) = 3
  | _ =>
    let q := nthD {} d.sap.ports ix
    d.get (key (0x4003 + 16 * ix) 4) = 2 && !(if d.bitOf (key (0x4000 + 16 * ix) 0) 0 then q.rwait else q.twait)

/-- The source in use is valid. -/
def Dev.steerValid (d : Dev) : Bool :=
  if d.bitOf 0x211100 5 then (if d.get 0x211200 = 1 then d.timeSteers else true) else d.primaryValid

/-- A free value as an integer of either sign. -/
def zigzag (n : Nat) : Int := if n % 2 = 0 then (n / 2 : Nat) else -((n / 2 + 1 : Nat) : Int)

/-- One update of the steering loop (R108): the unclamped offset is a free value of the filter, whose gains the spec leaves open, clamped at plus and minus PULL_RANGE of the
committed word; beyond it PULL_LIMIT is set with EV22. Free run has offset 0. In holdover the word is frozen. -/
def Dev.steer (d : Dev) : Dev :=
  if !d.clk.run || d.onDds || !d.bitOf 0x211100 2 then d
  else if d.steerSource = 0 then { d with clk := { d.clk with offset := 0 } }
  else
    let (x, d) := d.fresh
    let lim : Int := (d.commitWord * d.get 0x210600 / 1000000 : Nat)
    let raw := zigzag x
    let excess := decide (raw < -lim) || decide (lim < raw)
    let d := { d with clk := { d.clk with offset := clampI (-lim) lim raw } }
    if excess then (if d.bitOf 0x211100 3 then d else (d.putBit 0x211100 3 true).raise 22)
    else d.putBit 0x211100 3 false

/-! The band scan -/

/-- The margin in kHz × 1000 that a band leaves a target under relation 1 with PULL_RANGE 1000 (R107); none where it leaves none. -/
def bandMargin (f fmin fmax : Nat) : Option Nat :=
  let lo := f * 999
  let hi := f * 1001
  if fmin * 1000 + f * 5 ≤ lo && hi + f * 5 ≤ fmax * 1000 then some (min (lo - f * 5 - fmin * 1000) (fmax * 1000 - hi - f * 5)) else none

/-- The band of largest margin for a target, of the bands measured from number `b` on: (margin, band, FMIN, FMAX). -/
def bestBand (f : Nat) : Nat → List (Nat × Nat) → Option (Nat × Nat × Nat × Nat)
  | _, [] => none
  | b, (lo, hi) :: t =>
    let rest := bestBand f (b + 1) t
    match bandMargin f lo hi, rest with
    | some m, some (m', r) => if m' > m then some (m', r) else some (m, b, lo, hi)
    | some m, none => some (m, b, lo, hi)
    | none, r => r

/-- The scan's result for one entry: its band, or 0xFF with its bit of 2131.00 and EV20 (R107). -/
def Dev.scanEntry (bands : List (Nat × Nat)) (e : Nat) (d : Dev) : Dev :=
  let f := d.get (key 0x2120 e)
  if f = 0 then d.putBit 0x213100 e false
  else match bestBand f 0 bands with
    | some (_, b, lo, hi) => d.does [Dev.put (key 0x2121 e) b, Dev.put (key 0x2122 e) lo, Dev.put (key 0x2123 e) hi, Dev.putBit 0x213100 e false]
    | none => d.does [Dev.put (key 0x2121 e) 255, Dev.putBit 0x213100 e true, Dev.raise 20]

/-- A band scan starts (R107): running media domains go to the synthesiser. -/
def Dev.scanStart (d : Dev) : Dev :=
  let d := { d with clk := { d.clk with scan := true } }
  d.holdover

/-- The scan ends: entries written, EV23, and the MPLL reacquires where it runs or a commit waits (R107, Table 4-10). -/
def Dev.scanEnd (bands : List (Nat × Nat)) (d : Dev) : Dev :=
  if !d.clk.scan then d
  else
    let d := (upto 16).foldl (fun a e => a.scanEntry bands e) d
    let wait := d.clk.waitCommit
    let d := { d with clk := { d.clk with scan := false, waitCommit := false } }
    let d := if wait then d.mpllCommit else if d.clk.run || d.clk.acq.isSome then d.acquire else d.mpllReport
    d.raise 23

end Sys2Proof.Machine
end

