-- ==== Sys2Proof/Machine/Time.lean ====
section
/-! DEFINITION. The network time unit (R116 to R131): the counter and its increment, coasting, phase jumps, slews, the beginning of a step, PPS_OUT and TIME_CAP. -/
namespace Sys2Proof.Machine

/-! The counter -/

/-- The host's rate term in parts per 10^12: used only in FREE, HOST and GRANDMASTER (2211.00). -/
def Dev.hostTerm (d : Dev) : Int :=
  let s := d.get kTimeState
  if s = 0 || s = 1 || s = 6 then d.getI 32 0x221100 * 1000 else 0

/-- The rate of the increment relative to nominal in parts per 10^12: servo, slew and host terms, clamped at 1000 ppm (R117). -/
def Dev.rate (d : Dev) : Int := clampI (-1000000000) 1000000000 (d.tim.servo + d.tim.slew + d.hostTerm)

/-- The increment in 2^-40 ns: 4.0 scaled by the rate (R116, R117). -/
def Dev.increment (d : Dev) : Nat := (roundDiv (4 * 2 ^ 40 * (1000000000000 + d.rate)) 1000000000000).toNat

/-- The counter with `inc` units of 2^-40 ns added: a carry out of the nanoseconds field at 10^9 advances the seconds field (R116). -/
def Tim.add (t : Tim) (inc : Nat) : Tim :=
  let f := t.frac + inc
  let n := t.ns + f / 2 ^ 40
  { t with frac := f % 2 ^ 40, ns := n % 1000000000, sec := (t.sec + n / 1000000000) % 2 ^ 48 }

/-- The counter set to a TIME64 value. -/
def Tim.set (t : Tim) (v : Nat) : Tim := { t with sec := v / 1000000000 % 2 ^ 48, ns := v % 1000000000, frac := 0 }

/-- The error a rate still removes while it returns to 0 at 50 ppm per ms, 200 units a tick (R125). -/
def stopError (r : Nat) : Nat := (r / 200) * (r / 200 - 1) / 2 * 200

/-- One tick of a slew profile (R125): the rate moves by 50 ppm per ms, which is 200 parts per 10^12 a tick, towards the sign that reduces the error, holds at 500 ppm, and returns to 0 so that the error ends at 0. -/
def Tim.slewTick (t : Tim) : Tim :=
  if t.remain = 0 && t.slew = 0 then t
  else if t.remain.natAbs ≤ 400 && t.slew.natAbs ≤ 200 then { t with remain := 0, slew := 0 }
  else
    let dir : Int := if t.remain > 0 then -1 else 1
    let towards := decide (t.slew * dir > 0)
    let brake := towards && decide (stopError t.slew.natAbs ≥ t.remain.natAbs)
    let s := if brake then t.slew - dir * 200 else clampI (-500000000) 500000000 (t.slew + dir * 200)
    { t with slew := s, remain := t.remain + s }

/-- One tick of the counter: 4 ns of local time; the counter runs while the Core domain keeps it (R116). -/
def Dev.timeTick (d : Dev) : Dev :=
  let d := { d with now := d.now + 4 }
  if d.sup.coreOn && !d.tim.lost then
    let inc := d.increment
    { d with tim := (d.tim.add inc).slewTick }
  else d

/-! States -/

/-- TIME_STATE changes, raising EV25 (Table 5-14). -/
def Dev.setTimeState (s : Nat) (d : Dev) : Dev := if d.get kTimeState = s then d else (d.put kTimeState s).raise 25

/-- COASTING (R123): the counter adds its last increment, with the servo's correction frozen and any slew removed; the rate the host set stays in it. -/
def Dev.coast (d : Dev) : Dev :=
  let h := d.hostTerm
  let d := { d with tim := { d.tim with servo := d.tim.servo + h, slew := 0, remain := 0, meas := [], master := false, fresh := false, lastSync := none } }
  d.setTimeState 4

/-- COASTING where R123 lets a lost reference lead to it: from ACQUIRING, SYNCED or SLEWING. -/
def Dev.coastFromSync (d : Dev) : Dev :=
  let s := d.get kTimeState
  if s = 2 || s = 3 || s = 5 then d.coast else d

/-- The MPLL is steered by network time or by a listener, so a slew or a step of network time moves the media domains (R125, R128). -/
def Dev.steeredByTime (d : Dev) : Bool := d.steerSource = 1 || d.steerSource = 2

/-! Phase jumps -/

/-- The median of three measurements (R124). -/
def median3 (a b c : Int) : Int := max (min a b) (min (max a b) c)

/-- A step is due (R128): with audio running every sink first ramps to silence for 5 ms, otherwise the step is made at the next tick. A step already due keeps its instant and takes the latest error. -/
def Dev.stepBegin (goal : StepTo) (d : Dev) : Dev :=
  match d.tim.step with
  | some (t, _) => { d with tim := { d.tim with step := some (t, goal) } }
  | none => { d with tim := { d.tim with step := some (d.now + (if d.audioRuns then 5000000 else 4), goal) } }

/-- A slew of E begins, or restarts from the current rate (R125, Table 5-15): the media domains steered by time follow it on the synthesiser. -/
def Dev.slewBegin (e : Int) (d : Dev) : Dev :=
  let d := { d with tim := { d.tim with remain := e * 250000000000 } }
  let d := d.setTimeState 5
  if d.clk.run && d.steeredByTime then { d with clk := { d.clk with timeSlew := true } }.holdover else d

/-- The port states read as R118 gives while no protocol runs: DISABLED with profile 0, and A and B DISABLED outside profile 4. -/
def Dev.portStates (main : Nat) (d : Dev) : Dev :=
  let prof := d.get 0x222000
  if prof = 0 then d.does [Dev.put 0x223000 2, Dev.put 0x223001 2, Dev.put 0x223002 2]
  else if prof = 4 then
    let mp := d.get 0x223100
    let one := fun (p link bitn : Nat) =>
      if !bit (d.get 0x222200) bitn || d.get link = 0 then 2 else if mp = p then 8 else 5
    d.does [Dev.put 0x223000 main, Dev.put 0x223001 (one 1 0x300200 0), Dev.put 0x223002 (one 2 0x310300 1)]
  else d.does [Dev.put 0x223000 main, Dev.put 0x223001 2, Dev.put 0x223002 2]

/-- A phase jump E is confirmed (R124, Table 5-6): reported, EV26 above 1 us, and handled by rate, by slew or by a step. While a step is due E replaces its error (R128). `disc` is PPS discipline, which keeps the grandmaster's state. -/
def Dev.jump (e : Int) (disc : Bool) (d : Dev) : Dev :=
  let d := { d with tim := { d.tim with meas := [], fresh := false } }
  let d := d.putI 32 0x220800 e
  let d := d.when (e.natAbs > 1000) (Dev.raise 26)
  match d.tim.step with
  | some (_, .value _) => d
  | some _ => d.stepBegin (if disc then .pps e else .jump e)
  | none =>
    if e.natAbs ≤ 1000 then
      (if disc then d
       else
        let d := { d with tim := { d.tim with slew := 0, remain := 0 }, clk := { d.clk with timeSlew := false } }
        d.does [Dev.setTimeState 3, Dev.portStates 8, Dev.holdoverEnd])
    else if e.natAbs ≤ 1000000 then
      (if disc then { d with tim := { d.tim with remain := e * 250000000000 } } else (d.slewBegin e).portStates 8)
    else d.stepBegin (if disc then .pps e else .jump e)

/-- The servo's frequency correction after a measurement: a free value within 1000 ppm, since its design is open beyond the bounds of R124. -/
def Dev.servoMove (d : Dev) : Dev :=
  let (x, d) := d.fresh
  { d with tim := { d.tim with servo := clampI (-1000000000) 1000000000 (zigzag x) } }

/-- One offset measurement in ns (R124): the first three after a master qualifies confirm a jump whatever their size; while SYNCED, three consecutive ones above 1 us do; any other one the servo uses. -/
def Dev.measure (off : Int) (d : Dev) : Dev :=
  let d := d.putI 32 0x220600 off
  let s := d.get kTimeState
  let d := { d with tim := { d.tim with lastSync := some d.now } }
  if d.tim.fresh || s = 2 then
    match d.tim.meas with
    | [a, b] => d.jump (median3 a b off) false
    | l => { d with tim := { d.tim with meas := l ++ [off] } }
  else if s = 3 then
    if off.natAbs > 1000 then
      match d.tim.meas with
      | [a, b] => d.jump (median3 a b off) false
      | l => { d with tim := { d.tim with meas := l ++ [off] } }
    else { d with tim := { d.tim with meas := [] } }.servoMove
  else d

/-- A slew profile has ended with the error at 0: EV26 again, the state SYNCED, and the MPLL takes the domains back (R125). -/
def Dev.slewEnd (d : Dev) : Dev :=
  if d.get kTimeState = 5 && d.tim.remain = 0 && d.tim.slew = 0 then
    let d := { d with clk := { d.clk with timeSlew := false } }
    d.does [Dev.raise 26, Dev.setTimeState 3, Dev.holdoverEnd]
  else d

/-! PTP -/

/-- The rule of group 0x03 (R119), over the set being checked; `paired` as relation 4 asks. -/
def Dev.rule03 (paired : Bool) (v : Nat → Nat) : Option Nat :=
  let prof := v 0x222000
  let ls := toInt 16 (v 0x222600)
  let la := toInt 16 (v 0x222700)
  let okSync := match prof with | 0 => true | 4 => decide (-5 ≤ ls) && decide (ls ≤ 0) | _ => decide (-4 ≤ ls) && decide (ls ≤ 1)
  let okAnn := match prof with | 0 => true | 4 => decide (0 ≤ la) && decide (la ≤ 3) | _ => decide (0 ≤ la) && decide (la ≤ 4)
  if (prof = 4 && (v 0x222100 ≠ 0 || v 0x222B00 ≠ 2)) || (prof = 3 && v 0x222B00 = 2) then some 0
  else if !(okSync && okAnn) then some 1
  else if prof ≠ 0 && v 0x222200 = 0 then some 2
  else if v 0x222500 = 0 && v 0x222300 ≠ 255 then some 3
  else if paired && v 0x222500 = 1 && decide (-2 < ls) then some 4
  else none

/-- The clockIdentity of this device: the modified EUI-64 of a MAC address (R122). -/
def eui64 (mac : Nat) : Nat := ((mac / 2 ^ 24) ^^^ 0x020000) * 2 ^ 40 + 0xFFFE * 2 ^ 24 + mac % 2 ^ 24

/-- A commit of group 0x03 (R119): the port state machines restart; COASTING from a running reference, FREE and HOST kept, and with profile 0 FREE from every state but HOST. A slew stops at its current error (Table 5-15). -/
def Dev.ptpCommit (d : Dev) : Dev :=
  let s := d.get kTimeState
  let gm := s = 6 || s = 7
  let d := if s = 2 || s = 3 || s = 5 || gm then d.coast else d
  let d := if d.get 0x222000 = 0 then (if d.get kTimeState = 1 then d else d.setTimeState 0) else d
  let d := { d with tim := { d.tim with master := false, fresh := false, meas := [], announceAt := none } }
  let d := d.when (gm || d.get 0x223100 ≠ 0) (Dev.raise 27)
  (d.put 0x223100 0).portStates 3

/-- announceReceiptTimeout in ns from the committed interval (R118). -/
def Dev.announceTimeout (d : Dev) : Nat :=
  d.get 0x222900 * (1000000000 * 2 ^ (toInt 16 (d.get 0x222700)).toNat)

/-- `n` sync intervals of the committed logSyncInterval, in ns. -/
def Dev.syncIntervals (n : Nat) (d : Dev) : Nat :=
  let l := toInt 16 (d.get 0x222600)
  if 0 ≤ l then n * 1000000000 * 2 ^ l.toNat else n * 1000000000 / 2 ^ (-l).toNat

/-- A master qualifies (R119, R124): ACQUIRING, or, while SYNCED or SLEWING, the state is kept for the first three measurements of a master that differs from the one in use. -/
def Dev.qualify (gm steps port : Nat) (d : Dev) : Dev :=
  if d.get 0x222000 = 0 then d
  else
    let s := d.get kTimeState
    let change := d.get 0x223200 ≠ gm || d.get 0x223100 ≠ port
    let d := { d with tim := { d.tim with announceAt := some (d.now + d.announceTimeout) } }
    let lost := s = 6 || s = 7
    let d := d.does [Dev.put 0x223200 gm, Dev.put 0x223300 steps, Dev.put 0x223100 port]
    let d := d.when (change || lost) (Dev.raise 27)
    if s = 3 || s = 5 then
      (if change then { d with tim := { d.tim with fresh := true, meas := [], master := true, lastSync := some d.now } } else d)
    else if s = 2 && !change then d
    else
      let d := { d with tim := { d.tim with fresh := true, meas := [], master := true, lastSync := some d.now } }
      (d.setTimeState 2).portStates 7

/-- This device is selected as grandmaster (R122): the counter and epoch are kept. `ident` is the identity it announces. -/
def Dev.becomeGm (ident : Nat) (d : Dev) : Dev :=
  if d.get 0x222500 = 0 || d.get 0x222000 = 0 then d
  else if d.get kTimeState = 6 || d.get kTimeState = 7 then d
  else
    let d := { d with tim := { d.tim with master := false, fresh := false, meas := [], slew := 0, remain := 0, ppsFirst := false, ppsRun := 0 } }
    let d := d.does [Dev.put 0x223200 ident, Dev.put 0x223300 0, Dev.put 0x223100 0, Dev.raise 27]
    (d.setTimeState 6).portStates 5

/-! PPS_OUT and TIME_CAP -/

/-- The period of PPS_OUT in ns, 0 while it is off (R130). -/
def Dev.ppsPeriod (d : Dev) : Nat := match d.get 0x226000 with | 1 => 1000000000 | 2 => d.get 0x226200 | _ => 0

/-- The nominal time of the latest pulse at or before the counter less PPS_ADJUST; none before the first. -/
def Dev.ppsNominal (d : Dev) : Option Nat :=
  let p := d.ppsPeriod
  let t : Int := (d.time64 : Int) - d.getI 32 0x226300
  if p = 0 || t < 0 then none else some (t.toNat / p * p)

/-- PPS_OUT at a tick (R130): a pulse due rises unless the last rise is less than half a period back or the pin is still high, in which case it is suppressed. -/
def Dev.ppsEdge (d : Dev) : Dev :=
  if !d.timeReady then d
  else match d.ppsNominal with
  | none => d
  | some n =>
    let due := match d.tim.ppsNom with | some m => decide (m < n) | none => true
    if !due then d
    else
      let t := { d.tim with ppsNom := some n }
      let near := match d.tim.ppsRise with | some r => decide (2 * (d.now - r) < d.ppsPeriod) | none => false
      if near || d.tim.pps then { d with tim := t }
      else { d with tim := { t with pps := true, ppsRise := some d.now, ppsFall := some (d.now + d.get 0x226100) } }

/-- PPS_OUT falls after PPS_WIDTH. -/
def Dev.ppsDrop (d : Dev) : Dev :=
  match d.tim.ppsFall with
  | some t => if t ≤ d.now then { d with tim := { d.tim with pps := false, ppsFall := none } } else d
  | none => d

/-- An edge of TIME_CAP is captured `back` ns before the tick's counter value, or counted as lost; EV28 either way (R131). -/
def Dev.capture (rising : Bool) (back : Nat) (d : Dev) : Dev :=
  let d := if d.tim.caps.length < 16 then
      ({ d with tim := { d.tim with caps := d.tim.caps ++ [{ time := d.time64 - back, epoch := d.get kEpoch, rising := rising }] } } : Dev).when d.tim.caps.isEmpty (Dev.genUp 0x225200)
    else d.inc 0x225300
  d.raise 28

/-- A rising edge in PPS discipline (R131): the first begins an epoch that sets the nanoseconds field to 0, later ones steer the rate so that edges fall at nanoseconds 0, and ten consecutive edges within 1 us lead to GM_DISCIPLINED. -/
def Dev.ppsDiscipline (back : Nat) (d : Dev) : Dev :=
  let s := d.get kTimeState
  if s ≠ 6 && s ≠ 7 then d
  else
    let t := d.time64 - back
    let n := t % 1000000000
    let d := { d with tim := { d.tim with ppsSeen := some d.now } }
    if !d.tim.ppsFirst then { d with tim := { d.tim with ppsFirst := true, ppsRun := 0 } }.stepBegin (.pps n)
    else
      let e : Int := if n < 500000000 then n else (n : Int) - 1000000000
      if e.natAbs ≤ 1000 then
        let d := { d with tim := { d.tim with meas := [], ppsRun := d.tim.ppsRun + 1 } }
        let d := d.servoMove
        if d.tim.ppsRun ≥ 10 then d.setTimeState 7 else d
      else
        let d := { d with tim := { d.tim with ppsRun := 0 } }
        match d.tim.meas with
        | [a, b] => d.jump (median3 a b e) true
        | l => { d with tim := { d.tim with meas := l ++ [e] } }

/-- The 16 bytes of CAP_ENTRY (R131). -/
def CapRec.bytes (c : CapRec) : List Byte := leBytes 8 c.time ++ leBytes 4 c.epoch ++ leBytes 1 (b2n c.rising) ++ zeros 3

/-- The counter starts from 0 when TIME becomes ready with its counter lost: an epoch begins and the state reads FREE (R126). -/
def Dev.timeStart (d : Dev) : Dev :=
  if d.tim.lost then
    let d := { d with tim := { ({} : Tim) with lost := false } }
    let d := d.does [Dev.put kEpoch ((d.get kEpoch + 1) % 2 ^ 32), Dev.put 0x220300 0, Dev.put 0x220400 0]
    ((d.raise 24).setTimeState 0).portStates 3
  else d

end Sys2Proof.Machine
end

