-- ==== Sys2Proof/Machine/Locus.lean ====
section
/-! DEFINITION. The Locus table (R132 to R137): arming, order, what falls due, re-arming of repeats, and re-evaluation at an epoch step. -/
namespace Sys2Proof.Machine

/-- Actions 1, 2, 5 and 6 take effect at a media boundary, the others at a tick (Table 5-11). -/
def mediaAction (a : Nat) : Bool := a = 1 || a = 2 || a = 5 || a = 6

/-- Table order: by TIME, and among equal TIME in the order armed (R132). -/
def locusInsert (e : LEntry) : List LEntry → List LEntry
  | [] => [e]
  | x :: t => if e.time < x.time then e :: x :: t else x :: locusInsert e t

/-- The entry armed in a slot. -/
def Dev.locusSlot (d : Dev) (ee : Nat) : Option LEntry := d.loc.table.find? (fun e => e.slot == ee)

/-- The table without a slot's entry. -/
def Dev.locusOut (ee : Nat) (d : Dev) : Dev := { d with loc := { d.loc with table := d.loc.table.filter (fun e => e.slot != ee) } }

/-- The slot freed. -/
def Dev.locusFree (ee : Nat) (d : Dev) : Dev := (d.locusOut ee).when (d.locusSlot ee).isSome (Dev.genUp (key 0x2310 ee))

/-- An entry armed in its slot, after every entry armed before it with the same TIME; an entry that stood there is replaced (R133). -/
def Dev.locusArm (e : LEntry) (d : Dev) : Dev :=
  let d := (d.locusOut e.slot).genUp (key 0x2310 e.slot)
  { d with loc := { d.loc with table := locusInsert { e with order := d.loc.armed } d.loc.table, armed := d.loc.armed + 1 } }

/-- Armed entries that fall on the media boundary of a TIME (R133). -/
def Dev.onBoundary (d : Dev) (t : Nat) : Nat :=
  (d.loc.table.filter (fun e => boundaryAt d.fs e.time == boundaryAt d.fs t)).length

/-- The lowest free slot, for a scheduled commit (R46). -/
def Dev.freeSlot (d : Dev) : Option Nat := (upto 256).find? (fun i => (d.locusSlot i).isNone)

/-- The entry that holds the scheduled commit of a group (R132). -/
def Dev.commitEntry (d : Dev) (g : Nat) : Option LEntry := d.loc.table.find? (fun e => e.action == 2 && e.target == g)

/-- The 40 bytes of a slot as a read of 2310.ee gives them: zeros where it is free (R133). -/
def Dev.locusBytes (d : Dev) (ee : Nat) : List Byte :=
  match d.locusSlot ee with
  | none => zeros 40
  | some e => leBytes 8 e.time ++ leBytes 1 e.action ++ leBytes 1 e.flags ++ leBytes 2 e.tag ++ leBytes 4 e.target ++ leBytes 8 e.value
      ++ leBytes 8 e.period ++ leBytes 4 e.epochReq ++ zeros 4

/-- The entry that 40 bytes written to a slot name; reserved fields read 0 (Table 5-10, R8). -/
def locusOf (ee : Nat) (b : List Byte) : LEntry :=
  { slot := ee, time := fieldAt 0 8 b, action := fieldAt 8 1 b, flags := fieldAt 9 1 b &&& 0x0F, tag := fieldAt 10 2 b, target := fieldAt 12 4 b,
    value := fieldAt 16 8 b, period := fieldAt 24 8 b, epochReq := fieldAt 32 4 b, order := 0 }

/-- An entry has fallen due (R14, R15): a tick action at the first tick at or after its TIME; a media action at the strobe that carries its boundary's index, so that it lands on the sample that index names: before the row of that strobe and after
the row of the strobe before it (assumption log 12); or, while no strobe runs, at that boundary's nominal time; a late entry once the strobes are reloaded (R137). -/
def Dev.entryDue (d : Dev) (e : LEntry) : Bool :=
  if e.late then d.tim.step.isNone && (!mediaAction e.action || d.tim.reload.isNone)
  else if !mediaAction e.action then decide (e.time ≤ d.time64)
  else if d.med.run then decide (boundaryAt d.fs e.time ≤ d.med.index + 1)
  else decide (boundaryTime d.fs (boundaryAt d.fs e.time) ≤ d.time64)

/-- At most 64 late entries run at one boundary, the rest spill to the following ones (R137). -/
def Dev.lateRoom (d : Dev) : Bool := !(d.loc.ranIndex = d.med.index && d.med.run) || decide (d.loc.ranCount < 64)

/-- The first due entry in table order, among media actions or among tick actions (R134). -/
def Dev.firstDue (d : Dev) (media : Bool) : Option LEntry :=
  d.loc.table.find? (fun e => mediaAction e.action == media && d.entryDue e && (!e.late || d.lateRoom))

/-- A repeating entry armed again at TIME + PERIOD; an occurrence whose boundary is full is skipped and counted in 2304.00 (R134). -/
def Dev.rearm (e : LEntry) : Nat → Dev → Dev
  | 0, d => d.genUp (key 0x2310 e.slot)
  | n + 1, d =>
    let e := { e with time := e.time + e.period, late := false }
    if d.onBoundary e.time < 64 then d.locusArm e else (d.inc 0x230400).rearm e n

/-- Occurrences of a repeating entry up to a counter value, passed over by a late run. -/
def passedOver (e : LEntry) (now : Nat) : Nat := if e.period = 0 || now < e.time then 0 else (now - e.time) / e.period

/-- An entry's action is done with an error code: the slot is freed or re-armed, and 2312.ee written with the code, LATE and TAG. A late repeating entry goes on from the first TIME + k × PERIOD after the counter (R134, R137). -/
def Dev.locusDone (e : LEntry) (code : Nat) (d : Dev) : Dev :=
  let d := d.put (key 0x2312 e.slot) (code + 256 * b2n e.late + 65536 * e.tag)
  let d := if e.late then
      (if d.loc.ranIndex = d.med.index then { d with loc := { d.loc with ranCount := d.loc.ranCount + 1 } }
       else { d with loc := { d.loc with ranIndex := d.med.index, ranCount := 1 } })
    else d
  match d.locusSlot e.slot with
  | some x =>
    if x.order ≠ e.order then d
    else
      let d := if e.period = 0 then d.locusFree e.slot else d.locusOut e.slot
      if e.period = 0 then d
      else if e.late then
        let k := passedOver e d.time64
        let d := d.bump 32 0x230400 k
        d.rearm { e with time := e.time + k * e.period } 256
      else d.rearm e 256
  | none => d

/-- An entry discarded: its slot is freed, counted in 2304.00, and 2312.ee shows DISCARDED (R137). -/
def Dev.locusDiscard (e : LEntry) (d : Dev) : Dev :=
  (d.locusFree e.slot).does [Dev.inc 0x230400, Dev.put (key 0x2312 e.slot) (512 + 65536 * e.tag)]

/-- One entry at the step of R128 from `old` to `new` (R137): kept, shifted, discarded, or passed and then run late or discarded. The flag tells whether one ran late or was discarded. -/
def Dev.reEntry (old new : Nat) (e : LEntry) (r : Dev × Bool) : Dev × Bool :=
  let (d, ev) := r
  if e.time ≤ old then (d, ev)
  else
    let pol := if e.action = 2 then 0 else fld e.flags 2 1
    let past := if e.action = 2 then false else bit e.flags 0
    if pol = 2 then (d.locusDiscard e, true)
    else
      let t := if pol = 1 then e.time + new - old else e.time
      let e' := { e with time := t }
      let d := d.when (t != e.time) (Dev.genUp (key 0x2310 e.slot))
      if t ≥ new then
        ({ d with loc := { d.loc with table := locusInsert e' (d.loc.table.filter (fun x => x.slot != e.slot)) } }, ev)
      else if past then (d.locusDiscard e', true)
      else
        let d := d.inc 0x230300
        ({ d with loc := { d.loc with table := locusInsert { e' with late := true } (d.loc.table.filter (fun x => x.slot != e.slot)) } }, true)

/-- Every armed entry re-evaluated in table order at a step; EV29 once if any runs late or is discarded (R137). -/
def Dev.locusReevaluate (old new : Nat) (d : Dev) : Dev :=
  let (d', ev) := d.loc.table.foldl (fun r e => Dev.reEntry old new e r) (d, false)
  if ev then d'.raise 29 else d'

/-- Every slot freed except those that hold scheduled commits (2302.00). -/
def Dev.locusClear (d : Dev) : Dev := d.loc.table.foldl (fun (a : Dev) e => if e.action = 2 then a else a.locusFree e.slot) d

/-- Every slot freed, scheduled commits too (R87, R136). -/
def Dev.locusDrop (d : Dev) : Dev := { d with loc := { d.loc with table := [] } }

/-- An action's failure on execution: logged, counted in 2306.00, EV29; one of the event-to-action table triggers no entry (R135, R139). -/
def Dev.actionFail (index sub code source : Nat) (d : Dev) : Dev :=
  let d := (d.logError index sub code source 0xFF 0).inc 0x230600
  if source = 4 then d.raiseQuiet 29 else d.raise 29

/-- The step of the counter (R128): its new value, the epoch number, EV24, the state, the Locus entries; with media domains steered by time they move to the synthesiser and the reload is awaited. -/
def Dev.stepMake (goal : StepTo) (d : Dev) : Dev :=
  let old := d.time64
  let new := match goal with
    | .jump e => ((old : Int) - e).toNat
    | .value v => v
    | .pps e => ((old : Int) - e).toNat
  let frac := d.tim.frac
  let t := d.tim.set new
  let t := { t with step := none, slew := 0, remain := 0, meas := [], frac := (match goal with | .value _ => 0 | _ => frac) }
  let d := { d with tim := t }
  let d := { d with tim := { d.tim with ppsNom := d.ppsNominal } }
  let d := d.does [Dev.put kEpoch ((d.get kEpoch + 1) % 2 ^ 32), Dev.put 0x220300 new, Dev.put 0x220400 old, Dev.raise 24]
  let d := match goal with
    | .jump _ => d.setTimeState 3
    | .value _ => if d.get kTimeState = 6 then d else d.setTimeState 1
    | .pps _ => d
  let d := d.locusReevaluate old new
  if d.med.run then
    if d.steeredByTime then
      let d := { d with tim := { d.tim with reload := some (d.now + 1000000) }, clk := { d.clk with timeSlew := true } }
      d.holdover
    else { d with med := { d.med with index := boundaryAt d.fs (new + 1) - 1 } }
  else d

/-- The strobe dividers are reloaded at a nominal boundary: the sample period that spans the reload is tagged INV, and the strobes take their nominal times (Table 5-8, R15). -/
def Dev.strobeReload (d : Dev) : Dev :=
  match d.tim.reload with
  | some t =>
    if t ≤ d.now then
      { d with tim := { d.tim with reload := none }, clk := { d.clk with timeSlew := false },
               med := { d.med with index := boundaryAt d.fs d.time64 - 1, invOnce := true } }
    else d
  | none => d

end Sys2Proof.Machine
end

