-- ==== Sys2Proof/Machine/Facet.lean ====
section
/-! DEFINITION. The Facet array (R286 to R321): engines, releases, ports and their tags, swaps, faults, user objects, the loader and the boot store. -/
namespace Sys2Proof.Machine

def Dev.eng (d : Dev) (e : Nat) : Eng := nthD {} d.fac.engs e
def Dev.modEng (e : Nat) (f : Eng → Eng) (d : Dev) : Dev := { d with fac := { d.fac with engs := modNth f d.fac.engs e } }

/-- ENGINE_STATE: 0 EMPTY, 1 STOPPED, 2 RUNNING, 3 FAULT, 4 RATE_FAIL. -/
def Dev.engState (d : Dev) (e : Nat) : Nat := d.get (key (0x5400 + e) 1)

/-- A change of ENGINE_STATE raises EV102 (Table 12-13). -/
def Dev.setEng (e s : Nat) (d : Dev) : Dev := if d.engState e = s then d else (d.put (key (0x5400 + e) 1) s).raise 102

/-- The clock in use (Table 12-1). -/
def Dev.fclk (d : Dev) (e : Nat) : Nat := if (d.eng e).slow || d.bitOf 0x200400 4 then 400000000 else 800000000

def Bank.task (b : Bank) (t : Nat) : Option ImgTask := b.img.tasks.find? (fun x => x.num == t)
def Bank.run (b : Bank) (t : Nat) : TaskRun := match b.tasks.find? (fun x => x.num == t) with | some r => r | none => { num := t }
def Bank.setRun (b : Bank) (r : TaskRun) : Bank := { b with tasks := b.tasks.map (fun x => if x.num = r.num then r else x) }

/-- The first multiple of `h` at or after `n`. -/
def upTo (n h : Nat) : Nat := ceilDiv n (max 1 h) * max 1 h

/-! Flags of a pair of banks (R313) -/

def Dev.swapClean (d : Dev) (e : Nat) : Bool :=
  match (d.eng e).active, (d.eng e).standby with
  | some a, some b => pairFits a.img.tasks b.img.tasks (d.fclk e) d.fs
  | _, _ => false

/-- Every output port is written by both images with equal delay. -/
def delayMatch (a b : Image) : Bool :=
  a.ports.all (fun p => b.ports.any (fun q => q.port == p.port && b.portDelay q == a.portDelay p))
    && b.ports.all (fun q => a.ports.any (fun p => p.port == q.port))

/-- The partner of an INHERIT allocation: same name and size in the other image, with the same H. -/
def partner (other : Image) (h : Nat) (x : ImgAlloc) : Option ImgAlloc :=
  if x.inherit_ && other.hyper = h then other.allocs.find? (fun y => y.inherit_ && y.name == x.name && y.size == x.size) else none

def inheritOk (a b : Image) : Bool := b.allocs.all (fun x => !x.inherit_ || (partner a b.hyper x).isSome)

def Dev.pairFlags (d : Dev) (e : Nat) : Bool × Bool × Bool :=
  match (d.eng e).active, (d.eng e).standby with
  | some a, some b => (d.swapClean e, delayMatch a.img b.img, inheritOk a.img b.img)
  | _, _ => (false, false, false)

/-- An image fits at 400 MHz. -/
def Dev.ecoFit (d : Dev) (b : Option Bank) : Bool := match b with | some x => (overBudget x.img.tasks 400000000 d.fs).isNone | none => true

/-- No loaded image fails its budget at 400 MHz (R72, R291). -/
def Dev.allEco (d : Dev) : Bool := (upto 8).all (fun e => d.ecoFit (d.eng e).active && d.ecoFit (d.eng e).standby)

/-! User objects (R48 to R50, R298 to R301) -/

/-- Bytes of a value of a type code. -/
def typeBytes (ty : Nat) : Nat := nthD 4 [1, 1, 2, 4, 8, 2, 4, 4, 4, 4, 8, 1, 2, 4, 0] ty

/-- A value lies in a binding's range. -/
def ImgBind.holds (b : ImgBind) (v : Nat) : Bool :=
  b.ty = 14 || b.ty = 12 || b.ty = 13 ||
    (match exactOf b.ty v, exactOf b.ty b.lo, exactOf b.ty b.hi with
     | some x, some l, some h => decide (exactCmp l x ≤ 0) && decide (exactCmp x h ≤ 0)
     | _, _, _ => false)

/-- The engine whose active image binds an object, and the binding. -/
def Dev.bindOf (d : Dev) (k : Nat) : Option (Nat × ImgBind) :=
  (upto 8).findSome? (fun e => match (d.eng e).active with | some b => (b.img.binds.find? (fun x => x.obj == k)).map (fun x => (e, x)) | none => none)

/-- The image that declares a user group. -/
def Dev.userGroup (d : Dev) (g : Nat) : Option (Image × ImgGroup) :=
  (upto 8).findSome? (fun e => match (d.eng e).active with | some b => (b.img.groups.find? (fun x => x.grp == g)).map (fun x => (b.img, x)) | none => none)

/-- An object ceases: its value and staged value are gone. -/
def Dev.dropKey (k : Nat) (d : Dev) : Dev :=
  { d with st := { d.st with obj := assocDel k d.st.obj, blob := assocDel k d.st.blob, gen := assocDel k d.st.gen, staged := assocDel k d.st.staged, stagedBlob := assocDel k d.st.stagedBlob } }

/-- The stored value of a class P user object of a type (R50). -/
def Dev.pval (d : Dev) (k ty : Nat) : Option Nat := (d.fac.pvals.find? (fun e => e.1 == k && e.2.1 == ty)).map (·.2.2)

/-- A class P user object's value stored in the MRAM region. -/
def Dev.pvalSet (k ty v : Nat) (d : Dev) : Dev := { d with fac := { d.fac with pvals := d.fac.pvals.filter (fun e => !(e.1 == k && e.2.1 == ty)) ++ [(k, ty, v)] } }

/-- Bytes of the region in use, each value with its index, subindex and type. -/
def Dev.pvalBytes (d : Dev) : Nat := d.fac.pvals.foldl (fun a e => a + typeBytes e.2.1 + 4) 0

/-- The initial value of a bound object (R50): stored, else held by the outgoing image, else of a restored snapshot, else the default. -/
def Dev.bindStart (old : List ImgBind) (b : ImgBind) (d : Dev) : Dev :=
  let held := match old.find? (fun x => x.obj == b.obj && x.ty == b.ty) with | some _ => if b.holds (d.get b.obj) then some (d.get b.obj) else none | none => none
  let stored := if b.ret = 0 then (match d.pval b.obj b.ty with | some v => if b.holds v then some v else none | none => none) else none
  let snap := if b.ret = 0 then none else match d.fac.restore.find? (fun e => e.1 == b.obj && e.2.1 == b.ty) with
    | some e => if b.holds e.2.2 then some e.2.2 else none
    | none => none
  if b.ty = 14 then (match held with | some _ => d | none => (d.dropKey b.obj).putBlob b.obj [])
  else
    let v := match stored, held, snap with | some v, _, _ => v | none, some v, _ => v | none, none, some v => v | none, none, none => b.dflt % 256 ^ typeBytes b.ty
    d.put b.obj v

/-- Bindings change from an outgoing image's to an incoming one's (R301): objects bound only by the outgoing cease; a user group that ceases loses its scheduled commit, with EV6. -/
def Dev.rebind (old new : List ImgBind) (oldG newG : List ImgGroup) (d : Dev) : Dev :=
  let gone := oldG.filter (fun g => !newG.any (fun h => h.grp == g.grp))
  let d := gone.foldl (fun (a : Dev) g => match a.commitEntry g.grp with | some x => (a.locusFree x.slot).raise 6 | none => a) d
  let d := new.foldl (fun (a : Dev) b => a.bindStart old b) d
  (old.filter (fun b => !new.any (fun x => x.obj == b.obj))).foldl (fun (a : Dev) b => a.dropKey b.obj) d

/-! Envelope slots (R302) -/

/-- A slot's missing bit of 5601.00 changes: counted when it becomes missing, EV97 either way. -/
def Dev.envMissing (n : Nat) (miss : Bool) (d : Dev) : Dev :=
  if d.bitOf 0x560100 (8 + n) = miss then d
  else ((d.putBit 0x560100 (8 + n) miss).when miss (Dev.inc 0x560200)).raise 97

/-- Every slot of an image becomes missing. -/
def Dev.envLose (i : Image) (d : Dev) : Dev := i.envs.foldl (fun (a : Dev) e => if e.1 < 8 then a.envMissing e.1 true else a) d

/-- The engine whose active image declares the pilot point of SPKn (R304). -/
def Dev.pilotOwner (d : Dev) (n : Nat) : Option Nat := (upto 8).find? (fun e => match (d.eng e).active with | some b => b.img.pilots.any (fun p => p.1 == n) | none => false)

/-- A running active image declares the pilot point: the power stage adds no pilots of its own (R303). -/
def Dev.pilotHeld (d : Dev) (n : Nat) : Bool := match d.pilotOwner n with | some e => d.engState e = 2 | none => false

/-! Banks -/

/-- The Tessera areas of a bank freed, except those the other bank shares. -/
def Dev.freeBank (b : Bank) (other : Option Bank) (d : Dev) : Dev :=
  let kept : List Nat := match other with | some o => (o.img.allocs.filter (fun (x : ImgAlloc) => !x.loc)).map ImgAlloc.addr | none => []
  (b.img.allocs.filter (fun x => !x.loc)).foldl (fun (a : Dev) x => if kept.contains x.addr then a else a.freeArea x.addr) d

/-- The standby bank discarded, with its allocations and reserved bindings (R310); a swap that waited for it is dropped. -/
def Dev.discardStandby (e : Nat) (d : Dev) : Dev :=
  match (d.eng e).standby with
  | some b => (d.freeBank b (d.eng e).active).modEng e (fun x => { x with standby := none, standbyBad := false, swapAt := none, swapKey := none, drain := none })
  | none => d

/-- Both banks unloaded (R318): allocations freed, bindings removed, the engine EMPTY. -/
def Dev.unload (e : Nat) (d : Dev) : Dev :=
  let d := d.discardStandby e
  let d := match (d.eng e).active with
    | some b => ((d.freeBank b none).rebind b.img.binds [] b.img.groups []).envLose b.img
    | none => d
  let d := d.modEng e (fun x => { ({} : Eng) with slow := x.slow, recovers := x.recovers, ev98 := x.ev98, clkAt := x.clkAt })
  d.setEng e 0

/-- Bytes of local memory of an image's half, or of both for a wide image (Table 12-1). -/
def Image.localSize (i : Image) : Nat := if i.wide then 0x40000 else 0x20000

/-- Every allocation placed whole (R294, R310), or the record at fault; `cur` is the next free local address. -/
def placeAll (other : Option Image) (h limit : Nat) : List ImgAlloc → Nat → Nat → Dev → Except Nat (List ImgAlloc × Dev)
  | [], _, _, d => .ok ([], d)
  | x :: t, n, cur, d =>
    let shared := match other with | some o => partner o h x | none => none
    let next := fun (y : ImgAlloc) (cur : Nat) (d : Dev) => match placeAll other h limit t (n + 1) cur d with
      | .ok (l, d) => .ok (y :: l, d)
      | .error r => .error r
    match shared with
    | some y =>
      if y.loc then
        let q := ceilDiv cur (max 1 x.align) * max 1 x.align
        if q + x.size ≤ limit then next { x with loc := true, addr := q, shared := true } (q + x.size) d else .error n
      else next { x with loc := false, addr := y.addr, shared := true } cur d
    | none =>
      if x.place = 0 then
        let q := ceilDiv cur (max 1 x.align) * max 1 x.align
        if q + x.size ≤ limit then next { x with loc := true, addr := q } (q + x.size) d else .error n
      else
        let inBank := if x.place = 2 then none else d.place false x.size x.align
        let inPool := if x.place = 1 then none else d.place true x.size x.align
        match inBank, inPool with
        | some a, _ => next { x with loc := false, addr := a } cur ((d.takeArea a x.size).when x.zero (Dev.store a (zeros x.size)))
        | none, some a => next { x with loc := false, addr := a } cur ((d.takeArea a x.size).when x.zero (Dev.store a (zeros x.size)))
        | none, none => .error n

/-- Bytes of local memory written. -/
def memPut (m : List Host.Cell) (a : Nat) (b : List Byte) : List Host.Cell := memWriteAll (cellsAt a b) m

/-- A bank made of an image: INIT sections copied, a run for each task (R310). -/
def bankOf' (i : Image) : Bank :=
  { img := i, mem := i.inits.foldl (fun m e => memPut m e.1 e.2) [], tasks := i.tasks.map (fun t => { num := t.num, ctx := { pc := t.entry } }) }

/-! Loader checks that the state decides (R299, R308) -/

/-- BINDING: the object at fault, or none. -/
def Dev.bindBad (d : Dev) (e : Nat) (i : Image) : Option Nat :=
  let others := (upto 8).filter (· != e)
  let imgs := others.flatMap (fun f => (((d.eng f).active.toList ++ (d.eng f).standby.toList)).map (·.img))
  let own := match (d.eng e).active with | some b => b.img.binds | none => []
  match i.binds.find? (fun b => b.obj < 0x800000 || b.obj ≥ 0xC00000 || imgs.any (fun o => o.binds.any (fun x => x.obj == b.obj)) || own.any (fun x => x.obj == b.obj && x.ty != b.ty)) with
  | some b => some b.obj
  | none =>
    if i.groups.any (fun g => imgs.any (fun o => o.groups.any (fun x => x.grp == g.grp))) then some 0
    else if i.pilots.any (fun p => imgs.any (fun o => o.pilots.any (fun x => x.1 == p.1))) then some 0
    else none

/-- Table 19-6: the lifecycle state accepts an image's signing and decryption slots. -/
def Dev.imageAccepted (d : Dev) (i : Image) : Bool :=
  let sl := fld i.keyId 7 0
  match d.life with
  | 0 => sl = 0 && !i.enc
  | 1 => 1 ≤ sl && sl ≤ 4 && (!i.enc || (d.get (key 0x7110 (fld i.keyId 15 8)) = 1 && !d.sec.failed))
  | 2 => 1 ≤ sl && sl ≤ 4 && (!i.enc || (d.get (key 0x7110 (fld i.keyId 15 8)) = 1 && !d.sec.failed))
  | 3 => sl ≤ 4 && !i.enc
  | _ => false

/-- The signing slot holds a key that verifies (R450). -/
def Dev.signSlotOk (d : Dev) (i : Image) : Bool :=
  let sl := fld i.keyId 7 0
  sl = 0 || (sl ≤ 4 && d.get (key 0x7110 sl) = 1)

/-- The checks FORMAT to BUDGET of Table 12-6: the image, or a result code and its detail. -/
def Dev.checkImage (d : Dev) (e : Nat) (v : Verdict) (b : List Byte) : Except (Nat × Nat) Image :=
  match readImage v b with
  | .error o => .error (3, o)
  | .ok i =>
    if fieldAt 16 4 b ≠ 0x4816 || fieldAt 20 2 b > d.get 0x100200 then .error (4, 0)
    else if !(d.signSlotOk i && v.sig) then .error (5, 0)
    else if !d.imageAccepted i then .error (6, 0)
    else if i.enc && !v.gcm then .error (7, 0)
    else match v.flow with
      | some a => .error (8, a)
      | none =>
        if !i.rateOk (d.get 0x210000) then .error (9, d.get 0x210000)
        else match overBudget i.tasks (d.fclk e) d.fs with
          | some t => .error (10, t)
          | none => .ok i

/-- An image installed in an engine (R308 MEMORY to PORTS, R310): the part, or a result code and its detail, with the part unchanged. -/
def Dev.install (e : Nat) (i : Image) (d : Dev) : Except (Nat × Nat) Dev :=
  let x := d.eng e
  if (i.wide && d.engState e ≠ 0) || (match x.active with | some a => a.img.wide | none => false) then .error (11, 0)
  else
    let d' := d.discardStandby e
    match placeAll (x.active.map (·.img)) i.hyper i.localSize i.allocs 0 0 d' with
    | .error r => .error (11, r)
    | .ok (l, d') =>
      match d.bindBad e i with
      | some k => .error (12, k * 256)
      | none => match i.portBad with
        | some p => .error (13, p)
        | none =>
          let i := { i with allocs := l }
          let b := bankOf' i
          if d.engState e = 0 then
            .ok (((d'.modEng e (fun y => { y with active := some b })).rebind [] i.binds [] i.groups).setEng e 1)
          else .ok (d'.modEng e (fun y => { y with standby := some b, standbyBad := false }))

/-! Starting and stopping (R290) -/

/-- A START: the first boundary that is a multiple of H and at least 1 µs away. -/
def Dev.engStart (e : Nat) (d : Dev) : Dev :=
  match (d.eng e).active with
  | some b =>
    let n := max (d.med.index + 1) (boundaryAt d.fs (d.time64 + 1000))
    d.modEng e (fun x => { x with startAt := some (upTo n b.img.hyper), stopAt := none })
  | none => d

/-- The active image begins at its start point: tag pipelines filled with INV, ports without an output yet. -/
def Dev.engBegin (e : Nat) (d : Dev) : Dev :=
  let x := d.eng e
  match x.startAt, x.active with
  | some n, some b =>
    if n ≤ d.med.index + 1 && d.med.run && d.engState e = 1 then
      let b := { b with outs := [], pipe := b.img.ports.map (fun p => (p.port, n)), since := n, tasks := b.tasks.map (fun t => { t with rel := none, seen := none, vals := [], sets := [], clrs := [], envs := [] }) }
      (d.modEng e (fun x => { x with active := some b, startAt := none, last := [], drain := none, fenced := false })).setEng e 2
    else d
  | _, _ => d

/-- A running engine stops: its ports hold their last value, its envelope slots are missing, its locks are free. -/
def Dev.engHalt (e : Nat) (d : Dev) : Dev :=
  let quiet := fun (b : Bank) => { b with outs := [], tasks := b.tasks.map (fun t => { t with rel := none, vals := [], sets := [], clrs := [], envs := [] }) }
  let d := d.modEng e (fun x => { x with active := x.active.map quiet, standby := x.standby.map quiet, stopAt := none, startAt := none, drain := none })
  let d := d.locksFree e
  let d := match (d.eng e).active with | some b => d.envLose b.img | none => d
  d.setEng e 1

/-- A STOP takes effect at the next multiple of H. -/
def Dev.engStop (e : Nat) (d : Dev) : Dev :=
  match (d.eng e).active with
  | some b => d.modEng e (fun x => { x with stopAt := some (upTo (d.med.index + 1) b.img.hyper) })
  | none => d

/-! Faults (R317, R318) -/

/-- An engine fault: it stops at once, is fenced and loses its locks, with a black-box record and EV99. -/
def Dev.engFault (e cause addr task : Nat) (standby : Bool) (d : Dev) : Dev :=
  if e ≥ 8 || (d.engState e ≠ 2) then d
  else
    let d := d.does [Dev.put (key (0x5400 + e) 4) (d.get (key (0x5400 + e) 4) ||| 2 ^ cause), Dev.put (key (0x5400 + e) 5) (addr % 65536 + 65536 * task + 1048576 * b2n standby), Dev.inc (key (0x5400 + e) 0xF)]
    let held := (upto 16).filter (fun k => d.get (lockObj k) == e)
    let d := held.foldl (fun (a : Dev) k => ((((a.lockFree k).inc 0x583200).bbMake 7 1 109 (e + 1) 1 k).raise 109).raise 5) d
    let by_ := (d.eng e).swapKey
    let pend := (d.eng e).swapAt.isSome
    let d := d.engHalt e
    let d := d.modEng e (fun x => { x with fenced := true, swapAt := none, swapKey := none })
    let d := match by_ with | some k => if pend then d.actionFail (k / 256) (k % 256) eRange 3 else d | none => d
    let d := d.setEng e 3
    let d := (d.bbMake 6 2 99 e (d.get (key (0x5400 + e) 4)) (d.get (key (0x5400 + e) 5))).raise 99
    let recent := (d.eng e).recovers.filter (fun t => t + 60000000000 > d.now)
    if d.get (key (0x5400 + e) 9) = 1 && recent.length < 3 then d.modEng e (fun x => { x with recoverAt := some (d.now + 100000000), recovers := recent })
    else d.modEng e (fun x => { x with recoverAt := none, recovers := recent })

/-! The loader (R307, R308, R311) -/

/-- The result of a load, with its detail and EV100. -/
def Dev.loadEnd (code detail : Nat) (d : Dev) : Dev := (({ d with fac := { d.fac with checking := false } }.put 0x548005 code).put 0x548006 detail).raise 100

/-- Bytes in the boot store beside one slot. -/
def Dev.bootUsed (d : Dev) (slot : Nat) : Nat := (d.fac.boot.filter (fun s => s.1 != slot)).foldl (fun a s => a + s.2.1.length) 0

/-- A boot slot written or emptied. -/
def Dev.bootSet (slot : Nat) (b : Option (List Byte × Verdict)) (d : Dev) : Dev :=
  let rest := d.fac.boot.filter (fun s => s.1 != slot)
  let d := { d with fac := { d.fac with boot := match b with | some x => rest ++ [(slot, x.1, x.2)] | none => rest } }
  let used := d.fac.boot.foldl (fun a s => a + s.2.1.length) 0
  let d := match b with
    | some x => (d.put (key 0x5490 slot) (fieldAt 8 4 x.1)).put (key 0x5491 slot) x.1.length
    | none => (d.put (key 0x5490 slot) 0).put (key 0x5491 slot) 0
  d.put 0x549200 (163840 - used)

/-- The checks of a staged image finish (R308): installed, written to the boot store, or refused. `ecc` is the offset of an uncorrectable word of the staging area (Table 17-3). -/
def Dev.loadResult (v : Verdict) (ecc : Option Nat) (d : Dev) : Dev :=
  if !d.fac.checking then d
  else
    let e := d.get 0x548000
    match ecc with
    | some o => ((d.eccBad (0x700000 + o)).loadEnd 3 o)
    | none => match d.checkImage e v d.fac.staged with
      | .error (c, x) => d.loadEnd c x
      | .ok i =>
        if d.get 0x548001 = 1 then
          if d.mode = 10 then d.loadEnd 6 0
          else match i.portBad with
            | some p => d.loadEnd 13 p
            | none =>
              let free := 163840 - d.bootUsed e
              if i.size > free then d.loadEnd 14 free
              else (d.bootSet e (some (d.fac.staged.take i.size, v))).loadEnd 2 i.size
        else match d.install e i with
          | .error (c, x) => d.loadEnd c x
          | .ok d => d.loadEnd 2 i.size

/-- An EMPTY engine with BOOT_ENABLE and a valid slot loads it, re-verified in full, and starts; a failed boot load leaves it EMPTY with the result recorded (R311). -/
def Dev.bootLoad (e : Nat) (d : Dev) : Dev :=
  if d.engState e ≠ 0 || d.get (key (0x5400 + e) 8) ≠ 1 then d
  else match d.fac.boot.find? (fun s => s.1 == e) with
    | none => d
    | some (_, b, v) => match d.checkImage e v b with
      | .error (c, x) => d.loadEnd c x
      | .ok i => match d.install e i with
        | .error (c, x) => d.loadEnd c x
        | .ok d => (d.loadEnd 2 i.size).engStart e

/-- CLEAR_FAULT (R318): both banks unloaded, the engine EMPTY, and the boot load where it is enabled. -/
def Dev.clearFault (e : Nat) (d : Dev) : Dev :=
  let d := d.unload e
  let d := d.does [Dev.put (key (0x5400 + e) 4) 0, Dev.put (key (0x5400 + e) 5) 0]
  d.bootLoad e

/-- 100 ms after a fault with AUTO_RECOVER set. -/
def Dev.autoRecover (e : Nat) (d : Dev) : Dev :=
  match (d.eng e).recoverAt with
  | some t =>
    if t ≤ d.now && d.engState e = 3 then
      let d := d.modEng e (fun x => { x with recoverAt := none, recovers := x.recovers ++ [d.now] })
      d.clearFault e
    else d
  | none => d

/-! Releases (R287 to R289, R296, R300) -/

/-- The task an engine now runs (R289): of the tasks released and not ended, the smaller block, then the lower number; of two images, the outgoing one. The flag tells the active bank. -/
def Dev.current (d : Dev) (e : Nat) : Option (Bool × Bank × ImgTask × TaskRun) :=
  let x := d.eng e
  let of : Bool → Option Bank → List (Bool × Bank × ImgTask × TaskRun) := fun act b => match b with
    | some b => b.img.tasks.filterMap (fun (t : ImgTask) => let r := b.run t.num; if r.rel.isSome then some (act, b, t, r) else none)
    | none => []
  let l := of false x.standby ++ of true x.active
  if d.engState e ≠ 2 then none
  else l.foldl (fun (a : Option (Bool × Bank × ImgTask × TaskRun)) (c : Bool × Bank × ImgTask × TaskRun) => match a with
    | none => some c
    | some m => if c.2.2.1.block < m.2.2.1.block || (c.2.2.1.block = m.2.2.1.block && c.1 == m.1 && c.2.2.1.num < m.2.2.1.num) then some c else some m) none

/-- A bank of an engine changed. -/
def Dev.modBank (e : Nat) (act : Bool) (f : Bank → Bank) (d : Dev) : Dev :=
  d.modEng e (fun x => if act then { x with active := x.active.map f } else { x with standby := x.standby.map f })

def Dev.setRun (e : Nat) (act : Bool) (r : TaskRun) (d : Dev) : Dev := d.modBank e act (fun b => b.setRun r)

/-- Envelope slots of a task that a release ended without writing become missing, the others are delivered (R302). -/
def Dev.envEnd (b : Bank) (t : ImgTask) (r : TaskRun) (rel : Nat) (d : Dev) : Dev :=
  (b.img.envs.zip (upto 256)).foldl (fun (a : Dev) x =>
    let (spk, port, lead) := x.1
    if spk ≥ 8 || !(b.img.ports.any (fun p => p.port == port && p.task == t.num)) then a
    else match assoc x.2 r.envs with
      | some v =>
        let a := (a.put (key 0x5600 spk) v).envMissing spk false
        { a with fac := { a.fac with envQ := a.fac.envQ ++ [(spk, rel + t.block + lead, t.block, v)] } }
      | none => a.envMissing spk true) d

/-- A task that has not reached HALT at its deadline is aborted (R316). -/
def Dev.overrunTask (e t : Nat) (act : Bool) (d : Dev) : Dev :=
  match (if act then (d.eng e).active else (d.eng e).standby) with
  | none => d
  | some b => match b.task t, (b.run t).rel with
    | some tk, some n =>
      if n + tk.block > d.med.index + 1 || d.engState e ≠ 2 then d
      else
        let r := b.run t
        let d := d.setRun e act { r with rel := none, excess := r.excess + 1, vals := [], sets := [], clrs := [], envs := [], publ := [] }
        let d := (d.envEnd b tk { r with envs := [] } n).inc (key (0x5400 + e) 6)
        let d := d.locksFree e
        let quiet : Bool := match (d.eng e).ev98 with | some x => decide (d.now < x + 1000000) | none => false
        let d := if quiet then d else (d.modEng e (fun x => { x with ev98 := some d.now })).raise 98
        if r.excess + 1 ≥ 8 && !d.bitOf 0x200400 4 then d.engFault e 0 r.ctx.pc t (!act) else d
    | _, _ => d

/-- The samples of an input port at boundaries `n` - B to `n` - 1, oldest first. -/
def Eng.block (x : Eng) (port n b : Nat) : List Smp :=
  (upto b).map (fun i => match x.ins.find? (fun e => e.1 == n - b + i) with | some e => sampleAt e.2 port | none => {})

/-- A task is released at the latest boundary that is a multiple of its block (R288): the block it collected is its input, its bound variables are snapshot (R300), and it starts at its entry address. An outgoing image is released once more, at the swap boundary, where SWAP_CLEAN holds. -/
def Dev.release (e t : Nat) (act : Bool) (d : Dev) : Dev :=
  match (if act then (d.eng e).active else (d.eng e).standby) with
  | none => d
  | some b => match b.task t with
    | none => d
    | some tk =>
      let n := d.med.index / tk.block * tk.block
      let ok := if act then n ≥ b.since + tk.block else (d.eng e).drain = some n
      if d.engState e ≠ 2 || !ok || (b.run t).seen = some n then d
      else
        let d := if (b.run t).rel.isSome then d.overrunTask e t act else d
        if d.engState e ≠ 2 then d
        else
          let snap := (b.img.binds.zip (upto 256)).filterMap (fun x => if x.1.acc = 0 || x.1.ty = 14 then none else some (x.2, d.get x.1.obj))
          let vars := snap.foldl (fun m (x : Nat × Nat) => match b.img.binds[x.1]? with | some y => memPut m y.var (leBytes (typeBytes y.ty) x.2) | none => m)
          d.modBank e act (fun b =>
            let r := b.run t
            { b with mem := vars b.mem }.setRun { r with rel := some n, seen := some n, vals := [], sets := [], clrs := [], publ := [], envs := [], snap := snap,
                                                           ctx := { r.ctx with pc := tk.entry, loops := [], calls := [], dma := [] } })

/-- The end of a release (R288, R296, R300, R302, R294): its blocks go to the output ports, values are published, envelope records delivered, locks freed. A sample the release did not write has a free value. -/
def Dev.finish (e cycles : Nat) (d : Dev) : Dev :=
  match d.current e with
  | none => d
  | some (act, b, t, r) => match r.rel with
    | none => d
    | some n =>
      if n + t.block ≤ d.med.index then d.overrunTask e t.num act
      else
        let ports := b.img.ports.filter (fun p => p.task == t.num)
        let (outs, d) := ports.foldl (fun (acc : List (Nat × Nat × List (Int × Nat × Nat)) × Dev) p =>
          let (vs, d) := (upto t.block).foldl (fun (a : List (Int × Nat × Nat) × Dev) i =>
            let k := p.port * 64 + i
            let or0 := fun (l : List (Nat × Nat)) => match assoc k l with | some x => x | none => 0
            match assoc k r.vals with
            | some v => (a.1 ++ [(v, or0 r.sets, or0 r.clrs)], a.2)
            | none => let (x, d) := a.2.fresh; (a.1 ++ [(toInt 32 x, or0 r.sets, or0 r.clrs)], d)) ([], acc.2)
          (acc.1 ++ [(p.port, n + t.block, vs)], d)) ([], d)
        let d := d.modBank e act (fun b =>
          { b with outs := b.outs.filter (fun (o : Nat × Nat × List (Int × Nat × Nat)) => o.2.1 + o.2.2.length > d.med.index) ++ outs }.setRun
            { r with rel := none, excess := 0, vals := [], sets := [], clrs := [], envs := [], publ := [], observed := max r.observed cycles })
        let d := r.publ.foldl (fun (a : Dev) x => match b.img.binds[x.1]? with | some y => if act then a.put y.obj (x.2 % 256 ^ typeBytes y.ty) else a | none => a) d
        (d.envEnd b t r n).locksFree e

/-! Swaps (R312 to R315) -/

/-- An engine can be named in a swap: it has a valid standby image and runs or is stopped. -/
def Dev.swapOk (d : Dev) (e : Nat) : Bool := (d.eng e).standby.isSome && !(d.eng e).standbyBad && (d.engState e = 1 || d.engState e = 2)

def engsOf (mask : Nat) : List Nat := (upto 8).filter (fun e => bit mask e)

/-- A swap of a set of engines is requested: they swap together at S. `by_` is the Locus slot it comes from. -/
def Dev.swapRequest (mask : Nat) (by_ : Option Nat) (d : Dev) : Dev :=
  let l := engsOf mask
  let h := l.foldl (fun a e => [(d.eng e).active, (d.eng e).standby].foldl (fun a b => match b with | some x => max a x.img.hyper | none => a) a) 1
  let s := upTo (d.med.index + 1) h
  l.foldl (fun (a : Dev) e => (a.modEng e (fun x => { x with swapAt := some s, swapKey := by_ })).put (key (0x5400 + e) 3) (boundaryTime a.fs s)) d

/-- Contents of INHERIT allocations in local memory pass from the outgoing to the incoming bank. -/
def inheritMem (out inc : Bank) : List Host.Cell :=
  inc.img.allocs.foldl (fun m x =>
    if x.shared && x.loc then (match partner out.img inc.img.hyper x with | some y => memPut m x.addr (memReadN out.mem y.addr x.size) | none => m) else m) inc.mem

/-- The swap of one engine at boundary S (R313 to R315). -/
def Dev.swapOne (e s : Nat) (d : Dev) : Dev :=
  let x := d.eng e
  match x.active, x.standby with
  | some out, some inc =>
    let clean := d.swapClean e
    let same : Nat → Bool := fun p => match out.img.ports.find? (fun q => q.port == p), inc.img.ports.find? (fun q => q.port == p) with
      | some a, some b => out.img.portDelay a == inc.img.portDelay b
      | _, _ => false
    let pipeOf : Nat → Nat := fun p => bif same p then (match assoc p out.pipe with | some n => n | none => s) else s
    let inc' := { inc with mem := inheritMem out inc, outs := [], since := s, pipe := inc.img.ports.map (fun p => (p.port, pipeOf p.port)),
                           tasks := inc.tasks.map (fun t => { t with rel := none, seen := none, excess := 0, observed := 0 }) }
    let out' := { out with pipe := out.pipe.map (fun (q : Nat × Nat) => (q.1, bif same q.1 then q.2 else s)), tasks := out.tasks.map (fun t => { t with rel := none }) }
    let d := d.modEng e (fun y => { y with active := some inc', standby := some out', standbyBad := false, swapAt := none, swapKey := none, drain := if clean && d.engState e = 2 then some s else none })
    let d := d.rebind out.img.binds inc.img.binds out.img.groups inc.img.groups
    ((d.put (key (0x5400 + e) 3) (boundaryTime d.fs s)).inc (key (0x5400 + e) 7)).raise 101
  | _, _ => d.modEng e (fun y => { y with swapAt := none, swapKey := none })

/-- Swaps whose boundary has come. -/
def Dev.swapDue (d : Dev) : Dev :=
  (upto 8).foldl (fun (a : Dev) e => match (a.eng e).swapAt with | some s => if s ≤ a.med.index + 1 then a.swapOne e s else a | none => a) d

/-! Ports at a boundary (R288, R290, R296) -/

/-- The tag of an input port `depth` samples before the newest. -/
def tagBack : Nat → List (Nat × Nat) → Nat
  | _, [] => 8
  | k, (t, n) :: l => if k < n then t else tagBack (k - n) l

/-- A tag pushed on a run-length history. -/
def tagPush (t : Nat) : List (Nat × Nat) → List (Nat × Nat)
  | (u, n) :: l => if u = t then (u, n + 1) :: l else (t, 1) :: (u, n) :: l
  | [] => [(t, 1)]

/-- The propagated bits at a port for boundary `n` (R296): the OR of the tags of input sample n - (2B + D) over S_p, or HLD in holdover where S_p is empty; INV from a pipeline still filled with it. -/
def Dev.propagated (d : Dev) (e : Nat) (b : Bank) (p : ImgPort) (n : Nat) : Nat :=
  let dl := b.img.portDelay p
  let from_ := match assoc p.port b.pipe with | some m => m | none => n + 1
  if n < from_ + dl then 8
  else if p.srcs = 0 then b2n d.clk.hldAt.isSome
  else (upto 32).foldl (fun a i => if bit p.srcs i then a ||| tagBack (dl - 1) (match assoc i (d.eng e).hist with | some l => l | none => []) else a) 0

/-- A bank's output at a port for boundary `n`: value and tag. -/
def Dev.bankOut (d : Dev) (e : Nat) (b : Bank) (port n : Nat) : Option Smp :=
  match b.outs.find? (fun o => o.1 == port && o.2.1 ≤ n && n < o.2.1 + o.2.2.length), b.img.ports.find? (fun p => p.port == port) with
  | some (_, start, vs), some p =>
    let (v, set, clr) := nthD (0, 0, 0) vs (n - start)
    some { v := v, t := (clearBits (d.propagated e b p n) (clr &&& 3)) ||| set }
  | _, _ => none

/-- Every output port of an engine at boundary `n`: the active image's block, else the outgoing one's, else the last value tagged INV. -/
def Dev.engOut (e n : Nat) (d : Dev) : List (Nat × Smp) × Dev :=
  let x := d.eng e
  let ports := ((x.active.toList ++ (if x.drain.isSome then x.standby.toList else [])).flatMap (fun b => b.img.ports.map (·.port))).eraseDups
  ports.foldl (fun (r : List (Nat × Smp) × Dev) p =>
    let hold : Smp := { v := (match assoc p x.last with | some v => v | none => 0), t := 8 }
    let s := if d.engState e ≠ 2 then hold
      else match x.active.bind (fun b => d.bankOut e b p n) with
        | some s => s
        | none => match (if x.drain.isSome then x.standby.bind (fun b => d.bankOut e b p n) else none) with
          | some s => s
          | none => hold
    (r.1 ++ [(0x200 + 32 * e + p, s)], r.2.modEng e (fun y => { y with last := assocPut p s.v y.last }))) ([], d)

/-- The output ports of the array at boundary `n`, after a stop that falls on it. -/
def Dev.facOutputs (n : Nat) (d : Dev) : List (Nat × Smp) × Dev :=
  let d := (upto 8).foldl (fun (a : Dev) e => match (a.eng e).stopAt with | some s => if s ≤ n && a.engState e = 2 then a.engHalt e else a | none => a) d
  (upto 8).foldl (fun (r : List (Nat × Smp) × Dev) e => let (l, d) := r.2.engOut e n; (r.1 ++ l, d)) ([], d)

/-- The input ports take their samples at boundary `n`. -/
def Dev.facInputs (n : Nat) (d : Dev) : Dev :=
  (upto 8).foldl (fun (a : Dev) e =>
    if a.engState e = 0 then a
    else
      let b := a
      let (l, a) := a.muxAll (fun c => b.fabric c) (a.muxKeys (0x5030 + e))
      let x := a.eng e
      let srcs := (x.active.toList ++ x.standby.toList).foldl (fun m b => b.img.ports.foldl (fun m p => m ||| p.srcs) m) 0
      a.modEng e (fun y => { y with ins := ((n, l) :: y.ins).take 192,
                                     hist := (upto 32).foldl (fun h i => if bit srcs i then assocPut i (tagPush (sampleAt l i).t (match assoc i h with | some r => r | none => [])) h else h) y.hist })) d

/-! READY, PLAY-ECO, reload (R286, R291, R319, R320) -/

/-- READY entry: images checked at the committed rate (R319), boot slots loaded (R311), and engines that were RUNNING start again. -/
def Dev.facReady (d : Dev) : Dev :=
  (upto 8).foldl (fun (a : Dev) e =>
    let fits := fun (b : Bank) => b.img.rateOk (a.get 0x210000) && (overBudget b.img.tasks (a.fclk e) a.fs).isNone
    let st := a.engState e
    let a := match (a.eng e).active with
      | some b => if st = 1 || st = 4 then (if fits b then a.setEng e 1 else (if st = 4 then a.raise 102 else a.setEng e 4)) else a
      | none => a
    let a := match (a.eng e).standby with | some b => a.modEng e (fun x => { x with standbyBad := !fits b }) | none => a
    let a := if (a.eng e).resume && a.engState e = 1 then (a.modEng e (fun x => { x with resume := false })).engStart e else a
    a.bootLoad e) d

/-- A step down to LINKED: running engines stop (R286) and are remembered. -/
def Dev.facStop (d : Dev) : Dev :=
  (upto 8).foldl (fun (a : Dev) e =>
    if a.engState e = 2 then (a.engHalt e).modEng e (fun x => { x with resume := true, ins := [], hist := [], swapAt := none })
    else a.modEng e (fun x => { x with startAt := none, ins := [], hist := [] })) d

/-- Entry to PLAY-ECO or its end: the engines change clock at the first multiple of 64. -/
def Dev.facEco (slow : Bool) (d : Dev) : Dev :=
  (upto 8).foldl (fun (a : Dev) e => a.modEng e (fun x => { x with clkAt := if x.slow = slow then none else some (upTo (a.med.index + 1) 64, slow) })) d

/-- The clock change of R291 falls due. -/
def Dev.ecoClock (d : Dev) : Dev :=
  (upto 8).foldl (fun (a : Dev) e => match (a.eng e).clkAt with
    | some (n, s) => if n ≤ a.med.index + 1 || !a.med.run then a.modEng e (fun x => { x with slow := s, clkAt := none }) else a
    | none => a) d

/-- A strobe reload (Table 12-12): the block in progress is abandoned, blocks restart at the reloaded boundaries with state kept, and a pending start or swap moves to the first boundary due. -/
def Dev.facEpoch (d : Dev) : Dev :=
  (upto 8).foldl (fun (a : Dev) e =>
    let n := a.med.index + 1
    let h := match (a.eng e).active with | some b => b.img.hyper | none => 1
    let again := fun (b : Bank) => { b with outs := [], since := upTo n h, pipe := b.pipe.map (fun p => (p.1, upTo n h)), tasks := b.tasks.map (fun t => { t with rel := none, seen := none }) }
    let x := a.eng e
    let a := a.modEng e (fun x => { x with active := x.active.map again, ins := [], hist := [], drain := none, startAt := x.startAt.map (fun _ => upTo n h), stopAt := x.stopAt.map (fun _ => upTo n h) })
    if x.swapAt.isSome then a.swapRequest (2 ^ e) x.swapKey else a) d

/-- A DOMAIN reset of FACET: engines stop and images, allocations and bindings are lost (Table 12-12). -/
def Dev.facReset (d : Dev) : Dev := (upto 8).foldl (fun (a : Dev) e => (if a.engState e = 2 then a.engHalt e else a).unload e) d

/-! Objects of 5400h to 57FFh -/

def Bank.costs (b : Option Bank) : List ImgTask := match b with | some x => x.img.tasks | none => []

/-- Values computed when they are read. -/
def Dev.facValue (d : Dev) (k : Nat) : Option Nat :=
  let i := k / 256
  let s := k % 256
  if 0x5400 ≤ i && i < 0x5408 then
    let e := i - 0x5400
    let x := d.eng e
    let idOf := fun (b : Option Bank) (f : Image → Nat) => match b with | some y => f y.img | none => 0
    if s = 2 then
      let (c, m, h) := d.pairFlags e
      some (b2n x.active.isSome + 2 * b2n (x.standby.isSome && !x.standbyBad) + 4 * b2n x.swapAt.isSome + 8 * b2n c + 16 * b2n m + 32 * b2n h
        + 64 * b2n (x.active.isSome && d.ecoFit x.active && d.ecoFit x.standby) + 128 * b2n (match x.active with | some b => b.img.wide | none => false)
        + 256 * b2n (d.ready 19 && d.fclk e = 400000000))
    else if s = 0xA then some (idOf x.active (·.id))
    else if s = 0xB then some (idOf x.active (·.version))
    else if s = 0xC then some (idOf x.standby (·.id))
    else if s = 0xD then some (idOf x.standby (·.version))
    else none
  else if 0x5410 ≤ i && i < 0x5418 then
    let e := i - 0x5410
    let x := d.eng e
    let l := Bank.costs x.active
    let t := l.find? (fun t => t.num == s % 16)
    if s = 0 then some (if l.isEmpty then 0 else utilOf l (d.fclk e) d.fs)
    else if s = 1 then some (if l.isEmpty then 0 else utilOf l 400000000 d.fs)
    else if s = 2 then some (let m := l ++ Bank.costs x.standby; if m.isEmpty then 0 else
      let h := m.foldl (fun a t => max a t.block) 1
      (roundDiv ((m.foldl (fun a t => a + t.cost (d.fclk e) * (h / t.block)) 0 * d.fs * 10000 : Nat) : Int) (h * d.fclk e)).toNat)
    else if s / 16 = 1 then some (match t with | some t => t.cost (d.fclk e) | none => 0)
    else if s / 16 = 2 then some (match t with | some t => respOf t (l.filter (fun j => ahead j t)) (d.fclk e) d.fs | none => 0)
    else if s / 16 = 3 then some (match t, x.active with | some t, some b => (b.run t.num).observed | _, _ => 0)
    else none
  else if k = 0x548007 then some d.fac.staged.length
  else if k = 0x560100 then
    some (fld (d.get k) 15 8 * 256 + (upto 8).foldl (fun a n => a + b2n ((upto 8).any (fun e => match (d.eng e).active with | some b => b.img.envs.any (fun r => r.1 == n) | none => false)) * 2 ^ n) 0)
  else if i = 0x5603 then some (match d.pilotOwner s with | some e => e | none => 0xFF)
  else none

/-- ENGINE_CTRL refuses with RANGE a command its state does not allow (Table 12-8). -/
def Dev.ctrlOk (d : Dev) (e v : Nat) : Bool :=
  let st := d.engState e
  match v with
  | 1 => st = 1
  | 2 => st = 2
  | 3 => d.swapOk e
  | 4 => (d.eng e).standby.isSome
  | 5 => st = 1 || st = 3 || st = 4
  | 6 => st = 3
  | _ => false

/-- The objects' own refusals; `own` numbers the path that writes. -/
def Dev.facCheck (d : Dev) (own k v : Nat) (b : List Byte) : List Nat :=
  let i := k / 256
  if 0x5400 ≤ i && i < 0x5408 && k % 256 = 0 then errIf (!d.ctrlOk (i - 0x5400) v) eRange
  else if k = 0x542000 then errIf (!(engsOf v).all (fun e => d.swapOk e)) eRange
  else if k = 0x548001 then errIf (v = 1 && d.mode ≠ 11) eRange
  else if k = 0x548002 then errIf (v = 1 && (d.fac.checking || (match d.fac.owner with | some o => o ≠ own | none => false))) eBusy
  else if k = 0x548003 then errIf (d.fac.owner ≠ some own) eBusy ++ errIf (d.fac.staged.length + b.length > 393216) eRange
  else if k = 0x548004 then
    errIf (v = 1 && (d.fac.owner ≠ some own || d.fac.checking || (d.get 0x548001 = 0 && (d.eng (d.get 0x548000)).swapAt.isSome))) eBusy
  else if k = 0x549300 then errIf (d.mode ≠ 11) eRange
  else []

/-- What a write does beside setting the value. -/
def Dev.facWrite (own k v : Nat) (b : List Byte) (d : Dev) : Dev :=
  let i := k / 256
  if 0x5400 ≤ i && i < 0x5408 && k % 256 = 0 then
    let e := i - 0x5400
    match v with
    | 1 => d.engStart e
    | 2 => d.engStop e
    | 3 => d.swapRequest (2 ^ e) none
    | 4 => d.discardStandby e
    | 5 => d.unload e
    | _ => d.clearFault e
  else if k = 0x542000 then (if v % 256 = 0 then d else d.swapRequest (v % 256) none)
  else if k = 0x548002 then (if v = 1 then { d with fac := { d.fac with staged := [], owner := some own, chunkAt := d.now } } else d)
  else if k = 0x548003 then { d with fac := { d.fac with staged := d.fac.staged ++ b, chunkAt := d.now } }
  else if k = 0x548004 then (if v = 1 then ({ d with fac := { d.fac with checking := true, owner := none } }.put 0x548005 1).put 0x548006 0 else d)
  else if k = 0x549300 then d.bootSet v none
  else d

/-- The loader's ownership ends: 10 s without a chunk, or its session ends (R307). -/
def Dev.ownerEnd (d : Dev) : Dev := { d with fac := { d.fac with owner := none } }
def Dev.ownerTimeout (d : Dev) : Dev := if d.fac.owner.isSome && d.fac.chunkAt + 10000000000 ≤ d.now then d.ownerEnd else d

/-- An IMAGE_SWAP action (Table 5-11) of a slot object: its error code. -/
def Dev.swapAction (mask slotKey : Nat) (d : Dev) : Dev × Nat :=
  let m := mask % 256
  if (engsOf m).all (fun e => d.swapOk e) && d.ready 19 then (if m = 0 then d else d.swapRequest m (some slotKey), eOk)
  else (d, if d.ready 19 then eRange else eNotReady)

end Sys2Proof.Machine
end

