-- ==== Sys2Proof/Machine/Power.lean ====
section
/-! DEFINITION. The power stage (R322 to R348): channel states and sequences, bridging, protection, the power limit, thermal foldback, pilots and their results, the sense sources. -/
namespace Sys2Proof.Machine

/-- The whole part of the square root of a number below 2^128. -/
def root (x : Nat) : Nat := isqrt x 64 0

/-- Object `s` of channel n, 60n0. -/
abbrev pk (n s : Nat) : Nat := key (0x6000 + 16 * n) s

/-- Object `s` of channel n's pilots, 613n. -/
abbrev zk (n s : Nat) : Nat := key (0x6130 + n) s

def Dev.pch (d : Dev) (n : Nat) : PwrCh := nthD {} d.pwr.chans n
def Dev.modPch (n : Nat) (f : PwrCh → PwrCh) (d : Dev) : Dev := { d with pwr := { d.pwr with chans := modNth f d.pwr.chans n } }

/-- The pair of channel n runs as one (R332). -/
def Dev.bridged (d : Dev) (n : Nat) : Bool := nthD false d.pwr.pairs (n / 2)

/-- The channel whose objects govern channel n. -/
def Dev.pwrGov (d : Dev) (n : Nat) : Nat := if d.bridged n then n / 2 * 2 else n

/-- The channels that run on their own objects. -/
def Dev.pwrOwn (d : Dev) : List Nat := (upto 8).filter (fun n => d.pwrGov n == n)

/-- CH_ENABLE as it reads: the even channel's for a bridged pair. -/
def Dev.chEnabled (d : Dev) (n : Nat) : Bool := d.get (pk (d.pwrGov n) 0) = 1

/-- Power channels enabled; a bridged pair counts as two (R331). -/
def Dev.chCount (d : Dev) : Nat := ((upto 8).filter (fun n => d.chEnabled n)).length

/-- CH_STATE of the governing channel: 0 OFF, 1 CM_UP, 2 MUTED, 3 PLAYING, 4 CM_DOWN, 5 HIZ, 6 RETRY_WAIT, 7 LATCHED (Table 13-3). -/
def Dev.chState (d : Dev) (n : Nat) : Nat := d.get (pk n 0x20)
def Dev.setCh (n st : Nat) (d : Dev) : Dev := d.put (pk n 0x20) st

/-- The boost's state, 6210.00. -/
def Dev.boostState (d : Dev) : Nat := d.get 0x621000

/-- A SAFE cause is active. -/
def Dev.cause (d : Dev) (i : Nat) : Bool := d.bitOf kSafeCause i

/-- The action of the active SAFE causes on the power, headphone and line outputs is to mute them (Table 3-4): causes [0], [5], [7], [8], and [6] with 7000.02 = 0. -/
def Dev.safeMutes (d : Dev) : Bool := d.cause 0 || d.cause 5 || d.cause 7 || d.cause 8 || (d.cause 6 && d.get 0x700002 = 0)

/-- The step in progress leads away from the modes that play. -/
def Dev.leavesPlay (d : Dev) : Bool := d.inStep && (let m := fld (d.get kModeStatus) 7 4; !(m = 6 || m = 7 || m = 8))

/-- A die's channels stay muted until SAFE is left (R343). -/
def Dev.dieMuted (d : Dev) (n : Nat) : Bool := bit d.pwr.dieMute (n / 4) && (d.mode = 9 || d.cause 4)

/-- Mode, SAFE causes and the boost allow signal on channel n (Tables 13-2 and 3-4, R343, R363). -/
def Dev.signalOk (d : Dev) (n : Nat) : Bool :=
  let m := d.effMode
  (m = 6 || m = 7 || m = 8) && !d.leavesPlay && !d.safeMutes && !d.cause 1 && !d.dieMuted n && (d.boostState = 3 || d.boostState = 4)

/-- Channel n must be at high impedance for a cause that is not counted: its gate drive, its die's shutdown, PVDD_OV or SAFE cause [2]. -/
def Dev.mustHiz (d : Dev) (n : Nat) : Bool :=
  (d.pch n).gate || (d.bridged n && (d.pch (n + 1)).gate) || d.bitOf (key 0x6105 (n / 4)) 1 || d.pwr.ov || d.cause 2

/-- Channel n is to run: enabled, its die powered and linked, the mode allows it, and its pair does not wait to be reconfigured. -/
def Dev.chWanted (d : Dev) (n : Nat) : Bool :=
  d.pwr.on && d.pwr.go && d.chEnabled n && !bit d.pwr.cut (n / 4) && nthD 0 d.pwr.recon (n / 2) != 1

/-- A common-mode ramp up begins, 20 ms; a soft restart holds both legs low for 1 ms before it (R328, R337). -/
def Dev.chStart (n : Nat) (soft : Bool) (d : Dev) : Dev :=
  (d.setCh n 1).modPch n (fun c => { c with due := some (d.now + (if soft then 21000000 else 20000000)), soft := soft, gain := 0, ramping := false, stop := false, retryAt := none })

/-- The mute ramp of 5 ms begins, up or down, from the gain it finds (R328). -/
def Dev.chRamp (n : Nat) (up : Bool) (d : Dev) : Dev :=
  (d.setCh n 3).modPch n (fun c => { c with due := some (d.now + 5000000), ramping := true, up := up })

/-- A common-mode ramp down begins, 20 ms (R329). -/
def Dev.chDown (n : Nat) (d : Dev) : Dev :=
  (d.setCh n 4).modPch n (fun c => { c with due := some (d.now + 20000000), ramping := false, gain := 0, soft := false, stop := false })

/-- A state that drives nothing is taken: no ramp remains. -/
def Dev.chRest (n st : Nat) (d : Dev) : Dev :=
  (d.setCh n st).modPch n (fun c => { c with due := none, ramping := false, gain := 0, soft := false, stop := false, retryAt := if st = 6 then c.retryAt else none })

/-- What the enable, the mode, the SAFE causes, the boost and the channel's own conditions now require of channel n (R327 to R329, R336, R337). -/
def Dev.chSettle (n : Nat) (d : Dev) : Dev :=
  let st := d.chState n
  if st = 7 then d
  else if !d.chWanted n then
    match st with
    | 1 => d.chDown n
    | 2 => d.chDown n
    | 3 => (if (d.pch n).ramping && !(d.pch n).up then d else d.chRamp n false).modPch n (fun c => { c with stop := true })
    | 5 => d.chRest n 0
    | 6 => d.chRest n 0
    | _ => d
  else if st = 6 then d
  else if d.mustHiz n then (if st = 5 then d else d.chRest n 5)
  else match st with
    | 0 => d.chStart n false
    | 5 => d.chStart n true
    | 2 => if d.signalOk n then d.chRamp n true else d
    | 3 =>
      let c := d.pch n
      if c.stop then d
      else if d.signalOk n then (if c.ramping && !c.up then d.chRamp n true else d)
      else if c.ramping && !c.up then d else d.chRamp n false
    | _ => d

/-- Every channel is brought to what its circumstances require. -/
def Dev.pwrSettle (d : Dev) : Dev :=
  let d := if d.mode = 9 || d.cause 4 then d else { d with pwr := { d.pwr with dieMute := 0 } }
  d.pwrOwn.foldl (fun (a : Dev) n => a.chSettle n) d

/-- A deadline of a channel has come. -/
def Dev.chDue (d : Dev) (n : Nat) : Bool := match (d.pch n).due with | some t => t ≤ d.now | none => false

/-- The common-mode ramp up of channel n completes: MUTED, and the unmute ramp where signal is allowed (Table 13-4a). -/
def Dev.cmUpDone (n : Nat) (d : Dev) : Dev :=
  if d.chState n = 1 && d.chDue n then (((d.setCh n 2).modPch n (fun c => { c with due := none })).chSettle n) else d

/-- A mute or unmute ramp completes; a stop goes on with the common-mode ramp down (Table 13-4b). -/
def Dev.muteDone (n : Nat) (d : Dev) : Dev :=
  let c := d.pch n
  if d.chState n = 3 && c.ramping && d.chDue n then
    if c.up then d.modPch n (fun c => { c with due := none, ramping := false, gain := samplesIn d.fs 5000 })
    else if c.stop then d.chDown n
    else ((d.setCh n 2).modPch n (fun c => { c with due := none, ramping := false, gain := 0 })).chSettle n
  else d

/-- The common-mode ramp down completes: both legs low. A channel wanted again starts. -/
def Dev.cmDownDone (n : Nat) (d : Dev) : Dev := if d.chState n = 4 && d.chDue n then (d.chRest n 0).chSettle n else d

/-- A soft restart is complete: full gain, or MUTED where no signal is allowed; EV73 (R337). -/
def Dev.softDone (n : Nat) (d : Dev) : Dev :=
  let c := d.pch n
  if c.soft && !c.ramping && ((d.chState n = 3 && !c.stop) || (d.chState n = 2 && !d.signalOk n)) then (d.modPch n (fun c => { c with soft := false })).raise 73 else d

/-! Faults (R334 to R338) -/

/-- Retries started within the last 60 s. -/
def Dev.retries (d : Dev) (n : Nat) : Nat := ((d.pch n).retries.filter (fun t => d.now < t + 60000000000)).length

/-- The black-box record of a channel's fault or latch (Table 19-14). -/
def Dev.chRecord (n code : Nat) (d : Dev) : Dev := d.bbMake 4 2 code n (d.get (pk n 0x22)) (d.retries n + 256 * d.get (pk n 0x24))

/-- A fault of Table 13-5 on channel n: high impedance, FAULT_CAUSE replaced, counted, EV72 and a record; a counted one leads to RETRY_WAIT or, with RETRIES at 8, to LATCHED (R336, R338). On either bridge of a pair it is channel 2k's (R332). -/
def Dev.chFault (n i : Nat) (counted : Bool) (d : Dev) : Dev :=
  let n := d.pwrGov n
  let d := d.chRest n (if counted then 6 else 5)
  let latch := counted && d.retries n ≥ 8
  let d := if latch then (d.setCh n 7).put (pk n 0x24) 1
    else if counted then d.modPch n (fun c => { c with retryAt := some (d.now + d.get (pk n 4) * 1000000) }) else d
  let d := d.does [Dev.put (pk n 0x22) (2 ^ i), Dev.inc (pk n 0x26), Dev.raise 72, Dev.chRecord n 72]
  let d := if latch then d.does [Dev.raise 74, Dev.chRecord n 74] else d
  d.chSettle n

/-- The bridges of channel n are driven: a ramp, common mode or signal. -/
def Dev.chDriven (d : Dev) (n : Nat) : Bool := let st := d.chState (d.pwrGov n); 1 ≤ st && st ≤ 4

/-- A fault that stops a channel at work: one driven, or one at high impedance for another cause. -/
def Dev.chFaultIf (n i : Nat) (counted : Bool) (ok : Bool) (d : Dev) : Dev := if ok then d.chFault n i counted else d

/-- Retry: RETRY_DELAY has run, no cause keeps the channel at high impedance; it is counted as it starts (R338, R347). -/
def Dev.chRetry (n : Nat) (d : Dev) : Dev :=
  match (d.pch n).retryAt with
  | some t => if d.chState n = 6 && t ≤ d.now && d.chWanted n && !d.mustHiz n then
      (d.chStart n true).modPch n (fun c => { c with retries := d.now :: c.retries.filter (fun t => decide (d.now < t + 60000000000)) })
    else d
  | none => d

/-- CLEAR_LATCH written 1 on a latched channel: LATCHED and RETRIES cleared, EV74, and an enabled channel restarts softly (R338). -/
def Dev.clearLatch (n : Nat) (d : Dev) : Dev :=
  if d.get (pk n 0x24) = 1 then
    let d := ((d.put (pk n 0x24) 0).modPch n (fun c => { c with retries := [] })).raise 74
    (d.chRest n (if d.chWanted n then 5 else 0)).chSettle n
  else d

/-! Powering, stopping and resets -/

/-- The power dies are powered: the time without power drains each integrator at the limit last in force (R342). -/
def Dev.pwrPowerUp (d : Dev) : Dev :=
  if d.pwr.on then d
  else
    let el := match d.pwr.offAt with | some t => d.now - t | none => 0
    let leak (c : PwrCh) : PwrCh := { c with e := c.e - c.lim * el / 100000 }
    { d with pwr := { d.pwr with on := true, go := false, offAt := none, cut := 0, chans := d.pwr.chans.map leak, dev := leak d.pwr.dev } }

/-- The power dies lose power: every channel has both legs low, a latched one stays so. -/
def Dev.pwrPowerDown (d : Dev) : Dev :=
  if d.pwr.on then
    let d := (upto 8).foldl (fun (a : Dev) n => a.chRest n (if a.get (pk n 0x24) = 1 then 7 else 0)) d
    { d with pwr := { d.pwr with on := false, go := false, offAt := some d.now, recon := [0, 0, 0, 0], dieMute := 0 } }
  else d

/-- The boost is at its minimum rail in READY entry, or the channels may run again: enabled channels begin their common-mode ramp. -/
def Dev.pwrGo (go : Bool) (d : Dev) : Dev := { d with pwr := { d.pwr with go := go } }.pwrSettle

/-- At the end of the step into READY every enabled channel is muted at common mode (Table 13-4a step 4, Table 13-4b step 2). -/
def Dev.pwrMuted (d : Dev) : Dev :=
  let d := { d with pwr := { d.pwr with go := true } }.pwrSettle
  d.pwrOwn.foldl (fun (a : Dev) n =>
    if (a.chState n = 1 || a.chState n = 3) && a.chWanted n && !(a.pch n).soft then (a.setCh n 2).modPch n (fun c => { c with due := none, ramping := false, gain := 0 }) else a) d

/-- Every power channel is OFF, or at high impedance. -/
def Dev.pwrOff (d : Dev) : Bool := d.pwrOwn.all (fun n => let st := d.chState n; st = 0 || st ≥ 5)

/-- A reset that restarts the part: channels OFF, but latched ones; the pairs, gains and thermal flags return to their defaults; integrators, RETRIES and LIMIT_TIME are class A (R342, R347). -/
def Dev.pwrReset (all : Bool) (d : Dev) : Dev :=
  let d := (d.pwrPowerDown)
  let keep (c : PwrCh) : PwrCh := if all then {} else { e := c.e, lim := c.lim, steps := c.steps, retries := c.retries }
  let d := { d with pwr := { chans := d.pwr.chans.map keep, dev := if all then { lim := 240000000 } else keep d.pwr.dev, offAt := if all then none else d.pwr.offAt } }
  if all then d else (upto 8).foldl (fun (a : Dev) n => if a.get (pk n 0x24) = 1 then a.setCh n 7 else a) d

/-- A die runs the stop of Table 13-4b from its own logic (R330). -/
def Dev.dieCut (die : Nat) (d : Dev) : Dev := { d with pwr := { d.pwr with cut := setBit d.pwr.cut die true } }.pwrSettle

/-! Bridging (R332) -/

/-- The rule of group 0x41 + k: relation 0, with BRIDGE 1 the two I_LIMIT values are equal. -/
def ruleBridge (k : Nat) (v : Nat → Nat) : Option Nat := if v (pk (2 * k) 0x0A) = 1 && v (pk (2 * k) 2) != v (pk (2 * k + 1) 2) then some 0 else none

/-- A commit of group 0x41 + k: a change of BRIDGE stops the pair; a change of I_LIMIT alone acts at the next carrier period. -/
def Dev.bridgeCommit (k : Nat) (d : Dev) : Dev :=
  if d.get (pk (2 * k) 0x0A) = b2n (nthD false d.pwr.pairs k) then { d with pwr := { d.pwr with recon := modNth (fun r => if r = 1 then 0 else r) d.pwr.recon k } }.pwrSettle
  else { d with pwr := { d.pwr with recon := modNth (fun _ => 1) d.pwr.recon k } }.pwrSettle

/-- A channel of a pair no longer moves: it has reached MUTED or full gain, or is OFF or at high impedance. -/
def Dev.chSteady (d : Dev) (n : Nat) : Bool :=
  let st := d.chState n
  st = 0 || st ≥ 5 || (st = 2 && !d.signalOk n) || (st = 3 && !(d.pch n).ramping)

/-- The reconfiguration of pair k goes on: a stopped pair takes its committed form and starts; once it stands at common mode or plays, EV80. -/
def Dev.bridgeReconfig (k : Nat) (d : Dev) : Dev :=
  let own := [2 * k, 2 * k + 1].filter (fun n => d.pwrGov n == n)
  match nthD 0 d.pwr.recon k with
  | 1 =>
    if own.all (fun n => d.chState n = 0 || d.chState n ≥ 5) then
      let on := d.get (pk (2 * k) 0x0A) = 1
      let d := { d with pwr := { d.pwr with pairs := modNth (fun _ => on) d.pwr.pairs k, recon := modNth (fun _ => 2) d.pwr.recon k } }
      let d := if on then (d.chRest (2 * k + 1) 0).modPch (2 * k + 1) (fun c => { c with retries := [] }) else d
      let d := d.pwrSettle
      if [2 * k, 2 * k + 1].all (fun n => d.pwrGov n != n || d.chSteady n) then { d with pwr := { d.pwr with recon := modNth (fun _ => 0) d.pwr.recon k } }.raise 80 else d
    else d
  | 2 => if own.all (fun n => d.chSteady n) then { d with pwr := { d.pwr with recon := modNth (fun _ => 0) d.pwr.recon k } }.raise 80 else d
  | _ => d

/-! The power limit (R339 to R342) -/

/-- A factor of 10^-5 reported in 0.01 %. -/
def pct (f : Nat) : Nat := (roundDiv f 10).toNat

/-- The peak limit of channel n in 0.1 W after the clamp and before f_die and f_vc (R340, R355). -/
def peakOf (v : Nat → Nat) (bridged : Bool) (n : Nat) : Nat := min (max (v (pk n 8)) (v (pk n 7))) (if bridged then 2000 else 1000)

/-- A clamp of R340 acts on channel n. -/
def Dev.clamped (d : Dev) (n : Nat) : Bool :=
  let b := d.bridged n
  d.get (pk n 7) > (if b then 1000 else 500) || max (d.get (pk n 8)) (d.get (pk n 7)) > (if b then 2000 else 1000)

/-- f_vc of channel n in force: 1 unless VC_ACTION folds the limits (R345). -/
def Dev.fvc (d : Dev) (n : Nat) : Nat := if d.get (zk n 0x0C) = 1 then (d.pch n).fvc else 100000
def Dev.fdie (d : Dev) (n : Nat) : Nat := nthD 100000 d.pwr.fdie (n / 4)

/-- The continuous and peak limits of channel n in uW. -/
def Dev.chLimits (d : Dev) (n : Nat) : Nat × Nat :=
  let f := d.fdie n * d.fvc n
  let cont := min (d.get (pk n 7)) (if d.bridged n then 1000 else 500)
  ((roundDiv (cont * f : Nat) 100000).toNat, (roundDiv (peakOf d.get (d.bridged n) n * f : Nat) 100000).toNat)

/-- The device limits in uW before the factor of the boost: 0.25 of them while SAFE cause [3] is active. -/
def Dev.devLimits (d : Dev) : Nat × Nat :=
  let q := if d.cause 3 then 25000 else 100000
  (d.get 0x610100 * q, max (d.get 0x610101) (d.get 0x610100) * q)

/-- One step of 0.1 ms of an integrator and its gain, under a power and limits in uW. The gain moves towards g·√(P_a ÷ p) by an amount the spec gives only as a time constant: free between the two; it rises at 10 dB per second: free between the two ends of that rise's rounding. -/
def limitStep (p : Int) (cont peak : Nat) (x : Nat) (c : PwrCh) : PwrCh :=
  let e := ((c.e : Int) + p - cont).toNat
  let pa := if e < (peak - cont) * 2000 then peak else cont
  if p > pa then
    let lo := max 1 (min c.g (c.g * root (pa * 10 ^ 18 / p.toNat) / 1000000000))
    { c with e := e, lim := cont, g := lo + x % (c.g - lo + 1) }
  else
    let lo := c.g * 1000115 / 1000000
    let hi := c.g * 1000116 / 1000000
    { c with e := e, lim := cont, g := min 1000000000 (lo + x % (hi - lo + 1)) }

/-- P_LIMITING settled for a channel, or for the device (`n` = 8): EV75 on a change, at most once per 100 ms; LIMIT_TIME counts the step (R341, Table 13-6). -/
def Dev.limitFlag (n : Nat) (on : Bool) (d : Dev) : Dev :=
  let c := if n = 8 then d.pwr.dev else d.pch n
  let quiet := match c.ev75 with | some t => decide (d.now < t + 100000000) | none => false
  let ring := on != c.limiting && !quiet
  let c := { c with limiting := on, steps := if on then c.steps + 1 else c.steps, ev75 := if ring then some d.now else c.ev75 }
  let d := if n = 8 then { d with pwr := { d.pwr with dev := c } } else d.modPch n (fun _ => c)
  if ring then d.raise 75 else d

/-- The 0.1 ms step (R339): the mean powers of the channels in uW over the last 1 ms, under the factor of the boost in 10^-5. -/
def Dev.powerStep (powers : List Int) (factor : Nat) (d : Dev) : Dev :=
  let p (n : Nat) : Int := nthD 0 powers n
  let pg (n : Nat) : Int := if d.bridged n then p n + p (n + 1) else p n
  let d := d.pwrOwn.foldl (fun (a : Dev) n =>
    let (x, a) := a.fresh
    let l := a.chLimits n
    a.modPch n (limitStep (pg n) l.1 l.2 x)) d
  let (x, d) := d.fresh
  let l := d.devLimits
  let total := (upto 8).foldl (fun (s : Int) n => s + p n) 0
  let d := { d with pwr := { d.pwr with dev := limitStep total (l.1 * factor / 100000) (l.2 * factor / 100000) x d.pwr.dev } }
  let low := d.pwr.dev.g < 1000000000
  let d := d.pwrOwn.foldl (fun (a : Dev) n => a.limitFlag n (low || (a.pch n).g < 1000000000)) d
  d.limitFlag 8 low

/-! Pilots (R344, R345) -/

/-- The amplitude of a sine at -m dBFS, m from 30 to 60, rounded to the nearest Q1.31 word (R10). -/
def pilotAmp (m : Nat) : Nat := nthD 0 [67909396, 60524313, 53942350, 48076170, 42847932, 38188260, 34035322, 30334013, 27035217, 24095163, 21474836, 19139468,
  17058069, 15203020, 13549706, 12076188, 10762914, 9592457, 8549286, 7619560, 6790940, 6052431, 5394235, 4807617, 4284793, 3818826, 3403532, 3033401, 2703522,
  2409516, 2147484] (m - 30)

/-- The ultrasonic pilot is generated: US_FREQ lies below 0.47 of the Lattice rate. -/
def Dev.usFits (d : Dev) : Bool := 100 * d.get 0x612100 < 47 * d.fs

/-- A sample of a sine whose phase the spec does not fix: free within its amplitude. -/
def Dev.sine (amp : Nat) (d : Dev) : Int × Dev := let (x, d) := d.fresh; ((x % (2 * amp + 1) : Nat) - (amp : Int), d)

/-- The sum of the pilots that channel n's bits of PILOT_ENABLE select, at one boundary. -/
def Dev.pilotSum (n : Nat) (d : Dev) : Int × Dev :=
  let (a, d) := if d.bitOf 0x612000 n && d.usFits then d.sine (pilotAmp 45) else (0, d)
  let (b, d) := if d.bitOf 0x612000 (8 + n) then d.sine (pilotAmp (-(d.getI 16 0x612200)).toNat) else (0, d)
  (a + b, d)

/-- The channel injects pilots of its own: PLAYING, a pilot selected, and no running image that declares its pilot point. -/
def Dev.pilotsOn (d : Dev) (n : Nat) : Bool := d.chState n = 3 && (d.bitOf 0x612000 n || d.bitOf 0x612000 (8 + n))

/-- Z_LOW, Z_HIGH or VC_HOT set or cleared in Z_STATUS; EV78 on a change. -/
def Dev.zFlag (n i : Nat) (b : Bool) (d : Dev) : Dev := if d.bitOf (zk n 4) i = b then d else (d.putBit (zk n 4) i b).raise 78

/-- The outcome of three consecutive valid results. -/
def zNext (run inside : Nat) (old : Bool) : Bool := if run ≥ 3 then true else if inside ≥ 3 then false else old

/-- An ultrasonic window of channel n ends (R345). -/
def Dev.zResult (n : Nat) (valid : Bool) (mag : Nat) (phase : Int) (d : Dev) : Dev :=
  if valid && d.bitOf 0x612000 n && d.usFits then
    let d := ((d.put (zk n 0) (mag % 2 ^ 32)).putI 16 (zk n 1) phase).putBit (zk n 4) 0 true
    let mn := d.get (zk n 9)
    let mx := d.get (zk n 0x0A)
    let low : Bool := mn != 0 && decide (mag < mn)
    let high : Bool := mx != 0 && decide (mag > mx)
    let d := d.modPch n (fun c => { c with low := if low then c.low + 1 else 0, inLow := if low then 0 else c.inLow + 1, high := if high then c.high + 1 else 0, inHigh := if high then 0 else c.inHigh + 1 })
    let c := d.pch n
    (d.zFlag n 2 (zNext c.low c.inLow (d.bitOf (zk n 4) 2))).zFlag n 3 (zNext c.high c.inHigh (d.bitOf (zk n 4) 3))
  else d.putBit (zk n 4) 0 false

/-- A sub-audio window of channel n ends: RE, and VC_TEMP where RE_REF is not 0 (R345). -/
def Dev.reResult (n : Nat) (valid : Bool) (re : Nat) (d : Dev) : Dev :=
  if valid && d.bitOf 0x612000 (8 + n) then
    let d := (d.put (zk n 2) (re % 2 ^ 32)).putBit (zk n 4) 1 true
    let ref := d.get (zk n 5)
    if ref = 0 then d
    else
      let t := satS 16 (d.getI 16 (zk n 6) + roundDiv (((re % 2 ^ 32 : Nat) - (ref : Int)) * 10000000) (ref * d.get (zk n 7)))
      let lim := d.getI 16 (zk n 0x0B)
      let d := (d.putI 16 (zk n 3) t).modPch n (fun c => { c with fvc := (clampI 25000 100000 (100000 - 375 * (t - lim))).toNat })
      let hot := d.bitOf (zk n 4) 4
      d.zFlag n 4 (if t ≥ lim then true else if t ≤ lim - 50 then false else hot)
  else d.putBit (zk n 4) 1 false

/-- A pilot window of channel n ends; a bridged pair reports on its even channel, and only a PLAYING channel carries pilots. `kind` 0 ultrasonic, otherwise sub-audio. -/
def Dev.pilotResult (n kind : Nat) (valid : Bool) (mag : Nat) (phase : Int) (d : Dev) : Dev :=
  if n ≥ 8 || d.pwrGov n != n || !d.pwr.on then d
  else
    let ok := valid && d.chState n = 3
    if kind = 0 then d.zResult n ok mag phase else d.reResult n ok mag

/-! The boundary: datapath and sense sources (R323, R324, R333) -/

/-- The sense sources of the boundary from the terminals' currents and voltages (nodes 0x168 + n and 0x170 + n): INV, holding, outside MUTED and PLAYING and through a pair's reconfiguration; OVR where the range is exceeded. -/
def Dev.pwrSense (ins : List (Nat × Int)) (d : Dev) : List (Nat × Smp) × Dev :=
  (upto 8).foldl (fun (r : List (Nat × Smp) × Dev) n =>
    let (l, a) := r
    let gov := a.pwrGov n
    let st := a.chState gov
    let live := a.ready 21 && (st = 2 || st = 3) && nthD 0 a.pwr.recon (n / 2) = 0
    let inOf (k : Nat) : Int := match assoc k ins with | some v => v | none => 0
    let i : Int := inOf (0x168 + n)
    let v : Int := inOf (0x170 + gov)
    let c := a.pch n
    if live then
      let a := a.modPch n (fun c => { c with current := satS 32 i, volt := satS 32 v })
      (l ++ [(0x168 + n, { v := satS 32 i, t := if (satS 32 i == i) then 0 else 4 }), (0x170 + n, { v := satS 32 v, t := if (satS 32 v == v) then 0 else 4 })], a)
    else (l ++ [(0x168 + n, { v := c.current, t := 8 }), (0x170 + n, { v := c.volt, t := 8 })], a)) ([], d)

/-- One sample of channel n through the datapath of R323: limit gains, mute ramp, own pilots, saturation; the demand reaches the terminals two boundaries later, and clips there against PVDD (10 mV) less 0.5 V (R324). -/
def Dev.chSample (n pvdd : Nat) (d : Dev) : Dev :=
  let c := d.pch n
  let len := samplesIn d.fs 5000
  let st := d.chState n
  let gain := if st != 3 then 0 else if !c.ramping then len else if c.up then min len (c.gain + 1) else c.gain - 1
  let x := (d.sinkSample (0x150 + n)).v
  let x := roundDiv (x * (c.g * d.pwr.dev.g : Nat)) (10 ^ 18)
  let x := roundDiv (x * gain) (max 1 len)
  let (p, d) := if d.pilotsOn n && !d.pilotHeld n then d.pilotSum n else (0, d)
  let x := if st = 3 then satS 32 (x + p) else 0
  let t := nthD 0 c.pipe 0
  let clip := st = 3 && (t.natAbs * d.get (pk n 1) > (pvdd - 50) * 2 ^ 31)
  let quiet := match c.ev79 with | some e => decide (d.now < e + 100000000) | none => false
  let ring := clip && !quiet
  let d := d.modPch n (fun c => { c with gain := gain, pipe := [nthD 0 c.pipe 1, x], clip := clip, ev79 := if ring then some d.now else c.ev79 })
  let d := if clip then d.inc (pk n 0x27) else d
  if ring then d.raise 79 else d

/-- The power channels take their samples at a boundary. -/
def Dev.pwrBoundary (pvdd : Nat) (d : Dev) : Dev := if d.pwr.on then d.pwrOwn.foldl (fun (a : Dev) n => a.chSample n pvdd) d else d

/-! Host side -/

/-- CH_STATUS (Table 13-1). -/
def Dev.chStatus (d : Dev) (n : Nat) : Nat :=
  let c := d.pch n
  b2n c.clip + 2 * b2n (match c.cutAt with | some t => decide (d.now < t + 1000000) | none => false) + 4 * b2n c.limiting
    + 8 * b2n (d.fdie n < 100000 || d.fvc n < 100000) + 16 * b2n (d.bridged n)
    + 32 * b2n (d.pilotsOn n && !d.pilotHeld n) + 64 * b2n (d.pilotsOn n && d.pilotHeld n) + 128 * b2n (d.clamped n) + 256 * b2n c.ramping

/-- The objects of the power stage that read a state of the part. -/
def Dev.pwrValue (d : Dev) (k : Nat) : Option Nat :=
  let i := k / 256
  let s := k % 256
  if 0x6000 ≤ i && i < 0x6080 then
    let n := (i - 0x6000) / 16
    if s = 0 then some (b2n (d.chEnabled n))
    else if s = 0x20 then some (d.chState (d.pwrGov n))
    else if s = 0x21 then some (d.chStatus (d.pwrGov n))
    else if s = 0x23 then some (d.retries n) else none
  else match i with
    | 0x6102 => some (roundDiv d.pwr.dev.g 100000).toNat
    | 0x6103 => some (roundDiv (d.pch s).g 100000).toNat
    | 0x6104 => some (pct ((if d.cause 3 then 25000 else 100000) * d.bst.factor / 100000))
    | 0x6106 => some (pct (nthD 100000 d.pwr.fdie s))
    | 0x6110 => some ((if s = 8 then d.pwr.dev.e else if d.pwrGov s != s then 0 else (d.pch s).e) / 10000)
    | 0x6111 => some ((if s = 8 then d.pwr.dev.steps else (d.pch s).steps) / 10)
    | _ => none

/-- The checks of a write beside those of every object: CH_ENABLE (R331, R332), MOD_FREQ (R325), US_FREQ (R344), RE_CAPTURE (R345). -/
def Dev.pwrCheck (k v : Nat) (d : Dev) : List Nat :=
  let i := k / 256
  let s := k % 256
  if 0x6000 ≤ i && i < 0x6080 && s = 0 then
    let n := (i - 0x6000) / 16
    errIf (d.pwrGov n != n) eBusy ++ errIf (v = 1 && d.effMode = 7 && !d.chEnabled n && d.chCount + (if d.bridged n then 2 else 1) > 4) eRange
  else if k = 0x610000 then errIf ((upto 8).any (fun n => d.chState n = 1 || d.chState n = 3 || d.chState n = 4)) eBusy
  else if k = 0x612100 then errIf (!(20000 ≤ v && v ≤ 24000 && 100 * v < 47 * d.fs)) eRange
  else if 0x6130 ≤ i && i < 0x6138 && s = 8 then errIf (v = 1 && !d.bitOf (zk (i - 0x6130) 4) 1) eBusy
  else []

/-- What a write of the power stage's objects starts, its value stored. -/
def Dev.pwrWrite (k v : Nat) (d : Dev) : Dev :=
  let i := k / 256
  let s := k % 256
  if 0x6000 ≤ i && i < 0x6080 then
    let n := (i - 0x6000) / 16
    if s = 0 then d.chSettle (d.pwrGov n) else if s = 0x25 then d.when (v = 1) (Dev.clearLatch n) else d
  else if k = 0x610000 then d.raise 80
  else if 0x6130 ≤ i && i < 0x6138 && s = 8 then
    let n := i - 0x6130
    d.when (v = 1) (fun (d : Dev) => d.put (zk n 5) (d.get (zk n 2)))
  else d

end Sys2Proof.Machine
end

