-- ==== Sys2Proof/Machine/Boost.lean ====
section
/-! DEFINITION. The boost (R349 to R366): the rail target, envelope records, BYPASS and tracking, input limits, start, stop and faults; and what the boost and the power channels meet together: PVDD_OV, die temperature, the 0.1 ms step. -/
namespace Sys2Proof.Machine

abbrev kBoostStatus : Nat := 0x621001

/-- The boost switches: SOFT_START or TRACKING. -/
def Dev.switching (d : Dev) : Bool := d.boostState = 2 || d.boostState = 4

/-- A flag of BOOST_STATUS: 0 CURRENT_LIMITED, 1 SAGGING, 2 HOLD_RAIL, 3 ECO_CLIPPING, 4 RAIL_LOW, 5 REVERSE, 14 VIN_FLOOR. -/
def Dev.bflag (d : Dev) (i : Nat) : Bool := d.bitOf kBoostStatus i
def Dev.setBflag (i : Nat) (b : Bool) (d : Dev) : Dev := d.putBit kBoostStatus i b

/-- RAIL_LOW or CURRENT_LIMITED set or cleared; a change raises EV84. -/
def Dev.setBflag84 (i : Nat) (b : Bool) (d : Dev) : Dev := if d.bflag i = b then d else (d.setBflag i b).raise 84

/-- Phases that may switch: not disabled, their gate drive up, their die not shut down, as bits A to D. -/
def Dev.phasesFree (d : Dev) : Nat :=
  let shut := (if d.bitOf 0x610500 1 then 3 else 0) ||| (if d.bitOf 0x610501 1 then 12 else 0)
  clearBits 15 (d.bst.disabled ||| d.bst.gates ||| shut)

/-- Phases whose die is linked, out of those free. -/
def Dev.phasesReady (d : Dev) : Nat := clearBits d.phasesFree ((if bit d.pwr.cut 0 then 3 else 0) ||| (if bit d.pwr.cut 1 then 12 else 0))

def bitsSet (m : Nat) : Nat := ((upto 4).filter (fun i => bit m i)).length

/-- The first `n` of a set of phases. -/
def firstPhases (m n : Nat) : Nat := (upto 4).foldl (fun a i => if bit m i && bitsSet a < n then a + 2 ^ i else a) 0

/-- Phases needed at an input current in 10 mA: 1 below 3 A, 2 below 8 A, 4 above; on the way down each threshold lies 20 % lower (R351). -/
def phasesNeeded (had iin : Nat) : Nat :=
  if had ≥ 4 then (if iin < 240 then 1 else if iin < 640 then 2 else 4)
  else if had = 2 then (if iin < 240 then 1 else if iin < 800 then 2 else 4)
  else if iin < 300 then 1 else if iin < 800 then 2 else 4

/-- The phases that switch and those disabled, reported in BOOST_STATUS. -/
def Dev.phaseReport (d : Dev) : Dev :=
  let on := if d.switching then firstPhases d.phasesReady d.bst.phases else 0
  (d.putFld kBoostStatus 9 6 on).putFld kBoostStatus 13 10 d.bst.disabled

/-- BOOST_STATE taken: EV82, between BYPASS and TRACKING at most once per 100 ms; where it no longer switches, RAIL_LOW, REVERSE and VIN_FLOOR clear; from FAULT or LATCHED back to BYPASS or TRACKING, EV86 (R359, R366). -/
def Dev.setBoost (st : Nat) (d : Dev) : Dev :=
  let old := d.boostState
  if old = st then d
  else
    let pair : Bool := (old = 3 && st = 4) || (old = 4 && st = 3)
    let quiet : Bool := pair && (match d.bst.ev82 with | some t => decide (d.now < t + 100000000) | none => false)
    let d := d.put 0x621000 st
    let d := if quiet then d else d.raise 82
    let d := if pair && !quiet then { d with bst := { d.bst with ev82 := some d.now } } else d
    let d := if d.switching then d else ((d.setBflag84 4 false).setBflag 14 false).setBflag 5 false
    let d := if st = 3 then d else d.setBflag 3 false
    let d := { d with bst := { d.bst with goodAt := none, phases := if d.switching then max 1 d.bst.phases else 0 } }
    let d := if st = 6 || st = 7 then { d with bst := { d.bst with flags := 1 } } else d
    let d := if (st = 3 || st = 4) && d.bst.flags = 1 then { d with bst := { d.bst with flags := 0 } }.raise 86 else d
    d.phaseReport.pwrSettle

/-- RAIL_CMD follows the command. -/
def Dev.setCmd (c : Nat) (d : Dev) : Dev := { d with bst := { d.bst with cmd := c } }.put 0x621002 (min 65535 (roundDiv c 10000).toNat)

/-- A fault of Table 14-4: its bit in BOOST_FAULT_CAUSE, counted, EV86, a record. -/
def Dev.boostFault (i : Nat) (d : Dev) : Dev :=
  let d := d.does [Dev.put 0x621102 (2 ^ i), Dev.inc 0x621103, Dev.raise 86]
  d.bbMake 5 2 86 0 (2 ^ i) (d.get 0x621002)

/-- Step 1 of Table 14-3 begins, unless a SAFE cause stops the boost. -/
def Dev.boostBegin (d : Dev) : Dev := ({ d with bst := { d.bst with restartAt := none } }).setBoost (if d.cause 1 || d.cause 2 then 5 else 1)

/-- SAFE causes [1] and [2] stop the boost; it restarts from step 1 when they clear (R362). -/
def Dev.boostSettle (d : Dev) : Dev :=
  let st := d.boostState
  if st = 0 || st = 7 then d
  else if d.cause 1 || d.cause 2 then (if st = 6 then d else d.setBoost 5)
  else if st = 5 then d.setBoost 1 else d

/-- The boost and the power channels take what the mode, the SAFE causes and each other require. -/
def Dev.outSettle (d : Dev) : Dev := d.boostSettle.pwrSettle

/-- BYPASS or TRACKING is reached: BOOST is ready, and in READY entry the channels begin their common-mode ramp (Tables 14-3 and 13-4a). -/
def Dev.boostUp (st : Nat) (d : Dev) : Dev :=
  let d := (d.setBoost st).setReady (2 ^ 22) 0
  if d.mode = 4 && d.inStep && fld (d.get kModeStatus) 7 4 = 5 then d.pwrGo true else d

/-- RAIL_MIN, RAIL_MAX and HEADROOM, in uV. -/
def Dev.railMin (d : Dev) : Nat := d.get 0x620000 * 10000
def Dev.railMax (d : Dev) : Nat := d.get 0x620001 * 10000
def Dev.headroom (d : Dev) : Nat := d.get 0x620002 * 10000

/-- BYPASS_ENABLE lets the boost bypass at a command, under VIN in 10 mV; PLAY-ECO allows ECO_CLIP more (R356). -/
def Dev.bypassOk (d : Dev) (vin : Nat) : Bool :=
  let eco := if d.effMode = 7 then d.get 0x620202 else 0
  d.get 0x620203 = 1 && d.bst.cmd + 1000000 ≤ (vin + eco) * 10000

/-- The boost leaves READY for LINKED. -/
def Dev.leavesReady (d : Dev) : Bool := d.mode = 5 && d.inStep && fld (d.get kModeStatus) 7 4 = 4

/-- The precharge check and the start of Table 14-3, steps 1 and 2, at the PVDD and VIN measured in 10 mV. -/
def Dev.boostStart (pvdd vin : Nat) (d : Dev) : Dev :=
  let d := { d with bst := { d.bst with pvdd := pvdd, vin := vin } }
  if d.boostState != 1 then d
  else if pvdd + 300 < vin then
    let d := { d with bst := { d.bst with restartAt := some (d.now + 100000000), shorts := d.now :: d.bst.shorts.filter (fun t => decide (d.now < t + 10000000000)) } }
    (d.setBoost 6).boostFault 0
  else
    let d := d.setCmd d.railMin
    if d.bypassOk vin then d.boostUp 3 else (d.setCmd (min d.railMin (pvdd * 10000))).setBoost 2

/-- PVDD below half its command for 50 us while the boost switches: FAULT (Table 14-4). -/
def Dev.railShort (d : Dev) : Dev :=
  if d.switching then
    let d := { d with bst := { d.bst with restartAt := some (d.now + 100000000), shorts := d.now :: d.bst.shorts.filter (fun t => decide (d.now < t + 10000000000)) } }
    (d.setBoost 6).boostFault 0
  else d

/-- 100 ms after a RAIL_SHORT: the boost restarts, or latches on the fourth within 10 s, with EV86. -/
def Dev.shortRestart (d : Dev) : Dev :=
  match d.bst.restartAt with
  | some t =>
    if t ≤ d.now && d.boostState = 6 then
      if d.bst.shorts.length ≥ 4 then (({ d with bst := { d.bst with restartAt := none } }).setBoost 7).raise 86 else d.boostBegin
    else d
  | none => d

/-- A phase's mean current differs by over 40 % for 10 ms: it is disabled (Table 14-4). -/
def Dev.imbalance (p : Nat) (d : Dev) : Dev :=
  let on := fld (d.get kBoostStatus) 9 6
  if p < 4 && d.switching && bitsSet on ≥ 2 && bit on p then
    ((({ d with bst := { d.bst with disabled := setBit d.bst.disabled p true } }).boostFault 1).raise 87).phaseReport
  else d

/-- Disabled phases are re-enabled, with EV87. -/
def Dev.phasesBack (d : Dev) : Dev := if d.bst.disabled = 0 then d else ({ d with bst := { d.bst with disabled := 0 } }.phaseReport).raise 87

/-- BOOST_CLEAR written 1: the latch cleared, disabled phases re-enabled, and the boost restarts where its dies are powered and PVDD_OV does not hold it. -/
def Dev.boostClear (d : Dev) : Dev :=
  let d := d.phasesBack
  if !d.pwr.on || d.boostState = 0 then d
  else if d.pwr.ov then (if d.boostState = 7 then d.setBoost 6 else d) else d.boostBegin

/-! The rail target (R352 to R358) -/

/-- vsup(n) in uV (R355). -/
def Dev.vsup (d : Dev) (n : Nat) : Nat := root (200 * peakOf d.get (d.bridged n) n * d.get (pk n 6) * 10 ^ 8) + d.headroom

/-- V_SUP in 10 mV: the largest vsup over the enabled channels, 0 with none. -/
def Dev.vSup (d : Dev) : Nat := d.pwrOwn.foldl (fun m n => if d.chEnabled n then max m (root (200 * peakOf d.get (d.bridged n) n * d.get (pk n 6)) + d.get 0x620002) else m) 0

/-- The rule of group 0x40: relation 0, RAIL_MIN ≤ V_SUP ≤ RAIL_MAX, taken exactly; relation 1, RAIL_MIN + HEADROOM ≤ RAIL_MAX (R360). -/
def Dev.ruleRail (d : Dev) (v : Nat → Nat) : Option Nat :=
  let h := v 0x620002
  let sq (n : Nat) : Nat := 200 * peakOf v (d.bridged n) n * v (pk n 6)
  let on := d.pwrOwn.filter (fun n => d.chEnabled n)
  let lo := v 0x620000
  let hi := v 0x620001
  let low : Bool := lo ≤ h || on.any (fun n => decide ((lo - h) * (lo - h) ≤ sq n))
  let high : Bool := h ≤ hi && on.all (fun n => decide (sq n ≤ (hi - h) * (hi - h)))
  if !on.isEmpty && !(low && high) then some 0 else if lo + h > hi then some 1 else none

/-- The rise still to come before boundary k reaches the terminals: SLEW_UP over t_k - t less the 50 us of latency, in uV; none once that is past (Table 14-5). -/
def Dev.riseTo (d : Dev) (k : Nat) : Nat := (boundaryTime d.fs (k + 3) - d.time64 - 50000) * d.get 0x620100 / 10

/-- The need of an envelope value on channel n, in uV. -/
def Dev.needOf (d : Dev) (n e : Nat) : Nat := min d.railMax ((roundDiv (d.get (pk n 1) * 10000 * e : Nat) 65535).toNat + d.headroom)

/-- The first boundary from `k` on that no record covers, the records in order of their first boundaries. -/
def uncovered (k : Nat) (recs : List (Nat × Nat × Nat)) : Nat := recs.foldl (fun c r => if r.1 ≤ c && c ≤ r.2.1 then r.2.1 + 1 else c) k

/-- What channel n demands of the command, over the boundaries whose terminal time lies within the next 8 ms: the nearest boundary of each record, and the nearest that none covers, decide (R353, R355). -/
def Dev.demand (d : Dev) (n : Nat) : Nat :=
  let k0 := boundaryAt d.fs (d.time64 + 1) - 3
  let k1 := boundaryAt d.fs (d.time64 + 8000001) - 3
  let recs := nthD [] d.bst.recs n
  let m := recs.foldl (fun (m : Nat) r => let k := max k0 r.1; if k ≤ r.2.1 && k < k1 then max m (d.needOf n r.2.2 - d.riseTo k) else m) 0
  let u := uncovered k0 recs
  if u < k1 then max m (min d.railMax (d.vsup n) - d.riseTo u) else m

/-- A channel's envelope slot is undeclared or missing. -/
def Dev.envAbsent (d : Dev) (n : Nat) : Bool := !d.bitOf 0x560100 n || d.bitOf 0x560100 (8 + n)

/-- A PLAYING channel, RAMPING included. -/
def Dev.playing (d : Dev) (n : Nat) : Bool := d.pwrGov n = n && d.chState n = 3

/-- The command the channels, the limits and TRACK_MODE call for. -/
def Dev.cmdUp (d : Dev) : Nat :=
  let base := if d.leavesReady then 0 else d.railMin
  match d.get 0x620300 with
  | 1 => if d.leavesReady then 0 else d.railMax
  | 2 => if d.leavesReady then 0 else max base (d.vSup * 10000)
  | _ => (upto 8).foldl (fun m n => if d.playing n then max m (d.demand n) else m) base

/-- A falling command is held: the channels ramp down in a step below READY, records are awaited after an epoch step, or the SPLL is lost and a channel still plays (R362, R365). -/
def Dev.cmdHeld (d : Dev) : Bool :=
  (d.leavesReady && (upto 8).any (fun n => d.chState n = 4)) || (upto 8).any (fun n => d.playing n && (d.bst.await.contains n || d.cause 0))

/-- Records whose last boundary has reached the terminals are spent. -/
def Dev.prune (d : Dev) : Dev :=
  { d with bst := { d.bst with recs := d.bst.recs.map (fun l => l.filter (fun r => decide (d.time64 < boundaryTime d.fs (r.2.1 + 3)))) } }

/-- The target that a switching boost regulates PVDD to, in 10 mV: cmd, or VIN + 1.0 V (R357). -/
def Dev.target (d : Dev) : Nat := max (roundDiv d.bst.cmd 10000).toNat (d.bst.vin + 100)

/-- PVDD within 1.0 V of the target for 1 ms clears RAIL_LOW (R359). -/
def Dev.railWatch (d : Dev) : Dev :=
  if !(d.switching && d.bflag 4) then d
  else if d.bst.pvdd + 100 < d.target || d.target + 100 < d.bst.pvdd then { d with bst := { d.bst with goodAt := none } }
  else match d.bst.goodAt with
    | none => { d with bst := { d.bst with goodAt := some d.now } }
    | some t => if t + 1000000 ≤ d.now then ({ d with bst := { d.bst with goodAt := none } }).setBflag84 4 false else d

/-- The 10 us step (R351, R353 to R359), at VIN and PVDD in 10 mV and the input current in 10 mA. -/
def Dev.boostCommand (vin pvdd iin : Nat) (d : Dev) : Dev :=
  let d := ({ d with bst := { d.bst with vin := vin, pvdd := pvdd, iin := iin } }).prune
  let st := d.boostState
  if !(st = 2 || st = 3 || st = 4) then d
  else
    let before := d.target
    let old := d.bst.cmd
    let d := if st = 2 then d.setCmd (min d.railMin (old + 50000))
      else
        let fall := if d.cmdHeld then old else old - d.get 0x620101 * 1000
        d.setCmd (min (max d.cmdUp fall) (old + d.get 0x620100 * 1000))
    let d := d.setBflag 2 ((upto 8).any (fun n => d.playing n && d.envAbsent n))
    let d := if st = 2 then
        (if d.bst.cmd = d.railMin && 1000 * pvdd + 15 * d.target ≥ 1000 * d.target && 1000 * pvdd ≤ 1015 * d.target then d.boostUp (if d.bypassOk vin then 3 else 4) else d)
      else if d.bypassOk vin || (d.leavesReady && d.bst.cmd + 1000000 ≤ vin * 10000) then d.setBoost 3 else d.setBoost 4
    let d := d.setBflag 3 (d.boostState = 3 && d.bst.cmd + 1000000 > vin * 10000)
    let d := d.setBflag 14 (d.switching && decide ((vin + 100) * 10000 > d.bst.cmd))
    let d := d.setBflag 5 (d.boostState = 4 && vin ≤ 2900 && d.target < before)
    let d := d.setBflag84 0 (d.switching && decide (10 * iin ≥ 11 * d.get 0x620200))
    let d := { d with bst := { d.bst with phases := if d.switching then phasesNeeded d.bst.phases iin else 0 } }
    d.phaseReport.railWatch

/-- PVDD stays more than 1.0 V below the target for 20 us while the boost switches (R359). -/
def Dev.railLow (d : Dev) : Dev := if d.switching && !d.bflag 4 then ((d.inc 0x621101).setBflag84 4 true) else d

/-- The records in order of their first boundaries. -/
def recInsert (r : Nat × Nat × Nat) : List (Nat × Nat × Nat) → List (Nat × Nat × Nat)
  | [] => [r]
  | x :: t => if r.1 < x.1 then r :: x :: t else x :: recInsert r t

/-- The newest record takes the larger value (R352). -/
def recMerge (e : Nat) : List (Nat × Nat × Nat) → List (Nat × Nat × Nat)
  | [] => []
  | [x] => [(x.1, x.2.1, max x.2.2 e)]
  | x :: t => x :: recMerge e t

/-- An envelope record arrives at the boost: the front of those that wait is stored, or merged where the channel's store holds 512; late where no command that rises at SLEW_UP meets it (R352, R354). -/
def Dev.envArrive (d : Dev) : Dev :=
  match d.fac.envQ with
  | [] => d
  | (n, k, b, e) :: rest =>
    let d := ({ d with fac := { d.fac with envQ := rest } }).prune
    if d.boostState = 0 || n ≥ 8 then d
    else
      let put (l : List (Nat × Nat × Nat)) : List (Nat × Nat × Nat) := if l.length ≥ 512 then recMerge e l else recInsert (k, k + b - 1, e) l
      let d := { d with bst := { d.bst with recs := modNth put d.bst.recs n, await := d.bst.await.filter (fun x => x != n) } }
      if d.needOf n e > d.bst.cmd + d.riseTo k then
        let quiet : Bool := match d.bst.ev83 with | some t => decide (d.now < t + 100000000) | none => false
        let d := d.inc 0x621100
        if quiet then d else ({ d with bst := { d.bst with ev83 := some d.now } }).raise 83
      else d

/-- An epoch step's strobe reload discards the stored records (R365). -/
def Dev.boostReload (d : Dev) : Dev :=
  { d with bst := { d.bst with recs := List.replicate 8 [], await := (upto 8).filter (fun n => d.playing n && !d.envAbsent n) } }

/-! The 0.1 ms step, PVDD_OV and die temperature -/

/-- BOOST_FACTOR in 10^-5: the least of f_in, f_sag and f_ph, under VIN in 10 mV (R361). -/
def Dev.boostFactor (d : Dev) (vin : Nat) : Nat × Bool :=
  let peak := d.devLimits.2
  let fin := if peak = 0 then 100000 else min 100000 (90 * vin * d.get 0x620200 * 100000 / peak)
  let start := d.get 0x620201
  let fsag := if vin ≥ start then 100000 else if vin ≤ 900 then 25000 else 25000 + 75000 * (vin - 900) / (start - 900)
  (min fin (min fsag (25000 * bitsSet d.phasesFree)), decide (fsag < 100000))

/-- Every 0.1 ms (R339, R361): the measurements over the last 1 ms, BOOST_FACTOR, SAGGING, then the power limit. -/
def Dev.limitStepAll (powers : List Int) (vin pvdd iin : Nat) (d : Dev) : Dev :=
  if !d.pwr.on then d
  else
    let d := d.does [Dev.put 0x621003 (min pvdd 65535), Dev.put 0x621004 (min vin 65535), Dev.put 0x621005 (min iin 65535)]
    let (f, sag) := d.boostFactor vin
    let d := { d with bst := { d.bst with factor := f } }
    let d := if d.bflag 1 = sag then d else (d.setBflag 1 sag).raise 85
    d.powerStep powers f

/-- PVDD exceeds 45 V: every channel of both dies to high impedance, the boost stops switching and discharges (Tables 13-5 and 14-4). -/
def Dev.pvddOv (d : Dev) : Dev :=
  if !d.pwr.on || d.pwr.ov then d
  else
    let d := ({ d with pwr := { d.pwr with ov := true } }).raise 77
    let d := d.pwrOwn.foldl (fun (a : Dev) n => a.chFaultIf n 7 false (a.chDriven n || a.chState n = 5)) d
    if d.boostState = 0 then d else ((if d.boostState = 7 then d else d.setBoost 6).boostFault 2).setBflag 5 (decide (d.bst.vin ≤ 2900))

/-- PVDD below 43 V for 10 ms: the channels restart softly, and the boost from step 1. -/
def Dev.pvddOvEnd (d : Dev) : Dev :=
  if !d.pwr.ov then d
  else
    let d := (({ d with pwr := { d.pwr with ov := false } }).raise 77).setBflag 5 false
    let d := if d.boostState = 6 && d.bst.restartAt.isNone then d.boostBegin else d
    d.pwrSettle

/-- A gate-drive supply below its threshold: a channel to high impedance, or a phase of the boost stopped (units 8 to 11). -/
def Dev.gateDown (u : Nat) (d : Dev) : Dev :=
  if !d.pwr.on then d
  else if u < 8 then
    if (d.pch u).gate then d else (d.modPch u (fun c => { c with gate := true })).chFaultIf u 5 false (d.chDriven u || d.chState (d.pwrGov u) = 5)
  else if u < 12 && !bit d.bst.gates (u - 8) then (({ d with bst := { d.bst with gates := setBit d.bst.gates (u - 8) true } }).boostFault 4).phaseReport else d

/-- A gate-drive supply back for 1 ms: the channel restarts softly, or the phase is free again, with EV86. -/
def Dev.gateUp (u : Nat) (d : Dev) : Dev :=
  if u < 8 then (if (d.pch u).gate then (d.modPch u (fun c => { c with gate := false })).chSettle (d.pwrGov u) else d)
  else if u < 12 && bit d.bst.gates (u - 8) then ({ d with bst := { d.bst with gates := setBit d.bst.gates (u - 8) false } }.phaseReport).raise 86 else d

/-- f_die at a junction temperature in m°C, in 10^-5 (R343). -/
def dieFactor (t : Int) : Nat := (clampI 25000 100000 (100000 - 3 * (t - 125000))).toNat

/-- Every channel of a die takes the fault THERMAL. -/
def Dev.dieHiz (die : Nat) (d : Dev) : Dev :=
  d.pwrOwn.foldl (fun (a : Dev) n => if n / 4 == die then a.chFaultIf n 6 false (a.chDriven n || a.chState n == 5) else a) d

/-- The phases of a die that shuts down stop: the boost's fault DIE_SHUTDOWN. -/
def Dev.dieBoost (d : Dev) : Dev := if d.boostState = 0 then d else (d.boostFault 3).phaseReport

/-- SHUTDOWN is set with EV77 and a record, and the die's channels stay muted until SAFE is left. -/
def Dev.dieMark (die : Nat) (d : Dev) : Dev :=
  let d := (d.putBit (key 0x6105 die) 1 true).raise 77
  let d : Dev := { d with pwr := { d.pwr with dieMute := setBit d.pwr.dieMute die true } }
  d.bbMake 4 2 77 (0x10 + die) (d.get (key 0x6105 die)) 0

/-- A power die shuts down at 160 °C: its channels and phases stop, EV77 and a record, SAFE cause [4] (R343). -/
def Dev.dieShut (die : Nat) (d : Dev) : Dev := d.does [Dev.dieMark die, Dev.dieHiz die, Dev.dieBoost, Dev.causeSet 4, Dev.outSettle]

/-- A shut-down die falls below 140 °C: its channels restart softly, and SAFE cause [4] clears when no die is shut down (R343). -/
def Dev.dieBack (die : Nat) (d : Dev) : Dev :=
  let d := (d.putBit (key 0x6105 die) 1 false).raise 77
  let d := if d.boostState = 0 then d else d.phaseReport.raise 86
  let d := if d.bitOf (key 0x6105 (1 - die)) 1 then d else d.causeClear 4
  d.outSettle

/-- A power die's junction temperature in m°C (R343): f_die, WARN at 125 °C and clear below 120 °C with EV76, shutdown and recovery. -/
def Dev.dieTemp (die : Nat) (t : Int) (d : Dev) : Dev :=
  if !d.pwr.on || die ≥ 2 then d
  else
    let k := key 0x6105 die
    let d : Dev := { d with pwr := { d.pwr with fdie := modNth (fun _ => dieFactor t) d.pwr.fdie die } }
    let warn : Bool := bif decide (125000 ≤ t) then true else !decide (t < 120000) && d.bitOf k 0
    let d := if d.bitOf k 0 == warn then d else (d.putBit k 0 warn).raise 76
    if decide (160000 ≤ t) && !d.bitOf k 1 then d.dieShut die
    else if decide (t < 140000) && d.bitOf k 1 then d.dieBack die
    else d

/-! Power and resets -/

/-- The boost is off: PVDD follows VIN, no phase is disabled (R349, Table 14-4). -/
def Dev.boostDown (d : Dev) : Dev :=
  let d := (d.phasesBack.setBoost 0).setCmd 0
  { d with bst := { vin := d.bst.vin, pvdd := d.bst.pvdd, ev82 := d.bst.ev82, ev83 := d.bst.ev83, shorts := d.bst.shorts } }.put kBoostStatus 0

/-- The converters and power dies gain power at the first step of Table 3-8. -/
def Dev.stageUp (d : Dev) : Dev := d.pwrPowerUp

/-- They lose it: at the end of a step below READY. -/
def Dev.stageDown (d : Dev) : Dev := d.boostDown.pwrPowerDown

/-- A reset that restarts the part. -/
def Dev.stageReset (all : Bool) (d : Dev) : Dev := { (d.pwrReset all) with bst := {} }

/-- The objects of the boost that read a state of the part. -/
def Dev.bstValue (d : Dev) (k : Nat) : Option Nat :=
  if k = 0x621006 then some (pct d.bst.factor) else if k = 0x621007 then some d.vSup else none

/-- What a write of the boost's objects starts. -/
def Dev.bstWrite (k v : Nat) (d : Dev) : Dev := if k = 0x621104 then d.when (v = 1) Dev.boostClear else d

end Sys2Proof.Machine
end

