-- ==== Sys2Proof/Machine/Capture.lean ====
section
/-! DEFINITION. Microphone and line capture (R221 to R242): fourteen channels, bias generators, PDM clocks and lines, invalid intervals, over-range and the sample ledgers. -/
namespace Sys2Proof.Machine

def Dev.capCh (d : Dev) (c : Nat) : CapCh := nthD {} d.cap.chans c
def Dev.modCap (c : Nat) (f : CapCh → CapCh) (d : Dev) : Dev := { d with cap := { d.cap with chans := modNth f d.cap.chans c } }

/-- Channels 0 to 3 and 12 and 13 are analogue, 4 to 11 PDM. -/
def analogCh (c : Nat) : Bool := c < 4 || c = 12 || c = 13

/-- The capture chain runs: CAPTURE and DECIM are ready (R221). -/
def Dev.capRuns (d : Dev) : Bool := d.ready 15 && d.ready 16

/-- A channel is enabled: CH_ENABLE, or its bit of the acted-on PDM_CH_ENABLE. -/
def Dev.capOn (d : Dev) (c : Nat) : Bool := if analogCh c then d.get (key (0x4200 + c) 0) = 1 else bit d.cap.chEn (c - 4)

/-- The generator a channel's BIAS_SEL names. -/
def Dev.biasOf (d : Dev) (c : Nat) : Option Nat :=
  if analogCh c then (match d.get (key (0x4200 + c) 3) with | 1 => some 0 | 2 => some 1 | _ => none) else none

/-- BIAS_STATUS bit `i` of a generator: 0 ON, 1 SHORT, 2 OPEN, 3 RETRY, 4 SUSPENDED (Table 9-3). -/
def Dev.biasBit (d : Dev) (k i : Nat) : Bool := d.bitOf (key (0x4210 + k) 2) i
def Dev.setBias (k i : Nat) (b : Bool) (d : Dev) : Dev := d.putBit (key (0x4210 + k) 2) i b

/-- A channel is in FAULT: its generator is shorted (R226), or its PDM line is stuck (R230). -/
def Dev.capFault (d : Dev) (c : Nat) : Bool :=
  if analogCh c then (match d.biasOf c with | some k => d.biasBit k 1 | none => false) else d.bitOf 0x423100 (c - 4)

/-- Samples of Table 9-6 from the 48 kHz column, at the committed rate: a part-sample counts whole (R11). -/
def Dev.at48 (d : Dev) (n : Nat) : Nat := ceilDiv (n * d.fs) 48000

/-- A change makes `n` samples of a channel invalid; it extends an interval in progress and never shortens it (R233). -/
def Dev.settle (c n : Nat) (d : Dev) : Dev := d.modCap c (fun x => { x with left := max x.left n, settling := true })

/-- A channel enable, or a return from FAULT: 64 samples at 48 kHz. -/
def Dev.settleOn (c : Nat) (d : Dev) : Dev := d.settle c (d.at48 64)

/-- Every channel of a generator: a bias enable, 480 samples at 48 kHz. -/
def Dev.settleBias (k : Nat) (d : Dev) : Dev := (upto 14).foldl (fun (a : Dev) c => if a.biasOf c = some k then a.settle c (a.at48 480) else a) d

/-- CH_STATE (Table 9-6a): 0 OFF, 1 SETTLING, 2 VALID, 3 FAULT. -/
def Dev.capState (d : Dev) (c : Nat) : Nat :=
  if !(d.capRuns && d.capOn c) then 0 else if d.capFault c then 3 else if (d.capCh c).settling then 1 else 2

/-! PDM clocks and lines (R228 to R230) -/

/-- The clock of line `k`. -/
def Dev.lineClk (d : Dev) (k : Nat) : Nat := b2n (d.bitOf 0x423001 k)

/-- The microphones of the listening set in use, as bits of MIC4 + m. -/
def Dev.listenMics (d : Dev) : Nat := if d.per.on then (match assoc 0x440000 d.per.use with | some v => v | none => 0) else 0

/-- PDM_CLK`j` runs: group 0x38 enables it or the Perimeter's listening set uses a microphone on a line assigned to it, and its source runs: fm ÷ 16 from READY, the crystal otherwise (R228, R247). -/
def Dev.pdmRuns (d : Dev) (j : Nat) : Bool :=
  (d.per.media || d.per.xtal) && (d.capRuns || d.per.on)
    && (d.bitOf 0x423000 j || (upto 8).any (fun m => bit d.listenMics m && d.lineClk (m / 2) == j))

def Dev.pdmMask (d : Dev) : Nat := b2n (d.pdmRuns 0) + 2 * b2n (d.pdmRuns 1)

/-- The rule of group 0x38 (R229): every microphone enabled lies on a line whose clock is enabled. -/
def rulePdm (v : Nat → Nat) : Option Nat :=
  if (upto 8).all (fun m => !bit (v 0x423004) m || bit (v 0x423000) (b2n (bit (v 0x423001) (m / 2)))) then none else some 0

/-- The committed group 0x38, or a change of the listening set, acts (R229): a clock that starts makes every capture channel on it invalid for PDM_WAKE; a channel newly enabled on a running clock, or whose line changes clock or edge, is a channel enable. -/
def Dev.pdmApply (d : Dev) : Dev :=
  let c0 := d.cap
  let clocks := d.pdmMask
  let lineClk := d.get 0x423001
  let swap := d.get 0x423002
  let en := d.get 0x423004
  let d := { d with cap := { d.cap with clocks := clocks, lineClk := lineClk, swap := swap, chEn := en } }
  let d := d.put 0x423100 (d.get 0x423100 &&& en)
  (upto 8).foldl (fun (a : Dev) m =>
    let k := m / 2
    let j := b2n (bit lineClk k)
    if !bit en m then a.modCap (m + 4) (fun x => { x with left := 0, settling := false, excess := none })
    else
      let a := if bit clocks j && !bit c0.clocks j then a.settle (m + 4) (ceilDiv (a.get 0x423003 * a.fs) 1000) else a
      if !bit c0.chEn m || bit lineClk k != bit c0.lineClk k || bit swap k != bit c0.swap k then a.settleOn (m + 4) else a) d

/-- A PDM line has stayed constant, or has toggled again, for 1 ms while its clock runs (R230): STUCK of each capture-enabled microphone on it, with EV64; a return completes a channel enable. -/
def Dev.pdmStuck (line : Nat) (stuck : Bool) (d : Dev) : Dev :=
  let ms := [2 * line, 2 * line + 1].filter (fun m => line < 4 && bit d.cap.chEn m && d.bitOf 0x423100 m != stuck)
  if ms.isEmpty || !d.capRuns || !d.pdmRuns (d.lineClk line) then d
  else
    let d := ms.foldl (fun (a : Dev) m =>
      let a := a.putBit 0x423100 m stuck
      if stuck then a else a.settleOn (m + 4)) d
    d.raise 64

/-! Bias generators (R225 to R227) -/

/-- A generator turns on: ON is set, and its channels are invalid for a bias enable. -/
def Dev.biasStart (k : Nat) (d : Dev) : Dev := (d.setBias k 0 true).settleBias k

/-- Channels of a generator return from FAULT when it is no longer shorted. -/
def Dev.biasFree (k : Nat) (d : Dev) : Dev := (upto 14).foldl (fun (a : Dev) c => if a.biasOf c = some k then a.settleOn c else a) d

/-- A generator turns off: nothing of it is monitored, and a shorted one's channels leave FAULT. -/
def Dev.biasOff (k : Nat) (d : Dev) : Dev :=
  let short := d.biasBit k 1
  let d := d.does [Dev.setBias k 0 false, Dev.setBias k 1 false, Dev.setBias k 2 false, Dev.setBias k 3 false]
  let d := { d with cap := { d.cap with retry := modNth (fun _ => none) d.cap.retry k } }
  if short then d.biasFree k else d

/-- A short for 1 ms (R226): the generator turns off for 1 s with SHORT and RETRY, counted, EV62. Suspended while MIC3 takes the headset microphone (R227). -/
def Dev.biasShort (k : Nat) (d : Dev) : Dev :=
  if k < 2 && d.ready 15 && d.biasBit k 0 && !d.biasBit k 4 then
    let d := d.does [Dev.setBias k 0 false, Dev.setBias k 1 true, Dev.setBias k 3 true, Dev.inc (key (0x4210 + k) 4)]
    { d with cap := { d.cap with retry := modNth (fun _ => some (d.now + 1000000000)) d.cap.retry k } }.raise 62
  else d

/-- The retry 1 s after a short (R226): the generator turns on again; with the short gone SHORT and RETRY clear, EV62 is raised and its channels complete the bias-enable interval; with the short still there SHORT stays, and the next short repeats the cycle. -/
def Dev.biasRetry (k : Nat) (gone : Bool) (d : Dev) : Dev :=
  match nthD none d.cap.retry k with
  | some t =>
    if t ≤ d.now && k < 2 && d.biasBit k 3 then
      let d := { d with cap := { d.cap with retry := modNth (fun _ => none) d.cap.retry k } }
      let d := d.does [Dev.setBias k 0 true, Dev.setBias k 3 false]
      if gone then ((d.setBias k 1 false).raise 62).settleBias k else d
    else d
  | none => d

/-- A current below 20 µA for 100 ms sets OPEN and one above 50 µA for 100 ms clears it, each with EV62; the generator stays on (R226). -/
def Dev.biasOpen (k : Nat) (opened : Bool) (d : Dev) : Dev :=
  if k < 2 && d.ready 15 && d.biasBit k 0 && d.biasBit k 2 != opened then (d.setBias k 2 opened).raise 62 else d

/-! Over range (R236, R237) -/

/-- An OVR sample: counted on an analogue channel, and its bit of 4220.00 set, with EV63 where it was clear, at most once per ms for the channel. -/
def Dev.capOver (c : Nat) (d : Dev) : Dev :=
  let d := d.when (analogCh c) (Dev.inc (key (0x4200 + c) 4))
  if d.bitOf 0x422000 c then d
  else
    let d := d.putBit 0x422000 c true
    let quiet := match (d.capCh c).ev63 with | some t => decide (d.now < t + 1000000) | none => false
    if quiet then d else (d.modCap c (fun x => { x with ev63 := some d.now })).raise 63

/-- A sample of a running channel is over range: it will be clipped and tagged OVR at the next boundary; `hi` is its sign. -/
def Dev.capMark (c : Nat) (hi : Bool) (d : Dev) : Dev :=
  if c < 14 && d.capRuns && d.capOn c && (d.capCh c).excess.isNone then (d.capOver c).modCap c (fun x => { x with excess := some hi }) else d

/-- The codes an over-range sample is clipped to. -/
def clipHi : Int := 0x7FFFFF00
def clipLo : Int := -0x80000000

/-! One boundary (R222, R233 to R236) -/

def Dev.capLedger (c f : Nat) (d : Dev) : Dev := d.add64 (key (0x4320 + c) f) 1

/-- One channel at a boundary: `x` is what its chain puts out. -/
def Dev.capSample (c : Nat) (x : Int) (d : Dev) : Smp × Dev :=
  let s := d.capCh c
  if !(d.capRuns && d.capOn c) then ({ v := s.last, t := 8 }, d.modCap c (fun y => { y with left := y.left - 1 }))
  else
    let mark := s.excess
    let beyond := decide (x > clipHi) || decide (x < clipLo)
    let excess := mark.isSome || beyond
    let v := match mark with | some hi => if hi then clipHi else clipLo | none => clampI clipLo clipHi x
    let ovr := excess || (analogCh c && decide (s.tail > 0))
    let d := if ovr && mark.isNone then d.capOver c else d
    let tail := if excess && analogCh c then 8 else s.tail - 1
    let fault := d.capFault c
    let bad := fault || decide (s.left > 0) || d.med.invOnce
    let d := d.modCap c (fun y => { y with excess := none, tail := tail, left := if fault then y.left else y.left - 1, last := if bad then y.last else v })
    let d := (d.capLedger c 0).capLedger c 3
    let d := if bad then (d.capLedger c 1).capLedger c 2 else d
    ({ v := if bad then s.last else v, t := (if bad then 8 else 0) + (if ovr then 4 else 0) }, d)

/-- Every capture source at a boundary, from the outputs of the chains by node. -/
def Dev.capBoundary (ins : List (Nat × Int)) (d : Dev) : List (Nat × Smp) × Dev :=
  (upto 14).foldl (fun (r : List (Nat × Smp) × Dev) c =>
    let x : Int := match assoc (0x150 + c) ins with | some v => v | none => 0
    let (s, d) := r.2.capSample c x
    (r.1 ++ [(0x150 + c, s)], d)) ([], d)

/-- The end of an invalid interval: VALID, EV65 (R233). -/
def Dev.capValid (c : Nat) (d : Dev) : Dev :=
  if c < 14 && d.capState c = 1 && (d.capCh c).left = 0 then (d.modCap c (fun x => { x with settling := false })).raise 65 else d

/-! Start, stop and restart (R221, R241) -/

/-- The analogue side starts: each enabled channel with a channel enable, and a bias enable where its generator is on. -/
def Dev.capStartAnalog (d : Dev) : Dev :=
  let d := [0, 1].foldl (fun (a : Dev) k => if a.get (key (0x4210 + k) 0) = 1 then a.biasStart k else a) d
  [0, 1, 2, 3, 12, 13].foldl (fun (a : Dev) c => if a.capOn c then a.settleOn c else a) d

/-- The capture chain starts at step 3 of Table 3-8. -/
def Dev.capStart (d : Dev) : Dev :=
  let d := { d with cap := { d.cap with chEn := 0 } }
  d.capStartAnalog.pdmApply

/-- The analogue channels and bias stop. -/
def Dev.capStopAnalog (d : Dev) : Dev :=
  let d := (d.biasOff 0).biasOff 1
  [0, 1, 2, 3, 12, 13].foldl (fun (a : Dev) c => a.modCap c (fun x => { last := x.last })) d

/-- Every capture channel stops; nothing is counted while it is stopped (R221). -/
def Dev.capStop (d : Dev) : Dev :=
  let d := d.capStopAnalog
  let d := d.put 0x423100 0
  { d with cap := { d.cap with chans := d.cap.chans.map (fun x => { last := x.last }), chEn := 0 } }

/-- A restart of DECIM: every channel counts a channel enable. -/
def Dev.capDecim (d : Dev) : Dev := (upto 14).foldl (fun (a : Dev) c => if a.capOn c then a.settleOn c else a) d.pdmApply

/-! Objects of 4200h to 43FFh -/

/-- Values computed when they are read: PDM_STATUS [9:8], CH_STATE, SETTLE_REMAIN, and a generator's measured current, a free value while it is on. -/
def Dev.capValue (d : Dev) (k : Nat) : Option Nat :=
  let i := k / 256
  let s := k % 256
  if k = 0x423100 then some (d.get k + 256 * d.pdmMask)
  else if (i = 0x4210 || i = 0x4211) && s = 3 then some (if d.biasBit (i - 0x4210) 0 then Config.free d.free % 65536 else 0)
  else if 0x4300 ≤ i && i < 0x430E then
    let c := i - 0x4300
    if s = 3 then some (d.capState c)
    else if s = 4 then some (if d.capRuns && d.capOn c then min (d.capCh c).left 65535 else 0)
    else none
  else none

/-- What a read does: 4220.00 is cleared; a measured current is used up. -/
def Dev.capTouch (k : Nat) (d : Dev) : Dev :=
  let i := k / 256
  if k = 0x422000 then d.put k 0
  else if (i = 0x4210 || i = 0x4211) && k % 256 = 3 then d.fresh.2
  else d

/-- The objects' own refusals (Table 9-2). -/
def capCheck (k v : Nat) : List Nat :=
  let i := k / 256
  let s := k % 256
  let line := i = 0x420C || i = 0x420D
  if 0x4200 ≤ i && i < 0x4204 || line then
    if s = 1 then errIf (v = 3 && i ≠ 0x4203) eRange
    else if s = 2 then errIf (line && (decide (toInt 16 v < 0) || decide (toInt 16 v > 12))) eRange
    else if s = 3 then errIf (line && v ≠ 0) eRange
    else []
  else []

/-- What a write does beside setting the value, `old` the value before: the interval of Table 9-6 where the value changes. -/
def Dev.capWrite (k old v : Nat) (d : Dev) : Dev :=
  let i := k / 256
  let s := k % 256
  if old = v then d
  else if 0x4200 ≤ i && i < 0x420E then
    let c := i - 0x4200
    if s = 0 then (if v = 1 then d.settleOn c else d.modCap c (fun x => { last := x.last, left := x.left, ev63 := x.ev63 }))
    else if s = 1 then
      let d := if c = 3 then d.setBias 1 4 (v = 3) else d
      d.settle c (d.at48 48)
    else if s = 2 then d.settle c (d.at48 12)
    else if s = 3 then
      let was := (old = 1 && d.biasBit 0 1) || (old = 2 && d.biasBit 1 1)
      if was && !d.capFault c then d.settleOn c else d
    else d
  else if i = 0x4210 || i = 0x4211 then
    let g := i - 0x4210
    if s = 0 then (if g = 1 && d.hp.biasJack then d else if v = 1 then d.biasStart g else d.biasOff g)
    else if s = 1 && d.biasBit g 0 then d.settleBias g
    else d
  else if 0x4300 ≤ i && i < 0x430E then
    let c := i - 0x4300
    if s = 0 then d.settle c (d.at48 64) else if s = 1 then d.settle c (d.at48 16) else d
  else d

end Sys2Proof.Machine
end

