-- ==== Sys2Proof/Machine/Hp.lean ====
section
/-! DEFINITION. Headphone and line outputs, jack and headset detection (R367 to R376). -/
namespace Sys2Proof.Machine

/-- Object `s` of output `o`: 0 the headphone at 4500, 1 the line output at 4510. -/
abbrev ok_ (o s : Nat) : Nat := key (0x4500 + 16 * o) s

def Dev.outCh (d : Dev) (o : Nat) : OutCh := nthD {} d.hp.outs o
def Dev.modOut (o : Nat) (f : OutCh → OutCh) (d : Dev) : Dev := { d with hp := { d.hp with outs := modNth f d.hp.outs o } }

/-- HP_STATE or LOUT_STATE: 0 OFF, 1 STARTING, 2 ON, 3 STOPPING, 4 FAULT. -/
def Dev.outState (d : Dev) (o : Nat) : Nat := d.get (ok_ o 4)

/-- Jack detection is on: a switch is used (R374). -/
def Dev.jackOn (d : Dev) : Bool := d.get 0x452000 % 4 != 0

/-- The jack is INSERTED: declared, and no removal declared since. -/
def Dev.jackIn (d : Dev) : Bool := d.get 0x452001 = 2 || d.get 0x452001 = 3

/-- A used switch indicates absence. -/
def Dev.jackAbsent (d : Dev) : Bool := clearBits (d.get 0x452000 % 4) (d.get 0x452002) != 0

/-- The mode lets the outputs run, and they are ready (R367). -/
def Dev.outMode (d : Dev) : Bool := d.audioRuns && d.ready 23 && !d.leavesReady

/-- The conditions of R370. -/
def Dev.outWanted (d : Dev) (o : Nat) : Bool :=
  d.outMode && d.get (ok_ o 0) = 1 && (o = 1 || !(d.bitOf 0x452000 4 && d.jackOn) || d.jackIn)

/-- The length of a ramp of 5 ms, of 1 ms, and of the jack ramps together, in samples. -/
def Dev.ramp5 (d : Dev) : Nat := max 1 (samplesIn d.fs 5000)
def Dev.ramp1 (d : Dev) : Nat := max 1 (samplesIn d.fs 1000)
def Dev.jackFull (d : Dev) : Nat := d.ramp5 * d.ramp1

/-- An output starts as Table 15-2. -/
def Dev.outStart (o : Nat) (again : Bool) (d : Dev) : Dev :=
  (d.put (ok_ o 4) 1).modOut o (fun c => { c with since := d.now, gain := 0, mute := if d.safeMutes then 0 else d.ramp5, range := d.get (ok_ o 1), stage := 0, jackGain := if c.jack then 0 else d.jackFull, retryAt := none, retry := again })

/-- What the conditions of R370 now require of an output. -/
def Dev.outSettleOne (o : Nat) (d : Dev) : Dev :=
  let st := d.outState o
  let w := d.outWanted o
  if st = 0 && w then d.outStart o false
  else if (st = 1 || st = 2) && !w then (d.put (ok_ o 4) 3).modOut o (fun c => { c with since := d.now })
  else if st = 4 && !w then (d.put (ok_ o 4) 0).modOut o (fun c => { c with retryAt := none })
  else d

def Dev.hpSettle (d : Dev) : Dev := (d.outSettleOne 0).outSettleOne 1

/-- The start of Table 15-2 is complete: ON; after a fault, EV69. -/
def Dev.outStarted (o : Nat) (d : Dev) : Dev :=
  let c := d.outCh o
  if o < 2 && d.outState o = 1 && c.since + (if o = 0 then 7000000 else 26000000) ≤ d.now then
    let d := (d.put (ok_ o 4) 2).modOut o (fun c => { c with gain := d.ramp5, retry := false })
    if c.retry then d.raise 69 else d
  else d

/-- The stop of Table 15-2 is complete: OFF, and a new start where the conditions hold again. -/
def Dev.outStopped (o : Nat) (d : Dev) : Dev :=
  if o < 2 && d.outState o = 3 && (d.outCh o).since + (if o = 0 then 6000000 else 26000000) ≤ d.now then
    ((d.put (ok_ o 4) 0).modOut o (fun c => { c with gain := 0 })).outSettleOne o
  else d

/-- A current limit has acted for 10 ms: FAULT, both channels clamped, counted, EV69 and a record (R372). -/
def Dev.outFault (o : Nat) (d : Dev) : Dev :=
  let st := d.outState o
  if o < 2 && (st = 1 || st = 2 || st = 3) then
    let d := (((d.put (ok_ o 4) 4).putBit (ok_ o 5) 4 true).inc (ok_ o 6)).modOut o (fun c => { c with gain := 0, retry := false, retryAt := some (d.now + 1000000000) })
    let d := d.raise 69
    (d.bbMake 11 1 69 o (d.get (ok_ o 5) ||| 1) (d.get (ok_ o 6))).outSettleOne o
  else d

/-- The retry, 1 s after a fault. -/
def Dev.outRetry (o : Nat) (d : Dev) : Dev :=
  match (d.outCh o).retryAt with
  | some t => if o < 2 && d.outState o = 4 && t ≤ d.now then (d.putBit (ok_ o 5) 4 false).outStart o true else d
  | none => d

/-- Every 0.25 ms each volume that differs from its object moves by one step of 0.5 dB (R369). -/
def Dev.volStep (d : Dev) : Dev :=
  let go (v t : Int) : Int := if v < t then v + 1 else if v > t then v - 1 else v
  (upto 2).foldl (fun (a : Dev) o => a.modOut o (fun c => { c with vols := [go (nthD 0 c.vols 0) (a.getI 16 (ok_ o 2)), go (nthD 0 c.vols 1) (a.getI 16 (ok_ o 3))] })) d

/-- Bits of a gain of -k ÷ 2 dB, from bit `n` - 1 down: the Q4.28 word nearest to 10^(-k ÷ 40) (R10). -/
def dbBits (k : Nat) : Nat → Nat → Nat
  | 0, r => r
  | n + 1, r => let c := r + 2 ^ n; dbBits k n (if (2 * c - 1) ^ 40 * 10 ^ k ≤ 2 ^ 1160 then c else r)

/-- The gain of a volume in 0.5 dB steps, as a Q4.28 word; -240 is silence. -/
def volGain (v : Int) : Nat := let k := (-v).toNat; if k ≥ 240 then 0 else dbBits k 29 0

/-- The ramps of an output at a boundary: the signal gain as it starts and stops, the mute of a SAFE cause or a change of HP_RANGE, and the jack mute. -/
def OutCh.step (c : OutCh) (d : Dev) (o : Nat) : OutCh :=
  let st := d.outState o
  let n := d.ramp5
  let gain := match st with
    | 1 => if d.now ≥ c.since + (if o = 0 then 2000000 else 21000000) then min n (c.gain + 1) else c.gain
    | 2 => n
    | 3 => c.gain - 1
    | _ => 0
  let down := d.safeMutes || c.stage = 1
  let mute := if down then c.mute - 1 else min n (c.mute + 1)
  let c := if c.stage = 1 && mute = 0 then { c with stage := 2, range := d.get (ok_ o 1) } else if c.stage = 2 && mute = n then { c with stage := 0 } else c
  { c with gain := gain, mute := mute, jackGain := if c.jack then c.jackGain - n else min d.jackFull (c.jackGain + d.ramp1) }

/-- The headphone and line outputs take their samples from sink nodes 0x158 to 0x15B; each reaches its pin 16 boundaries later (R368). -/
def Dev.hpBoundary (d : Dev) : Dev :=
  let d := (upto 2).foldl (fun (a : Dev) o => a.modOut o (fun c => c.step a o)) d
  let one (o ch : Nat) : Int :=
    let c := d.outCh o
    let x := (d.sinkSample (0x158 + 2 * o + ch)).v
    let x := satS 32 (roundDiv (x * volGain (nthD 0 c.vols ch)) (2 ^ 28))
    roundDiv (x * (c.gain * c.mute * c.jackGain : Nat)) (d.ramp5 * d.ramp5 * d.jackFull)
  { d with hp := { d.hp with pipe := d.hp.pipe.drop 1 ++ [[one 0 0, one 0 1, one 1 0, one 1 1]] } }

/-- HP_STATUS or LOUT_STATUS (Table 15-3). -/
def Dev.outStatus (d : Dev) (o : Nat) : Nat :=
  let c := d.outCh o
  let st := d.outState o
  let n := d.ramp5
  let t := d.now - c.since
  let clamped : Bool := match st with
    | 1 => decide (t < if o = 0 then 2000000 else 1000000)
    | 2 => false
    | 3 => o = 0 && decide (5000000 ≤ t)
    | _ => true
  let ramping : Bool := (st = 1 && decide ((if o = 0 then 2000000 else 21000000) ≤ t)) || (st = 3 && decide (t < 5000000)) || (st = 2 && (c.stage != 0 || (c.mute != 0 && c.mute != n) || (c.jackGain != 0 && c.jackGain != d.jackFull)))
  b2n clamped + 2 * b2n ramping + 4 * b2n (o = 0 && c.jack) + 8 * b2n ((st = 1 || st = 2) && d.safeMutes) + 16 * b2n (d.bitOf (ok_ o 5) 4)

/-! Jack and headset (R371, R374 to R376) -/

/-- JACK_TYPE set: 0 NONE, 1 PENDING, 2 THREE_POLE, 3 HEADSET, 4 NO_MIC, with EV67. -/
def Dev.setJack (t : Nat) (d : Dev) : Dev := (d.put 0x452003 t).raise 67

/-- BIAS1 is connected to the jack, its short detection suspended; off, it is turned on, and its channels undergo a bias enable (R375). -/
def Dev.jackConnect (d : Dev) : Dev :=
  let d := ({ d with hp := { d.hp with biasJack := true } }).setBias 1 4 true
  let d := if d.biasBit 1 1 then (((({ d with cap := { d.cap with retry := modNth (fun _ => none) d.cap.retry 1 } } : Dev).setBias 1 1 false).setBias 1 3 false).biasFree 1) else d
  if d.biasBit 1 0 then d else d.biasStart 1

/-- The switch opens: BIAS1 returns to BIAS_ENABLE and its short detection resumes. -/
def Dev.jackOpen (d : Dev) : Dev :=
  if d.hp.biasJack then
    let d := ({ d with hp := { d.hp with biasJack := false } }).setBias 1 4 (d.get 0x420301 = 3)
    if d.get 0x421100 = 1 then d else d.biasOff 1
  else d

/-- Identification starts or restarts, where CAPTURE and HPLINE are ready (R375). -/
def Dev.identStart (d : Dev) : Dev :=
  if d.ready 15 && d.ready 23 && d.bitOf 0x452000 5 && d.jackIn && d.get 0x452003 = 1 then
    ({ d with hp := { d.hp with ident := some d.now } }).jackConnect
  else d

/-- The type that an average BIAS1 current in uA tells. -/
def Dev.jackClass (d : Dev) (ua : Nat) : Nat := if ua ≥ d.get 0x452100 then 2 else if ua < d.get 0x452103 then 4 else 3

/-- The BIAS1 current averaged: after 10 ms and a further 20 ms of an identification it sets JACK_TYPE; a THREE_POLE jack whose current has stayed in the headset band for 100 ms becomes HEADSET. -/
def Dev.jackIdentify (ua : Nat) (d : Dev) : Dev :=
  match d.hp.ident with
  | some t =>
    if t + 30000000 ≤ d.now then
      let k := d.jackClass ua
      let d := ({ d with hp := { d.hp with ident := none } }).setJack k
      if k = 3 then d else d.jackOpen
    else d
  | none => if d.get 0x452003 = 2 && d.jackClass ua = 3 && d.ready 15 && d.ready 23 then (d.setJack 3).jackConnect else d

/-- A BIAS1 current in uA held for 30 ms while JACK_TYPE is HEADSET: a press, a release, or a release followed by a press (R376). -/
def Dev.button (ua : Nat) (d : Dev) : Dev :=
  if d.get 0x452003 = 3 && d.hp.biasJack then
    let k := if ua ≥ d.get 0x452100 then 1 else if ua ≥ d.get 0x452101 then 2 else if ua ≥ d.get 0x452102 then 4 else 0
    let old := d.get 0x452004
    if old = k then d
    else
      let d := if old = 0 then d else (d.put 0x452004 0).raise 68
      if k = 0 then d else (d.put 0x452004 k).raise 68
  else d

/-- A change of the raw switch states (bit set: presence): JD_STATE shows an insertion or removal under way; absence mutes a headphone STARTING or ON, and its return before a removal is declared unmutes it (R371, R374). -/
def Dev.jackRaw (raw : Nat) (d : Dev) : Dev :=
  let d := d.put 0x452002 (raw % 4)
  if !d.jackOn then d
  else
    let st := d.get 0x452001
    let d := d.put 0x452001 (if d.jackAbsent then (if st = 1 then 0 else if st = 2 then 3 else st) else if st = 0 then 1 else if st = 3 then 2 else st)
    if d.jackAbsent then (if d.outState 0 = 1 || d.outState 0 = 2 then d.modOut 0 (fun c => { c with jack := true }) else d)
    else if d.jackIn then d.modOut 0 (fun c => { c with jack := false }) else d

/-- Every used switch has indicated presence for 50 ms: INSERTED, counted, EV66; JACK_TYPE is PENDING until an identification asked for has run. -/
def Dev.jackInsert (d : Dev) : Dev :=
  if !d.jackOn || d.jackIn then d
  else
    let d := d.does [Dev.put 0x452002 (d.get 0x452002 ||| d.get 0x452000 % 4), Dev.put 0x452001 2, Dev.inc 0x452005, Dev.raise 66]
    let d := d.modOut 0 (fun c => { c with jack := false })
    let d := if d.bitOf 0x452000 5 then (d.setJack 1).identStart else d
    d.hpSettle

/-- A used switch has indicated absence for 50 ms: REMOVED, EV66; JACK_TYPE NONE, BUTTONS clear, the switch to BIAS1 open; a headphone that AUTO_HP does not stop stays ON and silent. -/
def Dev.jackRemove (raw : Nat) (d : Dev) : Dev :=
  let d := d.put 0x452002 (raw % 4)
  if !d.jackOn || !d.jackIn || !d.jackAbsent then d
  else
    let d := (d.put 0x452001 0).raise 66
    let d := if d.get 0x452003 = 0 then d else d.setJack 0
    let d := ({ (d.put 0x452004 0) with hp := { d.hp with ident := none } }).jackOpen
    let d := if d.outState 0 = 1 || d.outState 0 = 2 then d.modOut 0 (fun c => { c with jack := true }) else d
    d.hpSettle

/-- A step below READY: an identification stops with JACK_TYPE PENDING, and BUTTONS clears (Table 15-11). -/
def Dev.jackSuspend (d : Dev) : Dev :=
  let d := d.put 0x452004 0
  if d.hp.ident.isSome then ({ d with hp := { d.hp with ident := none, biasJack := false } } : Dev).setBias 1 4 (d.get 0x420301 = 3) else d

/-- CAPTURE and HPLINE are ready: a pending identification starts, and a headset's BIAS1 is connected again. -/
def Dev.jackResume (d : Dev) : Dev := if d.get 0x452003 = 3 && d.ready 15 && d.ready 23 then d.jackConnect else d.identStart

/-- The outputs are clamped at once: the part is reset, or a mode below READY entered. -/
def Dev.hpClamp (d : Dev) : Dev :=
  let d := (upto 2).foldl (fun (a : Dev) o => ((a.put (ok_ o 4) 0).putBit (ok_ o 5) 4 false).modOut o (fun c => { vols := c.vols })) d
  { d with hp := { d.hp with pipe := List.replicate 16 [0, 0, 0, 0] } }

/-! Host side -/

def Dev.hpValue (d : Dev) (k : Nat) : Option Nat := if k = 0x450005 then some (d.outStatus 0) else if k = 0x451005 then some (d.outStatus 1) else none

/-- The thresholds of Table 15-5 strictly descend, MIC_MIN below BTN_C_MIN. -/
def Dev.hpCheck (k v : Nat) (d : Dev) : List Nat :=
  let g (j : Nat) : Nat := if k = j then v else d.get j
  if 0x452100 ≤ k && k ≤ 0x452103 then errIf (!(g 0x452100 > g 0x452101 && g 0x452101 > g 0x452102 && g 0x452102 > g 0x452103)) eRange else []

/-- What a write of these objects starts, its value stored. -/
def Dev.hpWrite (k old v : Nat) (d : Dev) : Dev :=
  if k = 0x450000 || k = 0x451000 then d.hpSettle
  else if k = 0x450001 then
    (if old = v then d else if d.outState 0 = 2 then d.modOut 0 (fun c => { c with stage := 1 }) else if d.outState 0 = 1 then d else d.modOut 0 (fun c => { c with range := v }))
  else if k = 0x452000 then
    let d := if d.jackOn then d else (d.put 0x452001 0).modOut 0 (fun c => { c with jack := false })
    d.identStart.hpSettle
  else d

end Sys2Proof.Machine
end

