-- ==== Sys2Proof/Machine/Sine.lean ====
section
/-! DEFINITION. The sine table of the AUX generators (R384): a quarter of its 1024 entries, each the sine rounded to the nearest Q1.31 word (R10). -/
namespace Sys2Proof.Machine

/-- Entries 0 to 64 of the first quarter. -/
def sineQ0 : List Nat := [
  0, 13176712, 26352928, 39528151, 52701887, 65873638, 79042909, 92209205, 105372028, 118530885, 131685278, 144834714,
  157978697, 171116733, 184248325, 197372981, 210490206, 223599506, 236700388, 249792358, 262874923, 275947592, 289009871, 302061269,
  315101295, 328129457, 341145265, 354148230, 367137861, 380113669, 393075166, 406021865, 418953276, 431868915, 444768294, 457650927,
  470516330, 483364019, 496193509, 509004318, 521795963, 534567963, 547319836, 560051104, 572761285, 585449903, 598116479, 610760536,
  623381598, 635979190, 648552838, 661102068, 673626408, 686125387, 698598533, 711045377, 723465451, 735858287, 748223418, 760560380,
  772868706, 785147934, 797397602, 809617249, 821806413]

/-- Entries 65 to 129 of the first quarter. -/
def sineQ1 : List Nat := [
  833964638, 846091463, 858186435, 870249095, 882278992, 894275671, 906238681, 918167572, 930061894, 941921200, 953745043, 965532978,
  977284562, 988999351, 1000676905, 1012316784, 1023918550, 1035481766, 1047005996, 1058490808, 1069935768, 1081340445, 1092704411, 1104027237,
  1115308496, 1126547765, 1137744621, 1148898640, 1160009405, 1171076495, 1182099496, 1193077991, 1204011567, 1214899813, 1225742318, 1236538675,
  1247288478, 1257991320, 1268646800, 1279254516, 1289814068, 1300325060, 1310787095, 1321199781, 1331562723, 1341875533, 1352137822, 1362349204,
  1372509294, 1382617710, 1392674072, 1402678000, 1412629117, 1422527051, 1432371426, 1442161874, 1451898025, 1461579514, 1471205974, 1480777044,
  1490292364, 1499751576, 1509154322, 1518500250, 1527789007]

/-- Entries 130 to 194 of the first quarter. -/
def sineQ2 : List Nat := [
  1537020244, 1546193612, 1555308768, 1564365367, 1573363068, 1582301533, 1591180426, 1599999411, 1608758157, 1617456335, 1626093616, 1634669676,
  1643184191, 1651636841, 1660027308, 1668355276, 1676620432, 1684822463, 1692961062, 1701035922, 1709046739, 1716993211, 1724875040, 1732691928,
  1740443581, 1748129707, 1755750017, 1763304224, 1770792044, 1778213194, 1785567396, 1792854372, 1800073849, 1807225553, 1814309216, 1821324572,
  1828271356, 1835149306, 1841958164, 1848697674, 1855367581, 1861967634, 1868497586, 1874957189, 1881346202, 1887664383, 1893911494, 1900087301,
  1906191570, 1912224073, 1918184581, 1924072871, 1929888720, 1935631910, 1941302225, 1946899451, 1952423377, 1957873796, 1963250501, 1968553292,
  1973781967, 1978936331, 1984016189, 1989021350, 1993951625]

/-- Entries 195 to 256 of the first quarter. -/
def sineQ3 : List Nat := [
  1998806829, 2003586779, 2008291295, 2012920201, 2017473321, 2021950484, 2026351522, 2030676269, 2034924562, 2039096241, 2043191150, 2047209133,
  2051150040, 2055013723, 2058800036, 2062508835, 2066139983, 2069693342, 2073168777, 2076566160, 2079885360, 2083126254, 2086288720, 2089372638,
  2092377892, 2095304370, 2098151960, 2100920556, 2103610054, 2106220352, 2108751352, 2111202959, 2113575080, 2115867626, 2118080511, 2120213651,
  2122266967, 2124240380, 2126133817, 2127947206, 2129680480, 2131333572, 2132906420, 2134398966, 2135811153, 2137142927, 2138394240, 2139565043,
  2140655293, 2141664948, 2142593971, 2143442326, 2144209982, 2144896910, 2145503083, 2146028480, 2146473080, 2146836866, 2147119825, 2147321946,
  2147443222, 2147483647]

/-- The first quarter of the table, its end included. -/
def sineQ : List Nat := sineQ0 ++ sineQ1 ++ sineQ2 ++ sineQ3

/-- Entry `i` of the 1024, signed. -/
def sineAt (i : Nat) : Int :=
  let j := i % 1024
  let q := j % 256
  match j / 256 with
  | 0 => (nthD 0 sineQ q : Nat)
  | 1 => (nthD 0 sineQ (256 - q) : Nat)
  | 2 => -((nthD 0 sineQ q : Nat) : Int)
  | _ => -((nthD 0 sineQ (256 - q) : Nat) : Int)

/-- A sine of amplitude `a` (Q1.31) at phase `p` of 2^32, the entries at p [31:22] and the next interpolated with p [21:0], rounded once. -/
def sineVal (a p : Nat) : Int :=
  let i := p / 2 ^ 22
  let f := p % 2 ^ 22
  roundDiv (a * (sineAt i * (2 ^ 22 - f : Nat) + sineAt (i + 1) * f)) (2 ^ 53)

end Sys2Proof.Machine
end

