-- ==== Sys2Proof/Machine/Auxiliary.lean ====
section
/-! DEFINITION. The auxiliary outputs (R377 to R385): ranges and the clear state, held values and strobes, sine generators, stored waveforms, compliance. -/
namespace Sys2Proof.Machine

/-- Object `s` of channel AUXc, 4610+c. -/
abbrev ak (c s : Nat) : Nat := key (0x4610 + c) s

/-- Object `s` of waveform w, 4620+w. -/
abbrev wk (w s : Nat) : Nat := key (0x4620 + w) s

def Dev.auxCh (d : Dev) (c : Nat) : AuxCh := nthD {} d.aux.chans c
def Dev.modAux (c : Nat) (f : AuxCh → AuxCh) (d : Dev) : Dev := { d with aux := { d.aux with chans := modNth f d.aux.chans c } }

/-- The AUX outputs run: LINKED, UPDATE, READY to DIAGNOSE, and SAFE held from one of these (R377). -/
def Dev.auxRuns (d : Dev) : Bool := d.ready 24 && (let m := d.effMode; (4 ≤ m && m ≤ 8) || m = 11)

/-- A channel is in the clear state (Table 15-7, R380, R381, R383). -/
def Dev.auxClear (d : Dev) (c : Nat) : Bool := let x := d.auxCh c; !d.auxRuns || d.aux.clearN || x.fresh || x.pend.isSome || x.await

/-- Channels that entered or left the clear state raise EV71. -/
def Dev.auxSettle (d : Dev) : Dev :=
  (upto 8).foldl (fun (a : Dev) c => let b := a.auxClear c; if (a.auxCh c).clear = b then a else (a.modAux c (fun x => { x with clear := b })).raise 71) d

/-- The base rate in Hz of the family of the committed rate. -/
def Dev.fbase (d : Dev) : Nat := baseHz (d.get 0x210000)

/-- SINE_WORD of a frequency in mHz, and the player's word of a rate in mHz (R384, R385). -/
def Dev.sineWord (d : Dev) (f : Nat) : Nat := (roundDiv (f * 2 ^ 32 : Nat) (1000 * d.fbase)).toNat

/-- The generator's value s at a phase of 2^34: the table's value; its last place is open (the spec gives the table no width). -/
def AuxCh.sine (x : AuxCh) (open_ : Nat) : Int := clampI (-(x.ampl : Int)) x.ampl (sineVal x.ampl (x.phi / 4 % 2 ^ 32) + ((open_ % 3 : Nat) - 1))

/-- The value u of SOURCE 1 as a code, and whether the clamp acts. -/
def AuxCh.sineCode (x : AuxCh) (s : Int) : Nat × Bool :=
  let v := roundDiv ((x.offset : Int) * 2 ^ 32 + s * 65535) (2 ^ 32)
  ((clampI 0 65535 v).toNat, decide (v < 0 || 65535 < v))

/-- The points a pass plays: no more than the allocation holds. -/
def Dev.waveLen (d : Dev) (w : Nat) (x : AuxCh) : Nat := min x.len (d.get (wk w 0))

/-- The current point of a waveform. -/
def Dev.wavePos (d : Dev) (w : Nat) : Nat := let x := d.auxCh (6 + w); if x.play then x.wphi * d.waveLen w x / 2 ^ 34 else 0

/-- A point of a waveform, and whether its word is good. -/
def Dev.wavePoint (m : List Host.Cell) (d : Dev) (w i : Nat) : Nat × Bool :=
  match nthD none d.aux.waves w with
  | some a => (leNat (memReadN m (a + 2 * i) 2), !d.wordBad (a + 2 * i))
  | none => (0, true)

/-- WAVE_ERROR set on a channel, with EV71. -/
def Dev.waveError (c : Nat) (d : Dev) : Dev := (d.putBit (ak c 0x0A) 6 true).raise 71

/-- The player reads the points about its position: the code they interpolate to; a word with an uncorrectable error holds the last value, with WAVE_ERROR, EV71 and SAFE cause [5] (R385, Table 17-3). -/
def Dev.waveRead (m : List Host.Cell) (w : Nat) (d : Dev) : Dev :=
  let c := 6 + w
  let x := d.auxCh c
  let n := d.waveLen w x
  if !x.play || n = 0 then d
  else
    let p := x.wphi * n
    let i := p / 2 ^ 34
    let j := if i + 1 < n then i + 1 else if x.mode = 0 then 0 else i
    let (a, ga) := d.wavePoint m w i
    let (b, gb) := d.wavePoint m w j
    if ga && gb then
      let f := p % 2 ^ 34
      d.modAux c (fun x => { x with value := (roundDiv (a * (2 ^ 34 - f) + b * f : Nat) (2 ^ 34)).toNat })
    else
      let at_ := (nthD none d.aux.waves w).getD 0 + 2 * (if ga then j else i)
      (((d.eccBad at_).causeSet 5).waveError c).outSettle

/-- The strobes start: the phases that ran in LINKED, where the model keeps no count of them, are open. -/
def Dev.auxMedia (d : Dev) : Dev :=
  (upto 8).foldl (fun (a : Dev) c => let (x, a) := a.fresh; a.modAux c (fun y => { y with phi := x % 2 ^ 34 })) { d with aux := { d.aux with sub := 0 } }

/-- One boundary of channel c: its generator and, on AUX6 and AUX7, its player advance, by 1, 1/2 or 1/4 of a base-rate period (R384, R385). -/
def Dev.auxAdvance (m : List Host.Cell) (c : Nat) (d : Dev) : Dev :=
  let k := 2 ^ d.rateMul
  let (o, d) := d.fresh
  let d := d.modAux c (fun x => { x with phi := (x.phi + d.sineWord x.freq * 4 / k) % 2 ^ 34 })
  let x := d.auxCh c
  if d.auxClear c then d
  else match x.source with
    | 1 => let (v, sat) := x.sineCode (x.sine o); (d.modAux c (fun x => { x with value := v })).putBit (ak c 0x0A) 3 sat
    | 2 =>
      let step := d.sineWord x.rate * 4 / k
      let d := if !x.play || x.ended then d
        else if x.wphi + step ≥ 2 ^ 34 then
          (if x.mode = 0 then d.modAux c (fun x => { x with wphi := (x.wphi + step) % 2 ^ 34 }) else d.modAux c (fun x => { x with ended := true, wphi := 2 ^ 34 - 1 }))
        else d.modAux c (fun x => { x with wphi := x.wphi + step })
      d.waveRead m (c - 6)
    | _ => d

/-- The AUX at a boundary: the sources 0x160 + n present s (R384). -/
def Dev.auxBoundary (m : List Host.Cell) (d : Dev) : List (Nat × Smp) × Dev :=
  (upto 8).foldl (fun (r : List (Nat × Smp) × Dev) c =>
    let a := r.2.auxAdvance m c
    (r.1 ++ [(0x160 + c, if a.ready 24 then { v := (a.auxCh c).sine (Config.free a.free), t := 0 } else ({} : Smp))], a)) ([], d)

/-! Strobes and held values (R381 to R383) -/

/-- A strobe of group g: each of its channels that may copy waits for its carrier period; one whose 200 us after a RANGE write still run, whose CLEAR_N is low or whose RANGE was never written does not (R381 to R383). -/
def Dev.auxStrobe (g : Nat) (d : Dev) : Dev :=
  (upto 8).foldl (fun (a : Dev) c =>
    let x := a.auxCh c
    let ok : Bool := a.get (ak c 3) = g && g < 4 && a.auxRuns && !a.aux.clearN && !x.fresh && (match x.pend with | some t => decide (t ≤ a.now) | none => true)
    if ok then a.modAux c (fun x => { x with arm := some a.now }) else a) d

/-- The groups of a mask strobed. -/
def Dev.auxStrobes (mask : Nat) (d : Dev) : Dev := (upto 4).foldl (fun (a : Dev) g => if bit mask g then a.auxStrobe g else a) d

/-- A LOAD action strobes the group of every channel named in TARGET (R382). -/
def Dev.auxLoad (target : Nat) (d : Dev) : Dev :=
  (upto 4).foldl (fun (a : Dev) g => if (upto 8).any (fun c => bit target c && a.get (ak c 3) == g) then a.auxStrobe g else a) d

/-- A channel's carrier period has come: its strobe lies 200 ns back, or it is of the IMMEDIATE group and has a held value, a range or the end of CLEAR_N to apply. -/
def Dev.auxDue (d : Dev) (c : Nat) : Bool :=
  let x := d.auxCh c
  d.auxRuns && !d.aux.clearN && !x.fresh
    && ((match x.arm with | some t => decide (t + 200 ≤ d.now) | none => false)
      || (d.get (ak c 3) = 4 && (match x.pend with | some t => decide (t ≤ d.now) | none => x.await || x.dirty)))

/-- All of a channel's held values come into force at once: a SINE_PHASE that waits sets the phase; SOURCE 2 starts its waveform at point 0 when it becomes the source or WAVE_RESTART is pending, and with WAVE_LENGTH 0 keeps the previous source with WAVE_ERROR (R382, R384, R385). -/
def Dev.auxCopy (c : Nat) (d : Dev) : Dev :=
  let o := d.auxCh c
  let src := d.get (ak c 2)
  let w := c - 6
  let len := if c ≥ 6 then d.get (wk w 1) else 0
  let bad : Bool := src = 2 && min len (d.get (wk w 0)) = 0
  let start : Bool := src = 2 && !bad && (o.source != 2 || o.restart)
  let x : AuxCh := { o with fresh := false, range := d.get (ak c 0), pend := none, arm := none, dirty := false, await := false, code := d.get (ak c 1), source := if bad then o.source else src,
                            freq := d.get (ak c 4), ampl := d.get (ak c 5), offset := d.get (ak c 6), phaseDue := false, phi := if o.phaseDue then d.get (ak c 7) * 4 else o.phi }
  let x := if c ≥ 6 then { x with len := len, rate := d.get (wk w 2), mode := d.get (wk w 3) } else x
  let x := if start then { x with wphi := 0, play := true, ended := false, restart := false } else if x.source != 2 then { x with play := false, ended := false } else x
  let d := d.modAux c (fun _ => { x with value := if x.source = 0 then x.code else if x.source = 1 then (x.sineCode (x.sine (Config.free d.free))).1 else x.value })
  let d := if start then (d.putBit (ak c 0x0A) 5 false).putBit (ak c 0x0A) 6 false else d
  let d := d.put (ak c 0x0D) (d.sineWord x.freq)
  if bad then d.waveError c else d

/-- The carrier period in which strobed and IMMEDIATE channels take their held values. -/
def Dev.heldApply (d : Dev) : Dev := ((upto 8).foldl (fun (a : Dev) c => if a.auxDue c then a.auxCopy c else a) d).auxSettle

/-- CLEAR_N falls: every channel is clear and no strobe waits. -/
def Dev.clearFall (d : Dev) : Dev :=
  let d := { d with aux := { d.aux with clearN := true } }
  ((upto 8).foldl (fun (a : Dev) c => a.modAux c (fun x => { x with arm := none })) d).auxSettle

/-- CLEAR_N rises: each channel stays clear until the next strobe of its group, or the next carrier period where IMMEDIATE. -/
def Dev.clearRise (d : Dev) : Dev :=
  if d.aux.clearN then
    let d := { d with aux := { d.aux with clearN := false } }
    ((upto 8).foldl (fun (a : Dev) c => a.modAux c (fun x => { x with await := true })) d).auxSettle
  else d

/-- An edge on the LOAD pin, rising or falling, of the polarity of 4600.01 strobes the groups it names. -/
def Dev.loadPin (falling : Bool) (d : Dev) : Dev := if d.bitOf 0x460001 4 = falling then d.auxStrobes (d.get 0x460001 % 16) else d

/-- RANGE written, by the host, an action or a snapshot restore: the clear state for 200 us, unless it equals the range in force with nothing pending (R381). -/
def Dev.auxRange (c : Nat) (d : Dev) : Dev :=
  let x := d.auxCh c
  if !x.fresh && x.pend.isNone && x.range = d.get (ak c 0) then d
  else (d.modAux c (fun x => { x with fresh := false, pend := some (d.now + 200000), arm := none })).auxSettle

/-! Compliance (R379) -/

/-- The range a channel drives. -/
def Dev.auxDriven (d : Dev) (c : Nat) : Nat := if d.auxClear c then d.get (ak c 9) else (d.auxCh c).range

/-- Compliance is lost in 8 consecutive carrier periods. -/
def Dev.auxLost (c : Nat) (d : Dev) : Dev :=
  if c < 8 && d.ready 24 && d.auxDriven c != 0 && !d.bitOf (ak c 0x0A) 2 then
    let d := ((d.putBit (ak c 0x0A) 2 true).modAux c (fun x => { x with lostAt := some d.now })).inc (ak c 0x0C)
    if d.bitOf 0x460003 c then d else (d.putBit 0x460003 c true).raise 70
  else d

/-- The live bit clears after 1 ms without the condition. -/
def Dev.auxRegained (c : Nat) (d : Dev) : Dev := if c < 8 && d.bitOf (ak c 0x0A) 2 then (d.putBit (ak c 0x0A) 2 false).modAux c (fun x => { x with lostAt := none }) else d

/-! Waveforms (R385) -/

/-- A one-shot pass has ended: the last point is held, WAVE_DONE and EV71. -/
def Dev.waveDone (w : Nat) (d : Dev) : Dev :=
  let x := d.auxCh (6 + w)
  if w < 2 && x.source = 2 && x.play && x.mode = 1 && (x.ended || !d.med.run) && !d.bitOf (ak (6 + w) 0x0A) 5 then
    ((d.putBit (ak (6 + w) 0x0A) 5 true).modAux (6 + w) (fun x => { x with ended := true, wphi := 2 ^ 34 - 1 })).raise 71
  else d

/-- A pool allocation of `n` points can be held once the waveform's own is freed. -/
def Dev.waveFits (d : Dev) (w n : Nat) : Bool :=
  let d := match nthD none d.aux.waves w with | some a => d.freeArea a | none => d
  n = 0 || (d.place true (2 * n) 64).isSome

/-- WAVE_SIZE written: the old allocation is freed, a new one of that many points taken. -/
def Dev.waveAlloc (w n : Nat) (d : Dev) : Dev :=
  let d := match nthD none d.aux.waves w with | some a => d.freeArea a | none => d
  let a := if n = 0 then none else d.place true (2 * n) 64
  let d := match a with | some a => d.takeArea a (2 * n) | none => d
  { d with aux := { d.aux with waves := modNth (fun _ => a) d.aux.waves w } }

/-- The waveforms' allocations freed. -/
def Dev.waveFree (d : Dev) : Dev := (d.waveAlloc 0 0).waveAlloc 1 0

/-- WAVE_DATA written whole: 512 points stored, WAVE_INDEX 512 higher. -/
def Dev.waveWrite (w : Nat) (b : List Byte) (d : Dev) : Dev :=
  match nthD none d.aux.waves w with
  | some a => (d.store (a + 2 * d.get (wk w 4)) (slice 0 1024 b)).put (wk w 4) (d.get (wk w 4) + 512) |>.genUp (wk w 5)
  | none => d

/-! Resets -/

/-- The AUX loses its class O objects: every channel is clear and unwritten, its waveforms freed. -/
def Dev.auxLose (d : Dev) : Dev :=
  let d := d.waveFree
  ({ d with aux := { d.aux with chans := d.aux.chans.map (fun (x : AuxCh) => ({ clear := x.clear, phi := x.phi } : AuxCh)) } } : Dev).auxSettle

/-! Host side -/

/-- The objects of the AUX that read a state of the part. -/
def Dev.auxValue (d : Dev) (k : Nat) : Option Nat :=
  let i := k / 256
  let s := k % 256
  if k = 0x460002 then
    some ((upto 8).foldl (fun v c => v + if d.auxClear c then 2 ^ c else 0) 0 + 256 * b2n d.aux.clearN + 512 * b2n (!d.auxRuns))
  else if 0x4610 ≤ i && i < 0x4618 then
    let c := i - 0x4610
    let x := d.auxCh c
    if s = 0x0A then some (b2n (d.auxClear c) + 2 * b2n x.pend.isSome + (d.get k &&& 0x6C) + 16 * b2n (x.source = 2 && x.play && !x.ended))
    else if s = 0x0B then
      some (if d.auxClear c then d.get (ak c 8)
        else if x.source = 0 then x.code
        else if x.source = 1 && !d.med.run then (x.sineCode (clampI (-(x.ampl : Int)) x.ampl ((Config.free d.free % (2 * x.ampl + 1) : Nat) - (x.ampl : Int)))).1
        else if x.source = 2 && !d.med.run then Config.free d.free % 65536
        else x.value)
    else none
  else if 0x4620 ≤ i && i < 0x4622 && s = 7 then some (if d.med.run then d.wavePos (i - 0x4620) else Config.free d.free % max 1 (d.waveLen (i - 0x4620) (d.auxCh (6 + (i - 0x4620)))))
  else none

/-- Checks of a write beside those of every object. -/
def Dev.auxCheck (k v : Nat) (d : Dev) : List Nat :=
  let i := k / 256
  let s := k % 256
  if 0x4610 ≤ i && i < 0x4616 && s = 2 then errIf (v = 2) eRange
  else if 0x4620 ≤ i && i < 0x4622 then
    let w := i - 0x4620
    if s = 0 then errIf (v % 512 != 0) eRange ++ errIf ((d.auxCh (6 + w)).source = 2 || !d.waveFits w v) eBusy
    else if s = 1 then errIf (v != 0 && v > d.get (wk w 0)) eRange
    else if s = 4 then errIf (v % 512 != 0 || v ≥ d.get (wk w 0)) eRange
    else if s = 5 then errIf (d.get (wk w 4) ≥ d.get (wk w 0)) eRange
    else []
  else []

/-- A held value written: the IMMEDIATE group takes it at the next carrier period; SINE_PHASE marks its phase pending. -/
def Dev.auxHeld (c s : Nat) (d : Dev) : Dev := d.modAux c (fun x => { x with dirty := d.get (ak c 3) = 4, phaseDue := x.phaseDue || s = 7 })

/-- What a write of the AUX objects starts, its value stored. -/
def Dev.auxWrite (k v : Nat) (d : Dev) : Dev :=
  let i := k / 256
  let s := k % 256
  if k = 0x460000 then d.auxStrobes v
  else if 0x4610 ≤ i && i < 0x4618 then
    let c := i - 0x4610
    if s = 0 then d.auxRange c
    else if s = 1 || s = 2 || (4 ≤ s && s ≤ 7) then d.auxHeld c s
    else d
  else if 0x4620 ≤ i && i < 0x4622 then
    let w := i - 0x4620
    if s = 0 then d.waveAlloc w v
    else if 1 ≤ s && s ≤ 3 then d.auxHeld (6 + w) 0
    else if s = 4 then d.genUp (wk w 5)
    else if s = 6 then d.when (v = 1) (Dev.modAux (6 + w) (fun x => { x with restart := true }))
    else d
  else d

end Sys2Proof.Machine
end

