-- ==== Sys2Proof/Machine/FacetOps.lean ====
section
/-! DEFINITION. What the Facet instructions do (Tables 12-2 and 12-3, R292 to R303): one operation on the task an engine now runs. The spec gives the mnemonics and their operations and no encoding; the operands are the model's (assumption log 41). -/
namespace Sys2Proof.Machine

/-! One instruction -/

/-- The address after one instruction: a LOOP's last address returns to its first while passes are left. -/
def loopNext (pc : Nat) : List (Nat × Nat × Nat) → Nat × List (Nat × Nat × Nat)
  | [] => (pc + 1, [])
  | (f, l, n) :: t => if pc = l then (if n > 1 then (f, (f, l, n - 1) :: t) else loopNext pc t) else (pc + 1, (f, l, n) :: t)

def Ctx.step (c : Ctx) : Ctx := let (p, l) := loopNext c.pc c.loops; { c with pc := p, loops := l }

/-- An instruction acts on the task the engine runs (R289); an engine the debugger holds halted runs only the instructions it has been granted (R460). -/
def Dev.onTask (e : Nat) (f : Bool → Bank → ImgTask → TaskRun → Dev → Dev) (d : Dev) : Dev :=
  match d.current e with
  | none => d
  | some (act, b, t, r) =>
    if bit d.sec.tap.halted e then
      (if nthD 0 d.sec.tap.steps e = 0 then d
       else f act b t r { d with sec := { d.sec with tap := { d.sec.tap with steps := modNth (fun (n : Nat) => n - 1) d.sec.tap.steps e } } })
    else f act b t r d

/-- The engine faults at the instruction (Table 12-7). -/
def Dev.taskFault (e cause : Nat) (act : Bool) (t : ImgTask) (r : TaskRun) (d : Dev) : Dev := d.engFault e cause r.ctx.pc t.num (!act)

/-- An instruction that changes registers only. -/
def Dev.onCtx (e : Nat) (f : Ctx → Dev → Ctx × Dev) (d : Dev) : Dev :=
  d.onTask e (fun act _ _ r d => let (c, d) := f r.ctx d; d.setRun e act { r with ctx := c.step })

/-- A run of words of local memory as the bank holds it. -/
def Bank.words (b : Bank) (a n : Nat) : List Nat := (upto n).map (fun i => memWord b.mem (a + 4 * i))

/-- Local memory with words stored from an address. -/
def Bank.putWords (b : Bank) (a : Nat) (l : List Nat) : Bank := { b with mem := memPut b.mem a (l.flatMap (fun w => leBytes 4 w)) }

/-- A run of `n` bytes lies in the image's local memory. -/
def Bank.inLocal (b : Bank) (a n : Nat) : Bool := a + n ≤ b.img.localSize

/-! Scalar operations -/

def Ctx.sreg (c : Ctx) (r : Nat) : Nat := nthD 0 c.s r
def Ctx.setS (c : Ctx) (r v : Nat) : Ctx := { c with s := modNth (fun _ => v % 2 ^ 32) c.s r }

/-- An exact result as a 32-bit word where it fits an unsigned or a signed reading of the operands; otherwise a free value: Table 12-2 does not say what an overflow leaves. -/
def Dev.fit32 (u : Int) (s : Int) (d : Dev) : Nat × Dev :=
  if fitsU 32 u then (u.toNat, d)
  else if fitsS 32 s then (ofInt 32 s, d)
  else let (x, d) := d.fresh; (x % 2 ^ 32, d)

/-- An operation of two scalar registers into a third. -/
def Dev.scalar (e dst a b : Nat) (f : Nat → Nat → Dev → Nat × Dev) (d : Dev) : Dev :=
  d.onCtx e (fun c d => let (v, d) := f (c.sreg a) (c.sreg b) d; (c.setS dst v, d))

/-- Shift counts of 32 or more leave a free value. -/
def Dev.shiftBy (n : Nat) (v : Nat) (d : Dev) : Nat × Dev := if n < 32 then (v % 2 ^ 32, d) else let (x, d) := d.fresh; (x % 2 ^ 32, d)

/-- A 32-bit word as the scalar unit orders it. -/
def ordS (w : Nat) : Int := if Config.scalarSigned then toInt 32 w else w

def opAdd (a b : Nat) (d : Dev) : Nat × Dev := d.fit32 ((a : Int) + b) (toInt 32 a + toInt 32 b)
def opSub (a b : Nat) (d : Dev) : Nat × Dev := d.fit32 ((a : Int) - b) (toInt 32 a - toInt 32 b)
def opMul (a b : Nat) (d : Dev) : Nat × Dev := d.fit32 ((a : Int) * b) (toInt 32 a * toInt 32 b)
def opShl (a b : Nat) (d : Dev) : Nat × Dev := d.shiftBy b (a * 2 ^ (b % 32))
def opShr (a b : Nat) (d : Dev) : Nat × Dev := d.shiftBy b (ofInt 32 (floorDiv (ordS a) (2 ^ (b % 32))))
def opMin (a b : Nat) (d : Dev) : Nat × Dev := (if ordS a ≤ ordS b then a else b, d)
def opMax (a b : Nat) (d : Dev) : Nat × Dev := (if ordS a ≤ ordS b then b else a, d)

/-- CMP keeps the order of two registers for BRF. -/
def Dev.compare (e a b : Nat) (d : Dev) : Dev :=
  d.onCtx e (fun c d => ({ c with cmp := if c.sreg a = c.sreg b then 0 else if ordS (c.sreg a) < ordS (c.sreg b) then 1 else 2 }, d))

/-- A word into a scalar register or an address generator's field. -/
def Ctx.setDest (c : Ctx) (x : SDest) (v : Nat) : Ctx :=
  match x with
  | .reg r => c.setS r v
  | .gen g f => { c with gen := modNth (fun (q : Nat × Nat × Nat × Nat) => match f with | 0 => (v, q.2) | 1 => (q.1, v, q.2.2) | 2 => (q.1, q.2.1, v, q.2.2.2) | _ => (q.1, q.2.1, q.2.2.1, v)) c.gen g }

/-! Vector operations -/

def Ctx.vreg (c : Ctx) (r : Nat) : List Nat := nthD [0, 0, 0, 0] c.v r
def Ctx.setV (c : Ctx) (r : Nat) (l : List Nat) : Ctx := { c with v := modNth (fun _ => l) c.v r }
def Ctx.acc (c : Ctx) (r : Nat) : List Int := nthD [0, 0, 0, 0] c.a r
def Ctx.setA (c : Ctx) (r : Nat) (l : List Int) : Ctx := { c with a := modNth (fun _ => l) c.a r }

/-- A list built by an operation that may take free values. -/
def Dev.each {α β : Type} (f : α → Dev → β × Dev) : List α → Dev → List β × Dev
  | [], d => ([], d)
  | a :: t, d => let (y, d) := f a d; let (l, d) := Dev.each f t d; (y :: l, d)

/-- An operation lane by lane of two vector registers into a third. -/
def Dev.vector (e dst a b : Nat) (f : Nat → Nat → Dev → Nat × Dev) (d : Dev) : Dev :=
  d.onCtx e (fun c d => let (l, d) := Dev.each (fun (x : Nat × Nat) d => f x.1 x.2 d) ((c.vreg a).zip (c.vreg b)) d; (c.setV dst l, d))

/-- A fixed-point lane result: itself where it fits 32 bits, else a free value. -/
def Dev.lane (v : Int) (d : Dev) : Nat × Dev := if fitsS 32 v then (ofInt 32 v, d) else let (x, d) := d.fresh; (x % 2 ^ 32, d)

def lvAdd (a b : Nat) (d : Dev) : Nat × Dev := d.lane (toInt 32 a + toInt 32 b)
def lvSub (a b : Nat) (d : Dev) : Nat × Dev := d.lane (toInt 32 a - toInt 32 b)
def lvAbs (a _b : Nat) (d : Dev) : Nat × Dev := d.lane (toInt 32 a).natAbs
def lvMax (a b : Nat) (d : Dev) : Nat × Dev := (if toInt 32 a ≤ toInt 32 b then b else a, d)

/-- A shift right of a lane: exact, or, where bits are lost, either neighbour: the rounding is open. Counts of 32 or more leave a free value. -/
def lvShr (n : Nat) (a _b : Nat) (d : Dev) : Nat × Dev :=
  let (x, d) := d.fresh
  if n ≥ 32 then (x % 2 ^ 32, d)
  else
    let v := toInt 32 a
    let q := floorDiv v (2 ^ n)
    (ofInt 32 (if q * 2 ^ n = v then q else q + (x % 2 : Nat)), d)

/-- A product, or a sum with a product, in a 72-bit accumulator lane; what an overflow of the lane leaves is free. -/
def Dev.accLane (v : Int) (d : Dev) : Int × Dev :=
  if fitsS 72 v then (v, d) else let (x, d) := d.fresh; (toInt 72 x, d)

/-- VMUL, VMAC and VMSU: `k` times the accumulator plus `s` times the products. -/
def Dev.vmac (e acc a b : Nat) (k s : Int) (d : Dev) : Dev :=
  d.onCtx e (fun c d =>
    let (l, d) := Dev.each (fun (x : Int × Nat × Nat) d => d.accLane (k * x.1 + s * (toInt 32 x.2.1 * toInt 32 x.2.2))) ((c.acc acc).zip ((c.vreg a).zip (c.vreg b))) d
    (c.setA acc l, d))

/-- VEXT: Q1.31 of a lane, rounded to nearest and saturated; a tie may go either way. -/
def extLane (v : Int) (d : Dev) : Nat × Dev :=
  let q := floorDiv v (2 ^ 31)
  let r := v - q * 2 ^ 31
  if r = 2 ^ 30 then let (x, d) := d.fresh; (ofInt 32 (satS 32 (q + (x % 2 : Nat))), d)
  else (ofInt 32 (satS 32 (if r > 2 ^ 30 then q + 1 else q)), d)

def Dev.vext (e dst acc : Nat) (d : Dev) : Dev := d.onCtx e (fun c d => let (l, d) := Dev.each extLane (c.acc acc) d; (c.setV dst l, d))

/-- A binary32 operation of two lanes with a free value for what the standard leaves open. -/
def float2 (f : Nat → Nat → Nat → Nat) (a b : Nat) (d : Dev) : Nat × Dev := let (x, d) := d.fresh; (f x a b, d)

/-- FMAC: the destination plus the product, with one rounding. -/
def Dev.fmac (e dst a b : Nat) (d : Dev) : Dev :=
  d.onCtx e (fun c d =>
    let (l, d) := Dev.each (fun (x : Nat × Nat × Nat) d => let (y, d) := d.fresh; (fltFma y x.2.1 x.2.2 x.1, d)) ((c.vreg dst).zip ((c.vreg a).zip (c.vreg b))) d
    (c.setV dst l, d))

/-! Loads and stores -/

/-- The local address of a memory operand for word `i`, where it has one. -/
def Ctx.addr (c : Ctx) (m : MemRef) (i : Nat) : Option Nat :=
  match m with
  | .loc a => some (a + 4 * i)
  | .gen g => let q := nthD (0, 0, 0, 0) c.gen g; some (q.1 + (if q.2.1 = 0 then q.2.2.2 + 4 * i else (q.2.2.2 + 4 * i) % q.2.1))
  | _ => none

/-- An address generator moves on by its step, circularly within its length. -/
def Ctx.moveOn (c : Ctx) (m : MemRef) : Ctx :=
  match m with
  | .gen g => { c with gen := modNth (fun (q : Nat × Nat × Nat × Nat) => (q.1, q.2.1, q.2.2.1, if q.2.1 = 0 then q.2.2.2 + q.2.2.1 else (q.2.2.2 + q.2.2.1) % q.2.1)) c.gen g }
  | _ => c

/-- Word `i` of a memory operand, or none outside the image's declarations (BOUNDS). -/
def Dev.loadWord (e : Nat) (b : Bank) (t : ImgTask) (r : TaskRun) (m : MemRef) (i : Nat) (d : Dev) : Option Nat × Dev :=
  match m with
  | .inp p k =>
    if bit t.ins p && k + i < t.block then
      (some (match r.rel with | some n => Smp.word (nthD {} ((d.eng e).block p n t.block) (k + i)) | none => 0), d)
    else (none, d)
  | .out p k =>
    if bit t.outs p && k + i < t.block then
      (match assoc (p * 64 + k + i) r.vals with | some v => (some (ofInt 32 v), d) | none => let (x, d) := d.fresh; (some (x % 2 ^ 32), d))
    else (none, d)
  | m => match r.ctx.addr m i with
    | some a => (if b.inLocal a 4 then some (memWord b.mem a) else none, d)
    | none => (none, d)

/-- A load of `n` words that `put` takes. -/
def Dev.load (e n : Nat) (m : MemRef) (put : Ctx → List Nat → Ctx) (d : Dev) : Dev :=
  d.onTask e (fun act b t r d =>
    let (l, d) := Dev.each (fun i d => d.loadWord e b t r m i) (upto n) d
    if l.all (·.isSome) then d.setRun e act { r with ctx := ((put r.ctx (l.filterMap id)).moveOn m).step } else d.taskFault e 2 act t r)

/-- A store of words. -/
def Dev.storeTo (e : Nat) (m : MemRef) (get : Ctx → List Nat) (d : Dev) : Dev :=
  d.onTask e (fun act b t r d =>
    let l := get r.ctx
    let r' := { r with ctx := (r.ctx.moveOn m).step }
    match m with
    | .inp _ _ => d.taskFault e 2 act t r
    | .out p k =>
      if bit t.outs p && k + l.length ≤ t.block then
        d.setRun e act { r' with vals := (l.zip (upto l.length)).foldl (fun vs (x : Nat × Nat) => assocPut (p * 64 + k + x.2) (toInt 32 x.1) vs) r.vals }
      else d.taskFault e 2 act t r
    | m =>
      let as := (upto l.length).filterMap (fun i => r.ctx.addr m i)
      if as.all (fun a => b.inLocal a 4) then
        d.modBank e act (fun b => ((as.zip l).foldl (fun (b : Bank) (x : Nat × Nat) => b.putWords x.1 [x.2]) b).setRun r')
      else d.taskFault e 2 act t r)

/-! Control (R292) -/

/-- LOOP: the body up to `last` runs as often as the register says, at most the manifest's maximum. -/
def Dev.loop (e count last : Nat) (d : Dev) : Dev :=
  d.onTask e (fun act b t r d =>
    let c := r.ctx
    if c.loops.length ≥ 4 || last ≤ c.pc then d.taskFault e 1 act t r
    else
      let n := c.sreg count
      let most := match assoc c.pc b.img.loops with | some m => m | none => n
      let d := d.when (n > most) (Dev.inc (key (0x5400 + e) 0xE))
      let n := min n most
      let c := if n = 0 then { { c with pc := last } with loops := (c.pc + 1, last, 1) :: c.loops }.step else { c with pc := c.pc + 1, loops := (c.pc + 1, last, n) :: c.loops }
      d.setRun e act { r with ctx := c })

/-- BRF: a forward branch where the last CMP gave an outcome that the mask names (bit 0 equal, 1 below, 2 above). A loop it leaves is over. -/
def Dev.branch (e mask target : Nat) (d : Dev) : Dev :=
  d.onTask e (fun act _ t r d =>
    let c := r.ctx
    if target ≤ c.pc then d.taskFault e 1 act t r
    else d.setRun e act { r with ctx := if bit mask c.cmp then { c with pc := target, loops := c.loops.dropWhile (fun l => l.2.1 < target) } else c.step })

/-- CALL, to a depth of 8. -/
def Dev.call (e target : Nat) (d : Dev) : Dev :=
  d.onTask e (fun act _ t r d =>
    if r.ctx.calls.length ≥ 8 then d.taskFault e 1 act t r
    else d.setRun e act { r with ctx := { r.ctx with pc := target, calls := r.ctx.pc :: r.ctx.calls } })

def Dev.ret (e : Nat) (d : Dev) : Dev :=
  d.onTask e (fun act _ t r d => match r.ctx.calls with
    | p :: l => d.setRun e act { r with ctx := { r.ctx with pc := p, calls := l }.step }
    | [] => d.taskFault e 1 act t r)

/-! Tags and user variables (R297, R300) -/

/-- A word of eight nibbles from the tags of a block. -/
def tagWord (l : List Nat) (j : Nat) : Nat := (upto 8).foldl (fun a i => a + nthD 0 l (8 * j + i) * 16 ^ i) 0

/-- TAGRD: the tags of an input port's block, eight samples a word, four words a vector register. -/
def Dev.tagRead (e dst port : Nat) (d : Dev) : Dev :=
  d.onTask e (fun act _ t r d =>
    if !bit t.ins port then d.taskFault e 2 act t r
    else
      let tags := match r.rel with | some n => ((d.eng e).block port n t.block).map (·.t) | none => []
      let c := r.ctx.setV dst ((upto 4).map (tagWord tags))
      let c := if t.block > 32 then c.setV (dst + 1) ((upto 4).map (fun j => tagWord tags (4 + j))) else c
      d.setRun e act { r with ctx := c.step })

/-- TAGSET and TAGCLR: bits noted for a run of samples of an output block. -/
def Dev.tagMark (e port first count bits : Nat) (clear : Bool) (d : Dev) : Dev :=
  d.onTask e (fun act _ t r d =>
    if !(bit t.outs port && first + count ≤ t.block) then d.taskFault e 2 act t r
    else
      let add := fun (l : List (Nat × Nat)) (v : Nat) => (upto count).foldl (fun l i =>
        let k := port * 64 + first + i
        assocPut k ((match assoc k l with | some x => x | none => 0) ||| v) l) l
      d.setRun e act { r with ctx := r.ctx.step, sets := if clear then r.sets else add r.sets (bits % 16), clrs := if clear then add r.clrs (bits &&& 3) else r.clrs })

/-- UVRD: a bound variable of the release snapshot into a register, and the upper half of an 8-byte value into the next. -/
def Dev.varRead (e dst rec_ : Nat) (d : Dev) : Dev :=
  d.onTask e (fun act b t r d => match b.img.binds[rec_]?, assoc rec_ r.snap with
    | some y, some v =>
      let c := r.ctx.setS dst v
      d.setRun e act { r with ctx := (if typeBytes y.ty = 8 then c.setS (dst + 1) (v / 2 ^ 32) else c).step }
    | _, _ => d.taskFault e 2 act t r)

/-- UVWR: a value for an RO user object, published when the release ends. -/
def Dev.varWrite (e src rec_ : Nat) (d : Dev) : Dev :=
  d.onTask e (fun act b t r d => match b.img.binds[rec_]? with
    | some y =>
      if y.acc ≠ 0 || y.ty = 14 then d.taskFault e 2 act t r
      else
        let v := r.ctx.sreg src + (if typeBytes y.ty = 8 then 2 ^ 32 * r.ctx.sreg (src + 1) else 0)
        d.modBank e act (fun b => { b with mem := memPut b.mem y.var (leBytes (typeBytes y.ty) v) }.setRun { r with ctx := r.ctx.step, publ := assocPut rec_ v r.publ })
    | none => d.taskFault e 2 act t r)

/-! Shared memory (R294, R410 to R412, R416) -/

/-- A transfer is issued: within the image's own allocation and local memory. Any access renews the leases of the engine's locks. -/
def Dev.dmaIssue (e : Nat) (x : Dma) (d : Dev) : Dev :=
  d.onTask e (fun act b t r d =>
    let ok : Bool := match b.img.allocs[x.alloc]? with | some a => x.off + 4 * x.words ≤ a.size | none => false
    if ok && b.inLocal x.loc (4 * x.words) then (d.locksRenew e).setRun e act { r with ctx := { r.ctx with dma := r.ctx.dma ++ [x] }.step }
    else d.taskFault e 2 act t r)

/-- What a wait meets: single-bit errors corrected, uncorrectable words, and words that port A writes in the same cycle, with how often. -/
structure DmaMeets where
  singles : List Nat := []
  doubles : List Nat := []
  hits : List (Nat × Nat) := []
  deriving DecidableEq, Repr

/-- A DMA read: its words, or the address of an uncorrectable one. -/
def Dev.dmaRead (m : List Host.Cell) (q : DmaMeets) (a n : Nat) (d : Dev) : Option Nat × List Nat × Dev :=
  let m := memWriteAll d.stores m
  let as := (upto n).map (fun i => a + 4 * i)
  match as.find? (fun w => d.wordBad w || q.doubles.contains w) with
  | some w => (some w, [], d)
  | none => (none, as.map (fun w => memWord m w), as.foldl (fun (d : Dev) w => if q.singles.contains w then d.eccFix w else d) d)

/-- A DMA write: a word that loses to port A is retried once, and dropped where the retry loses too. -/
def Dev.dmaWrite (e : Nat) (q : DmaMeets) (a : Nat) (l : List Nat) (d : Dev) : Dev :=
  (l.zip (upto l.length)).foldl (fun (d : Dev) x =>
    let w := a + 4 * x.2
    let n := match assoc w q.hits with | some n => n | none => 0
    if d.portBWins w then d.store w (leBytes 4 x.1)
    else
      let d := times (fun (d : Dev) => d.collision w (e + 1)) (min n 2) d
      if n ≥ 2 then d else d.store w (leBytes 4 x.1)) d

/-- One transfer made: on an uncorrectable word the engine faults with ECC_SHARED and SAFE cause [5] is set (Table 17-3). -/
def Dev.dmaDo (e : Nat) (m : List Host.Cell) (q : DmaMeets) (x : Dma) (d : Dev) : Dev :=
  d.onTask e (fun act b t r d => match b.img.allocs[x.alloc]? with
    | none => d
    | some a =>
      let rest := { r with ctx := { r.ctx with dma := r.ctx.dma.drop 1 } }
      if a.loc then
        d.modBank e act (fun b => (if x.write then b.putWords (a.addr + x.off) (b.words x.loc x.words) else b.putWords x.loc (b.words (a.addr + x.off) x.words)).setRun rest)
      else if x.write then ((d.setRun e act rest).dmaWrite e q (a.addr + x.off) (b.words x.loc x.words))
      else match d.dmaRead m q (a.addr + x.off) x.words with
        | (some w, _, d) => (((d.eccBad w).taskFault e 4 act t r).causeSet 5).outSettle
        | (none, l, d) => d.modBank e act (fun b => (b.putWords x.loc l).setRun rest))

/-- Every transfer outstanding, in the order of issue. -/
def Dev.dmaAll (e : Nat) (m : List Host.Cell) (q : DmaMeets) (d : Dev) : Dev :=
  match d.current e with
  | none => d
  | some (_, _, _, r) => r.ctx.dma.foldl (fun (d : Dev) x => if d.engState e = 2 then d.dmaDo e m q x else d) d

/-- DMAWAIT. -/
def Dev.dmaWait (e : Nat) (m : List Host.Cell) (q : DmaMeets) (d : Dev) : Dev :=
  let d := (d.locksRenew e).dmaAll e m q
  d.onCtx e (fun c d => (c, d))

/-- LOCK: 1 where the lock is taken, 0 where another master holds it. -/
def Dev.facetLock (e dst k : Nat) (d : Dev) : Dev := d.onCtx e (fun c d => let (ok, d) := d.lockTake k e; (c.setS dst (b2n ok), d))
def Dev.facetUnlock (e k : Nat) (d : Dev) : Dev := d.onCtx e (fun c d => (c, if d.get (lockObj k) = e then d.lockFree k else d))

/-! Primitives (R293, Table 12-3) -/

/-- `n` free words. -/
def Dev.freeWords (n : Nat) (d : Dev) : List Nat × Dev := Dev.each (fun _ d => let (x, d) := d.fresh; (x % 2 ^ 32, d)) (upto n) d

/-- A primitive whose arithmetic the spec does not fix: the words of each result and state area, at a local address, become free values. -/
def Dev.prim (e : Nat) (areas : List (Nat × Nat)) (d : Dev) : Dev :=
  d.onTask e (fun act b t r d =>
    if !areas.all (fun x => b.inLocal x.1 (4 * x.2)) then d.taskFault e 2 act t r
    else
      let d := areas.foldl (fun (d : Dev) x => let (l, d) := d.freeWords x.2; d.modBank e act (fun b => b.putWords x.1 l)) d
      d.modBank e act (fun b => b.setRun { r with ctx := r.ctx.step }))

/-- An exact quotient as a word, saturated; where it is no integer, either neighbour. -/
def Dev.quot (n : Int) (k : Nat) (d : Dev) : Int × Dev :=
  let (x, d) := d.fresh
  let q := floorDiv n k
  (satS 32 (if q * k = n then q else q + (x % 2 : Nat)), d)

/-- A primitive that turns buffers of the task's block into one. -/
def Dev.blockPrim (e dst : Nat) (srcs : List Nat) (f : Nat → List (List Int) → Ctx → Dev → Option (List Int × Ctx × Dev)) (d : Dev) : Dev :=
  d.onTask e (fun act b t r d =>
    if !(dst :: srcs).all (fun a => b.inLocal a (4 * t.block)) then d.taskFault e 2 act t r
    else
      let ins := srcs.map (fun a => (b.words a t.block).map (toInt 32))
      match f t.block ins r.ctx d with
      | none => d.taskFault e 2 act t r
      | some (l, c, d) => d.modBank e act (fun b => (b.putWords dst (l.map (ofInt 32))).setRun { r with ctx := c.step }))

/-- RAMP: the gain of register `g` (Q4.28) goes to that of `target` over the samples left in register `left`, linearly, reaching it at the last; a raised cosine's samples on the way are free. -/
def Dev.ramp (e buf g target left : Nat) (cosine : Bool) (d : Dev) : Dev :=
  d.blockPrim e buf [buf] (fun n ins c d =>
    let g0 := toInt 32 (c.sreg g)
    let g1 := toInt 32 (c.sreg target)
    let m := c.sreg left
    let (l, d) := Dev.each (fun (x : Int × Nat) d =>
      if x.2 + 1 ≥ m then d.quot (x.1 * g1) (2 ^ 28)
      else if cosine then let (y, d) := d.fresh; (toInt 32 y, d)
      else d.quot (x.1 * (g0 * m + (g1 - g0) * (x.2 + 1 : Nat))) (m * 2 ^ 28)) ((nthD [] ins 0).zip (upto n)) d
    let (y, d) := d.fresh
    let (gn, d) := if n ≥ m then (g1, d) else if cosine then (toInt 32 y, d) else d.quot (g0 * m + (g1 - g0) * n) m
    some (l, (c.setS g (ofInt 32 gn)).setS left (m - n), d))

/-- XFADE: from buffer `a` to buffer `b` over the samples of register `len`, from the position in register `pos`: equal gain linearly, equal power free on the way. -/
def Dev.xfade (e dst a b pos len : Nat) (power : Bool) (d : Dev) : Dev :=
  d.blockPrim e dst [a, b] (fun n ins c d =>
    let p0 := c.sreg pos
    let m := c.sreg len
    let (l, d) := Dev.each (fun (x : Nat × Int × Int) d =>
      let p := p0 + x.1 + 1
      if p ≥ m then (x.2.2, d)
      else if power then let (y, d) := d.fresh; (toInt 32 y, d)
      else d.quot (x.2.1 * (m - p : Nat) + x.2.2 * p) m) ((upto n).zip ((nthD [] ins 0).zip (nthD [] ins 1))) d
    some (l, c.setS pos (min m (p0 + n)), d))

/-- DLY: each sample leaves `len` samples after it came, through a ring in an allocation of the Facet bank or the pool. -/
def Dev.delayLine (e : Nat) (m : List Host.Cell) (buf alloc len : Nat) (d : Dev) : Dev :=
  d.onTask e (fun act b t r d => match b.img.allocs[alloc]? with
    | none => d.taskFault e 2 act t r
    | some a =>
      if a.loc || len = 0 || len > 262144 || 4 * len > a.size || !b.inLocal buf (4 * t.block) then d.taskFault e 2 act t r
      else
        let ins := b.words buf t.block
        let p := match assoc a.addr d.fac.dly with | some p => p % len | none => 0
        let at_ := fun i => a.addr + 4 * ((p + i) % len)
        let old := (upto (min t.block len)).map at_
        match old.find? (fun w => d.wordBad w) with
        | some w => (((d.eccBad w).taskFault e 4 act t r).causeSet 5).outSettle
        | none =>
          let outs := old.map (fun w => memWord m w) ++ ins.take (t.block - len)
          let d := ((ins.zip (upto t.block)).drop (t.block - len)).foldl (fun (d : Dev) x => d.store (at_ x.2) (leBytes 4 x.1)) d
          let d := { d with fac := { d.fac with dly := assocPut a.addr ((p + t.block) % len) d.fac.dly } }
          (d.locksRenew e).modBank e act (fun b => (b.putWords buf outs).setRun { r with ctx := r.ctx.step }))

/-- ENVX: the peak of the buffer for each ENV record named. -/
def Dev.envExport (e buf : Nat) (slots : List Nat) (d : Dev) : Dev :=
  d.onTask e (fun act b t r d =>
    if !b.inLocal buf (4 * t.block) || slots.any (fun s => s ≥ b.img.envs.length) then d.taskFault e 2 act t r
    else
      let peak := (b.words buf t.block).foldl (fun m w => max m (toInt 32 w).natAbs) 0
      d.setRun e act { r with ctx := r.ctx.step, envs := slots.foldl (fun l s => assocPut s (ceilDiv (peak * 65535) (2 ^ 31)) l) r.envs })

/-- PILOT: the power stage's pilot samples for the channel and block are added with saturation (R303). -/
def Dev.pilotAdd (e buf ch : Nat) (d : Dev) : Dev :=
  d.blockPrim e buf [buf] (fun _ ins c d =>
    if d.pilotsOn ch then
      let (l, d) := Dev.each (fun (v : Int) d => let (p, d) := d.pilotSum ch; (satS 32 (v + p), d)) (nthD [] ins 0) d
      some (l, c, d)
    else some (nthD [] ins 0, c, d))

/-- SIGNAL. -/
def Dev.signal (e code : Nat) (d : Dev) : Dev := d.onCtx e (fun c d => (c, (d.put (key (0x5400 + e) 0x10) (code % 65536)).raise 103))

/-- HALT: transfers outstanding are made, and the release ends after the cycles it took. -/
def Dev.halt (e cycles : Nat) (m : List Host.Cell) (d : Dev) : Dev :=
  d.onTask e (fun _ _ _ _ d =>
    let d := d.dmaAll e m {}
    if d.engState e = 2 then d.finish e cycles else d)

end Sys2Proof.Machine
end

