-- ==== Sys2Proof/Machine/Hka.lean ====
section
/-! DEFINITION. The housekeeping converter (R389 to R402): conversions and their corrections, the sequence, windows, monitor conversions, urgent requests and self-calibration. -/
namespace Sys2Proof.Machine

def Dev.modHka (f : Hka → Hka) (d : Dev) : Dev := { d with hka := f d.hka }

/-- The HKA runs: LINKED, UPDATE, READY to DIAGNOSE, SERVICE, and SAFE held from one of these (R389). -/
def Dev.hkaRuns (d : Dev) : Bool := let m := d.effMode; (4 ≤ m && m ≤ 8) || m = 10 || m = 11

/-- The monitor cycle (R399). -/
def monInput (m : Nat) : Nat := nthD 12 [12, 13, 14, 15, 18, 19, 20, 21] m

/-- The minimum acquisition of an internal input in 100 ns (Table 16-1). -/
def minAcq (input : Nat) : Nat := if input < 18 then 4 else 10

/-- An acquisition in 100 ns settles the input (R392). -/
def Dev.settles (d : Dev) (input acq : Nat) : Bool :=
  if input < 12 then decide ((d.get (key 0x6332 input) + 500) * 240 ≤ acq * 100000) else decide (minAcq input ≤ acq)

/-- One correction: offset taken off, gain over 32 768, clamped to 16 bits; whether it clamped (R393). -/
def correct (x : Int) (offset : Int) (gain : Nat) : Int × Bool :=
  let y := roundDiv ((x - offset) * gain) 32768
  (clampI 0 65535 y, decide (y < 0 || 65535 < y))

/-- A code after both corrections, and CLIPPED. -/
def Dev.corrected (d : Dev) (input raw : Nat) : Nat × Bool :=
  let (a, ca) := correct raw (d.getI 16 0x634001) (d.get 0x634002)
  let (b, cb) := correct a (d.getI 16 (key 0x6330 input)) (d.get (key 0x6331 input))
  (b.toNat, ca || cb)

/-- An entry's fields (Table 16-2). -/
def Dev.entry (d : Dev) (q : Nat) : Nat × Nat × Nat := let e := d.get (key 0x6311 q); (fld e 4 0, fld e 15 8, fld e 18 16)

/-- The input and ACQ of a conversion. -/
def Dev.convOf (d : Dev) : Conv → Nat × Nat
  | .seq q => let (i, a, _) := d.entry q; (i, a)
  | .urgent i a => (i, a)
  | .monitor m => (monInput m, minAcq (monInput m))

/-- The converter is free: what waits begins, an urgent request first, then a monitor request, then a calibration, then the sequence (R396, R399 to R401). -/
def Dev.hkaNext (d : Dev) : Dev :=
  let h := d.hka
  if h.conv.isSome then d
  else match h.urgent, h.calAt, h.mons with
    | some (i, a), none, _ => d.modHka (fun h => { h with conv := some (.urgent i a), urgent := none })
    | _, _, m :: t => d.modHka (fun h => { h with conv := some (.monitor m), mons := t })
    | _, some _, [] => d
    | none, none, [] =>
      if h.calWait then
        let d := d.modHka (fun h => { h with calWait := false, calAt := some d.now, again := h.pass.isSome, pass := none })
        d
      else match h.pass with
        | some q => d.modHka (fun h => { h with conv := some (.seq q), void := false, done := 0, sum := 0, flags := 0, allOut := true })
        | none => d

/-- A pass begins at Q0. -/
def Dev.passStart (d : Dev) : Dev := (d.modHka (fun h => { h with pass := some 0, stop := false })).hkaNext

/-- A trigger finds a pass running: skipped, counted, EV125 (R396). -/
def Dev.trigSkip (d : Dev) : Dev := (d.inc 0x630004).raise 125

/-- SEQ_START written 1: a pass in SINGLE, passes back to back in CONTINUOUS, the periodic starts from now in PERIODIC. -/
def Dev.seqStart (d : Dev) : Dev :=
  match d.get 0x631000 with
  | 1 => if d.hka.pass.isSome || d.hka.again then d.trigSkip else if d.hka.calAt.isSome then d.modHka (fun h => { h with again := true }) else d.passStart
  | 2 =>
    if d.hka.pass.isSome || d.hka.again then d.trigSkip
    else
      let d := d.modHka (fun h => { h with active := true })
      if d.hka.calAt.isSome then d.modHka (fun h => { h with again := true }) else d.passStart
  | 3 => if d.hka.active then d else d.modHka (fun h => { h with active := true, trig := d.time64 / (d.get 0x631001 * 1000) })
  | _ => d

/-- SEQ_STOP written 1: the sequence ends after the running conversion. -/
def Dev.seqStop (d : Dev) : Dev :=
  match d.hka.conv with
  | some (.seq _) => d.modHka (fun h => { h with active := false, stop := true, again := false })
  | _ => d.modHka (fun h => { h with active := false, pass := none, again := false })

/-- A tick at which TIME64 reaches a multiple of PERIOD: a pass starts, or is skipped while one runs or a calibration does (R396, Table 16-5). -/
def Dev.periodic (d : Dev) : Dev :=
  let n := d.time64 / (d.get 0x631001 * 1000)
  if d.get 0x631000 = 3 && d.hka.active && d.hkaRuns && n != d.hka.trig then
    let d := d.modHka (fun h => { h with trig := n })
    if d.hka.pass.isSome || d.hka.calAt.isSome then d.trigSkip else d.passStart
  else d

/-- An OVR or UND result is counted, with EV127 at most once per ms (R394). -/
def Dev.rangeCount (d : Dev) : Dev :=
  let quiet : Bool := match d.hka.ev127 with | some t => decide (d.now < t + 1000000) | none => false
  let d := d.inc 0x630006
  if quiet then d else (d.modHka (fun h => { h with ev127 := some d.now })).raise 127

/-- The reference check of HK23 (R391). -/
def Dev.refCheck (input x : Nat) (d : Dev) : Dev :=
  if input != 23 then d
  else if 31363 ≤ x && x ≤ 31551 then d.putBit 0x630007 0 false
  else (d.putBit 0x630007 0 true).raise 127

/-- A result word: x2, OVR, UND, STALE, RECOVER, CLIPPED, NEW and PASS_COUNT. A conversion out of range returns 0xFFFF or 0 itself. -/
def Dev.resultWord (d : Dev) (input mean flags : Nat) (stale allOut : Bool) : Nat × Nat :=
  let (x, clip) := if allOut then (mean, false) else d.corrected input mean
  (x, x + flags * 65536 + 2 ^ 18 * b2n stale + 2 ^ 20 * b2n clip + 2 ^ 21 + 2 ^ 24 * (d.get 0x630003 % 256))

/-- A result of entry q outside its window sets its bit; EV126 where it was clear (R398). -/
def Dev.window (q x : Nat) (d : Dev) : Dev :=
  let w := d.get (key 0x6322 q)
  if (x < fld w 15 0 || fld w 31 16 < x) && !d.bitOf 0x632300 q then (d.putBit 0x632300 q true).raise 126 else d

/-- A pass is complete: counted, EV125 where PASS_EVENT is 1; CONTINUOUS begins the next (R396). -/
def Dev.passDone (d : Dev) : Dev :=
  let d := (d.inc 0x630003).modHka (fun h => { h with pass := none })
  let d := if d.get 0x630008 = 1 then d.raise 125 else d
  if d.get 0x631000 = 2 && d.hka.active then d.modHka (fun h => { h with pass := some 0 }) else d

/-- The pass goes on after a conversion of entry q, or ends where a stop was asked for. -/
def Dev.passOn (q : Nat) (complete : Bool) (d : Dev) : Dev :=
  if d.hka.stop then d.modHka (fun h => { h with pass := none, stop := false })
  else if !complete then d
  else if q + 1 < d.get 0x631200 then d.modHka (fun h => { h with pass := some (q + 1) }) else d.passDone

/-- A conversion of the sequence completes with a code; with AVG = a the result is the mean of 2^a (R391). -/
def Dev.seqDone (q raw flags : Nat) (d : Dev) : Dev :=
  let (input, acq, avg) := d.entry q
  let h := d.hka
  let d := d.modHka (fun h => { h with conv := none })
  if h.void then d
  else
    let n := 2 ^ min avg 4
    let sum := h.sum + raw
    let fl := h.flags ||| flags
    let allOut := h.allOut && flags % 4 != 0
    if h.done + 1 < n then
      if h.stop then d.passOn q false
      else d.modHka (fun h => { h with conv := some (.seq q), done := h.done + 1, sum := sum, flags := fl, allOut := allOut })
    else
      let (x, w) := d.resultWord input (roundDiv sum n).toNat fl (!d.settles input acq) allOut
      let d := d.does [Dev.put (key 0x6320 q) w, Dev.put (key 0x6321 q) (d.stamp - 600), Dev.window q x, Dev.refCheck input x]
      d.passOn q true

/-- The urgent conversion completes: result, time, EV125 (R400). -/
def Dev.urgentDone (input acq raw flags : Nat) (d : Dev) : Dev :=
  let (x, w) := d.resultWord input raw flags (!d.settles input acq) (flags % 4 != 0)
  (d.modHka (fun h => { h with conv := none })).does [Dev.put 0x635001 w, Dev.put 0x635002 (d.stamp - 600), Dev.refCheck input x, Dev.raise 125]

/-- SAFE cause [3] (R399, Table 3-4): every monitor conversion of the digital or of the mixed-signal die within the last 1 ms reads 120 °C or more; it clears below 110 °C on both. -/
def Dev.heatWatch (m code : Nat) (d : Dev) : Dev :=
  let t := (m, d.now, code) :: d.hka.temps.filter (fun e => decide (d.now ≤ e.2.1 + 1000000))
  let d := d.modHka (fun h => { h with temps := t })
  if (t.filter (fun e => e.1 == m)).all (fun e => decide (42500 ≤ e.2.2)) then d.causeSet 3
  else if d.get 0x636004 < 40000 && d.get 0x636005 < 40000 then d.causeClear 3 else d

/-- A monitor conversion completes: its corrected value in 6360.0m. -/
def Dev.monDone (m raw flags : Nat) (d : Dev) : Dev :=
  let (x, _) := if flags % 4 != 0 then (raw, false) else d.corrected (monInput m) raw
  let d := (d.modHka (fun h => { h with conv := none })).put (key 0x6360 m) x
  if m = 4 || m = 5 then (d.heatWatch m x).outSettle else d

/-- The conversion in progress completes with a raw code, the input above full scale or below AGND (R391, R394). -/
def Dev.convDone (raw : Nat) (ovr und : Bool) (d : Dev) : Dev :=
  if !d.hkaRuns then d
  else match d.hka.conv with
    | none => d
    | some c =>
      let raw := if ovr then 65535 else if und then 0 else raw % 65536
      let flags := b2n ovr + 2 * b2n (und && !ovr) + 8 * b2n d.hka.out
      let d := d.modHka (fun h => { h with out := ovr || und })
      let d := if ovr || und then d.rangeCount else d
      let d := match c with
        | .seq q => d.seqDone q raw flags
        | .urgent i a => d.urgentDone i a raw flags
        | .monitor m => d.monDone m raw flags
      d.hkaNext

/-- Every 50 us the supervisor requests a monitor conversion of the next input of its cycle (R399). -/
def Dev.monRequest (d : Dev) : Dev :=
  let n := (d.time64 + 25000) / 50000
  if d.hkaRuns && n != d.hka.mon then
    (d.modHka (fun h => { h with mon := n, mons := h.mons ++ [h.cycle], cycle := (h.cycle + 1) % 8 })).hkaNext
  else d

/-- URGENT written: a running conversion of the sequence is aborted and counted, and its entry restarts; the urgent conversion begins, or waits for a monitor conversion or a calibration (R400). -/
def Dev.urgentStart (v : Nat) (d : Dev) : Dev :=
  let d := d.modHka (fun h => { h with urgent := some (fld v 4 0, fld v 15 8) })
  let d := match d.hka.conv with
    | some (.seq _) => (if d.hka.void then d else d.inc 0x630005).modHka (fun h => { h with conv := none, pass := if h.stop then none else h.pass, stop := false })
    | _ => d
  d.hkaNext

/-- An urgent conversion waits or runs. -/
def Dev.urgentBusy (d : Dev) : Bool := d.hka.urgent.isSome || (match d.hka.conv with | some (.urgent _ _) => true | _ => false)

/-- CALIBRATE written 1: a calibration starts once the running conversion ends (R401). -/
def Dev.calStart (d : Dev) : Dev :=
  let d := (d.modHka (fun h => { h with calWait := true })).put 0x634005 1
  match d.hka.conv with
  | some (.seq _) => d.modHka (fun h => { h with calWait := true })
  | _ => d.hkaNext

/-- The calibration ends, 3.2 ms after its start, with the factors found: stored where they lie within ±256 and ±2 %, FAILED otherwise; EV127; a pass it abandoned restarts (R401). -/
def Dev.calDone (offset : Int) (gain : Nat) (d : Dev) : Dev :=
  match d.hka.calAt with
  | some t =>
    if t + 3200000 ≤ d.now then
      let ok : Bool := decide (-256 ≤ offset && offset ≤ 256) && decide (32113 ≤ gain && gain ≤ 33423)
      let d := if ok then d.does [Dev.putI 16 0x634001 offset, Dev.put 0x634002 gain, Dev.put 0x634003 d.stamp, Dev.putI 16 0x634004 (roundDiv (d.get 0x636005 : Nat) 25 - 500), Dev.put 0x634005 2]
        else d.put 0x634005 3
      let again := d.hka.again
      let d := (d.modHka (fun h => { h with calAt := none, again := false })).raise 127
      if again && (d.get 0x631000 = 1 || (d.get 0x631000 = 2 && d.hka.active)) then d.passStart else d.hkaNext
    else d
  | none => d

/-- A commit of group 0x48: the pass is abandoned after its running conversion, every result register is 0, and the new set waits for its first trigger (R397). -/
def Dev.seqCommit (d : Dev) : Dev :=
  let d := (upto 32).foldl (fun (a : Dev) q => (a.put (key 0x6320 q) 0).put (key 0x6321 q) 0) d
  d.modHka (fun h => { h with pass := none, void := true, stop := false, again := false, active := h.active && d.get 0x631000 = 3, trig := d.time64 / (d.get 0x631001 * 1000) })

/-- The rule of group 0x48 (R395). -/
def ruleSeq (v : Nat → Nat) : Option Nat :=
  let n := v 0x631200
  let es := (upto n).map (fun q => v (key 0x6311 q))
  if n = 0 || n > 32 || es.any (fun e => decide (23 < fld e 4 0)) then some 0
  else if v 0x631000 = 3 && (es.foldl (fun t e => t + 2 ^ fld e 18 16 * (fld e 15 8 * 100 + 600)) 0) + 2000 > v 0x631001 * 1000 then some 1 else none

/-- A DOMAIN reset of HKA: the sequence stops; monitor conversions go on (Table 16-5). -/
def Dev.hkaRestart (d : Dev) : Dev :=
  d.modHka (fun h => { h with conv := (match h.conv with | some (.monitor m) => some (.monitor m) | _ => none), active := false, stop := false, pass := none, urgent := none, calWait := false, calAt := none, again := false })

/-- The converter loses power or is reset. -/
def Dev.hkaStop (d : Dev) : Dev := { d with hka := {} }

/-! Host side -/

def Dev.hkaValue (d : Dev) (k : Nat) : Option Nat :=
  if k = 0x630000 then some (if !d.hkaRuns then 0 else if d.hka.calAt.isSome then 3 else if d.hka.pass.isSome then 2 else 1) else none

/-- Reads that clear: NEW of a result, the window bits (Table 16-3). -/
def Dev.hkaTouch (k : Nat) (d : Dev) : Dev :=
  if k / 256 = 0x6320 || k = 0x635001 then d.putBit k 21 false else if k = 0x632300 then d.put k 0 else d

def Dev.hkaCheck (k v : Nat) (d : Dev) : List Nat :=
  if k / 256 = 0x6311 then errIf (fld v 15 8 < 4 || fld v 18 16 > 4) eRange
  else if k = 0x631001 then errIf (v % 50 != 0) eRange
  else if k = 0x635000 then errIf (fld v 4 0 > 23 || fld v 15 8 < 4) eRange ++ errIf d.urgentBusy eBusy
  else if k = 0x634000 then errIf (v = 1 && (d.hka.calWait || d.hka.calAt.isSome)) eBusy
  else []

def Dev.hkaWrite (k v : Nat) (d : Dev) : Dev :=
  if k = 0x630001 then d.when (v = 1) Dev.seqStart
  else if k = 0x630002 then d.when (v = 1) Dev.seqStop
  else if k = 0x634000 then d.when (v = 1) Dev.calStart
  else if k = 0x635000 then d.urgentStart v
  else d

end Sys2Proof.Machine
end

