-- ==== Sys2Proof/Machine/Sap.lean ====
section
/-! DEFINITION. Serial audio ports and the ASRC (R200 to R220): frames, FIFOs, masks and epochs, clock monitors, slips, and the ASRC groups. -/
namespace Sys2Proof.Machine

/-! Objects of a port and of a group -/

def kSap (p s : Nat) : Nat := key (0x4000 + 16 * p) s
def kSapRx (p s : Nat) : Nat := key (0x4001 + 16 * p) s
def kSapTx (p s : Nat) : Nat := key (0x4002 + 16 * p) s
def kSapSt (p s : Nat) : Nat := key (0x4003 + 16 * p) s
def kAsrc (g s : Nat) : Nat := key (0x4100 + 16 * g) s
def kAsrcSt (g s : Nat) : Nat := key (0x4101 + 16 * g) s

def Dev.sapPort (d : Dev) (p : Nat) : SapPort := nthD {} d.sap.ports p
def Dev.modSap (p : Nat) (f : SapPort → SapPort) (d : Dev) : Dev := { d with sap := { d.sap with ports := modNth f d.sap.ports p } }
def Dev.modGrp (g : Nat) (f : AsrcGrp → AsrcGrp) (d : Dev) : Dev := { d with sap := { d.sap with grps := modNth f d.sap.grps g } }

/-- PORT_STATE codes of Table 8-6: 0 OFF, 1 SEARCHING, 2 LOCKED, 3 STOPPED, 4 REJECTED. -/
def Dev.sapState (d : Dev) (p : Nat) : Nat := d.get (kSapSt p 4)

/-- FIFO depth D, slot width W in bits. -/
def sapDepth (c : Nat) : Nat := nthD 16 [8, 16, 32, 64] c
def sapWidth (c : Nat) : Nat := nthD 32 [16, 24, 32] c

/-- The enabled slots of a mask, rising. -/
def slotsOf (m : Nat) : List Nat := (upto 16).filter (fun s => bit m s)

/-- The ports run (R200). -/
def Dev.sapOn (d : Dev) : Bool := d.ready 13 && d.audioRuns

/-- The rule of group 0x30 + p (R204). -/
def Dev.ruleSap (d : Dev) (p : Nat) (v : Nat → Nat) : Option Nat :=
  let n := v (kSap p 4)
  let w := sapWidth (v (kSap p 2))
  let c := v (kSap p 3)
  let f := v (kSap p 1)
  let m := v (kSap p 9)
  let fs := d.fs
  if (fld m 15 0 ||| fld m 31 16) / 2 ^ c ≠ 0 then some 0
  else if c * w > n || (f < 2 && (c ≠ 2 || n % 2 ≠ 0 || w > n / 2)) then some 1
  else if v (kSap p 5) = 1 && !([16, 32, 64, 128, 256, 512].contains n && n * fs ≤ 24576000) then some 2
  else if v (kSap p 6) = 1 && v (kSap p 5) ≠ 0 then some 3
  else if d.get 0x210500 = 3 && d.get 0x210400 = p && !(v (kSap p 5) = 0 && v (kSap p 6) = 0) then some 4
  else none

def Dev.sapSet (d : Dev) (p : Nat) : Bool := (d.ruleSap p d.get).isNone

/-! Ledgers of a direction: `k` the base key. -/

def Dev.led (k f n : Nat) (d : Dev) : Dev := if n = 0 then d else d.add64 (k + f) n

/-- EV56 or EV59 of a glitch, at most once per ms for a port (R211, Table 8-14). -/
def Dev.sapGlitchEvents (p : Nat) (d : Dev) : Dev :=
  let q := d.sapPort p
  if (match q.quiet with | some t => decide (d.now < t + 1000000) | none => false) then d
  else ((d.modSap p (fun x => { x with quiet := some d.now })).raise 59).raise 56

/-! ASRC states -/

/-- The ASRC's groups run (R200). -/
def Dev.asrcOn (d : Dev) : Bool := d.ready 14 && d.audioRuns

/-- A group's state changes: EV61, and UNLOCK_COUNT on leaving LOCKED (R216, Table 8-13). -/
def Dev.asrcTo (g s : Nat) (d : Dev) : Dev :=
  let old := d.get (kAsrcSt g 8)
  if old = s then d
  else
    let d := d.when (old = 3) (Dev.inc (kAsrcSt g 0xA))
    (d.put (kAsrcSt g 8) s).raise 61

/-- RATIO: input rate over output rate with 24 fraction bits. -/
def Dev.asrcRatio (d : Dev) (g : Nat) : Nat :=
  let r := d.get (kSapSt (d.get (kAsrc g 2)) 0)
  let l := d.fs * 1000
  if d.get (kAsrc g 1) = 0 then r * 2 ^ 24 / l else if r = 0 then 0 else l * 2 ^ 24 / r

/-- The rule of group 0x34 + g (R215). -/
def Dev.ruleAsrc (d : Dev) (g : Nat) (v : Nat → Nat) : Option Nat :=
  let o := 1 - g
  let a := v (kAsrc g 3)
  let n := v (kAsrc g 5)
  let b := d.get (kAsrc o 3)
  let m := d.get (kAsrc o 5)
  let same := v (kAsrc g 1) = d.get (kAsrc o 1)
  if d.get (kSap (v (kAsrc g 2)) 6) ≠ 1 then some 0
  else if a + n > 16 || (same && a < b + m && b < a + n) then some 1
  else if same && v (kAsrc g 2) = d.get (kAsrc o 2) then some 2
  else none

/-- A group with a committed set that is enabled. -/
def Dev.asrcRuns (d : Dev) (g : Nat) : Bool := d.asrcOn && d.get (kAsrc g 0) = 1 && (d.ruleAsrc g d.get).isNone

/-- The state a group takes from its port: NO_INPUT, RATIO_RANGE outside 1:8 to 8:1, or ACQUIRE (R216). -/
def Dev.asrcFollow (g : Nat) (d : Dev) : Dev :=
  if !d.asrcRuns g then d.asrcTo g 0
  else if d.sapState (d.get (kAsrc g 2)) ≠ 2 then d.asrcTo g 1
  else
    let r := d.asrcRatio g
    let d := d.put (kAsrcSt g 9) (r % 2 ^ 32)
    if 8 * r < 2 ^ 24 || r > 8 * 2 ^ 24 then d.asrcTo g 4
    else if d.get (kAsrcSt g 8) = 3 then d else d.asrcTo g 2

/-- The groups that serve a port follow its state. -/
def Dev.asrcPort (p : Nat) (d : Dev) : Dev :=
  [0, 1].foldl (fun (a : Dev) g => if a.get (kAsrc g 2) = p then a.asrcFollow g else a) d

/-! Port states (Table 8-6) -/

def Dev.sapTo (p s : Nat) (d : Dev) : Dev := (d.put (kSapSt p 4) s).asrcPort p

/-- Entry to LOCKED: EV58, and both start-up waits for a slave (Table 8-7). -/
def Dev.sapLock (p : Nat) (d : Dev) : Dev :=
  let m := d.get (kSap p 5) = 1
  let d := d.modSap p (fun q => { q with rwait := !m, twait := !m, glitches := 0, rOut := 0, tOut := 0 })
  let d := d.when m (Dev.put (kSapSt p 0) (d.fs * 1000))
  (d.sapTo p 2).raise 58

/-- The transmit FIFO and the frame on the wire count into DROPPED (R210). -/
def Dev.sapTxDrop (p : Nat) (d : Dev) : Dev :=
  let q := d.sapPort p
  (d.led (kSapTx p 0) 1 (q.tx.length + b2n q.sending.isSome)).modSap p (fun q => { q with tx := [], sending := none })

/-- The receive FIFO counts into DROPPED (R213). -/
def Dev.sapRxDrop (p : Nat) (d : Dev) : Dev :=
  (d.led (kSapRx p 0) 1 (d.sapPort p).rx.length).modSap p (fun q => { q with rx := [] })

/-- The port leaves LOCKED for another state: records of the receive FIFO are still presented (R210). -/
def Dev.sapUnlock (p s : Nat) (d : Dev) : Dev :=
  let d := (d.sapTxDrop p).modSap p (fun q => { q with rwait := false, twait := true, hist := [], glitches := 0 })
  d.sapTo p s

/-- A port starts: SEARCHING, or LOCKED for a master while the MPLL runs (R209); MASK_EPOCH is 0 at enable. -/
def Dev.sapStart (p : Nat) (d : Dev) : Dev :=
  let m := d.get (kSap p 9)
  let d := d.modSap p (fun q => { q with rx := [], tx := [], sending := none, hist := [], glitches := 0, rPend := none, tPend := none, rMask := fld m 15 0, tMask := fld m 31 16,
                                         shown := none, edge := some d.now, edgeIdx := d.med.index, slip := 0 })
  let d := d.does [Dev.put (kSapRx p 0xB) 0, Dev.put (kSapTx p 0xB) 0, Dev.put (kSapRx p 0xD) (fld m 15 0), Dev.put (kSapTx p 0xD) (fld m 31 16)]
  if d.get (kSap p 5) = 1 && d.ready 4 then d.sapLock p else d.sapTo p 1

/-- A port goes OFF: held frames count into DROPPED. -/
def Dev.sapOff (p : Nat) (d : Dev) : Dev :=
  if d.sapState p = 0 then d else ((d.sapRxDrop p).sapTxDrop p).sapTo p 0

/-- A write of SAP_ENABLE, `old` the value before (Table 8-6). -/
def Dev.sapEnable (p old v : Nat) (d : Dev) : Dev :=
  if v &&& 3 = 0 then d.sapOff p
  else if d.sapState p = 0 then (if d.sapOn && d.sapSet p then d.sapStart p else d)
  else
    let d := if bit old 0 && !bit v 0 then d.sapRxDrop p else d
    if bit old 1 && !bit v 1 then d.sapTxDrop p else d

/-- A commit of group 0x30 + p: a MASK alone waits for its boundary (R207), anything else restarts the port (R204). -/
def Dev.sapCommit (p : Nat) (onlyMask : Bool) (d : Dev) : Dev :=
  if d.get (kSap p 0) &&& 3 = 0 then d
  else if d.sapState p = 0 then (if d.sapOn && d.sapSet p then d.sapStart p else d)
  else if onlyMask then
    let m := d.get (kSap p 9)
    d.modSap p (fun q => { q with rPend := some (fld m 15 0, d.med.index + 1), tPend := some (fld m 31 16, d.med.index + 1) })
  else ((d.sapRxDrop p).sapTxDrop p).sapStart p

/-! Clock monitors (R212) -/

/-- The mean frame rate in mHz over the periods of a history. -/
def histRate (l : List (Nat × Nat)) : Nat := let t := (l.map (·.1)).sum; if t = 0 then 0 else l.length * 1000000000000 / t

/-- Sixty-four periods within 1/8 of their mean, each of N BCLK periods (Table 8-6). -/
def histStable (n : Nat) (l : List (Nat × Nat)) : Bool :=
  let t := (l.map (·.1)).sum
  l.length = 64 && t ≠ 0 && l.all (fun e => e.2 == n && 7 * t ≤ 8 * 64 * e.1 && 8 * 64 * e.1 ≤ 9 * t)

/-- The rates of R203 in Hz, by bit of ALLOWED_RATES. -/
def sapRates : List Nat := [8000, 16000, 32000, 44100, 48000, 88200, 96000, 176400, 192000]

/-- The rate nearest a measured one in mHz, where it lies within 0.5 %. -/
def classify (mhz : Nat) : Option Nat :=
  (upto 9).find? (fun i => let r := nthD 0 sapRates i * 1000; (if mhz ≥ r then mhz - r else r - mhz) * 200 ≤ r)

/-- A measured rate is allowed: in SYNC the Lattice rate within 2000 ppm, in ASRC a classified rate that ALLOWED_RATES enables. -/
def Dev.rateAllowed (d : Dev) (p mhz : Nat) : Bool :=
  match classify mhz with
  | none => false
  | some i =>
    if d.get (kSap p 6) = 1 then d.bitOf (kSap p 0xB) i
    else
      let r := d.fs * 1000
      (if mhz ≥ r then mhz - r else r - mhz) * 500 ≤ r

/-! Slips (R211) -/

/-- A repeat of a record, tagged SYN on receive. -/
def SapRec.again (r : SapRec) (tag : Bool) : SapRec := if tag then { r with tag := r.tag ||| 2 } else r

/-- `k` of the oldest records of a FIFO dropped. -/
def Dev.fifoDrop (p : Nat) (rx : Bool) (k : Nat) (d : Dev) : Dev :=
  let q := d.sapPort p
  let n := min k (if rx then q.rx else q.tx).length
  let b := if rx then kSapRx p 0 else kSapTx p 0
  let d := (d.led b 1 n).bump 32 (b + 0xA) n
  d.modSap p (fun q => if rx then { q with rx := q.rx.drop n } else { q with tx := q.tx.drop n })

/-- The newest record of a FIFO repeated `k` times. -/
def Dev.fifoRepeat (p : Nat) (rx : Bool) (k : Nat) (d : Dev) : Dev :=
  let q := d.sapPort p
  match (if rx then q.rx else q.tx).getLast? with
  | none => d
  | some r =>
    let b := if rx then kSapRx p 0 else kSapTx p 0
    let d := (d.led b 2 k).bump 32 (b + 0xA) k
    let l := List.replicate k (r.again rx)
    d.modSap p (fun q => if rx then { q with rx := q.rx ++ l } else { q with tx := q.tx ++ l })

/-- A test slip at a frame, in both directions: negative drops, positive repeats; the recovery window starts afresh. -/
def Dev.sapTest (p : Nat) (d : Dev) : Dev :=
  let s := (d.sapPort p).slip
  if s = 0 then d
  else
    let en := d.get (kSap p 0)
    let d := d.modSap p (fun q => { q with slip := 0, rOut := 0, tOut := 0 })
    let d := [true, false].foldl (fun (a : Dev) rx =>
      if bit en (if rx then 0 else 1) then (if s < 0 then a.fifoDrop p rx s.natAbs else a.fifoRepeat p rx s.natAbs) else a) d
    d.raise 59

/-- The recovery window of one direction at a frame: outside D/4 to 3D/4 for 8 frames, the level is set back to D/2. -/
def Dev.sapRecover (p : Nat) (rx : Bool) (d : Dev) : Dev :=
  let q := d.sapPort p
  let n := (if rx then q.rx else q.tx).length
  let dep := sapDepth (d.get (kSap p 8))
  let out := n < dep / 4 || 3 * dep / 4 < n
  let run := if out then (if rx then q.rOut else q.tOut) + 1 else 0
  let d := d.modSap p (fun q => if rx then { q with rOut := if run ≥ 8 then 0 else run } else { q with tOut := if run ≥ 8 then 0 else run })
  if run < 8 then d
  else
    let d := if n > dep / 2 then d.fifoDrop p rx (n - dep / 2) else d.fifoRepeat p rx (dep / 2 - n)
    d.raise 59

/-! Frames -/

/-- A received slot of W bits in the most significant bits of a word (R202). -/
def slotIn (w v : Nat) : Int := toInt 32 (v % 2 ^ w * 2 ^ (32 - w))

/-- A frame completed at DIN while LOCKED: its record, under a new mask from the first frame completed whole whose start follows the boundary of the commit (R206, R207, R213, Table 8-13). -/
def Dev.sapReceive (p : Nat) (whole : Bool) (slots : List Nat) (d : Dev) : Dev :=
  let q := d.sapPort p
  let d := match q.rPend with
    | some (m, i) =>
      if whole && i ≤ q.edgeIdx then
        let d := d.modSap p (fun q => { q with rPend := none, rMask := m })
        if m = q.rMask then d
        else (d.does [Dev.put (kSapRx p 0xB) ((d.get (kSapRx p 0xB) + 1) % 256), Dev.put (kSapRx p 0xD) m]).raise 60
      else d
    | none => d
  let q := d.sapPort p
  let w := sapWidth (d.get (kSap p 2))
  let r : SapRec := { epoch := d.get (kSapRx p 0xB), seq := q.rSeq, vals := (slotsOf q.rMask).map (fun s => slotIn w (nthD 0 slots s)), idx := q.edgeIdx,
                      tag := if d.clk.hldAt.isSome then 1 else 0 }
  (d.led (kSapRx p 0) 0 1).modSap p (fun q => { q with rx := q.rx ++ [r], rSeq := (q.rSeq + 1) % 65536 })

/-- The frame on the wire ends, whole or cut, and the next one starts: a low or high-impedance frame while the start-up wait lasts or nothing is held (R202, Table 8-7). `ready` tells that the head of the FIFO may be sent. -/
def Dev.sapSerial (p : Nat) (cut : Bool) (d : Dev) : Dev :=
  let q := d.sapPort p
  let d := match q.sending with
    | some _ => d.led (kSapTx p 0) (if cut then 1 else 3) 1
    | none => d
  let dep := sapDepth (d.get (kSap p 8))
  let master := d.get (kSap p 5) = 1
  let wait := q.twait && q.tx.length < dep / 2
  let w := sapWidth (d.get (kSap p 2))
  match (if wait then none else match q.tx with | r :: t => if master && d.med.index ≤ r.idx then none else some (r, t) | [] => none) with
  | some (r, t) =>
    d.modSap p (fun q => { q with tx := t, sending := some r, twait := wait, dout := r.vals.map (fun v => ofInt 32 v / 2 ^ (32 - w)) })
  | none =>
    (d.led (kSapTx p 0) 2 1).modSap p (fun q => { q with sending := some { epoch := 0, pad := true }, twait := wait, dout := [] })

/-- The receive level and transmit level in 1/65 536 frame (R208). -/
def Dev.sapLevel (d : Dev) (p : Nat) (rx : Bool) : Nat :=
  let q := d.sapPort p
  let rate := if q.cls = 0 then d.fs else q.cls
  let frac := match q.edge with | some t => if d.sapState p = 2 then min 65535 ((d.now - t) * rate * 65536 / 1000000000) else 0 | none => 0
  (if rx then q.rx else q.tx).length * 65536 + frac

/-- The frames that an ASRC-domain port hands to the group that converts its receive direction, on the port's own clock. -/
def Dev.sapToAsrc (p : Nat) (d : Dev) : Dev :=
  let q := d.sapPort p
  match [0, 1].find? (fun g => d.asrcRuns g && d.get (kAsrc g 1) = 0 && d.get (kAsrc g 2) = p) with
  | none => d
  | some g =>
    if q.rx.length ≤ sapDepth (d.get (kSap p 8)) / 2 then d
    else match q.rx with
    | r :: t =>
      let d := (d.modSap p (fun q => { q with rx := t })).led (kSapRx p 0) 3 1
      (d.add64 (kAsrcSt g 0xB) 1).modGrp g (fun a => { a with tags := (r.tag :: a.tags).take 2 })
    | [] => d

/-- The values of an ASRC output frame: the spec gives the converter only by its figures, so each is a free value. -/
def Dev.asrcVals : Nat → Dev → List Int × Dev
  | 0, d => ([], d)
  | n + 1, d =>
    let (x, d) := d.fresh
    let (l, d) := d.asrcVals n
    (toInt 32 x :: l, d)

/-- A frame for the transmit direction of an ASRC-domain port: converted while its group is LOCKED, a low frame otherwise (R216, R217). -/
def Dev.asrcToSap (p : Nat) (d : Dev) : Dev :=
  match [0, 1].find? (fun g => d.asrcRuns g && d.get (kAsrc g 1) = 1 && d.get (kAsrc g 2) = p) with
  | none => d
  | some g =>
    let q := d.sapPort p
    let m := (slotsOf q.tMask).length
    let ch := min m (d.get (kAsrc g 5))
    let locked := d.get (kAsrcSt g 8) = 3
    let (l, d) := if locked then d.asrcVals ch else (List.replicate ch 0, d)
    let d := (d.led (kAsrcSt g 0) (if locked then 0 else 2) 1).led (kAsrcSt g 0) 3 1
    let r : SapRec := { epoch := d.get (kSapTx p 0xB), seq := q.tSeq, vals := l ++ List.replicate (m - ch) 0, idx := d.med.index }
    (d.led (kSapTx p 0) 0 1).modSap p (fun q => { q with tx := q.tx ++ [r], tSeq := (q.tSeq + 1) % 65536 })

/-- A frame-start edge while SEARCHING or REJECTED: the period enters the history; 64 stable ones measure the rate (Table 8-6). -/
def Dev.sapSearch (p period bclks : Nat) (d : Dev) : Dev :=
  let n := d.get (kSap p 4)
  let h := (((period, bclks) :: (d.sapPort p).hist).take 64)
  let d := d.modSap p (fun q => { q with hist := h })
  if !histStable n h then d
  else
    let mhz := histRate h
    let c := match classify mhz with | some i => nthD 0 sapRates i | none => 0
    let d := d.put (kSapSt p 0) mhz
    if d.sapState p = 4 then
      (if c = (d.sapPort p).cls then d else ((d.modSap p (fun q => { q with hist := [], cls := 0 })).sapTo p 1).raise 57)
    else
      let d := (d.modSap p (fun q => { q with cls := c, hist := [] })).raise 57
      if d.rateAllowed p mhz then d.sapLock p else d.sapTo p 4

/-- A frame-start edge of a LOCKED slave (R209 to R213): the frame completes, or is a glitch; four in a row are a rate change. -/
def Dev.sapLocked (p period bclks : Nat) (slots : List Nat) (d : Dev) : Dev :=
  let q := d.sapPort p
  let en := d.get (kSap p 0)
  let n := d.get (kSap p 4)
  let rate := if q.cls = 0 then d.fs else q.cls
  let t := period * rate * 8
  let short := t < 7 * 1000000000 || (bclks < n && t ≤ 9 * 1000000000)
  let glitch := t < 7 * 1000000000 || 9 * 1000000000 < t || bclks ≠ n
  let d := d.sapTest p
  let d := if bit en 0 then
      (if glitch then
        (if short then ((d.bump 32 (kSapRx p 0xA) 1).led (kSapRx p 0) 0 1).led (kSapRx p 0) 1 1
         else (d.fifoRepeat p true 1).sapReceive p false slots)
      else d.sapReceive p true slots)
    else d
  let d := if bit en 1 then
      (let d := if glitch then d.bump 32 (kSapTx p 0xA) 1 else d
       let d := if d.get (kSap p 6) = 1 then d.asrcToSap p else d
       d.sapSerial p glitch)
    else d
  let d := if glitch then
      (let d := d.modSap p (fun q => { q with glitches := q.glitches + 1 })
       (d.inc (kSapSt p 2)).sapGlitchEvents p)
    else d.modSap p (fun q => { q with glitches := 0 })
  if (d.sapPort p).glitches ≥ 4 then (d.sapUnlock p 1).raise 56
  else if d.get (kSap p 6) = 1 then (if bit en 0 then d.sapToAsrc p else d)
  else
    let d := if bit en 0 && !(d.sapPort p).rwait then d.sapRecover p true else d
    let d := if bit en 1 && !(d.sapPort p).twait then d.sapRecover p false else d
    let waits := if bit en 0 then (d.sapPort p).rwait else (d.sapPort p).twait
    if d.steerSource = 3 && d.get 0x210400 = p && !waits then d.steer else d

/-- A frame-start edge at a port (R209): `period` ns after the one before, `bclks` BCLK periods, and the slot values received in the frame that it completes. A master's edges are its own strobes. -/
def Dev.sapEdge (p period bclks : Nat) (slots : List Nat) (d : Dev) : Dev :=
  let s := d.sapState p
  let en := d.get (kSap p 0)
  let d := if !d.sapOn || s = 0 then d
    else if d.get (kSap p 5) = 1 then
      (if s ≠ 2 then d
       else
        let d := d.sapTest p
        let cut := d.med.invOnce
        let d := if bit en 0 then (if cut then (d.led (kSapRx p 0) 0 1).led (kSapRx p 0) 1 1 else d.sapReceive p true slots) else d
        if bit en 1 then d.sapSerial p cut else d)
    else if s = 3 then (d.modSap p (fun q => { q with hist := [] })).sapTo p 1
    else if s = 2 then d.sapLocked p period bclks slots
    else d.sapSearch p period bclks
  d.modSap p (fun q => { q with edge := some d.now, edgeIdx := d.med.index })

/-- No frame-start edge for 4 nominal periods (Tables 8-6, 8-8). -/
def Dev.sapStop (p : Nat) (d : Dev) : Dev :=
  let s := d.sapState p
  let q := d.sapPort p
  let rate := if q.cls = 0 then d.fs else q.cls
  let late := match q.edge with | some t => decide (4 * 1000000000 ≤ (d.now - t) * rate) | none => true
  if d.get (kSap p 5) = 1 || !(s = 1 || s = 2 || s = 4) || !late then d
  else
    let d := if s = 2 then d.sapUnlock p 3 else (d.modSap p (fun q => { q with hist := [] })).sapTo p 3
    ((d.inc (kSapSt p 3)).put (kSapSt p 0) 0).raise 56

/-! Boundaries (R206 to R210) -/

/-- The samples at a port's source nodes: those of a record, and beyond its slots or without one the last value tagged INV. -/
def sapNodes (p : Nat) (last : List Int) (r : Option SapRec) : List (Nat × Smp) :=
  (upto 16).map (fun j => (0x100 + 16 * p + j, match r with
    | some r => if j < r.vals.length then { v := nthD 0 r.vals j, t := r.tag } else { v := nthD 0 last j, t := 8 }
    | none => { v := nthD 0 last j, t := 8 }))

/-- One port's source nodes at a boundary. -/
def Dev.sapBoundary1 (p : Nat) (d : Dev) : List (Nat × Smp) × Dev :=
  let q := d.sapPort p
  let s := d.sapState p
  if s = 0 then ((if q.last.isEmpty then [] else sapNodes p q.last none), d)
  else if !d.bitOf (kSap p 0) 0 || d.get (kSap p 6) = 1 then ([], d)
  else
    let master := d.get (kSap p 5) = 1
    let wait := q.rwait && s = 2 && q.rx.length < sapDepth (d.get (kSap p 8)) / 2
    let d := d.modSap p (fun q => { q with rwait := wait })
    let d := d.led (kSapRx p 0) 3 1
    match (if wait then none else match q.rx with | r :: t => if master && d.med.index < r.idx + 2 then none else some (r, t) | [] => none) with
    | none => (sapNodes p q.last none, d.led (kSapRx p 0) 2 1)
    | some (r, t) =>
      let l := sapNodes p q.last (some r)
      let d := d.modSap p (fun q => { q with rx := t, last := l.map (fun e => e.2.v), shown := some r.epoch })
      let d := match q.shown with
        | some e => if e = r.epoch then d else d.put (kSapRx p 0xC) (boundaryTime d.fs d.med.index)
        | none => d
      (l, d)

/-- One port's transmit direction takes a frame from its sink nodes at a boundary, under a new mask from the boundary of its commit on. -/
def Dev.sapTake1 (p : Nat) (d : Dev) : Dev :=
  if d.sapState p ≠ 2 || !d.bitOf (kSap p 0) 1 || d.get (kSap p 6) = 1 then d
  else
    let q := d.sapPort p
    let d := match q.tPend with
      | some (m, i) =>
        if i ≤ d.med.index then
          let d := d.modSap p (fun q => { q with tPend := none, tMask := m })
          if m = q.tMask then d
          else (d.does [Dev.put (kSapTx p 0xB) ((d.get (kSapTx p 0xB) + 1) % 256), Dev.put (kSapTx p 0xD) m, Dev.put (kSapTx p 0xC) (boundaryTime d.fs d.med.index)]).raise 60
        else d
      | none => d
    let q := d.sapPort p
    let vals := (upto (slotsOf q.tMask).length).map (fun j => (d.sinkSample (0x100 + 16 * p + j)).v)
    let r : SapRec := { epoch := d.get (kSapTx p 0xB), seq := q.tSeq, vals := vals, idx := d.med.index }
    (d.led (kSapTx p 0) 0 1).modSap p (fun q => { q with tx := q.tx ++ [r], tSeq := (q.tSeq + 1) % 65536 })

/-- A master follows bit [4] of READY (R209). -/
def Dev.sapMasters (d : Dev) : Dev :=
  (upto 4).foldl (fun (a : Dev) p =>
    if a.get (kSap p 5) = 1 && a.sapState p ≠ 0 then
      (if a.ready 4 then (if a.sapState p = 2 then a else a.sapLock p) else if a.sapState p = 2 then a.sapUnlock p 1 else a)
    else a) d

/-- Every port's source nodes at a boundary. -/
def Dev.sapBoundary (d : Dev) : List (Nat × Smp) × Dev :=
  (upto 4).foldl (fun (r : List (Nat × Smp) × Dev) p =>
    let (l, a) := r.2.sapBoundary1 p
    (r.1 ++ l, a)) ([], d.sapMasters)

def Dev.sapTake (d : Dev) : Dev := (upto 4).foldl (fun (a : Dev) p => a.sapTake1 p) d

/-- One ASRC group's source nodes at a boundary, or the frame it takes from its sink nodes (R216, R217). -/
def Dev.asrcBoundary1 (g : Nat) (d : Dev) : List (Nat × Smp) × Dev :=
  if !d.asrcRuns g then ([], d)
  else
    let first := d.get (kAsrc g 3)
    let n := d.get (kAsrc g 5)
    if d.get (kAsrc g 1) = 1 then ([], d.add64 (kAsrcSt g 0xB) 1)
    else
      let a := nthD {} d.sap.grps g
      let d := d.led (kAsrcSt g 0) 3 1
      if d.get (kAsrcSt g 8) = 3 then
        let m := min n (slotsOf (d.sapPort (d.get (kAsrc g 2))).rMask).length
        let (l, d) := d.asrcVals m
        let tag := a.tags.foldl (fun x y => x ||| y) 0
        let d := (d.led (kAsrcSt g 0) 0 1).modGrp g (fun a => { a with last := l })
        ((upto n).map (fun c => (0x140 + first + c, if c < m then { v := nthD 0 l c, t := tag } else {})), d)
      else
        ((upto n).map (fun c => (0x140 + first + c, { v := nthD 0 a.last c, t := 8 })), d.led (kAsrcSt g 0) 2 1)

def Dev.asrcBoundary (d : Dev) : List (Nat × Smp) × Dev :=
  let (l, d) := d.asrcBoundary1 0
  let (m, d) := d.asrcBoundary1 1
  (l ++ m, d)

/-- A write of ASRC_ENABLE. -/
def Dev.asrcEnable (g : Nat) (d : Dev) : Dev := d.asrcFollow g

/-- A commit while a group runs returns it to ACQUIRE (R215). -/
def Dev.asrcCommit (g : Nat) (d : Dev) : Dev :=
  let d := if d.get (kAsrcSt g 8) = 3 then d.asrcTo g 2 else d
  d.asrcFollow g

/-- A group's ratio estimate has settled (R216). -/
def Dev.asrcLock (g : Nat) (d : Dev) : Dev :=
  if g < 2 && d.asrcRuns g && d.get (kAsrcSt g 8) = 2 then (d.put (kAsrcSt g 9) (d.asrcRatio g % 2 ^ 32)).asrcTo g 3 else d

/-- Enabled ports and groups start when READY is entered (R200). -/
def Dev.sapStartAll (d : Dev) : Dev :=
  let d := (upto 4).foldl (fun (a : Dev) p => if a.get (kSap p 0) &&& 3 ≠ 0 && a.sapState p = 0 && a.sapSet p then a.sapStart p else a) d
  (d.asrcFollow 0).asrcFollow 1

/-- Every port and group stops (R200, R88). -/
def Dev.sapStopAll (d : Dev) : Dev := (upto 4).foldl (fun (a : Dev) p => a.sapOff p) d
def Dev.asrcStopAll (d : Dev) : Dev := (d.asrcTo 0 0).asrcTo 1 0

/-! Objects of 4000h to 41FFh -/

def Dev.sapValue (d : Dev) (k : Nat) : Option Nat :=
  let i := k / 256
  let s := k % 256
  let p := (i - 0x4000) / 16
  if i ≥ 0x4100 then none
  else if i % 16 = 1 && s = 9 then some (d.sapLevel p true)
  else if i % 16 = 2 && s = 9 then some (d.sapLevel p false)
  else if i % 16 = 3 && s = 1 then
    let st := d.sapState p
    let master := d.get (kSap p 5) = 1
    some (b2n (if master then st = 2 else st ≠ 0 && st ≠ 3) + 2 * b2n (d.steerSource = 3 && d.get 0x210400 = p) + 4 * b2n master)
  else none

/-- The objects' own refusals: test slips outside DIAGNOSE, or while they are not enabled (Table 8-2, R211). -/
def Dev.sapCheck (d : Dev) (k v : Nat) : List Nat :=
  let i := k / 256
  let s := k % 256
  if i < 0x4100 && i % 16 = 0 then
    (if s = 0xC then errIf (v = 1 && d.mode ≠ 8) eRange
     else if s = 0xD then errIf (d.get (key i 0xC) ≠ 1) eRange
     else [])
  else []

def Dev.sapWrite (k old v : Nat) (d : Dev) : Dev :=
  let i := k / 256
  let s := k % 256
  if i ≥ 0x4100 then (if s = 0 then d.asrcEnable ((i - 0x4100) / 16) else d)
  else
    let p := (i - 0x4000) / 16
    if s = 0 then d.sapEnable p old v
    else if s = 0xC then (if v = 1 then d.taint 0 else d)
    else if s = 0xD then d.modSap p (fun q => { q with slip := toInt 16 v })
    else d

/-- Leaving DIAGNOSE writes TEST_SLIP_ENABLE 0 (R211). -/
def Dev.sapLeaveDiagnose (d : Dev) : Dev := (upto 4).foldl (fun (a : Dev) p => if a.get (kSap p 0xC) = 1 then a.put (kSap p 0xC) 0 else a) d

end Sys2Proof.Machine
end

