-- ==== Sys2Proof/Machine/Perimeter.lean ====
section
/-! DEFINITION. Listening and the wake recogniser (R243 to R266): the Perimeter's clock, the listening set, the history buffer, the recogniser, the barge-in input, enrolment and WAKE_OUT. -/
namespace Sys2Proof.Machine

def Dev.modPer (f : Per → Per) (d : Dev) : Dev := { d with per := f d.per }

/-! The listening set (R248, R249) -/

/-- The members of group 0x3C. -/
def setKeys : List Nat :=
  [0x440000, 0x440100] ++ (upto 8).map (key 0x4402) ++ (upto 8).map (key 0x4403) ++ (upto 8).map (key 0x4404) ++ (upto 8).map (key 0x4405)
    ++ [0x440600] ++ (upto 8).map (key 0x4407) ++ [0x440800]

/-- A member of the listening set in use. -/
def Dev.inUse (d : Dev) (k : Nat) : Nat := match assoc k d.per.use with | some v => v | none => 0

/-- The rule of group 0x3C (R249), over the set being checked: the first relation that fails. -/
def Dev.ruleListen (d : Dev) (v : Nat → Nat) : Option Nat :=
  let rec' := d.get 0x441000 = 1
  let beams := v 0x440100
  let gain := fun b m => v (key (0x4404 + b) m)
  let r0 := (upto beams).all (fun b => (upto 8).any (fun m => gain b m != 0) && (upto 8).all (fun m => gain b m == 0 || bit (v 0x440000) m))
  let src := fun h => v (key 0x4407 h)
  let good := fun x => x = 255 || (x < 8 && bit (v 0x440000) x) || (x = 16 && 0 < beams) || (x = 17 && 1 < beams) || (x = 24 && rec')
  let r1 := (upto 8).all (fun h => good (src h)) && (v 0x440600 ≠ 2 || (upto 6).all (fun h => src (h + 2) == 255))
    && (v 0x440600 = 0 || (upto 8).any (fun h => src h != 255))
  let r2 := !rec' || v 0x440800 < beams
  if !r0 then some 0 else if !r1 then some 1 else if !r2 then some 2 else none

/-- PDM_WAKE in ns. -/
def Dev.pdmWake (d : Dev) : Nat := d.get 0x423003 * 1000000

/-- The microphones of the listening set on the clocks of a mask settle from now for PDM_WAKE (R247, R249). -/
def Dev.perSettle (mask : Nat) (d : Dev) : Dev :=
  let ms := (upto 8).filter (fun m => bit d.listenMics m && bit mask (d.lineClk (m / 2)))
  d.modPer (fun p => { p with settle := ms.foldl (fun l m => assocPut m (d.now + d.pdmWake) l) p.settle })

/-- The committed listening set comes into use: clocks that start settle their microphones, and capture sees the clocks as they now run. -/
def Dev.perUse (d : Dev) : Dev :=
  let before := d.pdmMask
  let d := { d with per := { d.per with use := setKeys.map (fun k => (k, d.get k)), setPend := false } }
  let d := d.perSettle (clearBits d.pdmMask before)
  d.pdmApply

/-! Partial matches (R254, R264) -/

/-- The recogniser is suspended: crystal lost or settling after its return, or in SERVICE or UPDATE (Table 10-1, R247). -/
def Dev.recSuspended (d : Dev) : Bool := (!d.per.media && !d.per.xtal) || decide (d.now < d.per.suspUntil) || d.mode = 10 || d.mode = 11

/-- REC_STATE (Table 10-5). -/
def Dev.recState (d : Dev) : Nat :=
  if !d.per.on then 0
  else if d.per.enrol.isSome then 3
  else if d.get 0x441000 ≠ 1 then 0
  else if d.recSuspended then 4
  else if d.per.part.isSome then 2 else 1

/-- A partial match is abandoned: counted, recorded in the black box, EV89 (R264). -/
def Dev.perAbandon (d : Dev) : Dev :=
  if d.per.part.isSome then
    let d := (d.modPer (fun p => { p with part := none })).inc 0x442300
    (d.bbMake 10 0 89 0 (d.get 0x445000) (d.get 0x442300)).raise 89
  else d

/-- A partial match on a phrase is abandoned (R255). -/
def Dev.perAbandonOn (ph : Nat) (d : Dev) : Dev :=
  match d.per.part with
  | some x => if x.phrase = ph then d.perAbandon else d
  | none => d

/-! The barge-in input (R257 to R259) -/

/-- Availability changes: while the barge-in input is in use its loss begins a substitution and its return ends it, each with EV90. -/
def Dev.perAvail (a : Bool) (d : Dev) : Dev :=
  if d.per.avail = a then d
  else
    let d := d.modPer (fun p => { p with avail := a })
    if d.per.aec && d.per.subst = a then (d.modPer (fun p => { p with subst := !a })).raise 90 else d

/-- The barge-in sink at a boundary: available after 32 consecutive samples without INV, unavailable after 4 with it (R257). -/
def Dev.perBoundary (d : Dev) : Dev :=
  if !d.per.on then d
  else
    let inv := (d.sinkSample (0x15C + d.inUse 0x440800)).isInv
    let d := d.modPer (fun p => { p with goodRun := if inv then 0 else min 32 (p.goodRun + 1), badRun := if inv then min 4 (p.badRun + 1) else 0 })
    let ok := d.get 0x441600 = 1 && d.audioRuns && (if d.per.avail then d.per.badRun < 4 else d.per.goodRun ≥ 32)
    let d := d.perAvail ok
    d.modPer (fun p => { p with heardAec := p.heardAec || (p.aec && !p.subst), heardSubst := p.heardSubst || p.subst })

/-- The end of an embedding frame: a pending switch is made when the input to be taken has been below SILENCE_LEVEL for 20 frames with no partial match in progress, or when a partial match has been resolved in this frame (R258). -/
def Dev.perSwitch (resolved : Bool) (d : Dev) : Dev :=
  let p := d.per
  if p.avail = p.aec then d
  else
    let quiet := if p.avail then p.aecQuiet else p.rawQuiet
    if resolved || (p.part.isNone && quiet ≥ 20) then
      let sub := p.subst
      let d := d.modPer (fun p => { p with aec := p.avail, subst := false })
      let d := d.when sub (Dev.raise 90)
      (d.inc 0x442500).raise 90
    else d

/-! Detection (R254, R261, R262) -/

/-- WAKE_OUT at a detection of a phrase with WAKE_OUT set (Table 10-10). -/
def Dev.wakeOutOn (d : Dev) : Dev :=
  match d.get 0x446000 with
  | 1 => d.modPer (fun p => { p with wakeOut := true, wakeEnd := none })
  | 2 => d.modPer (fun p => { p with wakeOut := true, wakeEnd := some (d.now + d.get 0x446200 * 1000) })
  | _ => d

/-- WAKE_OUT driven low. -/
def Dev.wakeOutOff (d : Dev) : Dev := d.modPer (fun p => { p with wakeOut := false, wakeEnd := none })

/-- The oldest block held, or the block being written (4453.00). -/
def Dev.histOldest (d : Dev) : Nat := match d.per.ring with | b :: _ => b.seq | [] => d.get 0x445000

/-- A phrase is detected: the record of Table 10-6, DETECT_COUNT, EV88, and what PHRASE_CTRL asks for. -/
def Dev.perDetect (s : PhraseScore) (d : Dev) : Dev :=
  let ph := s.phrase
  let pre := max (s.first - d.get 0x441700 / 10) d.histOldest
  let b := leBytes 1 ph ++ leBytes 1 (b2n (d.per.aec && !d.per.subst)) ++ leBytes 2 s.full ++ leBytes 4 s.first ++ leBytes 4 s.last
    ++ leBytes 8 (if d.timeReady then s.time else 0) ++ leBytes 4 pre ++ leBytes 4 (d.get 0x442300) ++ zeros 4
  let d := ((d.putBlob 0x443000 b).inc 0x442200).raise 88
  let d := d.modPer (fun p => { p with part := none, cool := assocPut ph (d.now + d.get 0x441800 * 1000000) p.cool })
  let c := d.get (key 0x4411 ph)
  let d := if bit c 2 then d.wakeOutOn else d
  if bit c 1 && d.mode = 3 then d.modPer (fun p => { p with wakeReq := some 0 }) else d

/-- Of two detections on one frame the higher score is reported, the lower phrase number in a tie. -/
def bestPhrase : List PhraseScore → Option PhraseScore
  | [] => none
  | s :: t => match bestPhrase t with
    | none => some s
    | some u => if u.full > s.full || (u.full = s.full && u.phrase < s.phrase) then some u else some s

/-- The phrase of the highest prefix score. -/
def bestPrefix : List PhraseScore → Option PhraseScore
  | [] => none
  | s :: t => match bestPrefix t with
    | none => some s
    | some u => if u.pre > s.pre then some u else some s

/-- One embedding frame of the matcher (R254): whether a partial match was resolved, and the part. -/
def Dev.perMatch (scores : List PhraseScore) (d : Dev) : Bool × Dev :=
  let en := scores.filter (fun s => s.phrase < 8 && d.bitOf (key 0x4411 s.phrase) 0)
  let pt := d.get 0x441400
  let best := bestPrefix en
  let high : Bool := match best with | some s => decide (s.pre ≥ pt) | none => false
  let d := match d.per.part, best with
    | none, some s => if high then d.modPer (fun p => { p with part := some { phrase := s.phrase, start := p.frame, low := 0 } }) else d
    | some x, _ => d.modPer (fun p => { p with part := some { x with low := if high then 0 else x.low + 1 } })
    | none, none => d
  let det := en.filter (fun s => s.full ≥ d.get (key 0x4412 s.phrase))
  let cooling := fun (s : PhraseScore) => match assoc s.phrase d.per.cool with | some t => decide (d.now < t) | none => false
  match bestPhrase (det.filter (fun s => !cooling s)) with
  | some s => (d.per.part.isSome, d.perDetect s)
  | none => match d.per.part with
    | some x =>
      if !det.isEmpty || x.low ≥ 30 || d.per.frame - x.start ≥ 250 then
        (true, (d.modPer (fun p => { p with part := none })).inc 0x442400)
      else (false, d)
    | none => (false, d)

/-! Enrolment (R260) -/

/-- ENROL_STATUS with its fields. -/
def enrolStatus (count slot result : Nat) (busy : Bool) : Nat := count + 16 * slot + 256 * result + 4096 * b2n busy

/-- An enrolment ends with a result and EV91. -/
def Dev.enrolEnd (result : Nat) (d : Dev) : Dev :=
  match d.per.enrol with
  | some (slot, _) =>
    let d := d.modPer (fun p => { p with enrol := none })
    (d.put 0x444100 (enrolStatus (fld (d.get 0x444100) 3 0) slot result false)).raise 91
  | none => d

/-- Enrolment of a phrase starts: a partial match in progress is abandoned (Table 10-12). -/
def Dev.enrolStart (ph : Nat) (d : Dev) : Dev :=
  let d := d.perAbandon
  let d := d.modPer (fun p => { p with enrol := some (ph, d.now) })
  d.put 0x444100 (enrolStatus 0 ph 0 true)

/-- A template takes a slot: `4442.0p` and `4443.0p`; a partial match on the phrase is abandoned (Table 10-12). -/
def Dev.templateSet (ph : Nat) (b : List Byte) (valid : Bool) (d : Dev) : Dev :=
  let d := d.putBlob (key 0x4442 ph) b
  (d.put (key 0x4443 ph) (if valid then Config.templateFrames b % 65536 + 65536 else 0)).perAbandonOn ph

/-- An utterance that ended during an enrolment is accepted when it lasted 0.4 s to 1.5 s (R260). -/
def Dev.enrolHear (ms : Nat) (d : Dev) : Dev :=
  match d.per.enrol with
  | some (slot, _) =>
    if 400 ≤ ms && ms ≤ 1500 then
      let d := d.modPer (fun p => { p with enrol := some (slot, d.now) })
      (d.put 0x444100 (enrolStatus (min 15 (fld (d.get 0x444100) 3 0 + 1)) slot 0 true)).raise 91
    else d
  | none => d

/-- 10 s without an accepted utterance end an enrolment with result 3. -/
def Dev.enrolTimeout (d : Dev) : Dev :=
  match d.per.enrol with
  | some (_, t) => if t + 10000000000 ≤ d.now then d.enrolEnd 3 else d
  | none => d

/-- The three utterances have been checked and averaged (R260): stored with result 1, inconsistent with 2, or the store failed with 5. Slot p changes only when the store succeeds. -/
def Dev.enrolStored (result : Nat) (b : List Byte) (d : Dev) : Dev :=
  match d.per.enrol with
  | some (slot, _) =>
    if fld (d.get 0x444100) 3 0 < 3 then d
    else
      let d := if result = 1 then d.templateSet slot b true else d
      d.enrolEnd (if result = 1 || result = 2 then result else 5)
  | none => d

/-! The history buffer (R251 to R253) -/

/-- History channels used, in order. -/
def Dev.histChans (d : Dev) : List Nat := ((upto 8).map (fun h => d.inUse (key 0x4407 h))).filter (· != 255)

/-- A sample of a beam (R248): the weighted sum of delayed microphones, saturated; `lines` hold each microphone's samples, newest first. -/
def Dev.beamRaw (d : Dev) (b : Nat) (lines : List (List Int)) : Int :=
  let s := (upto 8).foldl (fun (a : Int) m => a + toInt 32 (d.inUse (key (0x4404 + b) m)) * nthD 0 (nthD [] lines m) (d.inUse (key (0x4402 + b) m))) 0
  roundDiv s (2 ^ 28)

/-- A microphone's sample as the beams and the history take it: 0 where it is not listened to or its line is stuck (R250). -/
def Dev.micSample (d : Dev) (f : List Nat) (m : Nat) : Int :=
  if bit d.listenMics m && !d.bitOf 0x442600 m then toInt 32 (nthD 0 f m) else 0

/-- The frames at the PDM clock ÷ 64 through the beams: for each frame the microphones' samples, both beams and the barge-in sample; whether a beam saturated; and the delay lines after. -/
def Dev.beamFrames (d : Dev) : List (List Nat) → List (List Int) → List (List Int) × Bool × List (List Int)
  | [], lines => ([], false, lines)
  | f :: t, lines =>
    let xs := (upto 8).map (d.micSample f)
    let lines := (upto 8).map (fun m => (nthD 0 xs m :: nthD [] lines m).take 64)
    let one := fun b => if b < d.inUse 0x440100 then d.beamRaw b lines else 0
    let y0 := one 0
    let y1 := one 1
    let (r, o, l) := d.beamFrames t lines
    ((xs ++ [satS 32 y0, satS 32 y1, toInt 32 (nthD 0 f 8)]) :: r, o || satS 32 y0 != y0 || satS 32 y1 != y1, l)

/-- The value of a history channel in a frame of eight microphones, two beams and a last input. -/
def histPick (src : Nat) (recv : List Int → Int) (f : List Int) : Int :=
  if src < 8 then nthD 0 f src else if src = 16 then nthD 0 f 8 else if src = 17 then nthD 0 f 9 else recv f

/-- DATA of a block (Table 10-3): the upper 16 bits of each value in format 1, the whole word in format 2. -/
def Dev.histData (d : Dev) (x : HistIn) (fast : List (List Int)) : Nat × List Byte :=
  let chans := d.histChans
  if d.inUse 0x440600 = 2 then
    let recv := fun f => if d.per.aec && !d.per.subst then nthD 0 f 10 else nthD 0 f (8 + d.inUse 0x440800)
    (fast.length, fast.flatMap (fun f => chans.flatMap (fun c => leBytes 4 (ofInt 32 (histPick c recv f)))))
  else
    let slow := x.low.map (fun f => (upto 8).map (d.micSample f) ++ [toInt 32 (nthD 0 f 8), toInt 32 (nthD 0 f 9), toInt 32 (nthD 0 f 10)])
    (slow.length, slow.flatMap (fun f => chans.flatMap (fun c => leBytes 2 (ofInt 32 (histPick c (fun g => nthD 0 g 10) f) / 65536))))

/-- Microphones of the set that settle or are stuck during the block in progress. -/
def Dev.perSettling (d : Dev) : Bool :=
  (upto 8).any (fun m => bit d.listenMics m && (d.bitOf 0x442600 m || (match assoc m d.per.settle with | some t => decide (t > d.per.blockAt) | none => false)))

/-- GEN of 4452.00 changes with the block it names (R38, R252). -/
def Dev.histGen (d : Dev) : Dev := { d with st := { d.st with gen := assocPut 0x445200 ((d.genOf 0x445200 + 1) % 65536) d.st.gen } }

/-- EV92, at most once per 100 ms. -/
def Dev.ev92 (d : Dev) : Dev :=
  let quiet : Bool := match d.per.ev92 with | some t => decide (d.now < t + 100000000) | none => false
  if quiet then d else (d.modPer (fun p => { p with ev92 := some d.now })).raise 92

/-- A completed block enters the ring of 200; one it overwrites while HIST_READ_SEQ names it moves the pointer to the oldest held, counted in 4454.00 (R252). -/
def Dev.histStore (b : HBlock) (d : Dev) : Dev :=
  let ring := d.per.ring ++ [b]
  let d := (d.modPer (fun p => { p with ring := ring })).put 0x445000 ((b.seq + 1) % 2 ^ 32)
  match ring with
  | x :: t =>
    if ring.length ≤ 200 then d
    else
      let d := d.modPer (fun p => { p with ring := t })
      if d.get 0x445100 = x.seq then (((d.put 0x445100 d.histOldest).inc 0x445400).histGen).ev92 else d
  | [] => d

/-- The header of a block. -/
def histHeader (seq time frames flags chans : Nat) : List Byte := leBytes 4 seq ++ leBytes 8 time ++ leBytes 2 frames ++ leBytes 1 flags ++ leBytes 1 chans

/-- The block in progress completes (R251): it is stored where HIST_FORMAT records, and the next one begins. -/
def Dev.histEnd (x : HistIn) (d : Dev) : Dev :=
  let (fast, sat, lines) := d.beamFrames x.mics d.per.lines
  let (n, data) := d.histData x fast
  let p := d.per
  let flags := b2n p.gap + 2 * b2n d.clk.hldAt.isSome + 4 * b2n p.syn + 8 * b2n (p.ovr || x.ovr || sat) + 16 * b2n p.rate44 + 32 * b2n d.perSettling
    + 64 * b2n p.heardAec + 128 * b2n p.heardSubst
  let d := if d.inUse 0x440600 = 0 then d
    else d.histStore { seq := d.get 0x445000, bytes := histHeader (d.get 0x445000) p.blockTime n flags d.histChans.length ++ data }
  d.modPer (fun p => { p with lines := lines, gap := false, syn := false, ovr := false, rate44 := p.nextRate44, blockTime := d.stamp, blockAt := d.now, heardAec := p.aec && !p.subst, heardSubst := p.subst, settle := p.settle.filter (fun e => e.2 > d.now) })

/-- The block at HIST_READ_SEQ, or the header alone with FRAMES 0 at the live edge (R252). -/
def Dev.histBytes (d : Dev) : List Byte :=
  let r := d.get 0x445100
  match d.per.ring.find? (fun b => b.seq == r) with
  | some b => b.bytes
  | none => histHeader (d.get 0x445000) d.per.blockTime 0 0 d.histChans.length

/-- The segment that ends at the block's size has been read: HIST_READ_SEQ advances (R252). -/
def Dev.histAdvance (d : Dev) : Dev :=
  let r := d.get 0x445100
  if d.per.ring.any (fun b => b.seq == r) then (d.put 0x445100 ((r + 1) % 2 ^ 32)).histGen else d

/-- A 10 ms history block completes, and with it an embedding frame (R251, R254): the block, the matcher, the switch of input, an enrolment's utterance, and a listening set that waits for this boundary (R249). -/
def Dev.perBlock (x : HistIn) (d : Dev) : Dev :=
  if !d.per.on || (!d.per.media && !d.per.xtal) || d.mode = 10 then d
  else
    let settling := d.perSettling
    let live := d.get 0x441000 = 1 && !d.recSuspended && !settling && d.per.enrol.isNone
    let d := d.modPer (fun p => { p with rawQuiet := if x.rawQuiet then min 20 (p.rawQuiet + 1) else 0, aecQuiet := if x.aecQuiet then min 20 (p.aecQuiet + 1) else 0 })
    let d := d.histEnd x
    let (resolved, d) := if live then d.perMatch x.scores else (false, d)
    let d := d.perSwitch resolved
    let d := match x.utter with | some ms => d.enrolHear ms | none => d
    let d := d.modPer (fun p => { p with frame := p.frame + 1 })
    if d.per.setPend then (d.perAbandon.perUse).raise 94 else d

/-! Clock, crystal and stuck lines (R246, R247, R250) -/

/-- The Perimeter moves between the crystal and fm ÷ 16 (R246): EV93, the block in which the switch falls carries SYN, and in the 44.1 kHz family it ends at the switch and the next one carries the new rate. -/
def Dev.perClock (media : Bool) (d : Dev) : Dev :=
  if !d.per.on || d.per.media = media then d
  else
    let r44 := media && d.get 0x210000 % 2 = 0
    let d := d.modPer (fun p => { p with media := media, syn := true, nextRate44 := r44 })
    d.raise 93

/-- The crystal clock is lost in a mode that uses it (R247). -/
def Dev.perCrystalLoss (d : Dev) : Dev :=
  if !d.per.xtal then d
  else
    let d := d.modPer (fun p => { p with xtal := false })
    if d.per.on && !d.per.media then (d.perAbandon.pdmApply).raise 93 else d

/-- The crystal has run for 5 ms (R247): the clocks restart, the next block carries GAP, its microphones settle, and the recogniser resumes at the end of PDM_WAKE. -/
def Dev.perCrystalReturn (d : Dev) : Dev :=
  if d.per.xtal then d
  else
    let d := d.modPer (fun p => { p with xtal := true })
    if d.per.on && !d.per.media then
      let d := d.modPer (fun p => { p with gap := true, suspUntil := d.now + d.pdmWake, blockTime := d.stamp, blockAt := d.now })
      (d.perSettle 3).pdmApply.raise 93
    else d

/-- A listening microphone's line stays constant or toggles again for 1 ms (R250). -/
def Dev.perStuck (m : Nat) (stuck : Bool) (d : Dev) : Dev :=
  if m < 8 && bit d.listenMics m && d.pdmRuns (d.lineClk (m / 2)) && d.bitOf 0x442600 m != stuck then
    let d := d.putBit 0x442600 m stuck
    let d := if stuck then d else d.modPer (fun p => { p with settle := assocPut m (d.now + d.pdmWake) p.settle })
    d.raise 94
  else d

/-! Power, SERVICE and reset (Table 10-1, R265) -/

/-- The Perimeter domain is powered up at step 4 of Table 3-7: SEQ starts from 0, the committed listening set is in use. -/
def Dev.perPowerUp (d : Dev) : Dev :=
  let d := { d with per := { ({} : Per) with on := true, xtal := d.per.xtal, wakeOut := d.per.wakeOut, wakeEnd := d.per.wakeEnd, blockTime := d.stamp, blockAt := d.now } }
  let d := d.does [Dev.put 0x445000 0, Dev.put 0x445100 0, Dev.put 0x442600 0]
  d.perUse

/-- The domain loses power: a partial match is abandoned and counted first (R264), an enrolment is cancelled, and its contents are lost. -/
def Dev.perPowerDown (d : Dev) : Dev :=
  let d := d.perAbandon
  let d := d.enrolEnd 4
  { d with per := { ({} : Per) with xtal := d.per.xtal, wakeOut := d.per.wakeOut, wakeEnd := d.per.wakeEnd, ev92 := d.per.ev92 } }

/-- A step into UPDATE or SERVICE: a partial match is abandoned and an enrolment cancelled; SERVICE clears the history buffer (Tables 10-1, 10-12). -/
def Dev.perService (clear : Bool) (d : Dev) : Dev :=
  let d := d.perAbandon.enrolEnd 4
  if clear then
    let d := d.modPer (fun p => { p with ring := [], lines := [] })
    (d.put 0x445100 (d.get 0x445000)).histGen
  else d

/-- A DOMAIN reset of PERIMETER: the buffer restarts with GAP and SEQ continuing (Table 10-12). -/
def Dev.perReset (d : Dev) : Dev :=
  let d := d.perAbandon.enrolEnd 4
  let p := d.per
  let d := { d with per := { ({} : Per) with on := true, xtal := p.xtal, media := p.media, rate44 := p.nextRate44, nextRate44 := p.nextRate44, gap := true, wakeOut := p.wakeOut, wakeEnd := p.wakeEnd, ev92 := p.ev92,
                                             blockTime := d.stamp, blockAt := d.now } }
  (d.put 0x445100 (d.get 0x445000)).histGen.perUse

/-! Objects of 4400h to 44FFh -/

/-- Values computed when they are read. -/
def Dev.perValue (d : Dev) (k : Nat) : Option Nat :=
  if k = 0x442000 then some d.recState
  else if k = 0x442100 then some (b2n d.per.aec + 2 * b2n (d.per.avail != d.per.aec) + 4 * b2n d.per.avail + 8 * b2n d.per.subst)
  else if k = 0x445300 then some d.histOldest
  else none

/-- The objects' own refusals. -/
def Dev.perCheck (d : Dev) (k v : Nat) (b : List Byte) : List Nat :=
  let i := k / 256
  if i = 0x4411 then errIf (bit v 0 && !d.bitOf (key 0x4443 (k % 256)) 16) eRange
  else if k = 0x441400 then errIf ((upto 8).any (fun p => d.bitOf (key 0x4411 p) 0 && v > d.get (key 0x4412 p))) eRange
  else if k = 0x445100 then
    let lo := d.histOldest
    errIf ((v + 2 ^ 32 - lo) % 2 ^ 32 > (d.get 0x445000 + 2 ^ 32 - lo) % 2 ^ 32) eRange
  else if k = 0x444000 then
    errIf (!(v < 8 || (0x80 ≤ v && v < 0x88) || v = 0xFF)) eRange ++ errIf (v < 8 && d.per.enrol.isSome) eBusy
  else if i = 0x4442 then errIf (!Config.templateOk b) eRange
  else []

/-- What a write does beside setting the value, `old` the value before. -/
def Dev.perWrite (k old v : Nat) (b : List Byte) (d : Dev) : Dev :=
  let i := k / 256
  let s := k % 256
  if i = 0x4411 || i = 0x4412 then (if old = v then d else d.perAbandonOn s)
  else if k = 0x441000 then (if v = 0 then d.perAbandon else d)
  else if k = 0x441600 then (if v = 0 then d.perAvail false else d)
  else if k = 0x445100 then (if old = v then d else d.histGen)
  else if k = 0x444000 then
    if v < 8 then d.enrolStart v
    else if v = 0xFF then d.enrolEnd 4
    else d.templateSet (v - 0x80) (zeros 3632) false
  else if i = 0x4442 then (d.put (key 0x4443 s) (Config.templateFrames b % 65536 + 65536)).perAbandonOn s
  else if k = 0x446000 then (if v = 0 then d.wakeOutOff else d)
  else if k = 0x446100 then (if v = 1 then d.wakeOutOff else d)
  else d

/-- A WAKE_OUT pulse ends after WAKE_OUT_WIDTH (R262). -/
def Dev.wakePulseEnd (d : Dev) : Dev :=
  match d.per.wakeEnd with
  | some t => if t ≤ d.now then d.wakeOutOff else d
  | none => d

/-- A commit of group 0x3C waits for the next history block boundary (R249). -/
def Dev.listenCommit (d : Dev) : Dev := if d.per.on then d.modPer (fun p => { p with setPend := true }) else d

end Sys2Proof.Machine
end

