-- ==== Sys2Proof/Machine/Sha.lean ====
section
/-! DEFINITION. SHA-256, which R448 to R455 name and the spec does not write out: the function of FIPS 180-4 (assumption log 40). -/
namespace Sys2Proof.Machine

/-- The round constants: the first 32 bits of the fractions of the cube roots of the first 64 primes. -/
def shaK : List W32 :=
  [0x428A2F98, 0x71374491, 0xB5C0FBCF, 0xE9B5DBA5, 0x3956C25B, 0x59F111F1, 0x923F82A4, 0xAB1C5ED5,
    0xD807AA98, 0x12835B01, 0x243185BE, 0x550C7DC3, 0x72BE5D74, 0x80DEB1FE, 0x9BDC06A7, 0xC19BF174]
    ++ [0xE49B69C1, 0xEFBE4786, 0x0FC19DC6, 0x240CA1CC, 0x2DE92C6F, 0x4A7484AA, 0x5CB0A9DC, 0x76F988DA,
    0x983E5152, 0xA831C66D, 0xB00327C8, 0xBF597FC7, 0xC6E00BF3, 0xD5A79147, 0x06CA6351, 0x14292967]
    ++ [0x27B70A85, 0x2E1B2138, 0x4D2C6DFC, 0x53380D13, 0x650A7354, 0x766A0ABB, 0x81C2C92E, 0x92722C85,
    0xA2BFE8A1, 0xA81A664B, 0xC24B8B70, 0xC76C51A3, 0xD192E819, 0xD6990624, 0xF40E3585, 0x106AA070]
    ++ [0x19A4C116, 0x1E376C08, 0x2748774C, 0x34B0BCB5, 0x391C0CB3, 0x4ED8AA4A, 0x5B9CCA4F, 0x682E6FF3,
    0x748F82EE, 0x78A5636F, 0x84C87814, 0x8CC70208, 0x90BEFFFA, 0xA4506CEB, 0xBEF9A3F7, 0xC67178F2]

/-- The hash before the first block: the first 32 bits of the fractions of the square roots of the first 8 primes. -/
def shaInit : List W32 := [0x6A09E667, 0xBB67AE85, 0x3C6EF372, 0xA54FF53A, 0x510E527F, 0x9B05688C, 0x1F83D9AB, 0x5BE0CD19]

/-- The message padded to whole blocks: a byte 0x80, zeros, and its length in bits, most significant byte first. -/
def shaPad (b : List Byte) : List Byte :=
  b ++ [0x80#8] ++ zeros ((119 - b.length % 64) % 64) ++ (leBytes 8 (8 * b.length)).reverse

/-- Big-endian words of a list of bytes. -/
def shaWords : Nat → List Byte → List W32
  | 0, _ => []
  | n + 1, b => BitVec.ofNat 32 (leNat (slice 0 4 b).reverse) :: shaWords n (b.drop 4)

/-- One word more of the message schedule, kept newest first. -/
def shaNext (w : List W32) : List W32 :=
  let a := nthD 0#32 w 14
  let b := nthD 0#32 w 1
  let s0 := a.rotateRight 7 ^^^ a.rotateRight 18 ^^^ (a >>> 3)
  let s1 := b.rotateRight 17 ^^^ b.rotateRight 19 ^^^ (b >>> 10)
  (nthD 0#32 w 15 + s0 + nthD 0#32 w 6 + s1) :: w

/-- One round. -/
def shaRound (h : List W32) (kw : W32 × W32) : List W32 :=
  match h with
  | [a, b, c, d, e, f, g, x] =>
    let t1 := x + (e.rotateRight 6 ^^^ e.rotateRight 11 ^^^ e.rotateRight 25) + ((e &&& f) ^^^ (~~~e &&& g)) + kw.1 + kw.2
    let t2 := (a.rotateRight 2 ^^^ a.rotateRight 13 ^^^ a.rotateRight 22) + ((a &&& b) ^^^ (a &&& c) ^^^ (b &&& c))
    [t1 + t2, a, b, c, d + t1, e, f, g]
  | _ => h

/-- One block. -/
def shaBlock (h : List W32) (block : List Byte) : List W32 :=
  let w := (times shaNext 48 (shaWords 16 block).reverse).reverse
  List.zipWith (fun (a b : W32) => a + b) h ((shaK.zip w).foldl shaRound h)

/-- The blocks of a padded message in turn. -/
def shaBlocks : Nat → List W32 → List Byte → List W32
  | 0, h, _ => h
  | n + 1, h, b => shaBlocks n (shaBlock h (b.take 64)) (b.drop 64)

/-- The 32 bytes of SHA-256. -/
def sha256 (b : List Byte) : List Byte :=
  let p := shaPad b
  (shaBlocks (p.length / 64) shaInit p).flatMap (fun (w : W32) => (leBytes 4 w.toNat).reverse)

end Sys2Proof.Machine
end

