-- ==== Sys2Proof/Machine/Frames.lean ====
section
/-! DEFINITION. Frames as bytes: addresses, VLAN tags, IP and UDP fields, checksums and the PTP fields the switch reads (R148, R149, R164, R165). Bytes are without FCS. -/
namespace Sys2Proof.Machine

/-- The value of bytes sent most significant byte first, as frames carry fields. -/
def beNat (l : List Byte) : Nat := l.foldl (fun a b => a * 256 + b.toNat) 0

/-- `n` bytes of a value, most significant byte first. -/
def beBytes (n v : Nat) : List Byte := (leBytes n v).reverse

/-- The `n` bytes at an offset as a value, most significant first. -/
def beAt (o n : Nat) (l : List Byte) : Nat := beNat (slice o n l)

/-- Bytes replaced at an offset. -/
def patch (o : Nat) (new l : List Byte) : List Byte := l.take o ++ new ++ l.drop (o + new.length)

/-- Destination, source and EtherType of a frame without its tag. -/
def macDst (b : List Byte) : Nat := beAt 0 6 b
def macSrc (b : List Byte) : Nat := beAt 6 6 b
def etherType (b : List Byte) : Nat := beAt 12 2 b

/-- A group address: the first bit on the wire is set. -/
def macGroup (m : Nat) : Bool := bit m 40

/-- The broadcast address. -/
def macAll : Nat := 0xFFFFFFFFFFFF

/-- A frame's tag control field, if it is tagged, and the frame without the tag. -/
def untag (b : List Byte) : Option Nat × List Byte :=
  if etherType b = 0x8100 then (some (beAt 14 2 b), b.take 12 ++ b.drop 16) else (none, b)

/-- A frame with a VLAN tag of a PCP and VID. -/
def withTag (pcp vid : Nat) (b : List Byte) : List Byte := b.take 12 ++ beBytes 2 0x8100 ++ beBytes 2 (pcp * 8192 + vid) ++ b.drop 12

/-- An IP packet's fields: version, protocol, offset and length of what follows the headers, whether it is a fragment, and the header's length. -/
structure IpInfo where
  ver : Nat
  proto : Nat
  off : Nat
  len : Nat
  frag : Bool := false
  hdr : Nat := 40
  deriving DecidableEq, Repr

/-- The IPv6 extension headers hop-by-hop and destination options skipped (R164). -/
def ipv6Walk (b : List Byte) : Nat → Nat → Nat → Nat → IpInfo
  | 0, next, off, len => { ver := 6, proto := next, off := off, len := len }
  | n + 1, next, off, len =>
    if next = 0 || next = 60 then
      let h := (beAt (off + 1) 1 b + 1) * 8
      ipv6Walk b n (beAt off 1 b) (off + h) (len - h)
    else { ver := 6, proto := next, off := off, len := len }

/-- The IP packet of an untagged frame. -/
def ipOf (b : List Byte) : Option IpInfo :=
  if etherType b = 0x0800 then
    let h := beAt 14 1 b % 16 * 4
    some { ver := 4, proto := beAt 23 1 b, off := 14 + h, len := beAt 16 2 b - h, frag := beAt 20 2 b &&& 0x3FFF != 0, hdr := h }
  else if etherType b = 0x86DD then some (ipv6Walk b 4 (beAt 20 1 b) 54 (beAt 18 2 b))
  else none

/-- The destination port of a UDP or TCP packet. -/
def l4Port (proto : Nat) (b : List Byte) : Option Nat :=
  match ipOf b with
  | some p => if p.proto = proto && !p.frag then some (beAt (p.off + 2) 2 b) else none
  | none => none

/-! Checksums -/

/-- The sum of 16-bit words, most significant byte first, an odd last byte padded with 0. -/
def sum16 : List Byte → Nat
  | [] => 0
  | [a] => a.toNat * 256
  | a :: b :: t => a.toNat * 256 + b.toNat + sum16 t

/-- The one's complement checksum that makes a sum come to all ones. -/
def onesSum (s : Nat) : Nat := 0xFFFF - (if s = 0 then 0 else (s - 1) % 65535 + 1)

/-- The pseudo-header's sum. -/
def pseudoSum (p : IpInfo) (b : List Byte) : Nat :=
  (if p.ver = 4 then sum16 (slice 26 8 b) else sum16 (slice 22 32 b)) + p.proto + p.len % 65536 + p.len / 65536

/-- The offset of the checksum in a UDP or TCP header. -/
def l4SumAt (p : IpInfo) : Option Nat := if p.proto = 17 then some (p.off + 6) else if p.proto = 6 then some (p.off + 16) else none

/-- What the receive check finds (R164): IP header bad, layer 4 bad, layer 4 good. -/
def rxCheck (b : List Byte) : Bool × Bool × Bool :=
  match ipOf b with
  | none => (false, false, false)
  | some p =>
    let ipBad := p.ver = 4 && sum16 (slice 14 p.hdr b) % 65535 != 0
    match l4SumAt p with
    | none => (ipBad, false, false)
    | some o =>
      if p.frag || p.off + p.len > b.length then (ipBad, false, false)
      else if p.proto = 17 && beAt o 2 b = 0 then (ipBad, p.ver = 6, false)
      else
        let good := (pseudoSum p b + sum16 (slice p.off p.len b)) % 65535 = 0
        (ipBad, !good, good)

/-- The checksums a transmit descriptor asks for, computed (R164): extension headers other than hop-by-hop and destination options, and fragments, are sent unchanged. -/
def txCheck (csumIp csumL4 : Bool) (b : List Byte) : List Byte :=
  let (tci, u) := untag b
  match ipOf u with
  | none => b
  | some p =>
    let u := if csumIp && p.ver = 4 then
        let z := patch 24 (zeros 2) u
        patch 24 (beBytes 2 (onesSum (sum16 (slice 14 p.hdr z)))) z
      else u
    let u := match csumL4 && !p.frag && p.off + p.len ≤ u.length, l4SumAt p with
      | true, some o =>
        let z := patch o (zeros 2) u
        let c := onesSum (pseudoSum p z + sum16 (slice p.off p.len z))
        patch o (beBytes 2 (if c = 0 && p.proto = 17 then 0xFFFF else c)) z
      | _, _ => u
    match tci with
    | some t => withTag (t / 8192) (t % 4096) u
    | none => u

/-! PTP -/

/-- The offset of a PTP message in an untagged frame: EtherType 0x88F7, or UDP port 319 or 320. -/
def ptpAt (b : List Byte) : Option Nat :=
  if etherType b = 0x88F7 then some 14
  else match ipOf b, l4Port 17 b with
    | some p, some d => if d = 319 || d = 320 then some (p.off + 8) else none
    | _, _ => none

/-- An event message: Sync, Delay_Req, Pdelay_Req or Pdelay_Resp. -/
def ptpEvent (b : List Byte) : Bool := match ptpAt b with | some o => beAt o 1 b % 16 < 4 | none => false

/-- The residence of an event message added to correctionField by the transparent clock (R118, R165): the UDP checksum is 0 over IPv4 and kept by the trailer over IPv6. The flag tells whether the
frame was left uncorrected for want of a trailer. -/
def ptpCorrect (resid : Nat) (b : List Byte) : List Byte × Bool :=
  match ptpAt b with
  | none => (b, false)
  | some o =>
    let old := slice (o + 8) 8 b
    let new := beBytes 8 ((beNat old + resid * 65536) % 2 ^ 64)
    let c := patch (o + 8) new b
    match ipOf b with
    | none => (c, false)
    | some p =>
      if p.ver = 4 then (patch (p.off + 6) (zeros 2) c, false)
      else
        let m := beAt (o + 2) 2 b
        if beAt (p.off + 4) 2 b < 8 + m + 2 then (b, true)
        else
          let t := o + m
          let sw := fun (v : Nat) => if m % 2 = 0 then v else v % 256 * 256 + v / 256
          let diff := sum16 old + 4 * 65535 - sum16 new
          let v := (sw (beAt t 2 b) + diff) % 65535
          (patch t (beBytes 2 (sw v)) c, false)

end Sys2Proof.Machine
end

