-- ==== Sys2Proof/Machine/Net.lean ====
section
/-! DEFINITION. Ethernet ports, switch and endpoint (R142 to R169): links, classification and forwarding, gate lists, shapers, pause, frame ledgers, rings, timestamps and launch. -/
namespace Sys2Proof.Machine

/-! Ports -/

def Dev.port (d : Dev) (p : Nat) : NetPort := nthD {} d.net.ports p
def Dev.modPort (p : Nat) (f : NetPort → NetPort) (d : Dev) : Dev := { d with net := { d.net with ports := modNth f d.net.ports p } }
def Dev.ring (d : Dev) (r : Nat) : Ring := nthD {} d.net.rings r
def Dev.modRing (r : Nat) (f : Ring → Ring) (d : Dev) : Dev := { d with net := { d.net with rings := modNth f d.net.rings r } }

/-- The link code of a port, coded as 3002.00; E has no link and runs at 1 Gb/s. -/
def Dev.linkOf (d : Dev) (p : Nat) : Nat := if p = 0 then d.get 0x300200 else if p = 1 then d.get 0x310300 else 3

/-- The link rate in kb/s of a link code. -/
def linkRate (c : Nat) : Nat := nthD 1000000 [1000000, 10000, 100000, 1000000] c

/-- PR of R153: the link rate, or 1 000 000 kb/s while the link is down. -/
def Dev.portRate (d : Dev) (p : Nat) : Nat := linkRate (d.linkOf p)

/-- Nanoseconds that a number of byte times takes on a port. -/
def Dev.byteTimes (d : Dev) (p n : Nat) : Nat := ceilDiv (n * 8 * 1000000) (d.portRate p)

/-- The length of a frame on the wire, FCS included, padded to 64 bytes. -/
def wireLen (b : List Byte) : Nat := max 60 b.length + 4

/-! Frame ledgers (R157) -/

def Dev.ingress (p f : Nat) (d : Dev) : Dev := d.add64 (key (0x3230 + p) f) 1
def Dev.egress (p f : Nat) (d : Dev) : Dev := d.add64 (key (0x3234 + p) f) 1

/-- An FCS, RUNT or JABBER frame: counted, and EV42 at the first rise since the count was read (Table 6-16). -/
def Dev.badFrame (p f : Nat) (d : Dev) : Dev :=
  let d := d.ingress p f
  if bit (d.port p).bad f then d else (d.modPort p (fun n => { n with bad := setBit n.bad f true })).raise 42

/-! Rings (R159 to R163) -/

/-- EV40 or EV41 for a descriptor that enters the reap queue of a host ring (R163). -/
def Dev.ringEvent (r : Nat) (x : Desc) (d : Dev) : Dev :=
  if r < 2 then d.raise 41 else if r < 4 && bit x.status 2 then d.raise 40 else d

/-- Descriptors returned: each enters the reap queue, which holds as many as the ring, and counts as RETURNED when it does. -/
def Dev.ringReturn (r : Nat) (l : List Desc) (d : Dev) : Dev :=
  if r ≥ 4 then d.add64 (key (0x3310 + r) 9) l.length
  else l.foldl (fun (a : Dev) x =>
    let a := a.modRing r (fun g => { g with posted := g.posted.filter (fun y => y.serial != x.serial), taken := g.taken.filter (fun y => y != x.serial),
                                            reap := g.reap ++ [x] })
    let a := if (a.ring r).reap.length = 1 then a.genUp (key 0x3331 r) else a
    if (a.ring r).reap.length ≤ a.get (key (0x3310 + r) 0) then (a.add64 (key (0x3310 + r) 9) 1).ringEvent r x else a) d

/-- Descriptors returned with status bits added to DONE. -/
def Dev.ringDone (r status : Nat) (l : List Desc) (d : Dev) : Dev := d.ringReturn r (l.map (fun x => { x with status := x.status ||| 1 ||| status }))

/-- A return with FLUSHED, without DONE: unsent or unfilled (R163). -/
def Dev.ringFlushed (r : Nat) (l : List Desc) (d : Dev) : Dev := d.ringReturn r (l.map (fun x => { x with status := x.status ||| 16 }))

/-- The 24 bytes of a returned descriptor (Table 6-10). -/
def Desc.bytes (r : Nat) (x : Desc) : List Byte :=
  leBytes 1 x.buf ++ leBytes 1 x.control ++ leBytes 1 x.port ++ leBytes 1 r ++ leBytes 2 x.len ++ leBytes 2 x.status ++ leBytes 2 x.tsRef ++ leBytes 2 x.serial
    ++ zeros 4 ++ leBytes 8 x.time

/-- The oldest returned descriptor, removed; one that waited for room in the reap queue enters it. -/
def Dev.reap (r : Nat) (d : Dev) : List Byte × Dev :=
  match (d.ring r).reap with
  | [] => (zeros 24, d)
  | x :: t =>
    let size := d.get (key (0x3310 + r) 0)
    let d := (d.modRing r (fun g => { g with reap := t })).genUp (key 0x3331 r)
    let d := match (if t.length ≥ size then t.drop (size - 1) else []) with
      | y :: _ => (d.add64 (key (0x3310 + r) 9) 1).ringEvent r y
      | [] => d
    (x.bytes r, d)

/-- A talker packet sent, or lost: its frames move from HELD to DELIVERED or DROPPED (R195, Table 7-7). -/
def Dev.talkerSent (n frames seq : Nat) (d : Dev) : Dev :=
  let d := (d.add64 (key (0x3400 + n) 0x23) frames).add64 (key (0x3400 + n) 0x29) 1
  { d with str := { d.str with tx := modNth (fun t => { t with launched := seq }) d.str.tx n } }
def Dev.talkerLost (n frames : Nat) (d : Dev) : Dev := ((d.add64 (key (0x3400 + n) 0x21) frames).inc (key (0x3400 + n) 0x2A)).raise 55

/-- A frame leaves the endpoint without being sent: its descriptors return with the status given, and a talker's packet is lost. -/
def Dev.frameLost (flush : Bool) (status : Nat) (f : QFrame) (d : Dev) : Dev :=
  let d := match f.ring with
    | some r => if flush then d.ringFlushed r f.chain else d.ringDone r status f.chain
    | none => d
  match f.talker with
  | some n => d.talkerLost n f.frames
  | none => d

/-! Timestamp queues (R166) -/

/-- A timed frame passes its timestamp point: one record, or LOST with EV44 when the queue is full; the flag tells that it was lost. The PTP clock removes its own records at once. -/
def Dev.timed (q time epoch ref kind : Nat) (host : Bool) (d : Dev) : Bool × Dev :=
  let d := d.add64 (key 0x3353 q) 1
  let l := nthD [] d.net.ts q
  if l.length ≥ 64 then (true, (d.add64 (key 0x3352 q) 1).raise 44)
  else if host then
    (false, ({ d with net := { d.net with ts := modNth (fun l => l ++ [{ time := time, epoch := epoch, ref := ref, kind := kind }]) d.net.ts q } } : Dev).raise 45 |>.when l.isEmpty (Dev.genUp (key 0x3350 q)))
  else (false, d)

/-- The oldest host timestamp record of a queue, removed (Table 6-13). -/
def Dev.tsRead (q : Nat) (d : Dev) : List Byte × Dev :=
  match nthD [] d.net.ts q with
  | [] => (zeros 16, d)
  | x :: t => (leBytes 8 x.time ++ leBytes 4 x.epoch ++ leBytes 2 x.ref ++ leBytes 1 x.kind ++ zeros 1, ({ d with net := { d.net with ts := modNth (fun _ => t) d.net.ts q } } : Dev).genUp (key 0x3350 q))

/-! Gate lists (R150 to R152) -/

/-- The gate list of a set of values. -/
def gListOf (p : Nat) (v : Nat → Nat) : GList :=
  { enable := v (key (0x3210 + p) 3) != 0, base := v (key (0x3210 + p) 0), cycle := v (key (0x3210 + p) 1),
    entries := (upto (v (key (0x3210 + p) 2))).map (fun e => let x := v (key (0x3218 + p) e); (fld x 7 0, fld x 39 8)) }

/-- The rule of groups 0x08 to 0x0A (R150): the first relation that fails. -/
def Dev.ruleGate (d : Dev) (p : Nat) (v : Nat → Nat) : Option Nat :=
  let g := gListOf p v
  let n := v (key (0x3210 + p) 2)
  if g.enable && !(1 ≤ n && n ≤ 256) then some 0
  else if g.enable && (g.entries.map (·.2)).sum != g.cycle then some 1
  else if !(1000 ≤ g.cycle && g.cycle ≤ 1000000000) || (g.enable && g.entries.any (fun e => e.2 < 64)) then some 2
  else if g.base ≠ 0 && g.base < (if d.timeReady then d.get 0x220300 else 0) then some 3
  else none

/-- A commit of a gate group loads the committed set as the pending list (R151). -/
def Dev.gateCommit (p : Nat) (d : Dev) : Dev :=
  d.modPort p (fun n => { n with pend := some (gListOf p d.get, d.now) })

/-- The start S of a pending list (R151): BASE_TIME + k × CYCLE_TIME, the first at least 1 us after the commit; none while it waits for GATE_SWAP. -/
def Dev.gateStartAt (d : Dev) (g : GList) (commit : Nat) : Option Nat :=
  if g.base = 0 then none
  else
    let t := d.time64 - (d.now - commit) + 1000
    some (g.base + (if t ≤ g.base then 0 else ceilDiv (t - g.base) g.cycle * g.cycle))

/-- A list becomes the operating list at a counter value: the old entry is cut short and EV36 raised (R151). -/
def Dev.gateStart (p base : Nat) (g : GList) (d : Dev) : Dev :=
  let first := match g.entries with | e :: _ => e.2 | [] => 0
  let d := d.modPort p (fun n => { n with oper := { g with base := base }, pend := none, entry := 0, nextAt := base + first })
  (d.put (key 0x3214 p) base).raise 36

/-- A pending list whose start has come. -/
def Dev.gateListStart (p : Nat) (d : Dev) : Dev :=
  match (d.port p).pend with
  | some (g, c) => match d.gateStartAt g c with
    | some s => if s ≤ d.time64 then d.gateStart p s g else d
    | none => d
  | none => d

/-- A GATE_SWAP action (R151): with no pending list it changes nothing and counts in 3214.03, EV37. -/
def Dev.gateSwap (p : Nat) (d : Dev) : Dev :=
  match (d.port p).pend with
  | some (g, _) => d.gateStart p d.time64 g
  | none => (d.inc 0x321403).raise 37

/-- The interval of an entry ends and the next entry's gate states take effect (R152). -/
def Dev.gateEntry (p : Nat) (d : Dev) : Dev :=
  let n := d.port p
  if n.oper.enable && n.nextAt ≤ d.time64 then
    let e := if n.entry + 1 < n.oper.entries.length then n.entry + 1 else 0
    d.modPort p (fun n => { n with entry := e, nextAt := n.nextAt + (nthD (255, 0) n.oper.entries e).2 })
  else d

/-- The entry and its end that a phase within the cycle falls in. -/
def gatePlace : List (Nat × Nat) → Nat → Nat → Nat → Nat × Nat
  | [], _, i, t => (i - 1, t)
  | (_, w) :: r, ph, i, t => if ph < w then (i, t + w - ph) else gatePlace r (ph - w) (i + 1) t

/-- The operating list at an epoch step goes on from the entry its base and cycle place at the new counter value (Table 6-15). -/
def Dev.gateEpoch (d : Dev) : Dev :=
  (upto 3).foldl (fun (a : Dev) p =>
    let n := a.port p
    if n.oper.enable && n.oper.cycle ≠ 0 then
      let ph := (((a.time64 : Int) - n.oper.base) % n.oper.cycle).toNat
      let (e, t) := gatePlace n.oper.entries ph 0 a.time64
      a.modPort p (fun n => { n with entry := e, nextAt := t })
    else a) d

/-- GATE_STATUS (Table 6-4). -/
def Dev.gateStatus (d : Dev) (p : Nat) : Nat :=
  let n := d.port p
  b2n n.pend.isSome + 2 * b2n n.oper.enable + (n.entry % 256) * 256

/-- The gate of a class is open in gate states `g`. -/
def NetPort.gateOpen (n : NetPort) (tc : Nat) : Bool := !n.oper.enable || bit (nthD (255, 0) n.oper.entries n.entry).1 tc

/-- The time for which a class's gate stays open over the entries from one on. -/
def openRun (tc : Nat) : List (Nat × Nat) → Nat → Nat
  | [], t => t
  | (g, w) :: r, t => if bit g tc then openRun tc r (t + w) else t

/-- The gate of a class closes after this many ns; none if it never closes (R152). -/
def NetPort.closesIn (n : NetPort) (tc now : Nat) : Option Nat :=
  if !n.oper.enable || n.oper.entries.all (fun e => bit e.1 tc) then none
  else if !n.gateOpen tc then some 0
  else some (openRun tc (n.oper.entries.drop (n.entry + 1) ++ n.oper.entries) (n.nextAt - now))

/-- The longest open window of a class in an operating list, joined across cycles; none if the gate never closes. -/
def GList.longest (g : GList) (tc : Nat) : Option Nat :=
  if !g.enable || g.entries.all (fun e => bit e.1 tc) then none
  else some ((upto g.entries.length).foldl (fun m i => max m (openRun tc ((g.entries ++ g.entries).drop i) 0)) 0)

/-! Shapers (R153 to R155) -/

/-- The limits in bits of classes A and B for a set and a rate: HI_A, LO_A, HI_B, LO_B, each rounded toward 0. -/
def shaperLimits (ia ib ma mb pr : Nat) : Int × Int × Int × Int :=
  let hiA : Int := (12176 * ia / pr : Nat)
  let loA : Int := -((8 * ma * (pr - ia) / pr : Nat) : Int)
  let hiB : Int := if pr ≤ ia then 0 else (ib * (12176 * pr + 8 * ma * (pr - ia)) / ((pr - ia) * pr) : Nat)
  let loB : Int := -((8 * mb * (pr - ib) / pr : Nat) : Int)
  (hiA, loA, hiB, loB)

/-- Relation 0 of R153. -/
def shaperFits (ia ib pr : Nat) : Bool := 4 * (ia + ib) ≤ 3 * pr

/-- The rule of groups 0x0C to 0x0E (R153). -/
def Dev.ruleShaper (d : Dev) (p : Nat) (v : Nat → Nat) : Option Nat :=
  let k := key (0x3220 + p)
  if !shaperFits (v (k 0)) (v (k 1)) (d.portRate p) then some 0
  else if !(64 ≤ v (k 2) && v (k 2) ≤ 1522 && 64 ≤ v (k 3) && v (k 3) ≤ 1522) then some 1
  else none

/-- The limits recomputed, and classes A and B suspended where relation 0 fails at the rate of a link that is up, with EV38 (R155). -/
def Dev.shaperSet (p : Nat) (d : Dev) : Dev :=
  let k := key (0x3220 + p)
  let pr := d.portRate p
  let (ha, la, hb, lb) := shaperLimits (d.get (k 0)) (d.get (k 1)) (d.get (k 2)) (d.get (k 3)) pr
  let d := d.does [Dev.putI 32 (k 4) ha, Dev.putI 32 (k 5) la, Dev.putI 32 (k 6) hb, Dev.putI 32 (k 7) lb]
  let bad := d.linkOf p ≠ 0 && !shaperFits (d.get (k 0)) (d.get (k 1)) pr
  let was := (d.port p).susp
  let d := d.modPort p (fun n => { n with susp := if d.linkOf p = 0 then was else bad })
  if bad && !was then d.raise 38 else d

/-- A commit of a shaper group ends a suspension unless relation 0 fails (R155). -/
def Dev.shaperCommit (p : Nat) (d : Dev) : Dev := (d.modPort p (fun n => { n with susp := false })).shaperSet p

/-- The idleSlope of a class on a port, 0 for an unshaped class. -/
def Dev.idleOf (d : Dev) (p tc : Nat) : Nat := if tc = 6 then d.get (key (0x3220 + p) 0) else if tc = 5 then d.get (key (0x3220 + p) 1) else 0

/-- A class that PAUSE stops now (R146). -/
def Dev.pausedTc (d : Dev) (p tc : Nat) : Bool :=
  p = 1 && (match d.net.pauseEnd with | some t => decide (d.now < t) | none => false) && bit (d.get 0x310500) tc

/-- EV38, at most once per ms for a port (R154). -/
def Dev.ev38 (p : Nat) (d : Dev) : Dev :=
  match (d.port p).ev38 with
  | some t => if d.now < t + 1000000 then d else (d.modPort p (fun n => { n with ev38 := some d.now })).raise 38
  | none => (d.modPort p (fun n => { n with ev38 := some d.now })).raise 38

/-- One tick of a class's credit in 10^-6 bit (R154): at IDLE while frames wait, at IDLE - PR while one is transmitted, set to 0 where the queue is empty and the credit positive, frozen while the gate is closed or the class paused; the
bound that held it, 1 high and 2 low. -/
def creditTick (idle pr : Nat) (hi lo : Int) (waits sends frozen : Bool) (c : Int) : Int × Nat :=
  if idle = 0 then (0, 0)
  else if frozen then (c, 0)
  else if !waits && !sends then (if c > 0 then 0 else c, 0)
  else
    let n := if sends then c + ((idle : Int) - pr) * 4 else c + (idle * 4 : Nat)
    if n > hi * 1000000 then (hi * 1000000, 1) else if n < lo * 1000000 then (lo * 1000000, 2) else (n, 0)

/-- The credit of class A or B of a port at a tick, and its clamp counts (R154). -/
def Dev.shaperTick (p tc : Nat) (d : Dev) : Dev :=
  let n := d.port p
  let idle := d.idleOf p tc
  if idle = 0 then d
  else
    let k := key (0x3220 + p)
    let b := if tc = 6 then 0 else 1
    let sends := match n.tx with | some (f, _) => f.cls == tc | none => false
    let waits := n.q.any (fun f => f.cls == tc)
    let frozen := !sends && (!n.gateOpen tc || d.pausedTc p tc)
    let (c, held) := creditTick idle (d.portRate p) (d.getI 32 (k (4 + 2 * b))) (d.getI 32 (k (5 + 2 * b))) waits sends frozen (if tc = 6 then n.crA else n.crB)
    let d := d.modPort p (fun n => if tc = 6 then { n with crA := c } else { n with crB := c })
    if held = 0 then d else (d.add64 (key (0x3228 + p) (2 + 2 * b + (held - 1))) 1).ev38 p

/-- CREDIT_A and CREDIT_B in whole bits, rounded toward 0. -/
def Dev.creditRead (d : Dev) (p b : Nat) : Int :=
  let c := if b = 0 then (d.port p).crA else (d.port p).crB
  c.tdiv 1000000

/-! Transmission (R149, R152, R154) -/

/-- A class may start a frame on a port now: gate open for the whole transmission, credit at or above 0, not paused. -/
def Dev.mayStart (d : Dev) (p : Nat) (f : QFrame) : Bool :=
  let n := d.port p
  let need := d.byteTimes p (wireLen f.bytes + 20)
  let fits := match n.closesIn f.cls d.time64 with | none => true | some t => decide (need ≤ t)
  let cr := f.cls ≠ 6 && f.cls ≠ 5 || d.idleOf p f.cls = 0 || decide (0 ≤ (if f.cls = 6 then n.crA else n.crB))
  n.tx.isNone && decide (n.idleAt ≤ d.now) && d.linkOf p ≠ 0 && fits && cr && !d.pausedTc p f.cls

/-- A frame starts on a port: its timestamp is the counter's value now. -/
def Dev.txBegin (p : Nat) (f : QFrame) (d : Dev) : Dev :=
  let e := d.now + d.byteTimes p (wireLen f.bytes + 8)
  d.modPort p (fun n => { n with tx := some (f, d.time64, d.now, e) })

/-- The first queued frame of a class, and the queue without it. -/
def takeClass (tc : Nat) : List QFrame → Option (QFrame × List QFrame)
  | [] => none
  | f :: t => if f.cls = tc then some (f, t) else (takeClass tc t).map (fun r => (r.1, f :: r.2))

/-- An idle port starts the frame of the highest class that may (R149). -/
def Dev.txKick (p : Nat) (d : Dev) : Dev :=
  let n := d.port p
  match [7, 6, 5, 4, 3, 2, 1, 0].findSome? (fun tc => match takeClass tc n.q with | some (f, t) => if d.mayStart p f then some (f, t) else none | none => none) with
  | some (f, t) => (d.modPort p (fun n => { n with q := t })).txBegin p f
  | none => d

/-- An enqueue at a port (R152, R155, Table 6-6): dropped where it exceeds the longest open window, where its class is suspended, or where the egress queue of its class is full. -/
def Dev.enqueue (p : Nat) (full : Bool) (f : QFrame) (d : Dev) : Bool × Dev :=
  let n := d.port p
  let long := match n.oper.longest f.cls with | some w => decide (w < d.byteTimes p (wireLen f.bytes + 20)) | none => false
  if d.linkOf p = 0 then (false, d)
  else if long then (false, (d.inc (key (0x3240 + p) 5)).raise 37)
  else if n.susp && (f.cls = 6 || f.cls = 5) then (false, d.inc (key (0x3240 + p) 6))
  else if full then
    let d := d.inc (key (0x3240 + p) (8 + f.cls))
    let quiet := match n.ev47 with | some t => decide (d.now < t + 1000000) | none => false
    (false, if quiet then d else (d.modPort p (fun n => { n with ev47 := some d.now })).raise 47)
  else (true, ((d.egress p 0).modPort p (fun n => { n with q := n.q ++ [f] })).txKick p)

/-! Classification and forwarding (R148, R149) -/

/-- The VLAN entry that is valid for a VID. -/
def Dev.vlan (d : Dev) (vid : Nat) : Option Nat :=
  ((upto 64).map (fun v => d.get (key 0x3201 v))).find? (fun e => bit e 31 && fld e 11 0 == vid)

/-- Ports A, B and E as bits 0, 1 and 2. -/
def portBits (l : List Nat) : Nat := l.foldl (fun a p => a ||| 2 ^ p) 0

/-- The member ports of a VLAN entry: bits E, B, A at [14:12]. -/
def vlanMembers (e : Nat) : Nat := fld e 14 12

/-- A VLAN entry marks a port untagged. -/
def vlanUntagged (e p : Nat) : Bool := bit e (16 + p)

/-- The traffic class of a PCP (3200.00). -/
def Dev.tcOf (d : Dev) (pcp : Nat) : Nat := fld (d.get 0x320000) (3 * pcp + 2) (3 * pcp)

/-- The MAC address of an IPv4 or IPv6 group (R177). -/
def macOf4 (ip : Nat) : Nat := 0x01005E000000 + ip % 2 ^ 23
def macOf6 (ip : Nat) : Nat := 0x333300000000 + ip % 2 ^ 32

/-- An IPv4 address is a group. -/
def ip4Group (ip : Nat) : Bool := ip / 2 ^ 28 = 14
def ip6Group (ip : Nat) : Bool := ip / 2 ^ 120 = 255

/-- IPv6 addresses as values: the BLOB's bytes in network order. -/
def Dev.ip6 (d : Dev) (k : Nat) : Nat := beNat (d.blobOf k)

/-- The link-local address of R158. -/
def Dev.ip6Local (d : Dev) : Nat := 0xFE80 * 2 ^ 112 + eui64 (d.get 0x330000)

/-- A listener that takes packets: enabled with a committed set and running. -/
def Dev.lsOn (d : Dev) (n : Nat) : Bool := d.get (key (0x3500 + n) 0) = 1 && d.get (key (0x3500 + n) 0x28) ≠ 0

/-- The group MAC address a listener joins; 0 for a unicast destination. -/
def Dev.lsGroup (d : Dev) (n : Nat) : Nat :=
  let k := key (0x3500 + n)
  if d.get (k 1) ≥ 3 then (let m := d.get (k 0xA); if macGroup m then m else 0)
  else if d.get (k 4) = 0 then (let a := d.get (k 5); if ip4Group a then macOf4 a else 0)
  else (let a := d.ip6 (k 6); if ip6Group a then macOf6 a else 0)

/-- E's multicast filter (R148): listeners' groups, the PTP groups and the TDT discovery groups. -/
def Dev.eFilter (d : Dev) (m : Nat) : Bool :=
  [0x011B19000000, 0x0180C200000E, macOf4 0xE0000181, macOf4 0xE000006B, 0x333300000181, 0x33330000006B, macOf4 0xEFFF4A10, 0x333300000001].contains m
    || (upto 16).any (fun n => d.lsOn n && d.lsGroup n == m)

/-- The payload's sample width of a stream format in bytes (R173). -/
def fmtWidth (f : Nat) : Nat := nthD 4 [2, 3, 4, 2, 3, 4] f

/-- Samples per packet (Table 7-2) of a rate code and a packet time. -/
def sppOf (rate ptime : Nat) : Nat :=
  nthD 0 (nthD [] [[5, 11, 44], [6, 12, 48], [11, 22, 88], [12, 24, 96], [22, 44, 176], [24, 48, 192]] rate) ptime

/-- The pair's shared identity is held here: the ACTIVE's role (Table 18-1); an address of 0 is none. -/
def Dev.sharesMac (d : Dev) : Bool := d.get 0x700301 = 1 && d.get 0x700100 != 0
def Dev.sharesIp4 (d : Dev) : Bool := d.get 0x700301 = 1 && d.get 0x700101 != 0
def Dev.sharesIp6 (d : Dev) : Bool := d.get 0x700301 = 1 && d.ip6 0x700102 != 0

/-- The frame's destination is the one a listener accepts: address and UDP port, or destination MAC and EtherType (R185, check 1). -/
def Dev.lsDest (d : Dev) (n : Nat) (b : List Byte) : Bool :=
  let k := key (0x3500 + n)
  if d.get (k 1) ≥ 3 then etherType b = 0x22F0 && macDst b = d.get (k 0xA)
  else match ipOf b with
    | none => false
    | some p =>
      if p.ver = 4 then
        let want := if d.get (k 5) = 0 then d.get 0x330200 else d.get (k 5)
        let a := beAt 30 4 b
        d.get (k 4) = 0 && ((want ≠ 0 && a = want) || (d.get (k 5) = 0 && d.sharesIp4 && a = d.get 0x700101)) && l4Port 17 b = some (d.get (k 7))
      else
        let a := beAt 38 16 b
        let g := d.ip6 (k 6)
        d.get (k 4) = 1 && (if g = 0 then a = d.ip6Local || (d.ip6 0x330500 ≠ 0 && a = d.ip6 0x330500) || (d.sharesIp6 && a = d.ip6 0x700102) else a = g) && l4Port 17 b = some (d.get (k 7))

/-- The first running listener whose destination the frame has. -/
def Dev.lsFor (d : Dev) (b : List Byte) : Option Nat := (upto 16).find? (fun n => d.lsOn n && d.lsDest n b)

/-- The shortest length, without FCS, of a listener's packet: headers plus payload (R185). -/
def Dev.lsNeeds (d : Dev) (n : Nat) (b : List Byte) : Nat :=
  let k := key (0x3500 + n)
  let pay := sppOf (d.get (k 0x10)) (d.get (k 3)) * d.get (k 2) * fmtWidth (d.get (k 1))
  if d.get (k 1) ≥ 3 then 14 + 24 + pay
  else match ipOf b with | some p => p.off + 8 + 12 + pay | none => 14 + pay

/-- The PTP frames terminated at a port, counted CONSUMED: all of IEEE 802.1AS in profile 4, peer-delay messages in profile 2 (Table 5-2). -/
def Dev.ptpStops (d : Dev) (b : List Byte) : Bool :=
  match ptpAt b with
  | none => false
  | some o =>
    let prof := d.get 0x222000
    let t := beAt o 1 b % 16
    (prof = 4 && etherType b = 0x88F7) || (prof = 2 && (t = 2 || t = 3 || t = 10))

/-- A learned address is entered, moved or refreshed; with 1024 entries it is not learned and EV35 is raised once per full period (R148). -/
def Dev.learn (p mac : Nat) (d : Dev) : Dev :=
  if macGroup mac then d
  else if (assoc mac (d.net.addrs.map (fun e => (e.1, e.2)))).isSome then
    { d with net := { d.net with addrs := d.net.addrs.map (fun e => if e.1 = mac then (mac, p, d.now) else e) } }
  else if d.net.addrs.length < 1024 then { d with net := { d.net with addrs := d.net.addrs ++ [(mac, p, d.now)] } }
  else if d.net.full then d
  else ({ d with net := { d.net with full := true } } : Dev).raise 35

/-- The learned addresses that a condition keeps; a table with room again ends the full period. -/
def Dev.addrKeep (c : Nat × Nat × Nat → Bool) (d : Dev) : Dev :=
  let l := d.net.addrs.filter c
  { d with net := { d.net with addrs := l, full := d.net.full && l.length ≥ 1024 } }

/-- The ports a frame goes to (R148), as bits. -/
def Dev.destPorts (d : Dev) (inp mac members : Nat) : Nat :=
  let others := members &&& (7 - 2 ^ inp)
  if macGroup mac then
    match ((upto 64).map (fun m => d.get (key 0x3206 m))).find? (fun e => bit e 63 && fld e 47 0 == mac) with
    | some e => fld e 50 48 &&& (7 - 2 ^ inp)
    | none => if mac = macAll || d.eFilter mac then others else others &&& 3
  else if mac = d.get 0x330000 || (d.sharesMac && mac = d.get 0x700100) then 4 &&& (7 - 2 ^ inp)
  else match (d.net.addrs.find? (fun e => e.1 == mac)) with
    | some (_, p, _) => 2 ^ p &&& (7 - 2 ^ inp)
    | none => others

/-- The ring that takes a frame delivered to E (Table 6-9). -/
def Dev.ringFor (d : Dev) (b : List Byte) : Nat :=
  if (d.lsFor b).isSome then 5
  else if (ptpAt b).isSome && d.get 0x222000 ≠ 0 then 6
  else if l4Port 17 b = some 30740 || etherType b = 0x0806 || (match ipOf b with | some p => p.proto = 1 || p.proto = 58 || p.proto = 2 | none => false) then 7
  else if (upto 8).any (fun s =>
      let r := d.get (key 0x3318 s)
      bit r 31 && (match fld r 17 16 with
        | 0 => etherType b == fld r 15 0
        | 1 => l4Port 17 b == some (fld r 15 0)
        | 2 => l4Port 6 b == some (fld r 15 0)
        | _ => false)) then 3
  else 2

/-- A list cut into pieces of 512 bytes, at most four. -/
def pieces : Nat → List Byte → List (List Byte)
  | 0, _ => []
  | n + 1, l => if l.isEmpty then [] else l.take 512 :: pieces n (l.drop 512)

/-- A frame fills posted descriptors of a host receive ring in order (R162). -/
def Dev.rxFill (r ingressPort : Nat) (bytes : List Byte) (flags ref : Nat) (d : Dev) : Dev :=
  let ps := pieces 4 bytes
  let g := d.ring r
  if g.posted.isEmpty then d.inc (key (0x3310 + r) 0xD)
  else
    let n := min ps.length g.posted.length
    let cut := n < ps.length
    let filled := ((g.posted.take n).zip ps).zip (upto n)
    let d := filled.foldl (fun (a : Dev) e => a.putBlob (key 0x3340 e.1.1.buf) (slice 0 512 e.1.2)) d
    let done := filled.map (fun e =>
      let i := e.2
      let last := i + 1 = n
      { e.1.1 with port := ingressPort, len := e.1.2.length, tsRef := (if i = 0 then ref else 0), time := 0,
                   status := 1 + 2 * b2n (i = 0) + 4 * b2n last + 8 * b2n (last && cut) + (if i = 0 then flags else flags &&& 0xFFDF) })
    let d := d.when cut (fun a => (a.inc (key (0x3310 + r) 0xC)).raise 39)
    d.ringReturn r done

/-- A frame delivered to endpoint E (R156, R159, R162, R166): media frames that are oversize, short or fail a checksum are filtered before buffer memory; a frame while the endpoint is not
ready is dropped at the switch and counted there (R87). -/
def Dev.toEndpoint (inp : Nat) (age : Nat) (u tagged : List Byte) (cls : Nat) (d : Dev) : Dev :=
  if !d.ready 10 then d.inc (key 0x3242 (8 + cls))
  else
    let r := d.ringFor u
    let (ipBad, l4Bad, l4Ok) := rxCheck u
    let len := tagged.length + 4
    let excess := decide (len > d.get 0x330800)
    if r ≥ 4 then
      let short := match d.lsFor u with | some n => r = 5 && decide (u.length < d.lsNeeds n u) | none => false
      if excess || short || ipBad || l4Bad then d
      else
        let k := ceilDiv tagged.length 512
        let d := (d.add64 (key (0x3310 + r) 8) k).add64 (key (0x3310 + r) 9) k
        if r = 6 && ptpEvent u && inp < 2 then (d.timed (2 * inp) (d.time64 - age) (d.get kEpoch) 0 0 false).2 else d
    else
      let body := if excess then tagged.take (d.get 0x330800) else tagged
      let flags := 256 * b2n excess + 512 * b2n ipBad + 1024 * b2n l4Bad + 2048 * b2n l4Ok
      if d.get (key (0x3310 + r) 5) = 1 && !(d.ring r).posted.isEmpty && inp < 2 then
        let (x, d) := d.fresh
        let ref := x % 65536
        let (lost, d) := d.timed (2 * inp) (d.time64 - age) (d.get kEpoch) ref (4 * (inp + 1)) true
        d.rxFill r (inp + 1) body (flags + 32 * b2n lost) ref
      else d.rxFill r (inp + 1) body flags 0

/-- A classified frame goes to its ports: queued at A and B with its tag as the VLAN entry says, delivered at E; a host frame's descriptors go with the first copy queued, or return at once. -/
def Dev.forward (inp age full : Nat) (u : List Byte) (pcp entry ports : Nat) (f : QFrame) (d : Dev) : Dev :=
  let vid := fld entry 11 0
  let cls := if (ptpAt u).isSome then 7 else d.tcOf pcp
  let shape := fun p => if vlanUntagged entry p then u else withTag pcp vid u
  let rx := if inp < 2 then some (d.now - age) else none
  let (left, d) := [0, 1].foldl (fun (r : Option QFrame × Dev) p =>
    if bit ports p then
      let c := match r.1 with
        | some g => { g with bytes := shape p, cls := cls, rxAt := rx }
        | none => { bytes := shape p, cls := cls, rxAt := rx, tsReq := f.tsReq, tsRef := f.tsRef }
      let (ok, a) := r.2.enqueue p (bit full p) c
      (if ok then none else r.1, a)
    else r) (some f, d)
  let d := if bit ports 2 then d.toEndpoint inp age u (shape 2) cls else d
  match left with
  | some g => d.frameLost false 0 g
  | none => d

/-- The switch forwards (R144, R148): with its ready bit set, or while a SOFT reset keeps it running (R87). -/
def Dev.switchOn (d : Dev) : Bool := d.ready 9

/-- A frame received whole at port A or B, without its FCS, `ok` where the FCS and symbols were good, `age` ns after its timestamp point, with the egress queues that are full as bits: classified by Table 6-6 and
forwarded, consumed or dropped (R148, R149, R156, R157). -/
def Dev.frameIn (p : Nat) (bytes : List Byte) (ok : Bool) (age full : Nat) (d : Dev) : Dev :=
  let d := d.ingress p 0
  let len := bytes.length + 4
  if !ok then d.badFrame p 3
  else if len < 64 then d.badFrame p 4
  else if len > 2000 then d.badFrame p 5
  else
    let (tci, u) := untag bytes
    if etherType u = 0x8808 then
      let d := d.ingress p 2
      if p = 0 && beAt 14 2 u = 1 then d.putBit 0x300300 4 true else d
    else if d.ptpStops u then
      let d := d.ingress p 2
      if ptpEvent u then (d.timed (2 * p) (d.time64 - age) (d.get kEpoch) 0 0 false).2 else d
    else
      let v := match tci with | some t => t % 4096 | none => 0
      let vid := if v = 0 then d.get (key 0x3202 p) else v
      let pcp := if v = 0 then 0 else (match tci with | some t => t / 8192 | none => 0)
      match d.vlan vid with
      | none => d.ingress p 6
      | some e =>
        if !bit (vlanMembers e) p then d.ingress p 6
        else
          let d := (d.ingress p 1).learn p (macSrc u)
          let ports := d.destPorts p (macDst u) (vlanMembers e)
          d.forward p age full u pcp e ports { bytes := [], cls := 0 }

/-- The oldest frame the endpoint has handed to the switch, classified at E (R156, R157). -/
def Dev.frameFromE (full : Nat) (d : Dev) : Dev :=
  match d.net.handed with
  | [] => d
  | f :: t =>
    let d := { d with net := { d.net with handed := t } }
    let d := d.ingress 2 0
    let (tci, u) := untag f.bytes
    let v := match tci with | some t => t % 4096 | none => 0
    let vid := if v = 0 then d.get 0x320202 else v
    let pcp := if v = 0 then 0 else (match tci with | some t => t / 8192 | none => 0)
    match d.vlan vid with
    | none => (d.ingress 2 6).frameLost false 0 f
    | some e =>
      if !bit (vlanMembers e) 2 then (d.ingress 2 6).frameLost false 0 f
      else
        let d := (d.ingress 2 1).learn 2 (macSrc u)
        let ports := if f.port = 1 then 1 else if f.port = 2 then 2 else d.destPorts 2 (macDst u) (vlanMembers e)
        d.forward 2 0 full u pcp e ports f

/-! Host transmit rings and launch (R160, R161, R167) -/

/-- The descriptors of a transmit ring whose frame has not left it. -/
def Ring.waiting (g : Ring) : List Desc := g.posted.filter (fun x => !g.taken.contains x.serial)

/-- The chain at the head of a list of descriptors, up to LAST; none while LAST is not posted. -/
def chainOf : List Desc → Option (List Desc)
  | [] => none
  | x :: t => if bit x.control 1 then some [x] else (chainOf t).map (x :: ·)

/-- A chain is MALFORMED (R161). -/
def chainBad (l : List Desc) : Bool :=
  match l with
  | [] => true
  | x :: _ => !bit x.control 0 || l.length > 4 || (l.map (·.len)).sum > 2000 || (bit x.control 3 && x.port = 0)

/-- The frame of a chain: its buffers' bytes, padded to 60, with the checksums asked for (R159, R164). -/
def Dev.chainFrame (d : Dev) (r : Nat) (l : List Desc) : QFrame :=
  let raw := l.flatMap (fun x => (d.blobOf (key 0x3340 x.buf)).take x.len)
  let x := match l with | x :: _ => x | [] => { buf := 0, control := 0, port := 0, len := 0 }
  let b := txCheck (bit x.control 4) (bit x.control 5) raw
  { bytes := b ++ zeros (60 - b.length), cls := fld (d.get (key (0x3310 + r) 2)) 2 0, ring := some r, chain := l, port := x.port,
    launch := (if bit x.control 3 then some x.time else none), tsReq := bit x.control 2, tsRef := x.tsRef }

/-- A chain leaves its ring. -/
def Dev.ringTake (r : Nat) (l : List Desc) (d : Dev) : Dev := d.modRing r (fun g => { g with taken := g.taken ++ l.map (·.serial) })

/-- The complete chains at the head of a host transmit ring, in order: malformed ones return, a launch frame more than 2 s ahead returns TOO_EARLY and any other waits at the head, and the rest are queued at E (R161, R167). -/
def Dev.ringPump (r : Nat) : Nat → Dev → Dev
  | 0, d => d
  | n + 1, d =>
    if d.get (key (0x3310 + r) 1) = 0 then d
    else match chainOf (d.ring r).waiting with
    | none => d
    | some l =>
      if chainBad l then (d.ringDone r 8192 l).ringPump r n
      else
        let f := d.chainFrame r l
        match f.launch with
        | some t => if t > d.time64 + 2000000000 then (d.ringDone r 4096 l).ringPump r n else d
        | none =>
          let d := d.ringTake r l
          let (ok, d) := d.enqueue 2 false f
          let d := if ok then d else d.frameLost false 0 f
          d.ringPump r n

/-- The launch frame at the head of a ring: of a host ring's chain, or of ring 4. -/
def Dev.launchHead (d : Dev) (r : Nat) : Option QFrame :=
  if r = 4 then d.net.media.head?
  else match chainOf (d.ring r).waiting with
    | some l => let f := d.chainFrame r l; if !chainBad l && f.launch.isSome then some f else none
    | none => none

/-- The head of a ring leaves it. -/
def Dev.launchTake (r : Nat) (f : QFrame) (d : Dev) : Dev :=
  if r = 4 then { d with net := { d.net with media := d.net.media.tail } } else d.ringTake r f.chain

/-- The launch frame at the head of a ring at this instant (R167): sent within LAUNCH_TOLERANCE of its TIME when its port can start it, otherwise late and sent marked LATE or dropped. -/
def Dev.launch (r : Nat) (d : Dev) : Dev :=
  match d.launchHead r with
  | none => d
  | some f =>
    let t := match f.launch with | some t => t | none => 0
    let p := f.port - 1
    if d.time64 < t then d
    else if d.time64 ≤ t + d.get (key (0x3310 + r) 4) then
      if d.mayStart p f then
        let d := (d.launchTake r f).egress p 0
        let d := d.txBegin p f
        if r < 2 then d.ringPump r 256 else d
      else d
    else
      let d := (d.launchTake r f).inc (key (0x3310 + r) 0xB)
      let d := d.raise 46
      let d := if d.get (key (0x3310 + r) 3) = 1 then d.frameLost false 128 f
        else
          let g := { f with late := true }
          let (ok, d) := d.enqueue p false g
          if ok then d else d.frameLost false 64 g
      if r < 2 then d.ringPump r 256 else d

/-- A queued frame finishes transmission (R149, R157, R163, R165, R166): TRANSMITTED counts, a timed frame makes its record, descriptors return, and E's frame is handed to the switch. -/
def Dev.frameOut (p : Nat) (d : Dev) : Dev :=
  let d := d.txKick p
  match (d.port p).tx with
  | none => d
  | some (f, t0, l0, e) =>
    if d.now < e then d
    else
      let d := d.modPort p (fun n => { n with tx := none, idleAt := e + d.byteTimes p 12 })
      let d := d.egress p 1
      let d := if p = 2 then
          (match f.talker with
          | some n => ({ d with net := { d.net with handed := d.net.handed ++ [{ f with ring := none, chain := [], talker := none }] } } : Dev).talkerSent n f.frames f.seq |>.ringReturn 4 f.chain
          | none => { d with net := { d.net with handed := d.net.handed ++ [f] } })
        else
          let prof := d.get 0x222000
          let (tci, u) := untag f.bytes
          let (u', bad) := match f.rxAt with
            | some a => if ((1 ≤ prof && prof ≤ 3) || f.ring = some 6) && ptpEvent u then ptpCorrect (l0 - a) u else (u, false)
            | none => (u, false)
          let b := match tci with | some t => withTag (t / 8192) (t % 4096) u' | none => u'
          let d := d.when bad (Dev.inc 0x336000)
          let d := { d with net := (if p = 0 then { d.net with wireA := b ++ zeros (60 - b.length) } else { d.net with wireB := b ++ zeros (60 - b.length) }) }
          let (lost, d) := if f.tsReq then d.timed (2 * p + 1) t0 (d.get kEpoch) f.tsRef (2 + 4 * (p + 1)) true else (false, d)
          let d := match f.ring with
            | some r => d.ringDone r (64 * b2n f.late) (f.chain.zip (upto f.chain.length) |>.map (fun x =>
                if x.2 = 0 then { x.1 with status := x.1.status ||| (32 * b2n lost) } else x.1))
            | none => d
          match f.talker with | some n => d.talkerSent n f.frames f.seq | none => d
      d.txKick p

/-! Flushing (R163, Table 6-15) -/

/-- The frames that a condition names leave a port's queue and count into DROPPED. -/
def Dev.queueDrop (p : Nat) (c : QFrame → Bool) (flush : QFrame → Bool) (d : Dev) : Dev :=
  let l := (d.port p).q.filter c
  let d := d.modPort p (fun n => { n with q := n.q.filter (fun f => !c f) })
  l.foldl (fun (a : Dev) f => (a.egress p 2).frameLost (flush f) 0 f) d

/-- The frame in transmission is lost with its port. -/
def Dev.txDrop (p : Nat) (d : Dev) : Dev :=
  match (d.port p).tx with
  | some (f, _) => ((d.modPort p (fun n => { n with tx := none })).egress p 2).frameLost true 0 f
  | none => d

/-- The launch frames of the rings that wait for a port return FLUSHED. -/
def Dev.launchFlush (p : Nat) (d : Dev) : Dev :=
  let l := d.net.media.filter (fun f => f.port == p + 1)
  let d := { d with net := { d.net with media := d.net.media.filter (fun f => f.port != p + 1) } }
  let d := l.foldl (fun (a : Dev) f => a.frameLost true 0 f) d
  [0, 1].foldl (fun (a : Dev) r =>
    let ds := (a.ring r).waiting.filter (fun x => x.port == p + 1)
    a.ringFlushed r ds) d

/-- The link of port A or B drops (Table 6-15). -/
def Dev.portDown (p : Nat) (d : Dev) : Dev :=
  let d := (d.txDrop p).queueDrop p (fun _ => true) (fun f => f.port == p + 1)
  d.launchFlush p

/-- A ring is disabled (R163): every outstanding descriptor of it returns FLUSHED, and its frames leave the queues. -/
def Dev.ringFlush (r : Nat) (d : Dev) : Dev :=
  let d := (upto 3).foldl (fun (a : Dev) p => a.queueDrop p (fun f => f.ring == some r) (fun _ => true)) d
  let d := if r = 4 then
      let l := d.net.media
      l.foldl (fun (a : Dev) f => a.frameLost true 0 f) { d with net := { d.net with media := [] } }
    else d
  let busy := (upto 3).flatMap (fun p => match (d.port p).tx with | some (f, _) => if f.ring = some r then f.chain.map (·.serial) else [] | none => [])
  d.ringFlushed r ((d.ring r).posted.filter (fun x => !busy.contains x.serial))

/-- A DOMAIN reset of SWITCH, or its loss (Table 6-15): queued frames count DROPPED, and the committed lists and shapers restart as committed. -/
def Dev.switchReset (d : Dev) : Dev :=
  let d := (upto 3).foldl (fun (a : Dev) p =>
    let a := (a.txDrop p).queueDrop p (fun _ => true) (fun _ => false)
    let on := a.get (key (0x3210 + p) 3) ≠ 0
    let a := a.modPort p (fun n => { n with crA := 0, crB := 0, oper := {}, entry := 0 })
    (a.when on (Dev.gateCommit p)).shaperSet p) d
  { d with net := { d.net with addrs := [], full := false, handed := [] } }

/-- A reset of the endpoint (R163, R87, Table 6-15): outstanding descriptors return FLUSHED and the timestamp queues empty. -/
def Dev.endpointReset (d : Dev) : Dev :=
  let d := (upto 4).foldl (fun (a : Dev) r => a.modRing r (fun g => { g with reap := [] })) d
  let d := (upto 8).foldl (fun (a : Dev) r => a.ringFlush r) d
  { d with net := { d.net with ts := [[], [], [], []] } }

/-! Links (R143, R145) -/

/-- A port's link goes up, goes down or changes rate: EV32 or EV33, limits and R155, and what a drop ends. -/
def Dev.linkSet (p code : Nat) (d : Dev) : Dev :=
  let k := if p = 0 then 0x300200 else 0x310300
  let old := d.get k
  if old = code then d
  else
    let d := d.put k code
    let d := d.when (p = 0) (Dev.putBit 0x300300 0 (code != 0))
    let d := if code = 0 then
        let d := (d.inc (if p = 0 then 0x300500 else 0x310900)).portDown p
        if p = 1 then { d with net := { d.net with pauseEnd := none, pausedAt := none } } else d
      else d
    let d := (d.shaperSet p).raise (32 + p)
    let d := if code = 0 then (match d.get 0x223100 with | m => if m = p + 1 then d.coastFromSync else d) else d
    d.portStates (d.get 0x223000)

/-- The link of port A may run at a code: enabled, powered and advertised (R143, Table 6-1). -/
def Dev.linkAFits (d : Dev) (code : Nat) : Bool :=
  code = 0 || (d.ready 7 && d.get 0x300000 = 1 && code ≤ 3 && d.bitOf 0x300100 (code - 1))

/-- The link of port B may run at a code: the port on, at the forced speed where one is set (R145). -/
def Dev.linkBFits (d : Dev) (code : Nat) : Bool :=
  code = 0 || (d.ready 8 && d.get 0x310000 ≠ 0 && code ≤ 3 && (d.get 0x310100 = 0 || d.get 0x310100 = code))

/-! Pause (R146, R147) -/

/-- The time for which a pause quantum stops port B: 512 bit times each. -/
def Dev.pauseTime (d : Dev) (quantum : Nat) : Nat := quantum * 512 * 1000000 / d.portRate 1

/-- A PAUSE frame on port B. -/
def Dev.pause (quantum : Nat) (d : Dev) : Dev :=
  if !d.ready 8 || d.get 0x310300 = 0 || d.get 0x310400 = 0 || d.net.pauseOff.isSome then d
  else if quantum = 0 then ({ d with net := { d.net with pauseEnd := none, pausedAt := none } } : Dev).txKick 1
  else
    let running := match d.net.pauseEnd with | some t => decide (d.now < t) | none => false
    { d with net := { d.net with pauseEnd := some (d.now + d.pauseTime quantum),
                                 pausedAt := if running && d.net.pausedAt.isSome then d.net.pausedAt else some d.now } }

/-- A pause quantum has run out. -/
def Dev.pauseDone (d : Dev) : Dev :=
  match d.net.pauseEnd with
  | some t => if t ≤ d.now then ({ d with net := { d.net with pauseEnd := none, pausedAt := none } } : Dev).txKick 1 else d
  | none => d

/-- The pause watchdog trips (R147). -/
def Dev.pauseTrip (d : Dev) : Dev :=
  match d.net.pausedAt, d.net.pauseEnd with
  | some t, some e =>
    if t + d.get 0x310600 * 1000000 ≤ d.now && d.now ≤ e then
      let d := { d with net := { d.net with pauseEnd := none, pausedAt := none, pauseOff := some (d.now + d.get 0x310700 * 1000000) } }
      ((d.inc 0x310800).raise 43).txKick 1
    else d
  | _, _ => d

/-- The holdoff has run out. -/
def Dev.pauseAgain (d : Dev) : Dev :=
  match d.net.pauseOff with
  | some t => if t ≤ d.now then { d with net := { d.net with pauseOff := none } } else d
  | none => d

/-! Host accesses -/

/-- A buffer is posted or unreaped (R160). -/
def Dev.bufBusy (d : Dev) (n : Nat) : Bool := (upto 4).any (fun i => ((d.ring i).posted ++ (d.ring i).reap).any (fun x => x.buf == n))

/-- The checks of R160 on a posting. -/
def Dev.postCheck (d : Dev) (r : Nat) (b : List Byte) : List Nat :=
  let n := fieldAt 0 1 b
  errIf (n > 127) eRange ++ errIf (d.bufBusy n || (d.ring r).posted.length ≥ d.get (key (0x3310 + r) 0)) eBusy

/-- A posting (R160): the descriptor is given and its SERIAL set; a transmit ring's complete chains then leave it. -/
def Dev.post (r : Nat) (b : List Byte) (d : Dev) : Dev :=
  let g := d.ring r
  let x : Desc := { buf := fieldAt 0 1 b, control := (if r < 2 then fieldAt 1 1 b &&& 0x3F else 0), port := fieldAt 2 1 b, len := min 512 (fieldAt 4 2 b),
                    tsRef := fieldAt 8 2 b, serial := g.serial, time := fieldAt 16 8 b }
  let d := d.modRing r (fun g => { g with posted := g.posted ++ [x], serial := (g.serial + 1) % 65536 })
  let d := d.add64 (key (0x3310 + r) 8) 1
  if r < 2 then d.ringPump r 256 else d

/-! Time -/

/-- One tick of the switch: idle ports start frames and credits move. -/
def Dev.netTick (d : Dev) : Dev :=
  if d.ready 9 then (upto 3).foldl (fun (a : Dev) p => ((a.txKick p).shaperTick p 6).shaperTick p 5) d else d

/-- A magic packet is recognised on port A in LISTEN (R144): 6 bytes of 0xFF and 16 times the endpoint's MAC address, in a frame to it or to broadcast. -/
def hasMagic (m : List Byte) : List Byte → Bool
  | [] => false
  | b :: t => m.isPrefixOf (b :: t) || hasMagic m t

def Dev.magic (d : Dev) (b : List Byte) : Bool :=
  let mac := beBytes 6 (d.get 0x330000)
  let pat := List.replicate 6 0xFF#8 ++ (List.replicate 16 mac).flatten
  (macDst b = d.get 0x330000 || macDst b = macAll) && hasMagic pat (b.drop 12)

/-! Objects of 3000h to 33FFh -/

/-- Values the switch and endpoint compute when they are read. -/
def Dev.netValue (d : Dev) (k : Nat) : Option Nat :=
  let i := k / 256
  let s := k % 256
  if i = 0x3204 then some d.net.addrs.length
  else if i = 0x3215 then some (d.gateStatus s)
  else if 0x3228 ≤ i && i ≤ 0x322A && s < 2 then some (ofInt 32 (d.creditRead (i - 0x3228) s))
  else if i = 0x3351 then some (nthD [] d.net.ts s).length
  else none

/-- A read that removes a record: REAP and TS_RECORD. -/
def Dev.netTake (d : Dev) (k : Nat) : Option (List Byte × Dev) :=
  let i := k / 256
  let s := k % 256
  if i = 0x3331 then some (d.reap s) else if i = 0x3350 then some (d.tsRead s) else none

/-- What else a read of a number does: A_STATUS clears its PAUSE bit, and a read of a bad-frame count ends its EV42 period. -/
def Dev.netTouch (k : Nat) (d : Dev) : Dev :=
  let i := k / 256
  let s := k % 256
  if i = 0x3003 then d.putBit k 4 false
  else if 0x3230 ≤ i && i ≤ 0x3232 && 3 ≤ s && s ≤ 5 then d.modPort (i - 0x3230) (fun n => { n with bad := setBit n.bad s false })
  else d

/-- A contiguous IPv4 mask: its complement and 1 more share no bit. -/
def maskContiguous (m : Nat) : Bool := let c := 2 ^ 32 - 1 - m; c &&& (c + 1) == 0

/-- The stream engine holds static multicast entry 20h + n (R184). -/
def Dev.mcastHeld (d : Dev) (m : Nat) : Bool :=
  0x20 ≤ m && m < 0x30 && d.lsOn (m - 0x20) && d.lsGroup (m - 0x20) ≠ 0 && d.get (key (0x3500 + (m - 0x20)) 0x13) ≠ 0

/-- The objects' own refusals beside type and range. -/
def Dev.netCheck (d : Dev) (k v : Nat) (b : List Byte) : List Nat :=
  let i := k / 256
  let s := k % 256
  if i = 0x3001 then errIf (v &&& 7 = 0) eRange
  else if i = 0x3201 then errIf (fld v 11 0 = 0 || fld v 11 0 = 4095) eRange
  else if i = 0x3206 then errIf (d.mcastHeld s) eBusy
  else if i = 0x3300 then errIf (macGroup (v % 2 ^ 48)) eRange
  else if i = 0x3303 then errIf (!maskContiguous v) eRange
  else if 0x3310 ≤ i && i ≤ 0x3313 && s = 0 then errIf (d.get (key i 1) = 1) eBusy
  else if i = 0x3330 then d.postCheck s b
  else if i = 0x3340 then errIf (d.bufBusy s) eBusy
  else []

/-- What a write does once its value stands. -/
def Dev.netWrite (k v : Nat) (b : List Byte) (d : Dev) : Dev :=
  let i := k / 256
  let s := k % 256
  if i = 0x3000 then (if v = 0 then d.linkSet 0 0 else d)
  else if i = 0x3001 then d.linkSet 0 0
  else if 0x3100 ≤ i && i ≤ 0x3102 then d.linkSet 1 0
  else if i = 0x3104 then (if v = 0 then ({ d with net := { d.net with pauseEnd := none, pausedAt := none } } : Dev).txKick 1 else d)
  else if i = 0x3205 then (if v = 1 then d.addrKeep (fun _ => false) else d)
  else if 0x3310 ≤ i && i ≤ 0x3313 && s = 1 then (if v = 0 then d.ringFlush (i - 0x3310) else if i < 0x3312 then d.ringPump (i - 0x3310) 256 else d)
  else if i = 0x3330 then d.post s b
  else d

/-- The rule and the commit of groups 0x08 to 0x0E. -/
def Dev.netRule (d : Dev) (g : Nat) (v : Nat → Nat) : Option Nat := if g < 0xC then d.ruleGate (g - 8) v else d.ruleShaper (g - 0xC) v
def Dev.netCommit (g : Nat) (d : Dev) : Dev := if g < 0xC then d.gateCommit (g - 8) else d.shaperCommit (g - 0xC)

end Sys2Proof.Machine
end

