-- ==== Sys2Proof/Machine/Streams.lean ====
section
/-! DEFINITION. Talkers and listeners (R170 to R199): agreement rules, packets, the playout buffer and its level, states, and faults. -/
namespace Sys2Proof.Machine

/-! Talkers -/

def kTs (n s : Nat) : Nat := key (0x3400 + n) s
def kLs (n s : Nat) : Nat := key (0x3500 + n) s

def Dev.talker (d : Dev) (n : Nat) : Talker := nthD {} d.str.tx n
def Dev.modTalker (n : Nat) (f : Talker → Talker) (d : Dev) : Dev := { d with str := { d.str with tx := modNth f d.str.tx n } }
def Dev.listener (d : Dev) (n : Nat) : Listener := nthD {} d.str.rx n
def Dev.modListener (n : Nat) (f : Listener → Listener) (d : Dev) : Dev := { d with str := { d.str with rx := modNth f d.str.rx n } }

/-- The most channels of a stream (R173). -/
def maxChannels (spp w : Nat) : Nat := if spp * w = 0 then 0 else min 64 (1440 / (spp * w))

/-- Stream nodes each way at the committed rate (Table 7-2). -/
def Dev.streamNodes (d : Dev) : Nat := 128 / 2 ^ d.rateMul

/-- Two map entries below the channel count name one node. -/
def hasDup : List Nat → Bool
  | [] => false
  | a :: t => t.contains a || hasDup t

/-- A stream's map below its channel count. -/
def mapOf (v : Nat → Nat) (base n : Nat) : List Nat := (upto (v (key (base + n) 2))).map (fun c => v (key (base + n) (0x40 + c)))

/-- Relation 1 of R175 and R183: nodes below the limit, each once, none in the committed map of another. -/
def Dev.mapFits (d : Dev) (base n : Nat) (v : Nat → Nat) : Bool :=
  let m := mapOf v base n
  m.all (fun x => x < d.streamNodes) && !hasDup m &&
    (upto 16).all (fun o => o == n || !(mapOf d.get base o).any (fun x => x != 0xFFFF && m.contains x))

/-- The rule of group 0x10 + n (R175). -/
def Dev.ruleTalker (d : Dev) (n : Nat) (v : Nat → Nat) (b : Nat → List Byte) : Option Nat :=
  let f := v (kTs n 1)
  let ch := v (kTs n 2)
  let spp := sppOf (d.get 0x210000) (v (kTs n 3))
  let dest := if v (kTs n 4) = 0 then v (kTs n 5) else beNat (b (kTs n 6))
  if ch < 1 || ch > maxChannels spp (fmtWidth f) then some 0
  else if !d.mapFits 0x3400 n v then some 1
  else if (f < 3 && dest = 0) || (f ≥ 3 && (v (kTs n 8) = 0 || v (kTs n 0x11) = 0)) then some 2
  else if v (kTs n 0x11) ≠ 0 && v (kTs n 0x12) * rateHz (d.get 0x210000) ≥ spp * 1000000000 then some 3
  else none

/-- The committed samples per packet of a talker, and of a listener. -/
def Dev.tsSpp (d : Dev) (n : Nat) : Nat := sppOf (d.get 0x210000) (d.get (kTs n 3))
def Dev.lsSpp (d : Dev) (n : Nat) : Nat := sppOf (d.get (kLs n 0x10)) (d.get (kLs n 3))

/-- A talker has a committed set. -/
def Dev.tsSet (d : Dev) (n : Nat) : Bool := (d.ruleTalker n d.get d.blobOf).isNone

/-- The destination address of an RTP talker, and whether it is a group. -/
def Dev.tsDest (d : Dev) (n : Nat) : Nat := if d.get (kTs n 4) = 0 then d.get (kTs n 5) else d.ip6 (kTs n 6)
def Dev.tsGroup (d : Dev) (n : Nat) : Bool := if d.get (kTs n 4) = 0 then ip4Group (d.tsDest n) else ip6Group (d.tsDest n)

/-- A talker must resolve its destination (R180): RTP to a unicast address. -/
def Dev.tsUnicast (d : Dev) (n : Nat) : Bool := d.get (kTs n 1) < 3 && !d.tsGroup n

/-- The IPv4 address that is resolved: the destination on the subnet, otherwise the gateway (R180). -/
def Dev.tsAsks (d : Dev) (n : Nat) : Nat :=
  let a := d.tsDest n
  let m := d.get 0x330300
  if d.get (kTs n 4) = 0 && a &&& m != d.get 0x330200 &&& m then d.get 0x330400 else a

/-- The destination MAC address of a talker; none while it is not resolved. -/
def Dev.tsMac (d : Dev) (n : Nat) : Option Nat :=
  if d.get (kTs n 1) ≥ 3 then some (d.get (kTs n 8))
  else if d.tsGroup n then some (if d.get (kTs n 4) = 0 then macOf4 (d.tsDest n) else macOf6 (d.tsDest n))
  else (d.talker n).mac

/-- Streams run: the STREAMS bit set and audio running (R170). -/
def Dev.streamsOn (d : Dev) : Bool := d.ready 12 && d.audioRuns

/-- RESOLVING begins for a unicast destination (R180). -/
def Dev.tsResolve (n : Nat) (d : Dev) : Dev :=
  if d.tsUnicast n && (d.talker n).mac.isNone then
    (d.modTalker n (fun t => { t with fails := 0, tryAt := d.now })).putBit (kTs n 0x28) 1 true
  else d.putBit (kTs n 0x28) 1 false

/-- One frame taken from the mapped sink nodes: RECEIVED, and the tag counts (R176, R178). -/
def Dev.tsFrame (n : Nat) (d : Dev) : Dev :=
  let f := (mapOf d.get 0x3400 n).map d.sinkSample
  let d := (d.modTalker n (fun t => { t with frames := t.frames ++ [f] })).add64 (kTs n 0x20) 1
  [(3, 0x2B), (2, 0x2C), (1, 0x2D), (0, 0x2E)].foldl (fun (a : Dev) e => if f.any (fun s => bit s.t e.1) then a.add64 (kTs n e.2) 1 else a) d

/-- A talker starts at a boundary whose index is a multiple of spp, with the boundary's frame (R176). -/
def Dev.tsStart (n : Nat) (d : Dev) : Dev :=
  let spp := d.tsSpp n
  if d.streamsOn && d.med.run && d.get (kTs n 0) = 1 && !(d.talker n).run && d.tsSet n && (d.tsMac n).isSome && d.tim.step.isNone && d.tim.reload.isNone && spp ≠ 0 && d.med.index % spp = 0 then
    let d := d.modTalker n (fun t => { t with run := true, stop := false, marker := true, start := d.med.index, frames := [] })
    ((d.putBit (kTs n 0x28) 0 true).raise 54).tsFrame n
  else d

/-- A talker stops running. -/
def Dev.tsIdle (n : Nat) (d : Dev) : Dev :=
  if (d.talker n).run then
    ((d.modTalker n (fun t => { t with run := false, stop := false })).putBit (kTs n 0x28) 0 false).raise 54
  else d

/-- The frames being formed and the packets on ring 4 are discarded into DROPPED (R179, R170, Table 7-8). -/
def Dev.tsDiscard (n : Nat) (d : Dev) : Dev :=
  let t := d.talker n
  let d := if t.frames.isEmpty then d
    else ((d.add64 (kTs n 0x21) t.frames.length).inc (kTs n 0x2A)).raise 55
  let d := t.held.foldl (fun (a : Dev) f => (a.add64 (kTs n 0x21) f.frames).add64 (key 0x7005 n) f.frames) d
  let d := d.modTalker n (fun t => { t with frames := [], held := [] })
  let l := d.net.media.filter (fun f => f.talker == some n)
  let d := { d with net := { d.net with media := d.net.media.filter (fun f => f.talker != some n) } }
  l.foldl (fun (a : Dev) f => a.frameLost true 0 f) d

/-- A restart under R176: frames and waiting packets discarded, the marker due and mr toggled. -/
def Dev.tsRestart (n : Nat) (d : Dev) : Dev :=
  if (d.talker n).run then
    ((d.tsDiscard n).tsIdle n).modTalker n (fun t => { t with marker := true, mr := !t.mr })
  else d

/-- A write of TS_ENABLE (R176, R179). -/
def Dev.tsEnable (n v : Nat) (d : Dev) : Dev :=
  if v = 1 then
    let d := d.modTalker n (fun t => if t.run then { t with stop := false } else { t with seq := none, report := none })
    d.tsResolve n
  else
    let t := d.talker n
    let d := d.putBit (kTs n 0x28) 1 false
    if t.run then (if t.frames.isEmpty then d.tsIdle n else d.modTalker n (fun t => { t with stop := true })) else d

/-- A commit of group 0x10 + n, `only` where it changes nothing but map entries (R179). -/
def Dev.tsCommit (n : Nat) (only : Bool) (d : Dev) : Dev :=
  if only then d
  else
    let d := (d.tsRestart n).modTalker n (fun t => { t with mac := none })
    if d.get (kTs n 0) = 1 then d.tsResolve n else d

/-! Packets -/

/-- The upper bytes of a sample, most significant first (R176). -/
def sampleBytes (w : Nat) (s : Smp) : List Byte := beBytes w (s.word / 2 ^ (32 - 8 * w))

/-- The tag byte of a packet (R178). -/
def tagByte (fs : List (List Smp)) : Nat := (fs.flatMap id).foldl (fun a s => a ||| s.t) 0

/-- The AAF format code and nsr code (Table 7-1, R171). -/
def aafFormat (f : Nat) : Nat := nthD 2 [0, 0, 0, 4, 3, 2] f
def aafNsr (rate : Nat) : Nat := 4 + rate

/-- An RTP packet's header and payload (R176, R178). -/
def Dev.rtpBytes (d : Dev) (n start seq : Nat) (marker : Bool) (fs : List (List Smp)) : List Byte :=
  let ext := d.get (kTs n 0x13)
  let el := 1 ≤ ext && ext ≤ 14
  let ssrc := d.get (kTs n 0xC)
  let ssrc := match (d.talker n).report with | some (_, _, i) => i | none => if ssrc = 0 then d.get 0x330000 % 2 ^ 24 * 256 + n else ssrc
  let head := beBytes 1 (0x80 + 0x10 * b2n el) ++ beBytes 1 (128 * b2n marker + d.get (kTs n 0xD)) ++ beBytes 2 (seq % 65536)
    ++ beBytes 4 ((start + d.get (kTs n 0xE)) % 2 ^ 32) ++ beBytes 4 ssrc
  let e := if el then beBytes 2 0xBEDE ++ beBytes 2 1 ++ beBytes 1 (ext * 16) ++ beBytes 1 (tagByte fs) ++ zeros 2 else []
  head ++ e ++ fs.flatMap (fun f => f.flatMap (sampleBytes (fmtWidth (d.get (kTs n 1)))))

/-- An AAF stream data unit (R171, R176, R178). -/
def Dev.aafBytes (d : Dev) (n start seq : Nat) (mr : Bool) (fs : List (List Smp)) : List Byte :=
  let f := d.get (kTs n 1)
  let w := fmtWidth f
  let id := d.get (kTs n 0xF)
  let id := match (d.talker n).report with | some (_, _, i) => i | none => if id = 0 then d.get 0x330000 * 65536 + n else id
  let pay := fs.flatMap (fun f => f.flatMap (sampleBytes w))
  let evt := if d.get (kTs n 0x13) = 0 then 0 else tagByte fs % 16
  beBytes 1 2 ++ beBytes 1 (0x81 + 8 * b2n mr) ++ beBytes 1 (seq % 256) ++ zeros 1 ++ beBytes 8 id
    ++ beBytes 4 ((boundaryTime d.fs start + d.get (kTs n 0x10)) % 2 ^ 32) ++ beBytes 1 (aafFormat f)
    ++ beBytes 2 (aafNsr (d.get 0x210000) * 4096 + d.get (kTs n 2)) ++ beBytes 1 (8 * w) ++ beBytes 2 pay.length ++ beBytes 1 evt ++ zeros 1 ++ pay

/-- The frame of a packet: MAC addresses, VLAN tag where the VID is not 0, and IP and UDP headers (Table 7-4, R177, R181). `ident` is the IPv4 identification, which the spec leaves open. -/
def Dev.tsFrameBytes (d : Dev) (n mac ident : Nat) (body : List Byte) : List Byte :=
  let src := beBytes 6 (if d.sharesMac then d.get 0x700100 else d.get 0x330000)
  let dst := beBytes 6 mac
  let vl := d.get (kTs n 9)
  let u := if d.get (kTs n 1) ≥ 3 then dst ++ src ++ beBytes 2 0x22F0 ++ body
    else
      let p := d.get (kTs n 7)
      let udp := beBytes 2 p ++ beBytes 2 p ++ beBytes 2 (8 + body.length) ++ zeros 2 ++ body
      if d.get (kTs n 4) = 0 then
        txCheck true true (dst ++ src ++ beBytes 2 0x0800 ++ beBytes 1 0x45 ++ beBytes 1 (d.get (kTs n 0xA) * 4) ++ beBytes 2 (20 + udp.length) ++ beBytes 2 ident ++ zeros 2
          ++ beBytes 1 (d.get (kTs n 0xB)) ++ beBytes 1 17 ++ zeros 2 ++ beBytes 4 (if d.sharesIp4 then d.get 0x700101 else d.get 0x330200) ++ beBytes 4 (d.get (kTs n 5)) ++ udp)
      else
        let g := if d.sharesIp6 then d.ip6 0x700102 else d.ip6 0x330500
        txCheck false true (dst ++ src ++ beBytes 2 0x86DD ++ beBytes 4 (0x60000000 + d.get (kTs n 0xA) * 2 ^ 22) ++ beBytes 2 udp.length ++ beBytes 1 17
          ++ beBytes 1 (d.get (kTs n 0xB)) ++ beBytes 16 (if g = 0 then d.ip6Local else g) ++ slice 0 16 (d.blobOf (kTs n 6)) ++ udp)
  let u := u ++ zeros (60 - u.length)
  if fld vl 11 0 = 0 then u else withTag (fld vl 14 12) (fld vl 11 0) u

/-- Frames of a packet the SHADOW formed and does not send count into DROPPED and SHADOW_RETIRED (R426). -/
def Dev.tsRetire (n : Nat) (f : QFrame) (d : Dev) : Dev := (d.add64 (kTs n 0x21) f.frames).add64 (key 0x7005 n) f.frames

/-- The SHADOW keeps its two newest packets (R426). -/
def Dev.tsHold (n : Nat) (f : QFrame) (d : Dev) : Dev :=
  match (d.talker n).held with
  | a :: b :: t => (d.modTalker n (fun x => { x with held := b :: t ++ [f] })).tsRetire n a
  | l => d.modTalker n (fun x => { x with held := l ++ [f] })

/-- This twin launches the packet that begins at a boundary: in every role but SHADOW from the handover's boundary on, as SHADOW only one that began before it (R426, R438). -/
def Dev.tsLaunches (d : Dev) (start : Nat) : Bool := if d.get 0x700301 = 2 then start < d.twin.launchTo else d.twin.launchFrom ≤ start

/-- A packet is complete at boundary n + spp: it is formed, and placed on ring 4 with its launch time or into the switch at E (R176, R177); a stop asked for then takes effect (R179). -/
def Dev.tsComplete (n : Nat) (d : Dev) : Dev :=
  let t := d.talker n
  let spp := d.tsSpp n
  if !t.run || spp = 0 || t.frames.length < spp || d.med.index < t.start + spp then d
  else
    let fs := t.frames.take spp
    let seq := match t.report with
      | some (b, q, _) => if d.get 0x700301 = 2 then (q + (t.start - b) / spp) % 65536 else t.seq.getD q
      | none => match t.seq with | some s => s | none => d.time64
    let body := if d.get (kTs n 1) ≥ 3 then d.aafBytes n t.start seq t.mr fs else d.rtpBytes n t.start seq t.marker fs
    let (x, d) := d.fresh
    let mac := match d.tsMac n with | some m => m | none => 0
    let bytes := d.tsFrameBytes n mac (x % 65536) body
    let k := ceilDiv bytes.length 512
    let port := d.get (kTs n 0x11)
    let f : QFrame := { bytes := bytes, cls := d.tcOf (fld (d.get (kTs n 9)) 14 12), ring := some 4, chain := List.replicate k { buf := 0, control := 0, port := port, len := 0 },
                        port := port, talker := some n, frames := spp, seq := seq % 65536,
                        launch := if port = 0 then none else some (boundaryTime d.fs (t.start + spp) + d.get (kTs n 0x12)) }
    let d := if !d.tsLaunches t.start then d else d.add64 (key 0x3314 8) k
    let d := d.modTalker n (fun t => { t with frames := t.frames.drop spp, start := t.start + spp, marker := false, seq := some ((seq + 1) % 65536) })
    let d := if !d.tsLaunches t.start then d.tsHold n f
      else if port = 0 then
        (let (ok, a) := d.enqueue 2 false f
         if ok then a else a.frameLost true 0 f)
      else { d with net := { d.net with media := d.net.media ++ [f] } }
    if t.stop then (d.modTalker n (fun t => { t with frames := [] })).tsIdle n else d

/-- Every running talker takes its frame of the boundary; one asked to stop takes none beyond its packet. -/
def Dev.tsBoundary (d : Dev) : Dev :=
  if !d.streamsOn then d
  else (upto 16).foldl (fun (a : Dev) n =>
    let t := a.talker n
    if t.run && !(t.stop && t.frames.length ≥ a.tsSpp n) && t.start + t.frames.length ≤ a.med.index then a.tsFrame n else a) d

/-- One attempt to resolve a destination, with the address it found (R180): three failures set RESOLVE_FAIL with EV54, and the talker keeps trying each second. -/
def Dev.tsTry (n : Nat) (found : Option Nat) (d : Dev) : Dev :=
  let t := d.talker n
  if !d.bitOf (kTs n 0x28) 1 || d.now < t.tryAt then d
  else match found with
    | some m => ((d.modTalker n (fun t => { t with mac := some m, fails := 0, refreshAt := d.now + 60000000000 })).putBit (kTs n 0x28) 1 false).putBit (kTs n 0x28) 3 false
    | none =>
      let d := d.modTalker n (fun t => { t with fails := t.fails + 1, tryAt := d.now + 1000000000 })
      if t.fails + 1 = 3 then (d.putBit (kTs n 0x28) 3 true).raise 54 else d

/-- A resolved address is refreshed without interrupting the stream (R180). -/
def Dev.tsRefresh (n : Nat) (found : Option Nat) (d : Dev) : Dev :=
  let t := d.talker n
  if t.mac.isNone || d.now < t.refreshAt then d
  else d.modTalker n (fun t => { t with refreshAt := d.now + 60000000000, mac := match found with | some m => some m | none => t.mac })

/-! Listeners -/

/-- The rule of group 0x20 + n (R183). -/
def Dev.ruleListener (d : Dev) (n : Nat) (v : Nat → Nat) : Option Nat :=
  let f := v (kLs n 1)
  let ch := v (kLs n 2)
  let spp := sppOf (v (kLs n 0x10)) (v (kLs n 3))
  let l := v (kLs n 0xE)
  let dep := v (kLs n 0xF)
  let used := ((upto 16).filter (fun o => o != n)).foldl (fun a o => a + d.get (kLs o 2) * d.get (kLs o 0xF) * 4) (ch * dep * 4)
  if ch < 1 || ch > maxChannels spp (fmtWidth f) then some 0
  else if !d.mapFits 0x3500 n v then some 1
  else if v (kLs n 0x10) ≠ d.get 0x210000 then some 2
  else if !(spp ≤ l && l + spp ≤ dep && dep ≤ 4096) then some 3
  else if used > 524288 then some 4
  else if f ≥ 3 && v (kLs n 0xA) = 0 then some 5
  else none

/-- A listener has a committed set. -/
def Dev.lsSet (d : Dev) (n : Nat) : Bool := (d.ruleListener n d.get).isNone

/-- The listener steers the MPLL (R194). -/
def Dev.lsSteers (d : Dev) (n : Nat) : Bool := d.steerSource = 2 && d.get 0x210400 = n

/-- A packet time in ns. -/
def Dev.lsPacketNs (d : Dev) (n : Nat) : Nat := d.lsSpp n * 1000000000 / rateHz (d.get (kLs n 0x10))

/-- An event raised at most once in a time for one listener. -/
def once (last : Option Nat) (now gap : Nat) : Bool := match last with | some t => now ≥ t + gap | none => true

def Dev.lsEv50 (n : Nat) (d : Dev) : Dev := if once (d.listener n).ev50 d.now 1000000 then (d.modListener n (fun l => { l with ev50 := some d.now })).raise 50 else d
def Dev.lsEv51 (n : Nat) (d : Dev) : Dev := if once (d.listener n).ev51 d.now 1000000 then (d.modListener n (fun l => { l with ev51 := some d.now })).raise 51 else d
def Dev.lsEv52 (n : Nat) (d : Dev) : Dev := if once (d.listener n).ev52 d.now 1000000000 then (d.modListener n (fun l => { l with ev52 := some d.now })).raise 52 else d
def Dev.lsEv53 (n : Nat) (d : Dev) : Dev := if once (d.listener n).ev53 d.now 1000000 then (d.modListener n (fun l => { l with ev53 := some d.now })).raise 53 else d

/-- The frames in a listener's buffer count into DROPPED. -/
def Dev.lsDrop (n : Nat) (d : Dev) : Dev :=
  (d.add64 (kLs n 0x21) (d.listener n).buf.length).modListener n (fun l => { l with buf := [] })

/-- A listener returns to WAITING (Table 7-6): EV49 if it was LOCKING or LOCKED. -/
def Dev.lsWait (n : Nat) (d : Dev) : Dev :=
  let s := d.get (kLs n 0x28)
  let d := d.modListener n (fun l => { l with align := none, good := 0, late := 0, slot := none, sum := 0, cnt := 0, prev := none })
  let d := d.put (kLs n 0x28) 1
  if s ≥ 2 then d.raise 49 else d

/-- The sender is forgotten. -/
def Dev.lsForget (n : Nat) (d : Dev) : Dev := (d.modListener n (fun l => { l with sender := none })).putBit (kLs n 0x29) 0 false

/-- The static multicast entry of a listener with LS_FORWARD (R184): written while it is joined, removed when it leaves. -/
def Dev.lsJoin (n : Nat) (on : Bool) (d : Dev) : Dev :=
  let g := d.lsGroup n
  let f := d.get (kLs n 0x13)
  if on && g ≠ 0 && f ≠ 0 then d.put (key 0x3206 (0x20 + n)) (g + (4 + f % 4) * 2 ^ 48 + 2 ^ 63)
  else d.put (key 0x3206 (0x20 + n)) 0

/-- A listener leaves: buffer dropped, entry removed, OFF; EV49 if it was LOCKING or LOCKED. -/
def Dev.lsOff (n : Nat) (d : Dev) : Dev :=
  let s := d.get (kLs n 0x28)
  if s = 0 then d
  else
    let d := d.when (d.lsGroup n ≠ 0 && d.get (kLs n 0x13) ≠ 0) (Dev.lsJoin n false)
    let d := ((d.lsDrop n).lsForget n).put (kLs n 0x28) 0
    let d := d.modListener n (fun l => { ({} : Listener) with last := l.last, ev50 := l.ev50, ev51 := l.ev51, ev52 := l.ev52, ev53 := l.ev53, had := false })
    if s ≥ 2 then d.raise 49 else d

/-- A listener joins and starts in WAITING, with a committed set (R184, Table 7-6). -/
def Dev.lsStart (n : Nat) (d : Dev) : Dev :=
  if d.get (kLs n 0x28) = 0 && d.streamsOn && d.get (kLs n 0) = 1 && d.lsSet n then
    let d := d.put (kLs n 0x28) 1
    d.when (d.lsGroup n ≠ 0 && d.get (kLs n 0x13) ≠ 0) (Dev.lsJoin n true)
  else d

/-- A write of LS_ENABLE. -/
def Dev.lsEnable (n v : Nat) (d : Dev) : Dev := if v = 1 then d.lsStart n else d.lsOff n

/-- What precedes a commit of group 0x20 + n that changes more than map entries: frames dropped and the old group left (R184, R192). -/
def Dev.lsBefore (n : Nat) (d : Dev) : Dev := if d.get (kLs n 0x28) = 0 then d else (d.lsDrop n).when (d.lsGroup n ≠ 0 && d.get (kLs n 0x13) ≠ 0) (Dev.lsJoin n false)

/-- What follows it: the listener rejoins and returns to WAITING. -/
def Dev.lsCommit (n : Nat) (only : Bool) (d : Dev) : Dev :=
  if only then d
  else if d.get (kLs n 0x28) = 0 then d.lsStart n
  else ((d.lsForget n).lsWait n).when (d.lsGroup n ≠ 0 && d.get (kLs n 0x13) ≠ 0) (Dev.lsJoin n true)

/-- What a received packet says: its sender, sequence number and its bits, timestamp, tags to import, and its payload (R171, R185). -/
structure PktIn where
  src : Nat
  id : Nat
  seq : Nat
  bits : Nat
  ts : Nat
  tags : Nat
  pay : List Byte
  deriving DecidableEq, Repr

/-- The tag element with an ID in the one-byte header extension elements of RFC 8285. -/
def extFind (id : Nat) : Nat → List Byte → Nat
  | 0, _ => 0
  | _, [] => 0
  | n + 1, b :: t =>
    if b = 0#8 then extFind id n t
    else
      let l := b.toNat % 16 + 1
      if b.toNat / 16 = id then beAt 0 1 t % 16 else extFind id n (t.drop l)

/-- An RTP packet as a listener reads it; none where its headers are not those of R171. -/
def Dev.rtpRead (d : Dev) (n : Nat) (b : List Byte) : Option PktIn :=
  match ipOf b with
  | none => none
  | some p =>
    let o := p.off + 8
    let f := beAt o 1 b
    let cc := f % 16
    let x := bit f 4
    let h := 12 + 4 * cc
    let xl := if x then 4 + 4 * beAt (o + h + 2) 2 b else 0
    let len := beAt (p.off + 4) 2 b - 8
    let pt := beAt (o + 1) 1 b % 128
    if f / 64 ≠ 2 || bit f 5 || len < h + xl || (d.get (kLs n 0xC) ≠ 0 && pt ≠ d.get (kLs n 0xC)) then none
    else
      let tag := if x && d.get (kLs n 0x12) ≠ 0 && beAt (o + h) 2 b = 0xBEDE then extFind (d.get (kLs n 0x12)) 64 (slice (o + h + 4) (xl - 4) b) else 0
      some { src := (if p.ver = 4 then beAt 26 4 b else beAt 22 16 b), id := beAt (o + 8) 4 b, seq := beAt (o + 2) 2 b, bits := 16, ts := beAt (o + 4) 4 b, tags := tag,
             pay := slice (o + h + xl) (len - h - xl) b }

/-- An AAF stream data unit as a listener reads it. -/
def Dev.aafRead (d : Dev) (n : Nat) (b : List Byte) : Option PktIn :=
  let f := d.get (kLs n 1)
  let f1 := beAt 15 1 b
  let cf := beAt 31 2 b
  let len := beAt 34 2 b
  let sp := beAt 36 1 b
  if beAt 14 1 b ≠ 2 || !bit f1 0 || bit sp 4 || beAt 30 1 b ≠ aafFormat f || cf / 4096 ≠ aafNsr (d.get (kLs n 0x10)) || cf % 1024 ≠ d.get (kLs n 2)
      || beAt 33 1 b > 8 * fmtWidth f then none
  else some { src := 0, id := beAt 18 8 b, seq := beAt 16 1 b, bits := 8, ts := beAt 26 4 b, tags := (if d.get (kLs n 0x12) = 0 then 0 else sp % 16), pay := slice 38 len b }

/-- The source filter and the AAF stream_id of R185, check 1. -/
def Dev.lsFilter (d : Dev) (n : Nat) (b : List Byte) : Bool :=
  if d.get (kLs n 1) ≥ 3 then d.get (kLs n 0xB) = 0 || beAt 18 8 b = d.get (kLs n 0xB)
  else match ipOf b with
    | some p => if p.ver = 4 then d.get (kLs n 8) = 0 || beAt 26 4 b = d.get (kLs n 8) else d.ip6 (kLs n 9) = 0 || beAt 22 16 b = d.ip6 (kLs n 9)
    | none => false

/-- A listener without a source filter, or with LS_STREAM_ID 0 (R190). -/
def Dev.lsAdopts (d : Dev) (n : Nat) : Bool :=
  if d.get (kLs n 1) ≥ 3 then d.get (kLs n 0xB) = 0 else if d.get (kLs n 4) = 0 then d.get (kLs n 8) = 0 else d.ip6 (kLs n 9) = 0

/-- The frames of a payload: channels of `w` bytes, each the upper bytes of a Q1.31 word. -/
def framesOf (ch w tags : Nat) : Nat → List Byte → List (List Smp)
  | 0, _ => []
  | k + 1, b => (upto ch).map (fun c => smpOf (beAt (c * w) w b * 2 ^ (32 - 8 * w)) tags) :: framesOf ch w tags k (b.drop (ch * w))

/-- The sample index of a packet's first frame, nearest a local index or counter value (R186). -/
def Dev.pktIndex (d : Dev) (n : Nat) (p : PktIn) (near : Int) : Int :=
  if d.get (kLs n 1) ≥ 3 then boundaryAt d.fs ((d.time64 : Int) + toInt 32 (ofInt 32 ((p.ts : Int) - d.time64))).toNat
  else near + toInt 32 (ofInt 32 ((p.ts : Int) - d.get (kLs n 0xD) - near))

/-- Frames enter the playout buffer from boundary `s` on; one whose boundary has passed, or that finds its place taken, counts into DROPPED. -/
def Dev.lsPlace (n : Nat) : Int → List (List Smp) → Dev → Dev
  | _, [], d => d
  | s, f :: t, d =>
    let i := s.toNat
    let l := d.listener n
    let d := if s ≤ d.med.index then d.add64 (kLs n 0x21) 1
      else if (assoc i l.buf).isSome then (d.add64 (kLs n 0x21) 1).modListener n (fun l => { l with buf := assocPut i f l.buf })
      else d.modListener n (fun l => { l with buf := assocPut i f l.buf })
    d.lsPlace n (s + 1) t

/-- The steering error of a listener (R194): the mean level of its first 32 timely packets in LOCKED is the target, and each later one moves the loop. -/
def Dev.lsSteer (n : Nat) (b : Int) (d : Dev) : Dev :=
  if !d.lsSteers n || d.get (kLs n 0x28) ≠ 3 then d
  else
    let l := d.listener n
    if l.cnt < 32 then
      let d := d.modListener n (fun l => { l with sum := l.sum + b, cnt := l.cnt + 1 })
      if l.cnt + 1 = 32 then d.putI 32 (kLs n 0x2B) (roundDiv (l.sum + b) 32) else d
    else d.steer

/-- A timely packet moves the listener's state (R189, Table 7-6). -/
def Dev.lsTimely (n : Nat) (p : PktIn) (d : Dev) : Dev :=
  let l := d.listener n
  let next : Bool := match l.prev with | some q => p.seq = (q + 1) % 2 ^ p.bits | none => true
  let good := if next then l.good + 1 else 1
  let d := d.modListener n (fun l => { l with good := good, late := 0, prev := some p.seq })
  let s := d.get (kLs n 0x28)
  if s = 1 then
    let adopted : Bool := l.sender.isNone
    let d := d.modListener n (fun l => { l with sender := some (p.src, p.id), had := true, good := 1 })
    let d := (d.putBit (kLs n 0x29) 0 true).put (kLs n 0x2E) (p.id % 2 ^ 32)
    let d := if adopted then (let d := if l.had then d.inc (kLs n 0x38) else d; d.raise 52) else d
    d.put (kLs n 0x28) 2
  else if s = 2 && good ≥ 8 then ((d.put (kLs n 0x28) 3).putBit (kLs n 0x29) 1 false).raise 48
  else d

/-- An untimely packet (R189): sixteen in a row return the listener to WAITING with UNTIMELY set. -/
def Dev.lsUntimely (n : Nat) (d : Dev) : Dev :=
  let l := d.listener n
  let d := d.modListener n (fun l => { l with good := 0, late := l.late + 1 })
  if d.get (kLs n 0x28) ≥ 2 && l.late + 1 ≥ 16 then (d.putBit (kLs n 0x29) 1 true).lsWait n else d

/-- An accepted packet (R186 to R190, R196): `frac` is the part of a sample, in 1/65 536, that has passed since the last boundary. -/
def Dev.lsAccept (n frac : Nat) (p : PktIn) (d : Dev) : Dev :=
  let spp := d.lsSpp n
  let fs := framesOf (d.get (kLs n 2)) (fmtWidth (d.get (kLs n 1))) p.tags spp p.pay
  let d := (d.add64 (kLs n 0x30) 1).add64 (kLs n 0x20) spp
  let d := d.modListener n (fun l => { l with heard := some d.now })
  let l := d.listener n
  if l.recent.contains (p.seq, p.ts) then ((d.add64 (kLs n 0x34) 1).add64 (kLs n 0x21) spp).lsEv51 n
  else
    let d := d.modListener n (fun l => { l with recent := ((p.seq, p.ts) :: l.recent).take 64 })
    let idx : Int := d.med.index
    let arrival := d.get (kLs n 0x11) = 1
    let own := match (if arrival then l.align else some 0) with | some a => d.pktIndex n p (idx - a) | none => d.pktIndex n p idx
    let a : Int := if arrival then (match l.align with | some a => a | none => idx + d.get (kLs n 0xE) - own) else d.get (kLs n 0xE)
    let d := d.when (arrival && l.align.isNone && d.get (kLs n 0x28) = 1) (fun x => x.modListener n (fun l => { l with align := some a }))
    let s := own + a
    let b := (s - idx) * 65536 - frac
    let dep : Int := d.get (kLs n 0xF)
    let d := if l.fresh then ((d.putI 32 (kLs n 0x2C) b).putI 32 (kLs n 0x2D) b).modListener n (fun l => { l with fresh := false })
      else (d.putI 32 (kLs n 0x2C) (min (d.getI 32 (kLs n 0x2C)) b)).putI 32 (kLs n 0x2D) (max (d.getI 32 (kLs n 0x2D)) b)
    if b < 0 then (((d.lsPlace n s fs).add64 (kLs n 0x32) 1).lsEv51 n).lsUntimely n
    else if b + spp * 65536 > dep * 65536 then (((d.add64 (kLs n 0x21) spp).add64 (kLs n 0x33) 1).lsEv51 n).lsUntimely n
    else
      let d := d.lsPlace n s fs
      let d := d.putI 32 (kLs n 0x2A) b
      let behind : Bool := match l.high with | some h => h ≠ p.seq && toInt p.bits (ofInt p.bits ((p.seq : Int) - h)) < 0 | none => false
      let d := if behind then d.add64 (kLs n 0x35) 1 else d.modListener n (fun l => { l with high := some p.seq })
      let near := b ≤ spp * 65536 || dep * 65536 - (b + spp * 65536) ≤ spp * 65536
      let d := if near && !d.bitOf (kLs n 0x29) 2 then (d.putBit (kLs n 0x29) 2 true).raise 55 else d
      let d := d.modListener n (fun l => { l with slot := match l.slot with | some x => some x | none => some (s.toNat % spp) })
      (d.lsTimely n p).lsSteer n b

/-- A packet arrives at a listener (R185, R190): destination and filters, length and format, then the adopted sender. -/
def Dev.lsPacket (n frac : Nat) (b : List Byte) (d : Dev) : Dev :=
  let (_, u) := untag b
  if !d.lsOn n || !d.streamsOn || !d.lsDest n u then d
  else if !d.lsFilter n u then d.add64 (kLs n 0x36) 1
  else
    let want := d.lsSpp n * d.get (kLs n 2) * fmtWidth (d.get (kLs n 1))
    match (if d.get (kLs n 1) ≥ 3 then d.aafRead n u else d.rtpRead n u) with
    | none => (d.add64 (kLs n 0x37) 1).lsEv53 n
    | some p =>
      if p.pay.length ≠ want then (d.add64 (kLs n 0x37) 1).lsEv53 n
      else
        let l := d.listener n
        match l.sender with
        | some x =>
          if x = (p.src, p.id) then d.lsAccept n frac p
          else
            let active : Bool := match l.heard with | some t => decide (d.now ≤ t + 4 * d.lsPacketNs n) | none => false
            if active || !d.lsAdopts n then (d.add64 (kLs n 0x36) 1).lsEv52 n
            else ((d.lsForget n).lsWait n).lsAccept n frac p
        | none => d.lsAccept n frac p

/-- No accepted packet for 4 packet times (Table 7-6). -/
def Dev.lsStop (n : Nat) (d : Dev) : Dev :=
  match (d.listener n).heard with
  | some t => if d.get (kLs n 0x28) ≥ 2 && t + 4 * d.lsPacketNs n ≤ d.now then d.lsWait n else d
  | none => d

/-- A packet slot passed with no frames counts as lost (Table 7-7). -/
def Dev.lsLost (n : Nat) (d : Dev) : Dev :=
  if (d.listener n).missed = 0 then d
  else ((d.modListener n (fun l => { l with missed := l.missed - 1 })).add64 (kLs n 0x31) 1).lsEv50 n

/-- One listener at a boundary (R189, R191): its mapped source nodes' samples, and the part after it. -/
def Dev.lsBoundary1 (n : Nat) (d : Dev) : List (Nat × Smp) × Dev :=
  let map := mapOf d.get 0x3500 n
  let l := d.listener n
  let hold := (map.zip (upto map.length)).map (fun e => (e.1, ({ v := nthD 0 l.last e.2, t := 8 } : Smp)))
  if d.get (kLs n 0x28) = 0 then ((if l.last.isEmpty then [] else hold), d)
  else
    let i := d.med.index
    match assoc i l.buf with
    | some f =>
      let d := d.modListener n (fun l => { l with buf := assocDel i l.buf, last := (f.zip (upto f.length)).map (fun e => if e.1.isInv then nthD 0 l.last e.2 else e.1.v) })
      (map.zip f, d.add64 (kLs n 0x23) 1)
    | none =>
      let first : Bool := match l.slot with | some x => d.lsSpp n ≠ 0 && i % d.lsSpp n = x | none => false
      let d := d.when (first && d.get (kLs n 0x28) ≥ 2) (fun a => a.modListener n (fun l => { l with missed := l.missed + 1 }))
      (hold, (d.add64 (kLs n 0x22) 1).add64 (kLs n 0x23) 1)

/-- Every listener's source nodes at a boundary. -/
def Dev.lsBoundary (d : Dev) : List (Nat × Smp) × Dev :=
  (upto 16).foldl (fun (r : List (Nat × Smp) × Dev) n =>
    let (l, a) := r.2.lsBoundary1 n
    (r.1 ++ l, a)) ([], d)

/-! The engine as a whole -/

/-- Streams whose ENABLE is 1 restart when READY is entered (R170). -/
def Dev.strStart (d : Dev) : Dev :=
  (upto 16).foldl (fun (a : Dev) n =>
    let a := if a.get (kTs n 0) = 1 then a.tsResolve n else a
    if a.get (kLs n 0) = 1 then a.lsStart n else a) d

/-- The stream engine stops every stream and counts the frames it holds into DROPPED (R170, R88). -/
def Dev.strStop (d : Dev) : Dev :=
  (upto 16).foldl (fun (a : Dev) n => (((a.tsDiscard n).tsIdle n).putBit (kTs n 0x28) 1 false).lsOff n) d

/-- The epoch step at step 2 of Table 5-8 (Table 7-8). -/
def Dev.strEpoch (d : Dev) : Dev :=
  (upto 16).foldl (fun (a : Dev) n =>
    let a := a.tsRestart n
    if a.get (kLs n 0x28) = 0 then a else (a.lsDrop n).lsWait n) d

/-! Objects of 3400h to 35FFh -/

def Dev.strValue (d : Dev) (k : Nat) : Option Nat :=
  let i := k / 256
  let s := k % 256
  if 0x3400 ≤ i && i ≤ 0x340F && s = 0x28 then some (setBit (d.get k) 2 (d.steerSource = 3 || d.steerSource = 0))
  else if 0x3500 ≤ i && i ≤ 0x350F && s = 0x29 then some (setBit (d.get k) 3 (d.lsSteers (i - 0x3500)))
  else none

/-- What a read does beside returning the value: MARGIN clears, and the extremes of B restart. -/
def Dev.strTouch (k : Nat) (d : Dev) : Dev :=
  let i := k / 256
  let s := k % 256
  if 0x3500 ≤ i && i ≤ 0x350F && s = 0x29 then d.putBit k 2 false
  else if 0x3500 ≤ i && i ≤ 0x350F && s = 0x2C then d.modListener (i - 0x3500) (fun l => { l with fresh := true })
  else d

/-- TS_TAG_EXT and LS_TAG_IMPORT take an element ID of 1 to 14 for RTP (Tables 7-4, 7-5); the range is checked with the format by no rule of the spec, so it is left to use. -/
def Dev.strWrite (k v : Nat) (d : Dev) : Dev :=
  let i := k / 256
  let s := k % 256
  if s ≠ 0 then d else if i < 0x3500 then d.tsEnable (i - 0x3400) v else d.lsEnable (i - 0x3500) v

end Sys2Proof.Machine
end

