-- ==== Sys2Proof/Machine/TwinLink.lean ====
section
/-! DEFINITION. Twin pairing and the Chord link (R420 to R443): roles and leases, heartbeats, mirrored samples and state, fencing, takeover and handover. -/
namespace Sys2Proof.Machine

def Dev.modTwin (f : Twin → Twin) (d : Dev) : Dev := { d with twin := f d.twin }

/-- TWIN_STATE: 0 OFF, 1 TRAINING, 2 NEGOTIATING, 3 PAIRED, 4 ALONE, 5 WAITING, 6 FENCED, 7 REFUSED. -/
def Dev.twinState (d : Dev) : Nat := d.get 0x700300

/-- TWIN_ROLE: 0 unpaired, 1 ACTIVE, 2 SHADOW. -/
def Dev.twinRole (d : Dev) : Nat := d.get 0x700301

/-- A bit of TWIN_STATUS: 0 and 1 the lanes, 2 SHADOW_READY, 3 FENCE_OUT, 4 FENCE_IN, 5 ALIGN_FAULT, 6 HOLD_IDENTITY, 7 HOLD_SUBS, 8 HOLD_GM, 9 PAIR_FAULT, 10 MISMATCH. -/
def Dev.tbit (d : Dev) (i : Nat) : Bool := d.bitOf 0x700303 i
def Dev.setTbit (i : Nat) (b : Bool) (d : Dev) : Dev := d.putBit 0x700303 i b

/-- TWIN_STATE changes with EV112 (Table 18-9). -/
def Dev.setTwin (s : Nat) (d : Dev) : Dev := if d.twinState = s then d else (d.put 0x700300 s).raise 112

/-- SHADOW_READY or MISMATCH changes with EV114. -/
def Dev.setReady114 (i : Nat) (b : Bool) (d : Dev) : Dev := if d.tbit i = b then d else (d.setTbit i b).raise 114

/-- EV117, at most once per ms. -/
def Dev.ev117 (d : Dev) : Dev :=
  let quiet : Bool := match d.twin.ev117 with | some t => decide (d.now < t + 1000000) | none => false
  if quiet then d else (d.modTwin (fun t => { t with ev117 := some d.now })).raise 117

/-- The black-box record of a takeover or a fence (Table 19-14). -/
def Dev.twinRecord (code : Nat) (d : Dev) : Dev := d.bbMake 9 1 code d.twinRole (d.get 0x700401) (d.get 0x700402)

/-- The Chord link may run: TWIN_ENABLE is 1, CHORD is ready and this twin is not fenced. -/
def Dev.chordUp (d : Dev) : Bool := d.get 0x700000 = 1 && d.ready 26 && !d.twin.fenceIn

/-- A frame is sent on both lanes: TYPE, LENGTH, SEQ and payload (Table 18-3). -/
def Dev.chordSend (type : Nat) (payload : List Byte) (d : Dev) : Dev :=
  d.modTwin (fun t => { t with wire := leBytes 1 type ++ leBytes 2 payload.length ++ leBytes 2 t.sent ++ payload, sent := (t.sent + 1) % 65536 })

/-! Roles and leases (R422, R431) -/

/-- The identity and subscription leases are held or not. -/
def Dev.holdEnd (b : Bool) (d : Dev) : Dev := (d.setTbit 6 b).setTbit 7 b

/-- The clockIdentity of the pair (R423). -/
def Dev.pairIdent (d : Dev) : Nat := eui64 (d.get 0x700100)

/-- The grandmaster role is taken (R431, R437). -/
def Dev.gmTake (d : Dev) : Dev := (d.setTbit 8 true).becomeGm d.pairIdent

/-- The roles are settled when paired: the ACTIVE holds the endpoint leases. -/
def Dev.rolePaired (active : Bool) (d : Dev) : Dev :=
  let d := (d.put 0x700301 (if active then 1 else 2)).holdEnd active
  let d := d.modTwin (fun t => { t with beatAt := d.now, endLease := d.now + 200000, hand := none, failover := false, launchFrom := 0, launchTo := 0, apart := 0 })
  let d := ((d.setReady114 10 false).setReady114 2 false).setTwin 3
  let gm : Bool := d.get kTimeState = 6 || d.get kTimeState = 7
  if active then d.setTbit 8 gm else d.setTbit 8 false

/-- Talker packets the SHADOW kept are launched at a takeover: on ring 4, or into the switch at E (R437). -/
def Dev.launchHeld (d : Dev) : Dev :=
  (upto 16).foldl (fun (a : Dev) n =>
    let l := (a.talker n).held
    let a := a.modTalker n (fun t => { t with held := [] })
    l.foldl (fun (b : Dev) f =>
      let b := b.add64 (key 0x3314 8) f.chain.length
      if f.port = 0 then (let (ok, c) := b.enqueue 2 false f; if ok then c else c.frameLost true 0 f)
      else { b with net := { b.net with media := b.net.media ++ [f] } }) a) d

/-- Every packet kept is retired. -/
def Dev.retireAll (d : Dev) : Dev :=
  (upto 16).foldl (fun (a : Dev) n => ((a.talker n).held.foldl (fun (b : Dev) f => b.tsRetire n f) a).modTalker n (fun t => { t with held := [] })) d

/-- A takeover or handover completes on the claiming twin: counted, its cause and CLAIM_TIME, a record, EV113. The time is open within the bounds of R437. -/
def Dev.claimed (cause lo hi : Nat) (d : Dev) : Dev :=
  let (x, d) := d.fresh
  (d.does [Dev.inc 0x700400, Dev.put 0x700401 cause, Dev.put 0x700402 (lo + x % (hi - lo + 1))]).twinRecord 113 |>.raise 113

/-! Fencing (R433 to R436) -/

/-- FENCE_OUT_N asserted: EV115 and a record; the partner's leases are claimed 2 us later, with EV5 (R435). -/
def Dev.fenceAssert (d : Dev) : Dev :=
  let d := (d.modTwin (fun t => { t with fenceOut := true, fenceOutAt := d.now })).setTbit 3 true
  ((d.raise 115).twinRecord 115).raise 5

/-- The partner is lost or put aside: this twin stands ALONE as ACTIVE with every lease; its held packets are launched where it was SHADOW (R437, R440). -/
def Dev.standAlone (d : Dev) : Dev :=
  let shadow := d.twinRole = 2
  let gm := bit d.twin.flags 2
  let d := (d.put 0x700301 1).holdEnd true
  let d := if gm || d.tbit 8 then d.gmTake else if shadow && d.tim.master then { d with tim := { d.tim with fresh := true, meas := [] } } else d
  let d := d.modTwin (fun t => { t with hand := none, failover := false, launchFrom := 0, launchTo := 0, flags := 0 })
  let d := (d.setReady114 2 false).setTwin 4
  if shadow then d.launchHeld else d

/-- The partner is fenced after its heartbeats stopped, or a handover it did not finish: as SHADOW a takeover (R435, R437). -/
def Dev.fenceTake (cause : Nat) (d : Dev) : Dev :=
  let shadow := d.twinRole = 2
  let d := d.fenceAssert.standAlone
  if shadow then d.claimed cause 2 500 else d

/-- No HEARTBEAT for 100 us as SHADOW or 300 us as ACTIVE (R435). -/
def Dev.beatLost (d : Dev) : Dev :=
  let limit := if d.twinRole = 2 then 100000 else 300000
  if d.twinState = 3 && !d.twin.fenceIn && d.twin.beatAt + limit ≤ d.now then (d.raise 112).fenceTake 1 else d

/-- FENCE_IN_N qualifies low (R433): transmitters idle, so the links drop; leases released; FENCE_OUT_N held high; FENCED; SAFE cause [6] while the supervisor runs. Of two twins that fence within 1 us the one with TWIN_ID low stays unfenced (R434). -/
def Dev.fenceEnter (d : Dev) : Dev :=
  if d.twin.fenceIn || (d.twin.fenceOut && !d.twin.id && d.now ≤ d.twin.fenceOutAt + 1200) then d
  else
    let d := d.modTwin (fun t => { t with fenceIn := true, fenceOut := false, hand := none, failover := false, flags := 0 })
    let d := ((d.setTbit 4 true).setTbit 3 false).holdEnd false
    let d := ((d.setTbit 8 false).setTbit 0 false).setTbit 1 false
    let d := (d.raise 115).twinRecord 115
    let d := ((d.setReady114 2 false).setTwin 6).put 0x700301 0
    let d := (d.linkSet 0 0).linkSet 1 0
    if d.sup.coreOn then (d.causeSet 6).outSettle else d

/-- Training begins where the link may run. -/
def Dev.twinTrain (d : Dev) : Dev := if d.chordUp && (d.twinState = 0 || d.twinState = 6) then d.setTwin 1 else d

/-- FENCE_IN_N has been high for 10 us: transmitters back, cause [6] clear, and this twin trains to join; it does not claim alone until its next POR or BOR (R436). -/
def Dev.fenceLeave (d : Dev) : Dev :=
  if d.twin.fenceIn then
    let d := ((d.modTwin (fun t => { t with fenceIn := false, barred := true })).setTbit 4 false).raise 115
    let d := (d.causeClear 6).outSettle
    if d.chordUp then d.setTwin 1 else d.setTwin 0
  else d

/-- FENCE_OUT_N released, by FENCE_RELEASE or after AUTO_REJOIN seconds: EV115 (R436). -/
def Dev.fenceRelease (d : Dev) : Dev :=
  if d.twin.fenceOut then ((d.modTwin (fun t => { t with fenceOut := false })).setTbit 3 false).raise 115 else d

def Dev.autoRejoin (d : Dev) : Dev :=
  let s := d.get 0x700003
  if s != 0 && d.twin.fenceOut && d.twin.fenceOutAt + s * 1000000000 ≤ d.now then d.fenceRelease else d

/-- FORCE_ALONE: the partner is fenced and the shared identity claimed; the bar of R436 ends (R435, R436). -/
def Dev.forceAlone (d : Dev) : Dev := ((d.modTwin (fun t => { t with barred := false })).fenceAssert.standAlone).claimed 5 2 500

/-- CLAIM_WAIT has run, 1 ms longer with TWIN_ID high, without pairing: the partner is fenced and the identity claimed, or a twin that may not claim stays WAITING (R440). -/
def Dev.claimWait (d : Dev) : Dev :=
  if d.chordUp && (d.twinState = 1 || d.twinState = 2) && d.twin.upAt + (d.get 0x700004 + b2n d.twin.id) * 1000000 ≤ d.now then
    (if d.twin.barred then d.setTwin 5 else (d.fenceAssert.standAlone).claimed 5 2 500)
  else d

/-! The link (R427, R428, R439) -/

/-- A lane is faulty or good (R427). -/
def Dev.laneSet (lane : Nat) (good : Bool) (d : Dev) : Dev :=
  if lane < 2 && d.tbit lane != good && d.chordUp then ((d.setTbit lane good).when (!good) (Dev.inc 0x700405)).raise 116 else d

/-- Training and alignment are complete on both lanes (R439). -/
def Dev.chordTrained (d : Dev) : Dev :=
  let s := d.twinState
  if d.chordUp && (s = 1 || s = 4 || s = 5) then
    let d := (d.setTbit 0 true).setTbit 1 true
    if s = 4 then d else d.setTwin 2
  else d

/-- A HELLO with the partner's `1000.00`, `1001.00`, `1002.00`, TWIN_ID and hold of the shared identity: paired under the roles of R439, or refused. -/
def Dev.hello (model variant rev : Nat) (twin holds : Bool) (d : Dev) : Dev :=
  let s := d.twinState
  if !(d.chordUp && (s = 2 || (s = 4 && d.tbit 0))) then d
  else if model != d.get 0x100000 || variant != d.get 0x100100 || rev != d.get 0x100200 || twin = d.twin.id then ((d.setTbit 9 true).setTwin 7).raise 118
  else
    let d := d.setTbit 9 false
    if d.tbit 6 then d.rolePaired true else if holds then d.rolePaired false else d.rolePaired (b2n d.twin.id = d.get 0x700001)

/-- LINK_UP: a port that PTP uses has link. -/
def Dev.linkUp (d : Dev) : Bool := (d.bitOf 0x222200 0 && d.get 0x300200 != 0) || (d.bitOf 0x222200 1 && d.get 0x310300 != 0)

/-- The HEARTBEAT payload (Table 18-4). -/
def Dev.beatBytes (d : Dev) : List Byte :=
  let up : Bool := d.linkUp
  let flags := b2n (d.tbit 6) + 2 * b2n (d.tbit 7) + 4 * b2n (d.tbit 8) + 8 * b2n d.twin.failover + 16 * b2n (d.tbit 2 && d.twinRole = 2) + 32 * b2n up
  leBytes 1 d.twinRole ++ leBytes 1 flags ++ leBytes 1 d.mode ++ zeros 1 ++ leBytes 4 (d.get kEpoch) ++ leBytes 8 d.time64 ++ leBytes 4 d.med.index ++ leBytes 2 (d.get kSafeCause)
    ++ leBytes 4 (d.get kReady) ++ (upto 16).flatMap (fun n => leBytes 2 (d.talker n).launched) ++ leBytes 4 d.twin.syncs ++ zeros 2

/-- Every 20 us a HEARTBEAT is sent (R428). -/
def Dev.beatSend (d : Dev) : Dev := if d.chordUp && (2 ≤ d.twinState && d.twinState ≤ 4) then d.chordSend 2 d.beatBytes else d

/-- The ALIGN_FAULT watch (R429): two heartbeats in succession more than a boundary apart set it, 1 ms of agreement clears it. -/
def Dev.alignWatch (boundary : Nat) (d : Dev) : Dev :=
  let i := d.med.index % 2 ^ 32
  let off := toInt 32 (i + 2 ^ 32 - boundary % 2 ^ 32)
  if off.natAbs > 1 then
    let d := d.modTwin (fun t => { t with apart := t.apart + 1, agreeAt := none })
    if d.twin.apart ≥ 2 && !d.tbit 5 then (d.setTbit 5 true).ev117 else d
  else
    let d := d.modTwin (fun t => { t with apart := 0, agreeAt := if t.agreeAt.isNone then some d.now else t.agreeAt })
    match d.twin.agreeAt with
    | some t => if d.tbit 5 && t + 1000000 ≤ d.now then (d.setTbit 5 false).ev117 else d
    | none => d

/-- Packets that the ACTIVE reports as launched are retired (R426). -/
def Dev.retire (launched : List Nat) (d : Dev) : Dev :=
  (launched.zip (upto 16)).foldl (fun (a : Dev) (x : Nat × Nat) =>
    let gone (f : QFrame) : Bool := decide ((x.1 + 65536 - f.seq) % 65536 < 32768)
    let l := (a.talker x.2).held
    let a := (l.filter gone).foldl (fun (b : Dev) f => b.tsRetire x.2 f) a
    a.modTalker x.2 (fun t => { t with held := l.filter (fun f => !gone f) })) d

/-- SHADOW_READY holds: every enabled listener is LOCKED and talker in step, the Chord offset lies within 1 us, and the mode is READY, PLAY or PLAY-ECO without MISMATCH (R439). -/
def Dev.shadowOk (d : Dev) (offset : Int) : Bool :=
  let m := d.mode
  (upto 16).all (fun n => (d.get (kLs n 0) = 0 || d.get (kLs n 0x28) = 3) && (d.get (kTs n 0) = 0 || (d.talker n).run)) && decide (offset.natAbs ≤ 1000) && (m = 5 || m = 6 || m = 7) && !d.tbit 10

/-- SHADOW_READY follows its conditions. -/
def Dev.shadowCheck (offset : Int) (d : Dev) : Dev := if d.twinRole = 2 then d.setReady114 2 (d.shadowOk offset) else d

/-- The first boundary at least `ns` ahead whose index is a multiple of `m`. -/
def Dev.boundaryAhead (d : Dev) (ns m : Nat) : Nat := ceilDiv (boundaryAt d.fs (d.time64 + ns)) (max 1 m) * max 1 m

/-- The largest spp of the running talkers. -/
def Dev.sppMax (d : Dev) : Nat := (upto 16).foldl (fun m n => if (d.talker n).run then max m (d.tsSpp n) else m) 1

/-- A GRANT, REQUEST or DONE frame of a handover, with its boundary. -/
def Dev.handSend (kind s : Nat) (d : Dev) : Dev := d.chordSend 6 (leBytes 1 kind ++ leBytes 8 s)

/-- A HEARTBEAT arrives (R428 to R432): leases renewed, launched packets retired, the offset taken as a measurement on the SHADOW; FAILOVER on the ACTIVE brings a handover where the SHADOW can take it (R438). -/
def Dev.beat (h : Heart) (d : Dev) : Dev :=
  if !(d.chordUp && d.twinState = 3) then d
  else
    let old := d.twin
    let d := (d.modTwin (fun t => { t with beatAt := d.now, flags := h.flags, syncs := if bit h.flags 2 then h.syncs else t.syncs })).put 0x700304 h.mode
    let d := d.alignWatch h.boundary
    let d := if bit h.flags 2 && h.syncs != old.syncs then d.modTwin (fun t => { t with gmLease := d.now + 1000000000 }) else d
    let d := if bit h.flags 2 && d.tbit 8 then d.setTbit 8 false else d
    if d.twinRole = 2 then
      let d := if bit h.flags 0 && bit h.flags 1 then d.modTwin (fun t => { t with endLease := d.now + 200000 }) else d
      let d := h.starts.foldl (fun (a : Dev) (x : Nat × Nat × Nat × Nat) => a.modTalker x.1 (fun t => { t with report := some x.2 })) d
      let d := d.retire h.launched
      let d := if d.ready 5 then (d.measure h.offset).does [Dev.setTimeState (if h.synced then 3 else 4), Dev.put 0x223100 0, Dev.put 0x223000 6] else d
      let d := d.shadowCheck h.offset
      if bit h.flags 3 && d.twin.hand.isNone && (d.mode = 5 || d.mode = 6 || d.mode = 7) && !d.tbit 10 then
        let s := d.boundaryAhead 40000 1
        (d.modTwin (fun t => { t with hand := some { s := s, cause := 2, granted := true } })).handSend 2 s
      else d
    else d.setReady114 2 (bit h.flags 4)

/-- The grandmaster lease runs out while heartbeats continue: the other twin takes the role where its committed GM_CAPABLE is 1, with EV119 and EV5 (R431). -/
def Dev.gmExpire (d : Dev) : Dev :=
  if d.twinState = 3 && bit d.twin.flags 2 && d.twin.gmLease ≤ d.now && d.get 0x222500 = 1 && !d.tbit 8 then ((d.gmTake).raise 119).raise 5 else d

/-! Mirrored samples (R429, R430) -/

/-- A SAMPLES frame of boundary n arrives; each sample as a value and its tag. -/
def Dev.samplesIn_ (n : Nat) (l : List (Int × Nat)) (d : Dev) : Dev :=
  if d.chordUp && d.twinState = 3 then
    d.modTwin (fun t => { t with channels := l.length, frames := (n, l) :: t.frames.filter (fun f => f.1 != n && decide (d.med.index ≤ f.1 + 2)) })
  else d

/-- At a boundary this twin sends the samples of its transmit nodes with their tags. -/
def Dev.samplesSend (d : Dev) : Dev :=
  if d.chordUp && d.twinState = 3 && d.med.run then
    d.chordSend 3 (leBytes 8 d.med.index ++ (upto (d.get 0x700800)).flatMap (fun c => let s := d.sinkSample (0x80 + c); leBytes 4 s.word ++ leBytes 1 s.t))
  else d

/-- A boundary found no good SAMPLES frame: CRC_ERRORS or FRAMES_LOST, and EV117. -/
def Dev.samplesLost (crc : Bool) (d : Dev) : Dev :=
  if d.twinState = 3 && d.chordUp then (d.inc (if crc then 0x700403 else 0x700404)).ev117 else d

/-- The Chord receive nodes at a boundary, with the boundary's other sources: the partner's sample of two boundaries before; without it, or with ALIGN_FAULT, the fallback node's sample FALLBACK_DELAY earlier tagged SYN, or the last value tagged INV; 0 tagged INV above the partner's count (R429). -/
def Dev.chordBoundary (others : List (Nat × Smp)) (d : Dev) : List (Nat × Smp) × Dev :=
  let t := d.twin
  let hist := others :: t.hist.take 64
  let fr := if d.tbit 5 then none else t.frames.find? (fun f => f.1 + 2 == d.med.index)
  let one (c : Nat) : Smp :=
    if c ≥ t.channels then ({} : Smp)
    else match fr with
      | some f => let s := nthD (0, 8) f.2 c; { v := s.1, t := s.2 }
      | none =>
        let n := d.get (key 0x7009 c)
        if n = 0xFFFF then { v := (match assoc c t.last with | some v => v | none => 0), t := 8 }
        else let s := sampleAt (nthD [] hist (d.get 0x700801)) n; { s with t := s.t ||| 2 }
  let l := (upto (128 / 2 ^ d.rateMul)).map (fun c => (0x80 + c, one c))
  let d := d.modTwin (fun t => { t with hist := hist, last := l.filterMap (fun (x : Nat × Smp) => if x.2.isInv then (match assoc (x.1 - 0x80) t.last with | some v => some (x.1 - 0x80, v) | none => none) else some (x.1 - 0x80, x.2.v)),
                                        frames := t.frames.filter (fun f => decide (d.med.index < f.1 + 2)) })
  (l, d)

/-- The rule of group 0x50 (R430). -/
def Dev.ruleChord (d : Dev) (v : Nat → Nat) : Option Nat :=
  let n := v 0x700800
  if n > 128 / 2 ^ d.rateMul then some 0
  else if (upto n).all (fun c => let x := v (key 0x7009 c); x = 0xFFFF || (srcNode x && !(0x80 ≤ x && x < 0x100) && d.nodeHere x)) then none else some 1

/-! Handover (R438) -/

/-- A handover begins on this twin: S chosen, REQUEST sent. -/
def Dev.handStart (cause : Nat) (leaving : Bool) (d : Dev) : Dev :=
  let s := d.boundaryAhead 200000 d.sppMax
  (d.modTwin (fun t => { t with hand := some { s := s, cause := cause, leaving := leaving } })).handSend 1 s

/-- A REQUEST arrives: granted. -/
def Dev.handRequest (s cause : Nat) (d : Dev) : Dev :=
  if d.chordUp && d.twinState = 3 && d.twin.hand.isNone then (d.modTwin (fun t => { t with hand := some { s := s, cause := cause, granted := true } })).handSend 2 s else d

/-- A GRANT arrives: of this twin's request, or of a failover. -/
def Dev.handGrant (s : Nat) (d : Dev) : Dev :=
  if !(d.chordUp && d.twinState = 3) then d
  else match d.twin.hand with
    | some h => if h.s = s then d.modTwin (fun t => { t with hand := some { h with granted := true } }) else d
    | none => if d.twin.failover then d.modTwin (fun t => { t with hand := some { s := s, cause := 2, granted := true } }) else d

/-- Boundary S: the roles exchange, or the leaving twin becomes unpaired; the ACTIVE launches what began before S and sends DONE, the SHADOW what begins at S or later. -/
def Dev.handBoundary (d : Dev) : Dev :=
  match d.twin.hand with
  | some h =>
    if h.granted && !h.passed && d.twinState = 3 && h.s ≤ d.med.index + 1 then
      if d.twinRole = 1 then
        let d := (d.put 0x700301 (if h.leaving then 0 else 2)).holdEnd false
        let d := d.setTbit 8 false
        let d := (d.modTwin (fun t => { t with hand := none, failover := false, launchTo := h.s, launchFrom := if h.leaving then h.s + 2 ^ 62 else 0 })).handSend 3 h.s
        d.setReady114 2 false
      else
        let gm := bit d.twin.flags 2
        let d := ((d.retireAll).put 0x700301 1).holdEnd true
        let d := d.modTwin (fun t => { t with launchFrom := h.s, launchTo := 0, hand := some { h with passed := true } })
        let d := if gm then d.gmTake else d
        d.setReady114 2 false
    else d
  | none => d

/-- DONE arrives: the handover is complete on the claiming twin. -/
def Dev.handDone (d : Dev) : Dev :=
  match d.twin.hand with
  | some h => if h.passed then (d.modTwin (fun t => { t with hand := none })).claimed h.cause 0 500 else d
  | none => d

/-- A granted handover is not DONE within 50 us: the claiming twin fences (R435). -/
def Dev.handTimeout (d : Dev) : Dev :=
  match d.twin.hand with
  | some h =>
    if h.granted && d.twinState = 3 && (d.twinRole = 2 || h.passed) && boundaryTime d.fs h.s + 50000 ≤ d.time64 then
      let shadow := d.twinRole = 2
      let d := d.fenceAssert.standAlone
      if shadow || h.passed then d.claimed h.cause 2 500 else d
    else d
  | none => d

/-- LEAVE arrives: ALONE without fencing. -/
def Dev.leave (d : Dev) : Dev :=
  if d.chordUp && d.twinState = 3 then
    let gm := d.tbit 8
    let d := (d.put 0x700301 1).holdEnd true
    ((d.modTwin (fun t => { t with hand := none, failover := false, flags := 0 })).setTbit 8 gm |>.setReady114 2 false).setTwin 4
  else d

/-- SWITCHOVER is refused with BUSY unless the SHADOW reads SHADOW_READY. -/
def Dev.switchBusy (d : Dev) : Bool := !(d.twinState = 3 && d.tbit 2) || d.twin.hand.isSome

/-- A takeover trigger of Table 18-5 that is enabled arises on the ACTIVE: FAILOVER is set. -/
def Dev.failover (i : Nat) (d : Dev) : Dev :=
  let arises : Bool := match i with | 0 => d.cause 0 || d.cause 5 | 1 => bit d.twin.flags 5 && !d.linkUp | _ => true
  if d.twinState = 3 && d.twinRole = 1 && i < 3 && d.bitOf 0x700005 i && arises then d.modTwin (fun t => { t with failover := true }) else d

/-- A step or a SOFT reset that R438 delays until the handover is DONE: the ACTIVE's departure. -/
def Dev.leaveBegin (d : Dev) : Dev := if d.twinState = 3 && d.twinRole = 1 && d.twin.hand.isNone then d.handStart 4 true else d

/-- The departure still waits for its handover. -/
def Dev.leavePends (d : Dev) : Bool := match d.twin.hand with | some h => h.leaving && d.twinState = 3 | none => false

/-- The twin leaves the pair: LEAVE is sent, and the role and leases are gone. -/
def Dev.leaveEnd (d : Dev) : Dev :=
  let d := if d.chordUp && d.twinState = 3 then d.chordSend 7 [] else d
  let d := ((d.retireAll).put 0x700301 0).holdEnd false
  (d.setTbit 8 false).modTwin (fun t => { t with hand := none, failover := false, launchFrom := 0, launchTo := 0, mirror := [] })

/-! The block as a whole -/

/-- CHORD becomes ready: training begins where TWIN_ENABLE is 1 (R439). -/
def Dev.twinStart (d : Dev) : Dev :=
  let d := d.modTwin (fun t => { t with upAt := d.now })
  if d.twin.fenceIn then d else d.twinTrain

/-- The Chord block stops or restarts: the partner meets it as heartbeat loss. -/
def Dev.twinStop (d : Dev) : Dev :=
  let t := d.twin
  let d := { d with twin := { id := t.id, fenceOut := t.fenceOut, fenceOutAt := t.fenceOutAt, fenceIn := t.fenceIn, barred := t.barred } }
  let d := (d.put 0x700301 0).put 0x700303 (8 * b2n t.fenceOut + 16 * b2n t.fenceIn)
  d.put 0x700300 (if t.fenceIn then 6 else 0)

/-- An epoch step's reload: samples across it carry INV by the sources' own tags. -/
def Dev.twinPower (all : Bool) (d : Dev) : Dev :=
  let d := if all then { d with twin := { id := d.twin.id, fenceIn := d.twin.fenceIn } } else d
  d.twinStop

/-! Mirrored state and host side (R424, R425, R441) -/

/-- An object whose writes the ACTIVE mirrors (Table 18-2). -/
def mirroredKey (k : Nat) : Bool :=
  let i := k / 256
  let s := k % 256
  (0x3400 ≤ i && i < 0x3600 && (match objRow k with | some r => r.acc == .rw || r.acc == .st | none => false)) || ((i = 0x1200 || i = 0x1203) && 0x10 ≤ s && s < 0x30)
    || (0x2220 ≤ i && i ≤ 0x222B && s = 0) || k = 0x120003 || k = 0x223500 || k = 0x223600 || (i = 0x7001 && s ≤ 2)

/-- The ACTIVE mirrors its writes. -/
def Dev.mirrors (d : Dev) : Bool := d.twinState = 3 && d.twinRole = 1 && d.get 0x700006 = 1

/-- The boundary at which a mirrored write accepted now acts on both twins. -/
def Dev.mirrorAt (d : Dev) : Nat := boundaryAt d.fs (d.time64 + 50000)

/-- A mirrored write is refused on the SHADOW: MISMATCH set, SHADOW_READY clear, EV114 (R425). -/
def Dev.mismatch (d : Dev) : Dev := (d.setReady114 10 true).setReady114 2 false

def Dev.twinValue (d : Dev) (k : Nat) : Option Nat := if k = 0x700302 then some (b2n d.twin.id) else none

def Dev.twinCheck (k v : Nat) (d : Dev) : List Nat :=
  if k = 0x700200 then errIf (v = 1 && d.switchBusy) eBusy
  else if k = 0x700202 then errIf (v = 1 && d.twin.fenceIn) eBusy
  else if k = 0x700100 then errIf (macGroup v) eRange
  else []

def Dev.twinWrite (k v : Nat) (d : Dev) : Dev :=
  if k = 0x700000 then (if v = 1 then d.twinTrain else if d.twin.fenceIn then d else ((d.leaveEnd).setReady114 2 false).setTwin 0)
  else if k = 0x700002 then d.outSettle
  else if k = 0x700200 then d.when (v = 1) (Dev.handStart 3 false)
  else if k = 0x700201 then d.when (v = 1) Dev.fenceRelease
  else if k = 0x700202 then d.when (v = 1) Dev.forceAlone
  else d

end Sys2Proof.Machine
end

