-- ==== Sys2Proof/Machine/Security.lean ====
section
/-! DEFINITION. Security, the debug port and the black box (R444 to R469): lifecycle, keys, the unlock token, the test access port, and the record's host side. -/
namespace Sys2Proof.Machine

def Dev.modSec (f : Sec → Sec) (d : Dev) : Dev := { d with sec := f d.sec }

/-! Sessions (R59, R60, R453) -/

/-- The write lock is freed other than by its holder: EV5 (R60). -/
def Dev.lockFreed (d : Dev) : Dev := if d.bus.lock.isSome then { d with bus := { d.bus with lock := none } }.raise 5 else d

/-- A session ends: its write lock, its partial BLOB write and its hold of the loader are released; what it staged stays (R59, R307). -/
def Dev.endSession (slot : Nat) (d : Dev) : Dev :=
  let held : Bool := match d.bus.lock with | some (h, _) => h = slot | none => false
  let d := { d with bus := { d.bus with sessions := d.bus.sessions.filter (fun (s : Session) => s.slot != slot), parts := assocDel (2 + slot) d.bus.parts } }
  let d := if d.fac.owner = some (2 + slot) then d.ownerEnd else d
  d.when held Dev.lockFreed

/-- Every session of which a condition holds ends. -/
def Dev.endSessions (c : Session → Bool) (d : Dev) : Dev := d.bus.sessions.foldl (fun (a : Dev) s => if c s then a.endSession s.slot else a) d

/-! Keys (R448, R449) -/

/-- The slots of the secret region (Table 19-4). -/
def secretSlot (n : Nat) : Bool := (5 ≤ n && n ≤ 8) || n = 10 || n = 11 || n = 12

/-- KEY_STATE of a slot: the ROM key, the identity key pair where a root secret exists, and no secret slot while ERASE_FAILED is set (R458). -/
def Dev.keyState (d : Dev) (n : Nat) : Nat :=
  if n = 0 then 3
  else if secretSlot n && d.sec.failed then 0
  else if n = 12 then b2n d.sec.root.isSome
  else d.get (key 0x7110 n)

def Dev.keyValid (d : Dev) (n : Nat) : Bool := d.keyState n = 1

/-- The slots the lifecycle lets be written (R449). -/
def keyWritable (life n : Nat) : Bool := (life = 1 && 1 ≤ n && n ≤ 11) || (life = 2 && (n = 10 || n = 11))

/-- First 4 bytes of SHA-256 of a key. -/
def keyDigest (b : List Byte) : Nat := leNat ((sha256 b).take 4)

/-- DEPLOY_READY (Table 19-2). -/
def Dev.deployReady (d : Dev) : Bool := d.keyValid 9 && d.keyValid 10 && [1, 2, 3, 4].any (fun n => d.keyValid n)

/-- A key takes its slot: VALID, its digest, EV123; sessions opened with slot 10 or 11 end (R449, R453). -/
def Dev.keyStored (n : Nat) (b : List Byte) (d : Dev) : Dev :=
  let d := ((d.put (key 0x7110 n) 1).put (key 0x7114 n) (keyDigest b)).raise 123
  d.endSessions (fun s => s.keySlot == n)

/-- A secret key is kept in the secret region, where nothing reads it. -/
def Dev.secretStored (n : Nat) (b : List Byte) (d : Dev) : Dev :=
  let d := { d with st := { d.st with blob := assocDel (key 0x7112 n) d.st.blob } }
  (d.modSec (fun s => { s with secrets := assocPut n b s.secrets })).keyStored n b

/-- A slot emptied: its state, its digest and its public key. -/
def Dev.keyEmpty (n : Nat) (d : Dev) : Dev :=
  let d := (d.put (key 0x7110 n) 0).put (key 0x7114 n) 0
  if n ≤ 4 || n = 9 then d.putBlob (key 0x7111 n) (zeros 64) else d

/-! The lifecycle (R445 to R447) -/

/-- A transition completes: state, count, record, EV120; one to SERVICE or RETIRED ends every session (R446, R453). -/
def Dev.transition (t : Nat) (d : Dev) : Dev :=
  let d := (d.put kLifecycle t).inc 0x710500
  let d := (d.raise 120).bbMake 12 0 120 t (d.get 0x710500) (d.get 0x712400)
  d.when (t ≥ 3) (Dev.endSessions (fun _ => true))

/-- The secret region is cleared: the root secret, the secret slots and the identity key are gone. -/
def Dev.secretsGone (d : Dev) : Dev :=
  let d := [5, 6, 7, 8, 10, 11].foldl (fun (a : Dev) n => a.keyEmpty n) (d.modSec (fun s => { s with root := none, secrets := [] }))
  (d.put (key 0x7114 12) 0).putBlob 0x710400 (zeros 64)

/-- What RETIRED erases beside the secret region: the key table, the boot store, the user-object region, the templates and the snapshot slots (Table 19-2). -/
def Dev.storesGone (d : Dev) : Dev :=
  let d := [1, 2, 3, 4, 9].foldl (fun (a : Dev) n => a.keyEmpty n) d
  let d := (upto 8).foldl (fun (a : Dev) e => (a.bootSet e none).templateSet e (zeros 3632) false) d
  let d := { d with fac := { d.fac with pvals := [] }, sup := { d.sup with slot0 := {}, slot1 := {}, storing := none } }
  (d.put 0x113200 0).putBit 0x113300 0 false

/-- An erasing transition (R447): ERASE_PENDING, the erase, the read-back, the new state. An erase that reads back wrong twice sets ERASE_FAILED and leaves ERASE_PENDING, with a FATAL record and EV121 (R458). -/
def Dev.erase (t : Nat) (d : Dev) : Dev :=
  if d.sec.eraseBad then
    let d := d.modSec (fun s => { s with pending := some t, failed := true })
    (d.raise 121).bbMake 12 3 121 t (d.get 0x710500) (d.get 0x712400)
  else
    let d := d.secretsGone
    let d := d.when (t = 4) Dev.storesGone
    let d := d.modSec (fun s => { s with pending := none, failed := false, erased := true, chal := none })
    d.transition t

/-- An erase cut short is completed at step 9 of bring-up (R447). -/
def Dev.eraseResume (d : Dev) : Dev := match d.sec.pending with | some t => d.erase t | none => d

/-- PROVISIONED: the secret region is cleared, a root secret drawn from the TRNG, and the identity key pair derived from it: free values. -/
def Dev.provision (d : Dev) : Dev :=
  let d := d.secretsGone
  let (r, d) := d.fresh
  let (p, d) := d.fresh
  let d := d.modSec (fun s => { s with root := some (r % 2 ^ 256), erased := false })
  let d := (d.putBlob 0x710400 (leBytes 64 p)).put (key 0x7114 12) (keyDigest (leBytes 32 p))
  d.transition 1

/-! Unlocking (R454 to R457) -/

/-- LOCKOUT_REMAIN in s. -/
def Dev.lockRemain (d : Dev) : Nat := match d.sec.lockEnd with | some t => min (ceilDiv (t - d.now) 1000000000) 65535 | none => 0

/-- A challenge still waits for its token. -/
def Dev.challenged (d : Dev) : Bool := match d.sec.chal with | some c => d.now ≤ c.at_ + 60000000000 | none => false

/-- DEBUG_STATE (Table 19-9). -/
def Dev.debugState (d : Dev) : Nat :=
  if d.sec.port > 0 then 2 + d.sec.port
  else if d.sec.opening.isSome then 2
  else if d.lockRemain > 0 then 5
  else if d.challenged then 1
  else 0

/-- The action of a level needs no token (Table 19-6). -/
def Dev.noToken (d : Dev) (level : Nat) : Bool :=
  let life := d.life
  life = 0 || (level ≤ 2 && (life = 4 || (life = 1 && d.keyState 9 = 0)))

/-- The mode in which the action of a level may be started (Table 19-2, R457). -/
def Dev.unlockMode (d : Dev) (level : Nat) : Bool := if level = 4 then d.mode = 4 else (4 ≤ d.mode && d.mode ≤ 9) || d.mode = 11

/-- What refuses an unlock request (R454 to R457). -/
def Dev.unlockCodes (d : Dev) (level : Nat) : List Nat :=
  errIf (level = 0 || level > 4) eRange
    ++ errIf ((level = 3 && d.life ≠ 2) || (level = 4 && d.life = 4)) eLifecycle
    ++ errIf (d.lockRemain > 0) eLocked
    ++ errIf (!d.unlockMode level || d.sec.opening.isSome || d.sec.verify.isSome) eBusy

/-- What refuses a token. -/
def Dev.tokenCodes (d : Dev) : List Nat :=
  errIf (d.lockRemain > 0) eLocked
    ++ errIf (d.sec.opening.isSome || d.sec.verify.isSome || (match d.sec.chal with | some c => !d.unlockMode c.level | none => false)) eBusy

/-- The action of a level starts (R455): a load in progress ends with LIFECYCLE (Table 19-16); an open first hands over. -/
def Dev.unlockDo (level : Nat) (d : Dev) : Dev :=
  let d := d.when d.fac.checking (Dev.loadEnd 6 0)
  let d := d.modSec (fun s => { s with chal := none })
  if level ≤ 2 then (d.modSec (fun s => { s with opening := some level })).leaveBegin
  else d.erase (if level = 3 then 3 else 4)

/-- A new challenge (Table 19-8) and its identity signature: the nonce and the signature are free values; any earlier challenge is void. -/
def Dev.challenge (level : Nat) (d : Dev) : Dev :=
  let (n, d) := d.fresh
  let (g, d) := d.fresh
  let b := leBytes 16 n ++ leBytes 8 (d.get 0x710300) ++ leBytes 1 level ++ leBytes 1 d.life ++ leBytes 4 (d.get 0x710500) ++ zeros 2
  let sig := if d.sec.root.isSome && !d.sec.failed then leBytes 64 g else zeros 64
  ((d.putBlob 0x712200 b).putBlob 0x712700 sig).modSec (fun s => { s with chal := some { level := level, at_ := d.now, life := d.life, count := d.get 0x710500 } })

/-- An unlock request that nothing refuses. -/
def Dev.unlock (level : Nat) (d : Dev) : Dev := if d.noToken level then d.unlockDo level else d.challenge level

/-- A token arrives and its verification starts. -/
def Dev.tokenIn (path : Option Path) (d : Dev) : Dev :=
  let d := { d with st := { d.st with blob := assocDel 0x712300 d.st.blob } }
  let t : Tok := match d.sec.chal with
    | some c => { path := path, level := c.level, timely := d.now ≤ c.at_ + 60000000000 && c.life = d.life && c.count = d.get 0x710500 }
    | none => { path := path, level := 0, timely := false }
  d.modSec (fun s => { s with verify := some t })

/-- The SOURCE and SESSION of an error log entry (Table 2-6). -/
def pathSource : Path → Nat × Nat
  | .spi => (0, 0xFF)
  | .i2c => (1, 0xFF)
  | .tdt s => (2, s)
  | .locus => (3, 0xFF)
  | .e2a => (4, 0xFF)
  | .chord => (5, 0xFF)

/-- A token fails: counted, EV121, a WARN record, and the write's refusal with RANGE logged; the eighth failure in succession locks out for 600 s (R455). -/
def Dev.tokenFails (t : Tok) (d : Dev) : Dev :=
  let n := min 8 (d.get 0x712400 + 1)
  let d := ((d.put 0x712400 n).raise 121).bbMake 12 1 121 t.level (d.get 0x710500) n
  let d := match t.path with | some p => d.logError 0x7123 0 eRange (pathSource p).1 (pathSource p).2 0 | none => d
  if n = 8 then (d.modSec (fun s => { s with lockEnd := some (d.now + 600000000000) })).raise 121 else d

/-- Verification completes (R455). -/
def Dev.tokenVerified (sigOk : Bool) (d : Dev) : Dev :=
  match d.sec.verify with
  | none => d
  | some t =>
    let d := d.modSec (fun s => { s with verify := none })
    if sigOk && t.timely && d.keyValid 9 && d.challenged then (d.put 0x712400 0).unlockDo t.level else d.tokenFails t

/-- The 600 s of a lockout have passed. -/
def Dev.lockoutEnd (d : Dev) : Dev :=
  match d.sec.lockEnd with
  | some t => if t ≤ d.now then (d.modSec (fun s => { s with lockEnd := none })).raise 121 else d
  | none => d

/-! The test access port (R459) -/

def Dev.modTap (f : Tap → Tap) (d : Dev) : Dev := d.modSec (fun s => { s with tap := f s.tap })

/-- An instruction that is not available acts as BYPASS: its register holds one bit, 0 when captured. The port answers only while the Core domain is powered (Table 19-9). -/
def Dev.tapDo (ir : Nat) (ok : Bool) (f : Dev → Dev) (d : Dev) : Dev :=
  if !d.sup.coreOn then d
  else
    let d := d.modTap (fun t => { t with ir := ir, out := 0, err := false, drive := 0 })
    if ok then f d else d

def Dev.portOpen (d : Dev) : Bool := d.sec.port > 0

/-- A scan of the boundary register: the pins captured come out, and what is shifted in takes its place. -/
def Dev.tapScan (drive pins : Nat) (scan : Option Nat) (d : Dev) : Dev :=
  d.modTap (fun t => { t with out := (if scan.isSome then pins else 0), bsr := (match scan with | some v => v | none => t.bsr), drive := drive })

/-- The bytes that DBG_CHALLENGE shifts out. -/
def Dev.chalOut (d : Dev) : Dev := d.modTap (fun t => { t with out := leNat (d.blobOf 0x712200 ++ d.blobOf 0x712700) })

/-! The black box (R462 to R468) -/

/-- A queued record is written; while paired it goes to the partner (R464, R466). -/
def Dev.bbWrite (d : Dev) : Dev :=
  match d.bb.queue with
  | [] => d
  | r :: t =>
    let d := { d with bb := { d.bb with queue := t } }.bbStore r
    if d.twinState = 3 then d.chordSend 5 r else d

/-- A partner's record is stored with TWIN set, under a CRC of its own; it is never sent on (R466). -/
def Dev.bbCopy (r : List Byte) (d : Dev) : Dev :=
  let b := slice 0 30 r
  let b := leBytes 1 (setBit (fieldAt 0 1 b) 6 true) ++ b.drop 1
  d.bbStore (b ++ leBytes 2 (crc16 b))

/-- The record at a number, zeros at the count. -/
def Dev.bbAt (d : Dev) (n : Nat) : List Byte := match assoc n d.bb.ring with | some r => r | none => zeros 32

/-- A read of BB_RECORD (R467). -/
def Dev.bbTake (d : Dev) : List Byte × Dev :=
  let n := d.get 0x720100
  if n ≥ d.get 0x720000 then (zeros 32, d) else (d.bbAt n, (d.put 0x720100 (n + 1)).genUp 0x720200)

/-- BB_CLEAR (R465): BB_OLDEST becomes the count, the pinned area is empty, and a HOST record is made. -/
def Dev.bbClear (d : Dev) : Dev :=
  let n := d.get 0x720000
  let gone := n - d.get 0x720300
  let d := (upto d.bb.pinned.length).foldl (fun (a : Dev) i => a.genUp (key 0x7204 i)) d
  let d := { d with bb := { d.bb with ring := [], pinned := [], cleared := n } }
  let d := ((((d.put 0x720300 n).put 0x720500 0).put 0x720100 (max n (d.get 0x720100)))).genUp 0x720200
  d.bbMake 13 0 0xFF 0 gone 0

/-! Host side -/

def Dev.secValue (d : Dev) (k : Nat) : Option Nat :=
  let s := d.sec
  if k = 0x710200 then
    some (b2n (s.root.isSome) + 2 * b2n s.erased + 4 * b2n s.failed + 8 * b2n s.pending.isSome + 16 * b2n d.deployReady + 32 * b2n s.trngFault)
  else if k / 256 = 0x7110 then some (d.keyState (k % 256))
  else if k = 0x711400 then some (Config.romKeyDigest % 2 ^ 32)
  else if k = 0x712000 then some d.debugState
  else if k = 0x712500 then some d.lockRemain
  else none

/-- Pinned records. -/
def Dev.secBlob (d : Dev) (k : Nat) : Option (List Byte) := if k / 256 = 0x7204 then some (nthD (zeros 32) d.bb.pinned (k % 256)) else none

/-- Refusals that depend on the lifecycle alone, for every segment of a key (R449); a revoked slot stays revoked. -/
def Dev.secLife (k : Nat) (d : Dev) : List Nat :=
  let i := k / 256
  let s := k % 256
  if i = 0x7111 then errIf (!keyWritable d.life s || d.keyState s = 2) eLifecycle
  else if i = 0x7112 then errIf (!keyWritable d.life s) eLifecycle
  else if i = 0x7113 then errIf (d.life ≠ 2) eLifecycle
  else if k = 0x720600 then errIf (!(d.life = 1 || d.life = 3)) eLifecycle
  else []

/-- LIFECYCLE_CMD's refusals (R446, Table 19-3). -/
def Dev.lifeCmdCodes (d : Dev) (v : Nat) : List Nat :=
  let t := v % 256
  let life := d.life
  errIf (v / 2 ^ 16 ≠ 0x5AA5 || t > 4) eRange
    ++ errIf (t ≤ 4 && !((t = 1 && (life = 0 || life = 3)) || (t = 2 && life = 1))) eLifecycle
    ++ errIf (d.mode ≠ 4 || (t = 1 && d.sec.trngFault)) eBusy
    ++ errIf (t = 2 && !d.deployReady) eRange

def Dev.secCheck (k v : Nat) (b : List Byte) (d : Dev) : List Nat :=
  let i := k / 256
  let s := k % 256
  if k = 0x710100 then d.lifeCmdCodes v
  else if i = 0x7111 then errIf (!Config.onCurve b) eRange
  else if i = 0x7113 then errIf (v = 1 && !([1, 2, 3, 4].any (fun n => n != s && d.keyValid n))) eRange
  else if k = 0x712100 then d.unlockCodes v
  else if k = 0x712300 then d.tokenCodes
  else if k = 0x720100 then errIf (v < d.get 0x720300 || v > d.get 0x720000) eRange
  else []

def Dev.secWrite (path : Path) (k v : Nat) (b : List Byte) (d : Dev) : Dev :=
  let i := k / 256
  let s := k % 256
  if k = 0x710100 then (if v % 256 = 1 then d.provision else d.transition 2)
  else if i = 0x7111 then d.keyStored s b
  else if i = 0x7112 then d.secretStored s b
  else if i = 0x7113 then (if v = 1 then (d.put (key 0x7110 s) 2).raise 123 else d)
  else if k = 0x712100 then d.unlock v
  else if k = 0x712300 then d.tokenIn (some path)
  else if k = 0x720100 then d.genUp 0x720200
  else if k = 0x720600 then d.when (v = 1) Dev.bbClear
  else d

end Sys2Proof.Machine
end

