-- ==== Sys2Proof/Machine/Groups.lean ====
section
/-! DEFINITION. Agreement groups (R26 to R29, R45 to R47, Tables 2-7 and 2-8): which exist, their members, their rules, and what a commit does. -/
namespace Sys2Proof.Machine

/-- A group number of Table 2-8. -/
def groupAllocated (g : Nat) : Bool :=
  (1 ≤ g && g ≤ 3) || (8 ≤ g && g ≤ 0xA) || (0xC ≤ g && g ≤ 0xE) || (0x10 ≤ g && g ≤ 0x35) || g = 0x38 || g = 0x3C || (0x40 ≤ g && g ≤ 0x44) || g = 0x48 || g = 0x50
    || (0xC0 ≤ g && g ≤ 0xDF)

/-- A user group number (R47). -/
def groupUser (g : Nat) : Bool := 0xC0 ≤ g && g ≤ 0xDF

/-- The objects 1200.gg to 1204.gg exist (R47). -/
def Dev.groupHere (d : Dev) (g : Nat) : Bool := if groupUser g then (d.userGroup g).isSome else groupAllocated g

/-- The index pages a group's members lie in. -/
def groupPages (g : Nat) : List Nat :=
  if g = 1 then [0x20] else if g = 2 then [0x21] else if g = 3 then [0x22]
  else if g < 0x10 then [0x32] else if g < 0x20 then [0x34] else if g < 0x30 then [0x35] else if g < 0x34 then [0x40] else if g < 0x36 then [0x41]
  else if g = 0x38 then [0x42] else if g = 0x3C then [0x44] else if g = 0x40 then [0x60, 0x61, 0x62] else if g < 0x45 then [0x60]
  else if g = 0x48 then [0x63] else if g = 0x50 then [0x70] else []

/-- Every object of a row. -/
def ObjRow.keys (r : ObjRow) : List Nat := (upto r.cnt).flatMap (fun i => (upto r.subs).map (fun s => key (r.idx + i * r.stride) (r.sub + s)))

/-- The members of a group. -/
def Dev.members (d : Dev) (g : Nat) : List Nat :=
  if groupUser g then (match d.userGroup g with | some (i, _) => (i.binds.filter (fun b => b.acc == 2 && b.grp == g)).map (·.obj) | none => [])
  else (groupPages g).flatMap (fun p => (objPage p).flatMap (fun r => if r.grp = 0 then [] else r.keys.filter (fun k => r.group k == g)))

/-- The designated last member of a group, if it has one. -/
def Dev.lastMember (d : Dev) (g : Nat) : Option Nat :=
  if groupUser g then (match d.userGroup g with | some (_, x) => if x.last = 0 then none else some x.last | none => none)
  else if g = 1 then some 0x200100
  else if g = 2 then some 0x210500
  else if 0x30 ≤ g && g < 0x34 then some (key (0x4000 + 16 * (g - 0x30)) 9)
  else if 0x34 ≤ g && g < 0x36 then some (key (0x4100 + 16 * (g - 0x34)) 5)
  else if g = 0x38 then some 0x423004
  else if g = 0x3C then some 0x440800
  else if g = 0x40 then some 0x620001
  else if 0x41 ≤ g && g < 0x45 then some (key (0x6000 + 32 * (g - 0x41)) 0xA)
  else if g = 0x48 then some 0x631200
  else if g = 0x50 then some 0x700800
  else none

/-- GROUP_INFO (Table 2-7); its count of a group with more than 255 members is not stated. -/
def Dev.groupInfo (d : Dev) (g : Nat) : Nat :=
  let n := (d.members g).length
  let low := if n < 256 then n else (Config.groupCount g).toNat
  (match d.lastMember g with | some k => k * 256 | none => 0) + low

/-- The group of an object, 0 for none. -/
def Dev.groupOf (d : Dev) (k : Nat) : Nat :=
  match objRow k with
  | some r => r.group k
  | none => match d.bindOf k with | some (_, b) => if b.acc = 2 then b.grp else 0 | none => 0

/-- The rule of a group over a set of values: the first relation that fails. -/
def Dev.groupRule (d : Dev) (g : Nat) (v : Nat → Nat) (b : Nat → List Byte) : Option Nat :=
  if groupUser g then (match d.userGroup g with | some (i, x) => i.ruleUser x v | none => none)
  else if g = 1 then d.rule01 v
  else if g = 2 then d.rule02 v
  else if g = 3 then Dev.rule03 (d.get 0x700000 = 1) v
  else if g < 0x10 then d.netRule g v
  else if g < 0x20 then d.ruleTalker (g - 0x10) v b
  else if g < 0x30 then d.ruleListener (g - 0x20) v
  else if g < 0x34 then d.ruleSap (g - 0x30) v
  else if g < 0x36 then d.ruleAsrc (g - 0x34) v
  else if g = 0x38 then rulePdm v
  else if g = 0x3C then d.ruleListen v
  else if g = 0x40 then d.ruleRail v
  else if g < 0x45 then ruleBridge (g - 0x41) v
  else if g = 0x48 then ruleSeq v
  else d.ruleChord v

/-- The rule of a group over its staged set together with the committed values of members not staged (R27). -/
def Dev.groupFails (d : Dev) (g : Nat) : Option Nat := d.groupRule g d.view d.viewBlob

/-- The staged numbers and bytes of a group. -/
def Dev.stagedOf (d : Dev) (g : Nat) : List (Nat × Nat) := d.st.staged.filter (fun e => d.groupOf e.1 == g)
def Dev.stagedBlobOf (d : Dev) (g : Nat) : List (Nat × List Byte) := d.st.stagedBlob.filter (fun e => d.groupOf e.1 == g)

/-- GROUP_STATE (Table 2-7): REFUSED is kept, STAGED and PENDING follow from what is staged and scheduled. -/
def Dev.groupState (d : Dev) (g : Nat) : Nat :=
  b2n (!(d.stagedOf g).isEmpty || !(d.stagedBlobOf g).isEmpty) + 2 * b2n (d.commitEntry g).isSome + (d.get (key 0x1202 g) &&& 4)

/-- A group's staged values are gone. -/
def Dev.unstage (g : Nat) (d : Dev) : Dev :=
  { d with st := { d.st with staged := d.st.staged.filter (fun e => d.groupOf e.1 != g), stagedBlob := d.st.stagedBlob.filter (fun e => d.groupOf e.1 != g) } }

/-- An object takes a value; a user object of class P is stored in its MRAM region (R50). -/
def Dev.userPut (k v : Nat) (d : Dev) : Dev :=
  match objRow k, d.bindOf k with
  | none, some (_, b) => (d.put k v).when (b.ret = 0) (Dev.pvalSet k b.ty v)
  | _, _ => d.put k v

/-- The SPLL moves to the committed input (R99): the cores and the tick run from the internal oscillator until it relocks, the links of ports A and B drop and network time coasts. -/
def Dev.spllSwitch (d : Dev) : Dev :=
  let d := { d with clk := { d.clk with relockOn := d.get 0x200000 } }
  let d := d.put 0x200400 (setFld (d.get 0x200400) 5 3 6)
  d.does [Dev.setReady 0 (2 ^ 3), Dev.linkSet 0 0, Dev.linkSet 1 0, Dev.coastFromSync, Dev.clockReport]

/-- What a commit starts in the function that owns the group, the staged values just committed; `only` where nothing but a stream's map entries or a serial port's MASK changed. -/
def Dev.groupAct (g : Nat) (only : Bool) (d : Dev) : Dev :=
  if groupUser g then d
  else if g = 1 then d.spllSwitch
  else if g = 2 then d.mpllCommit
  else if g = 3 then d.ptpCommit
  else if g < 0x10 then d.netCommit g
  else if g < 0x20 then d.tsCommit (g - 0x10) (only && (d.talker (g - 0x10)).run)
  else if g < 0x30 then d.lsCommit (g - 0x20) (only && d.get (kLs (g - 0x20) 0x28) ≠ 0)
  else if g < 0x34 then d.sapCommit (g - 0x30) only
  else if g < 0x36 then d.asrcCommit (g - 0x34)
  else if g = 0x38 then d.pdmApply
  else if g = 0x3C then d.listenCommit
  else if g = 0x40 then d.outSettle
  else if g < 0x45 then d.bridgeCommit (g - 0x41)
  else if g = 0x48 then d.seqCommit
  else d

/-- Only map entries, or only MASK, differ from the committed set. -/
def Dev.onlyMap (d : Dev) (g : Nat) : Bool :=
  ((d.stagedOf g).all (fun e => e.2 == d.get e.1 || (if g < 0x30 then decide (0x40 ≤ e.1 % 256) else e.1 % 256 == 9)))
    && (d.stagedBlobOf g).all (fun e => e.2 == d.blobOf e.1)

/-- A commit whose rule holds (R27): every member takes its staged value, and the function acts. -/
def Dev.groupTake (g : Nat) (d : Dev) : Dev :=
  let only := d.onlyMap g
  let vals := d.stagedOf g
  let blobs := d.stagedBlobOf g
  let d := d.when (0x20 ≤ g && g < 0x30 && !only) (Dev.lsBefore (g - 0x20))
  let d := d.unstage g
  let d := vals.foldl (fun (a : Dev) e => a.userPut e.1 e.2) d
  let d := blobs.foldl (fun (a : Dev) e => a.putBlob e.1 e.2) d
  d.groupAct g only

/-- A commit now (R27): the failing relation and REFUSED set, or the set committed and REFUSED clear (R46). -/
def Dev.commitNow (g : Nat) (d : Dev) : Option Nat × Dev :=
  match d.groupFails g with
  | some r => (some r, d.putBit (key 0x1202 g) 2 true)
  | none => (none, (d.groupTake g).putBit (key 0x1202 g) 2 false)

/-- Every staged value of a group is discarded, and a pending scheduled commit cancelled (1203.gg). -/
def Dev.groupDiscard (g : Nat) (d : Dev) : Dev :=
  let d := d.unstage g
  match d.commitEntry g with
  | some e => d.locusFree e.slot
  | none => d

/-- A scheduled commit falls due (R29): committed, or refused with EV6 and an entry in the error log. Its error code. -/
def Dev.commitDue (g : Nat) (d : Dev) : Nat × Dev :=
  if !d.groupHere g then (eNoObject, d)
  else match d.commitNow g with
    | (none, d) => (eOk, d)
    | (some r, d) => (eAgree, (d.logError 0x1200 g eAgree 3 0xFF r).raise 6)

end Sys2Proof.Machine
end

