-- ==== Sys2Proof/Machine/Ledger.lean ====
section
/-! DEFINITION. The ledgers as objects (R23 to R25, R157, R163, R166): their records, the fields that follow from the others, latching, and LEDGER_CLEAR. -/
namespace Sys2Proof.Machine

/-- Kinds of ledger: sample (Table 1-7), a frame ledger's ingress and egress, and descriptors. -/
inductive LedgerKind where
  | sample
  | ingress
  | egress
  | descriptor
  deriving DecidableEq, Repr

/-- The ledger an object belongs to: its kind, its base, and its number of fields (R24, Table 6-7, R163). -/
def ledgerOf (k : Nat) : Option (LedgerKind × Nat × Nat) :=
  let i := k / 256
  let s := k % 256
  if (0x3400 ≤ i && i < 0x3410 || 0x3500 ≤ i && i < 0x3510) && 0x20 ≤ s && s ≤ 0x24 then some (.sample, i * 256 + 0x20, 5)
  else if 0x4000 ≤ i && i < 0x4040 && (i % 16 = 1 || i % 16 = 2) && s < 5 then some (.sample, i * 256, 5)
  else if (i = 0x4101 || i = 0x4111) && s < 5 then some (.sample, i * 256, 5)
  else if 0x4320 ≤ i && i < 0x432E && s < 5 then some (.sample, i * 256, 5)
  else if 0x3230 ≤ i && i < 0x3233 && s < 7 then some (.ingress, i * 256, 7)
  else if 0x3234 ≤ i && i < 0x3237 && s < 4 then some (.egress, i * 256, 4)
  else if 0x3310 ≤ i && i < 0x3318 && 8 ≤ s && s ≤ 0xA then some (.descriptor, i * 256 + 8, 3)
  else none

/-- A field of a ledger, `f` its place, from the counts `v`: HELD and OUTSTANDING follow from the equation of Table 1-6, the others are counts. -/
def ledgerField (kind : LedgerKind) (base f : Nat) (v : Nat → Nat) : Nat :=
  match kind, f with
  | .sample, 4 => (v base + v (base + 2)) - (v (base + 1) + v (base + 3))
  | .egress, 3 => v base - (v (base + 1) + v (base + 2))
  | .descriptor, 2 => v base - v (base + 1)
  | _, f => v (base + f)

/-- The counts a latch takes: as of the last media boundary for a sample ledger while strobes run, otherwise as they stand (R24). -/
def Dev.ledgerCount (d : Dev) (kind : LedgerKind) (k : Nat) : Nat :=
  if kind = .sample && d.med.run then (match assoc k d.st.edge with | some v => v | none => 0) else d.get k

/-- A read of a base subindex latches all fields of its ledger (R24). -/
def Dev.ledgerLatch (k : Nat) (d : Dev) : Dev :=
  match ledgerOf k with
  | some (kind, base, n) =>
    if k = base then
      { d with st := { d.st with latched := (upto n).foldl (fun l f => assocPut (base + f) (ledgerField kind base f (d.ledgerCount kind)) l) d.st.latched } }
    else d
  | none => d

/-- What a field of a ledger reads: the value last latched. -/
def Dev.ledgerValue (d : Dev) (k : Nat) : Option Nat :=
  match ledgerOf k with
  | some _ => some (match assoc k d.st.latched with | some v => v | none => 0)
  | none => none

/-- A count of a sample ledger. -/
def sampleCount (k : Nat) : Bool := match ledgerOf k with | some (.sample, _, _) => true | _ => false

/-- The sample ledgers as they stand at a boundary, kept for reads until the next. -/
def Dev.ledgerEdge (d : Dev) : Dev := { d with st := { d.st with edge := d.st.obj.filter (fun e => sampleCount e.1) } }

/-- A count outside the records above that LEDGER_CLEAR clears: the event counters and overflow flags, the GPIO edge counts, the clamp counts, and the timestamp ledger's LOST and TIMED. -/
def clearedCount (k : Nat) : Bool :=
  let i := k / 256
  let s := k % 256
  i = 0x1300 || i = 0x1301 || i = 0x1406 || (0x3228 ≤ i && i < 0x322B && 2 ≤ s && s ≤ 5) || i = 0x3352 || i = 0x3353

/-- The count of a record that still balances its equation after a clear: what is held or outstanding is carried by RECEIVED, QUEUED or GIVEN. -/
def Dev.clearedTo (d : Dev) (k : Nat) : Nat :=
  match ledgerOf k with
  | some (.sample, base, _) => if k = base then ledgerField .sample base 4 d.get else 0
  | some (.egress, base, _) => if k = base then ledgerField .egress base 3 d.get else 0
  | some (.descriptor, base, _) => if k = base then ledgerField .descriptor base 2 d.get else 0
  | _ => 0

/-- LEDGER_CLEAR acts (R25): every ledger but the energy ledger, and 1152.00; 1151.00 takes the nominal time of the boundary, or the counter where no strobe runs, or 0 while TIME is not ready. -/
def Dev.ledgerDoClear (d : Dev) : Dev :=
  if !d.sup.ledgerClear then d
  else
    let obj := (d.st.obj.map (fun (e : Nat × Nat) => if clearedCount e.1 || (ledgerOf e.1).isSome then (e.1, d.clearedTo e.1) else e)).filter
      (fun e => e.2 != 0 || !(clearedCount e.1 || (ledgerOf e.1).isSome))
    let t := if !d.timeReady then 0 else if d.med.run then boundaryTime d.fs d.med.index else d.time64
    let d := { d with st := { d.st with obj := obj, latched := [], edge := [] }, sup := { d.sup with ledgerClear := false } }
    (d.put 0x115100 t).put kTaint 0

end Sys2Proof.Machine
end

