-- ==== Sys2Proof/Machine/Steps.lean ====
section
/-! DEFINITION. Modes, SAFE, bring-up, resets, retention and the snapshot (R66 to R96), as operations. -/
namespace Sys2Proof.Machine

/-! Which function an object belongs to (Table 1-12) -/

/-- The function whose restart loses an object's class O values (R88). -/
def funcOf (k : Nat) : Nat :=
  let i := k / 256
  if i < 0x1100 then 0 else if i < 0x1200 then 0 else if i < 0x1300 then 1
  else if i = 0x1340 || i = 0x1341 then 6 else if i < 0x1400 then 28 else if i < 0x1500 then 1
  else if i < 0x2100 then 3 else if i < 0x2200 then 4 else if i < 0x2300 then 5 else if i < 0x2400 then 6
  else if i < 0x3100 then 7 else if i < 0x3200 then 8 else if i < 0x3300 then 9 else if i < 0x3400 then 10
  else if i < 0x3600 then 12 else if i < 0x4100 then 13 else if i < 0x4200 then 14
  else if i = 0x4230 then 17 else if i < 0x4300 then 15 else if i < 0x4400 then 16 else if i < 0x4500 then 17
  else if i < 0x4520 then 23 else if i < 0x4600 then 1 else if i < 0x5000 then 24
  else if i < 0x5400 then 18 else if 0x5480 ≤ i && i < 0x5500 then 27 else if i < 0x5800 then 19 else if i < 0x6000 then 20
  else if i < 0x6200 then 21 else if i < 0x6300 then 22 else if i < 0x7000 then 25
  else if i < 0x7100 then 26 else if i < 0x8000 then 27 else 19

/-- The ready bit a write of an object needs (R34): the object's function; for 2100h to 21FFh the SPLL (R103). -/
def readyOf (k : Nat) : Nat := let f := funcOf k; if f = 4 then 3 else f

/-! Starting and stopping what runs from READY upwards -/

/-- The Lattice strobes begin (step 2 of Table 3-8): bits [4], [12] to [14], [18] and [19], the blocks that run from the media domains, and the Perimeter's clock. -/
def Dev.strobesStart (d : Dev) : Dev :=
  let d := { d with clk := { d.clk with run := true }, med := { run := true, index := boundaryAt d.fs d.time64 - 1 } }
  let d := d.setReady (2 ^ 4 + 2 ^ 12 + 2 ^ 13 + 2 ^ 14 + 2 ^ 18 + 2 ^ 19) 0
  d.does [Dev.mpllReport, Dev.latStart, Dev.strStart, Dev.sapStartAll, Dev.facReady, Dev.perClock true, Dev.auxMedia, Dev.auxSettle]

/-- The MPLL is off: a holdover ends unreported, and nothing is steered. -/
def Dev.mpllOff (d : Dev) : Dev :=
  let d := d.put 0x211600 d.holdoverTime
  let c := d.clk
  let d := { d with clk := { c with run := false, acq := none, adjacent := false, retryAt := none, slewing := false, srcLost := false, timeSlew := false, hldAt := none, hld2s := false, word := 0, offset := 0,
                                    waitCommit := false, lostAt := none, primaryAt := none } }
  (d.put 0x211100 0).mpllReport

/-- The ready bits of functions that run only from READY upwards. -/
def readyAudio : Nat := 2 ^ 4 + 2 ^ 12 + 2 ^ 13 + 2 ^ 14 + 2 ^ 15 + 2 ^ 16 + 2 ^ 18 + 2 ^ 19 + 2 ^ 21 + 2 ^ 22 + 2 ^ 23

/-- What runs from READY upwards stops, its bits cleared first (R34, R286, R170, R200, R221, R267). -/
def Dev.audioStop (d : Dev) : Dev :=
  let d := d.setReady 0 readyAudio
  let d := d.does [Dev.strStop, Dev.sapStopAll, Dev.asrcStopAll, Dev.capStop, Dev.latStop, Dev.facStop, Dev.hpClamp, Dev.jackSuspend, Dev.stageDown, Dev.perClock false]
  ({ d with med := {} } : Dev).mpllOff.auxSettle

/-- The last steps of Table 3-8: capture, the outputs, and the power channels muted at common mode; READY is entered. -/
def Dev.readyFinish (d : Dev) : Dev :=
  let d := (d.setReady (2 ^ 15 + 2 ^ 16) 0).capStart
  let d := d.setReady (2 ^ 23) 0
  let d := d.pwrMuted
  let d := d.setReady (2 ^ 21 + (if d.boostState = 3 || d.boostState = 4 then 2 ^ 22 else 0)) 0
  d.jackResume

/-! Retention (R89, R90) -/

/-- Functions that keep running over a SOFT reset, whose status is not lost (R87): the SPLL, the time unit, ports A and B and the switch. -/
def softRuns (k : Nat) : Bool := let i := k / 256; (0x2000 ≤ i && i < 0x2100) || (0x2200 ≤ i && i < 0x2300) || (0x3000 ≤ i && i < 0x3300)

/-- An object of the object maps is kept where its class is not lost; user objects go with their images. -/
def keeps (lost : Ret → Bool) (soft low : Bool) (k : Nat) : Bool :=
  match objRow k with
  | none => false
  | some r => !lost r.ret || (soft && r.acc == .ro && softRuns k) || (low && (k = kModeRequest || k = kModeStatus))

/-- Objects of the classes lost return to their defaults, and staged values, which are class O, are gone. `soft` keeps what R87 keeps running, `low` what the always-on slice holds in LISTEN and DORMANT. -/
def Dev.lose (lost : Ret → Bool) (soft low : Bool) (d : Dev) : Dev :=
  let ok := keeps lost soft low
  { d with st := { obj := d.st.obj.filter (fun e => ok e.1), blob := d.st.blob.filter (fun e => ok e.1), gen := d.st.gen.filter (fun e => ok e.1),
                   latched := if lost .a then [] else d.st.latched, edge := if lost .a then [] else d.st.edge } }

/-- The classes an event of Table 3-11 loses. -/
def lostAll (r : Ret) : Bool := r != .p
def lostNO (r : Ret) : Bool := r == .n || r == .o
def lostO (r : Ret) : Bool := r == .o

/-- Objects of the event fabric. -/
def eventKey (k : Nat) : Bool := let i := k / 256; 0x1300 ≤ i && i < 0x1340

/-- A change made by a reset, which raises no event of its own. -/
def Dev.silent (f : Dev → Dev) (d : Dev) : Dev :=
  let x := f d
  let base := x.st.obj.filter (fun e => !eventKey e.1)
  let obj := (d.st.obj.filter (fun e => eventKey e.1)).foldl (fun l e => assocPut e.1 e.2 l) base
  { x with evt := d.evt, st := { x.st with obj := obj }, bb := d.bb }

/-- The image array is lost (Table 12-12): the boot store and stored values stay in MRAM; class N user values that are kept wait for an image that binds them. -/
def Dev.facLose (keepN : Bool) (d : Dev) : Dev :=
  let kept := if keepN then (upto 8).flatMap (fun e => match (d.eng e).active with
    | some b => (b.img.binds.filter (fun x => x.ret == 1 && x.ty != 14 && x.acc != 0)).map (fun x => (x.obj, x.ty, d.get x.obj)) | none => []) else []
  { d with fac := { boot := d.fac.boot, pvals := d.fac.pvals, restore := kept } }

/-- The Core domain loses its contents. Held samples count into DROPPED, descriptors return FLUSHED, and what the Core held beside class N and P objects is gone; `soft` leaves the time unit, the ports and the switch running (R87). -/
def Dev.coreLose (soft keepN : Bool) (d : Dev) : Dev :=
  let d := d.does [Dev.strStop, Dev.sapStopAll, Dev.asrcStopAll, Dev.capStop, Dev.endpointReset]
  let d := d.when (!soft) Dev.switchReset
  let d := d.does [Dev.latStop, Dev.hpClamp, Dev.stageDown, Dev.auxLose, Dev.hkaStop, Dev.twinStop, Dev.facLose keepN, Dev.locusDrop]
  let c := d.clk
  let clk : Clk := if soft then { xtal := c.xtal, refPresent := c.refPresent, refMilliHz := c.refMilliHz, refTolAt := c.refTolAt, relockOn := c.relockOn }
    else { xtal := c.xtal, refPresent := c.refPresent, refMilliHz := c.refMilliHz, refTolAt := c.refTolAt }
  let e := d.evt
  let s := d.sec
  { d with clk := clk, med := {}, lat := {}, str := {}, sap := {}, cap := {}, hp := {},
           tim := if soft then { d.tim with meas := [] } else {},
           net := if soft then { d.net with media := [], rings := [{}, {}, {}, {}, {}, {}, {}, {}] } else {},
           evt := { e with pulses := [{}, {}, {}, {}], queue := [] },
           bus := { errNext := d.bus.errNext },
           sec := { root := s.root, secrets := s.secrets, pending := s.pending, failed := s.failed, erased := s.erased, lockEnd := s.lockEnd },
           sup := { d.sup with soft := none, softCut := false, coreOn := false, railAt := none, wdtAt := none, restarts := [], capture := false, waits := [], storing := none, ledgerClear := false, causesClear := none } }

/-! The snapshot (R91 to R93) -/

/-- An object the snapshot holds: RW or ST, of class N or O, and not one that R91 leaves out. -/
def snapKey (k : Nat) : Bool :=
  match objRow k with
  | none => false
  | some r => (r.acc == .rw || r.acc == .st) && (r.ret == .n || r.ret == .o) && k != kModeRequest && k != 0x124000 && k / 256 != 0x2310 && !(0x700000 ≤ k && k < 0x730000)

/-- Bound user objects the snapshot holds, with their type codes. -/
def Dev.snapUser (d : Dev) : List (Nat × Nat × Nat) :=
  (upto 8).flatMap (fun e => match (d.eng e).active with
    | some b => (b.img.binds.filter (fun x => x.acc != 0 && x.ret != 0 && x.ty != 14)).map (fun x => (x.obj, x.ty, d.get x.obj)) | none => [])

/-- The values are captured, and the older slot is being written (R92). -/
def Dev.snapCapture (d : Dev) : Dev :=
  if !d.sup.capture then d
  else
    let s : Snap := { valid := false, time := d.stamp, rev := d.get 0x100100, rom := d.get 0x100200, vals := d.st.obj.filter (fun e => snapKey e.1),
                      blobs := d.st.blob.filter (fun e => snapKey e.1), user := d.snapUser }
    let slot := if (if d.sup.newest = 0 then d.sup.slot0 else d.sup.slot1).valid then 1 - d.sup.newest else d.sup.newest
    let u := d.sup
    { d with sup := if slot = 0 then { u with capture := false, storing := some 0, slot0 := s } else { u with capture := false, storing := some 1, slot1 := s } }

/-- A store is asked for: it waits for its boundary or tick (R92). -/
def Dev.snapAsk (d : Dev) : Dev := ({ d with sup := { d.sup with capture := true } } : Dev).putBit 0x113300 4 true

/-- A store runs. -/
def Dev.snapBusy (d : Dev) : Bool := d.sup.capture || d.sup.storing.isSome

/-- The newest valid slot, and whether it is a match. -/
def Dev.snapNewest (d : Dev) : Option Snap := let s := if d.sup.newest = 0 then d.sup.slot0 else d.sup.slot1; if s.valid then some s else none
def Dev.snapMatch (d : Dev) : Option Snap :=
  let ok := fun (s : Snap) => s.valid && s.rev == d.get 0x100100 && s.rom == d.get 0x100200
  let a := if d.sup.newest = 0 then d.sup.slot0 else d.sup.slot1
  let b := if d.sup.newest = 0 then d.sup.slot1 else d.sup.slot0
  if ok a then some a else if ok b then some b else none

/-- The slot write with its CRC completes: the slot is the newest valid one, EV12 (R92). -/
def Dev.snapDone (d : Dev) : Dev :=
  match d.sup.storing with
  | some n =>
    let u := d.sup
    let u := if n = 0 then { u with slot0 := { u.slot0 with valid := true } } else { u with slot1 := { u.slot1 with valid := true } }
    let d := { d with sup := { u with storing := none, newest := n } }
    let t := (if n = 0 then d.sup.slot0 else d.sup.slot1).time
    ((d.put 0x113200 t).put 0x113300 (setFld (setBit (d.get 0x113300) 0 true) 4 4 0)).raise 12
  | none => d

/-- A restore from a slot of the objects that `pick` names (R93): each group as one set, checked with the kept values of its other members; a set refused leaves its members at their defaults and sets PARTIAL. -/
def Dev.snapPut (s : Snap) (pick : Nat → Bool) (d : Dev) : Dev :=
  let vals := s.vals.filter (fun e => pick e.1)
  let blobs := s.blobs.filter (fun e => pick e.1)
  let groups := (vals.map (fun e => d.groupOf e.1) ++ blobs.map (fun e => d.groupOf e.1)).eraseDups.filter (· != 0)
  let v := fun k => match assoc k vals with | some x => x | none => d.get k
  let b := fun k => match assoc k blobs with | some x => x | none => d.blobOf k
  let linked := (vals.foldl (fun (a : Dev) e => a.put e.1 e.2) d).put kMode 4
  let bad := groups.filter (fun g => (linked.groupRule g v b).isSome)
  let vals := vals.filter (fun e => !bad.contains (d.groupOf e.1))
  let blobs := blobs.filter (fun e => !bad.contains (d.groupOf e.1))
  let d := vals.foldl (fun (a : Dev) e => a.put e.1 e.2) d
  let d := blobs.foldl (fun (a : Dev) e => a.putBlob e.1 e.2) d
  d.putBit 0x113300 2 (!bad.isEmpty)

/-- The restore of a bring-up or of a restarting function, over the classes lost (R93); EV3 is raised by the caller. -/
def Dev.snapRestore (lost : Ret → Bool) (only : Nat → Bool) (d : Dev) : Dev :=
  let d := d.putBit 0x113300 3 (match d.snapNewest with | some s => !(s.rev == d.get 0x100100 && s.rom == d.get 0x100200) | none => false)
  match d.snapMatch with
  | some s =>
    let d := d.snapPut s (fun k => only k && (match objRow k with | some r => lost r.ret | none => false))
    let d := { d with fac := { d.fac with restore := d.fac.restore ++ s.user } }
    d.putBit 0x113300 1 true
  | none => (d.putBit 0x113300 1 false).putBit 0x113300 2 false

/-! Moving between modes (R68 to R76) -/

/-- The next mode on the path of R69 from `m` to `t`. -/
def pathNext (m t : Nat) : Nat :=
  match m with
  | 2 => 3
  | 3 => if t = 2 then 2 else 4
  | 4 => if t ≤ 3 then 3 else if t = 11 then 11 else 5
  | 5 => if t ≤ 4 || t = 11 then 4 else t
  | 6 => if t = 7 then 7 else 5
  | 7 => if t = 6 then 6 else 5
  | 8 => 5
  | 11 => 4
  | m => m

/-- A refusal (R72): the code, EV7, and the target becomes the current mode. -/
def Dev.modeRefuse (c : Nat) (d : Dev) : Dev := ((d.putFld kModeStatus 15 8 c).put kModeRequest d.mode).raise 7

/-- The condition of a step into a mode that fails (Table 3-3b). -/
def Dev.stepRefusal (d : Dev) (n : Nat) : Option Nat := if n = 7 && d.chCount > 4 then some 2 else if n = 7 && !d.allEco then some 3 else none

/-- A step begins (R71): TRANSITION and NEXT are set, and what the step does first is done. -/
def Dev.modeStepBegin (n : Nat) (d : Dev) : Dev :=
  let m := d.mode
  let d := d.put kModeStatus (setFld (setFld (d.get kModeStatus) 7 4 n) 0 0 1)
  let d := if m = 3 && n = 4 then { d with sup := { d.sup with railAt := some d.now } }
    else if m = 4 && n = 5 then
      let d := ({ d with clk := { d.clk with word := d.commitWord, offset := 0 } } : Dev).acquire
      d.stageUp.boostBegin
    else if m = 5 && n = 4 then (d.jackSuspend).pwrGo false
    else if m = 4 && n = 3 then (d.when (d.bitOf 0x113000 1 && !d.snapBusy) Dev.snapAsk).leaveBegin
    else if m = 4 && n = 11 then d.leaveBegin
    else if n = 7 then d.facEco true
    else if m = 7 then d.facEco false
    else d
  d.outSettle.hpSettle

/-- The mode has been entered: EV1, and, with a cause active, SAFE with it as the held mode (R69, R74, R76). -/
def Dev.modeEntered (n : Nat) (d : Dev) : Dev :=
  let d := (d.put kMode n).raise 1
  let d := if safeFrom n && d.get kSafeCause ≠ 0 then d.enterSafe else d
  d.does [Dev.outSettle, Dev.hpSettle, Dev.auxSettle]

/-- The target is sought (R69, R70): the next step of the path begins, or is refused; SAFE sought from below is entered with LINKED. -/
def Dev.modeGo (d : Dev) : Dev :=
  let m := d.mode
  let t := d.get kModeRequest
  if d.inStep || !((2 ≤ m && m ≤ 8) || m = 11) || t = m then d
  else if t = 9 && safeFrom m then (d.causeSet 8).outSettle.hpSettle
  else
    let n := pathNext m (if t = 9 then 4 else t)
    match d.stepRefusal n with
    | some c => d.modeRefuse c
    | none => d.modeStepBegin n

/-- LISTEN or DORMANT has been entered: the wake timer starts (R95). -/
def Dev.sleepEntered (d : Dev) : Dev :=
  let t := d.get 0x114100
  { d with sup := { d.sup with wakeAt := if t = 0 then none else some (d.now + t * 1000000000) } }

/-- The Core domain is powered down for LISTEN (R69, Table 3-11): the twin has left its pair, sessions end, class O objects are lost, and the always-on slice serves R18. -/
def Dev.coreDown (d : Dev) : Dev :=
  let d := d.leaveEnd.endSessions (fun _ => true)
  let d := d.setReady 0 (clearBits (d.get kReady) (2 ^ 2 + 2 ^ 17))
  let b := d.bus
  let d := (d.silent (Dev.coreLose false true)).lose lostO false true
  ({ d with bus := { d.bus with keptSpi := b.keptSpi, keptI2c := b.keptI2c, outSpi := b.outSpi, outI2c := b.outI2c } } : Dev).put kReady (2 ^ 2 + 2 ^ 17)

/-- A transition step may complete: what it waits for has come (Table 3-3a). -/
def Dev.stepReady (d : Dev) (m n : Nat) : Bool :=
  if m = 3 && n = 4 then false
  else if m = 4 && n = 5 then d.ready 4
  else if m = 4 && n = 3 then !d.snapBusy && !d.leavePends
  else if m = 4 && n = 11 then !d.leavePends
  else if m = 11 then !d.fac.checking
  else true

/-- A transition step completes (R71): the mode is entered, and the path goes on. -/
def Dev.stepComplete (d : Dev) : Dev :=
  let m := d.mode
  let n := fld (d.get kModeStatus) 7 4
  if !d.inStep || !d.stepReady m n then d
  else
    let d := d.put kModeStatus (setFld (setFld (d.get kModeStatus) 7 4 0) 0 0 0)
    let d := if m = 4 && n = 5 then d.readyFinish
      else if m = 5 && n = 4 then d.audioStop
      else if m = 8 then d.sapLeaveDiagnose
      else if m = 4 && n = 3 then d.coreDown.sleepEntered
      else if m = 4 && n = 11 then d.leaveEnd.perService false
      else if m = 2 && n = 3 then (d.perPowerUp.setReady (2 ^ 17) 0).sleepEntered
      else if m = 3 && n = 2 then
        let d := (d.perPowerDown.setReady 0 (2 ^ 17)).lose lostNO false true
        ({ d with sup := { d.sup with lostN := true } } : Dev).put kReady 4 |>.sleepEntered
      else d
    (d.modeEntered n).modeGo

/-- SAFE is left for the held mode (R75): EV10 and EV1; a SAFE mute ends by the outputs' own ramps. -/
def Dev.leaveSafe (target : Nat) (d : Dev) : Dev :=
  let h := d.sup.heldMode
  let d := { d with pwr := { d.pwr with dieMute := 0 }, sup := { d.sup with causesClear := none } }
  let d := ((d.put kModeRequest target).raise 10).put kMode h
  ((d.raise 1).does [Dev.outSettle, Dev.hpSettle, Dev.auxSettle]).modeGo

/-- SAFE is left because every cause has been clear for 1 s and SAFE_RETURN is 1 (R75). -/
def Dev.safeReturn (d : Dev) : Dev :=
  match d.sup.causesClear with
  | some t => if d.mode = 9 && d.get kSafeCause = 0 && d.get kSafeReturn = 1 && t + 1000000000 ≤ d.now then d.leaveSafe d.sup.heldMode else d
  | none => d

/-- A wake source fires in DORMANT or LISTEN (R94): its bits in 1142.00, EV14, and the target sought. -/
def Dev.wakeFor (bits target : Nat) (d : Dev) : Dev :=
  let d := { d with sup := { d.sup with wakeAt := none } }
  (((d.put 0x114200 bits).raise 14).put kModeRequest target).modeGo

/-- Wake sources that are enabled fire, a recogniser's wake (no bit of 1142.00) among them (R94, R261). -/
def Dev.wake (bits : Nat) (phrase : Bool) (d : Dev) : Dev :=
  let on := bits &&& d.get 0x114000 &&& 0x3E
  if (d.mode = 2 || d.mode = 3) && !d.inStep && (on ≠ 0 || (phrase && d.mode = 3)) then d.wakeFor on (d.get 0x114300) else d

/-- A mode request that nothing refuses at the write (R68, R75, R94). -/
def Dev.modeAsk (v : Nat) (d : Dev) : Dev :=
  let m := d.mode
  if m = 0 || m = 1 || m = 10 then d.put kModeRequest v
  else if m = 9 then
    if v = 9 then d
    else
      let d := (d.causeClear 5).causeClear 8
      if d.get kSafeCause = 0 then d.leaveSafe v else (d.modeRefuse (if d.cause 6 then 5 else 1)).outSettle.hpSettle
  else if v ≠ 9 && d.twin.fenceIn && (v ≠ m || d.inStep) then d.modeRefuse 5
  else if d.inStep then
    let d := d.put kModeRequest v
    if v = 9 && safeFrom m then (d.causeSet 8).outSettle.hpSettle else d
  else if v = m then d.put kModeRequest v
  else if m = 2 || (m = 3 && v ≠ 2) then (if d.bitOf 0x114000 0 then d.wakeFor 1 v else (d.put kModeRequest v).modeRefuse 6)
  else (d.put kModeRequest v).modeGo

/-- What refuses a write of 1100.00 (R68, R87, R446). -/
def Dev.modeCodes (d : Dev) (v : Nat) : List Nat :=
  errIf (v = 11 && d.life = 4) eLifecycle ++ errIf (v < 2 || v = 10 || v > 11) eRange
    ++ errIf (d.sup.soft.isSome || (d.mode = 1 && fld (d.get kResetCause) 3 0 = 4)) eBusy

/-! Bring-up (R78 to R81) -/

/-- The input the SPLL first locks on (R100): none while it waits for REFCLK. -/
def Dev.firstLock (d : Dev) : Option Nat :=
  if d.get 0x200000 = 0 then some 0 else if d.refTol then some 1 else if d.get 0x200200 = 1 then some 0 else none

/-- The SPLL drives cores and tick from an input. -/
def Dev.spllOn (input : Nat) (d : Dev) : Dev :=
  let d := (d.put 0x200300 input).clockReport
  (d.put 0x200400 (setFld (d.get 0x200400) 5 3 1)).setReady (2 ^ 3) 0

/-- Steps 7 to 12 of Table 3-7, once the SPLL has locked; `lost` are the classes lost since they were last held. -/
def Dev.bringUpRest (d : Dev) : Dev :=
  let restore : Bool := d.bitOf 0x113000 0
  let d := d.setReady (2 ^ 20) 0
  let d := d.eraseResume
  let d := d.setReady (2 ^ 27) 0
  let d := d.timeStart
  let d := d.setReady (2 ^ 5 + 2 ^ 6) 0
  let d := d.setReady (2 ^ 7 + 2 ^ 8 + 2 ^ 9 + 2 ^ 10 + 2 ^ 11 + 2 ^ 24 + 2 ^ 25 + 2 ^ 26) 0
  let d := d.does [Dev.twinStart, Dev.auxSettle]
  let d := if restore then d.raise 3 else d
  let d := (d.raise 0).does [Dev.when d.sup.vinLow (Dev.causeSet 1), Dev.when d.sup.vinHigh (Dev.causeSet 2), Dev.when d.twin.fenceIn (Dev.causeSet 6)]
  let d := d.put kModeStatus (setFld (setFld (d.get kModeStatus) 7 4 0) 0 0 0)
  (d.modeEntered 4).modeGo

/-- Step 7: the SPLL locks on the input that firstLock names, or bring-up waits (R100). -/
def Dev.bringUpClock (d : Dev) : Dev :=
  if d.ready 3 then d.bringUpRest
  else match d.firstLock with
    | some i =>
      let d := d.spllOn i
      let d := d.when (i ≠ d.get 0x200000) (Dev.raise 17)
      ({ d with clk := { d.clk with waitRef := false } } : Dev).bringUpRest
    | none => ({ d with clk := { d.clk with waitRef := true } } : Dev).put 0x200400 (setFld (d.clockReport.get 0x200400) 5 3 6)

/-- The Core domain is released (steps 5 and 6 of Table 3-7): what was lost is restored, the supervisor, the dictionary and the event fabric run, what was held is delivered, and the black-box record of the reset is made; then the clock and the rest. -/
def Dev.bringUp (m : List Host.Cell) (d : Dev) : Dev :=
  let d := { d with sup := { d.sup with coreOn := true, railAt := none, vcore := true, vdd33 := true } }
  let d := (d.silent (Dev.tesLose m))
  let lost := if d.sup.lostN then lostNO else lostO
  let restore : Bool := d.bitOf 0x113000 0
  let d := if restore then d.snapRestore lost (fun _ => true) else (d.putBit 0x113300 1 false).putBit 0x113300 2 false
  let d := d.putBit kResetCause 5 (restore && d.bitOf 0x113300 1)
  let d := { d with sup := { d.sup with lostN := false } }
  let d := d.put kReady (d.get kReady ||| (1 + 2 + 2 ^ 28))
  let d := d.deliverHeld.deliverGpio
  let d := d.raise 2
  let rc := d.get kResetCause
  let d := d.bbMake 1 (if bit rc 4 then 3 else 0) 0xFF 0 rc d.sup.epochAt
  d.bringUpClock

/-- CORE_RELEASE: the Core domain is released where it is needed: in BRINGUP, or in a step out of LISTEN, which is a reset of kind WAKE (R83). -/
def Dev.coreRelease (m : List Host.Cell) (d : Dev) : Dev :=
  if d.sup.coreOn || d.sup.resetLow || d.sup.vinDown then d
  else if d.mode = 1 then d.bringUp m
  else if d.mode = 3 && d.inStep && fld (d.get kModeStatus) 7 4 = 4 then
    let d := { d with sup := { d.sup with epochAt := d.get kEpoch }, bus := { errNext := d.bus.errNext } }
    (d.put kResetCause (5 + 256 * 3)).bringUp m
  else d

/-! Resets (R83 to R88) -/

/-- Steps 1 to 4 of Table 3-7: the always-on slice answers, MRAM is ready, AUX takes its clear codes, and the Perimeter runs unless DORMANT is sought, where bring-up ends. -/
def Dev.bringUpAo (d : Dev) : Dev :=
  let d := (d.put kMode 1).setReady (2 ^ 2) 0
  if d.get kBootMode = 2 then
    let d := (d.raise 0).put kModeRequest 2
    ((d.put kMode 2).raise 1).sleepEntered
  else d.perPowerUp.setReady (2 ^ 17) 0

/-- A reset of the kinds that restart the whole part (R83, R85, R89): `all` for POR and BOR, which keep only class P. The part is then held in RESET. -/
def Dev.resetHold (kind : Nat) (lockstep : Bool) (d : Dev) : Dev :=
  let all := decide (kind ≤ 1)
  let prev := if all then 0 else d.mode
  let ep := d.get kEpoch
  let d := d.silent (fun x => ((x.coreLose false false).stageReset all).perPowerDown)
  let d := d.lose (if all then lostAll else lostNO) false false
  let d := { d with sup := { d.sup with lostN := true, heldMode := 4, wakeAt := none, epochAt := ep, bootAt := if all then d.now else d.sup.bootAt } }
  let d := if all then
      { d with evt := {}, bus := {}, tes := { remap := d.tes.remap }, per := { xtal := d.per.xtal }, sec := { d.sec with lockEnd := none },
               twin := { id := d.twin.id, fenceIn := d.twin.fenceIn }, aux := { clearN := d.aux.clearN } }
    else d
  d.does [Dev.put kMode 0, Dev.put kResetCause (kind + 16 * b2n lockstep + 256 * prev), Dev.put 0x700303 (8 * b2n d.twin.fenceOut + 16 * b2n d.twin.fenceIn), Dev.irqSettle]

/-- A reset whose release follows at once (POR, WDT, CORE_SUPPLY), unless RESET_N or VIN still holds the part. -/
def Dev.resetNow (kind : Nat) (lockstep : Bool) (d : Dev) : Dev :=
  let d := d.resetHold kind lockstep
  if d.sup.resetLow || d.sup.vinDown then d else d.bringUpAo

/-- A SOFT reset is accepted (R87): every audio output ramps to mute and the power stage stops; an ACTIVE twin leaves first (R438). -/
def Dev.softBegin (v : Nat) (d : Dev) : Dev :=
  let d := { d with sup := { d.sup with soft := some v }, lat := { d.lat with stopping := true } }
  (d.leaveBegin).pwrGo false

/-- The Core domain restarts after the mute and the stop sequence (R87): sessions end, Locus entries and descriptors are gone, and the part is in BRINGUP from step 5 of Table 3-7. -/
def Dev.softRestart (d : Dev) : Dev :=
  match d.sup.soft with
  | none => d
  | some v =>
    if d.leavePends || !d.pwrOff then d
    else
      let prev := d.mode
      let ep := d.get kEpoch
      let d := d.leaveEnd.endSessions (fun _ => true)
      let on := d.get kReady &&& (2 ^ 2 + 2 ^ 3 + 2 ^ 5 + 2 ^ 7 + 2 ^ 8 + 2 ^ 9 + 2 ^ 17)
      let d := d.perClock false
      let d := d.setReady 0 (clearBits (d.get kReady) on)
      let d := (d.silent (Dev.coreLose true true)).lose lostO true false
      let d := { d with sup := { d.sup with epochAt := ep, heldMode := 4 } }
      let d := d.does [Dev.put kReady on, Dev.put kMode 1, Dev.put kModeRequest v, Dev.put kResetCause (4 + 256 * prev)]
      (d.coastFromSync).irqSettle

/-! DOMAIN resets (R88) -/

/-- A function that a DOMAIN reset may restart. -/
def domainOk (n : Nat) : Bool := (4 ≤ n && n ≤ 19) || (21 ≤ n && n ≤ 26)

/-- A function runs in the present mode, so that its ready bit is set again after its restart. -/
def Dev.funcRuns (d : Dev) (n : Nat) : Bool := if n = 17 then d.per.on else if bit readyAudio n then d.audioRuns else d.sup.coreOn

/-- What a function does as it stops for its restart. -/
def Dev.funcStop (n : Nat) (d : Dev) : Dev :=
  match n with
  | 4 => d.holdover
  | 5 => if [2, 3, 5, 6, 7].contains (d.get kTimeState) then d.coast else d
  | 6 => d.locusDrop.raise 29
  | 7 => d.linkSet 0 0
  | 8 => d.linkSet 1 0
  | 9 => d.switchReset
  | 10 => d.endpointReset
  | 11 => d.endSessions (fun _ => true)
  | 12 => d.strStop
  | 13 => d.sapStopAll
  | 14 => d.asrcStopAll
  | 15 => d.capStopAnalog
  | 17 => d.perReset
  | 18 => d.latStop
  | 19 => d.facReset
  | 21 => ({ d with pwr := { d.pwr with go := false } } : Dev).pwrSettle
  | 22 => (({ d with pwr := { d.pwr with go := false } } : Dev).pwrSettle).boostClear
  | 23 => d.hpSettle
  | 24 => d.auxLose
  | 25 => d.hkaRestart
  | 26 => d.twinStop
  | _ => d

/-- What a function does as its ready bit is set again. -/
def Dev.funcStart (n : Nat) (d : Dev) : Dev :=
  match n with
  | 5 => d.portStates 3
  | 4 => if d.audioRuns then ({ d with clk := { d.clk with word := d.commitWord, offset := 0 } } : Dev).acquire else d
  | 10 => (d.ringPump 0 256).ringPump 1 256
  | 12 => d.strStart
  | 13 => d.sapStartAll
  | 14 => (d.asrcFollow 0).asrcFollow 1
  | 15 => d.capStartAnalog
  | 16 => d.capDecim
  | 18 => d.latStart
  | 19 => d.facReady
  | 21 => d.pwrGo true
  | 22 => d.boostBegin.pwrGo true
  | 23 => d.hpSettle.jackResume
  | 24 => d.auxSettle
  | 26 => d.twinStart
  | _ => d

/-- A DOMAIN reset begins (R88): the bit clears, held samples are dropped, staged values and pending commits of the function's groups go, its class O objects are lost, and those a matching snapshot holds are restored. -/
def Dev.domainReset (n : Nat) (d : Dev) : Dev :=
  let d := d.inc 0x112300
  let d := d.setReady 0 (2 ^ n)
  let d := d.funcStop n
  let groups := ((d.st.staged.map (·.1) ++ d.st.stagedBlob.map (·.1)).map d.groupOf ++ (d.loc.table.filter (fun e => e.action == 2)).map (·.target)).eraseDups
  let d := groups.foldl (fun (a : Dev) g => if (a.members g).any (fun k => funcOf k == n) then a.groupDiscard g else a) d
  let mine := fun k => funcOf k == n
  let gone := fun k => mine k && k != kTimeState && (match objRow k with | some r => r.ret == .o | none => false)
  let d := { d with st := { d.st with obj := d.st.obj.filter (fun e => !gone e.1), blob := d.st.blob.filter (fun e => !gone e.1), gen := d.st.gen.filter (fun e => !gone e.1) } }
  let d := if d.bitOf 0x113000 0 then (d.snapRestore lostO mine).raise 3 else d
  { d with sup := { d.sup with restarts := d.sup.restarts ++ [n] } }

/-- A restarting function is ready again, EV13 (R88). -/
def Dev.domainDone (n : Nat) (d : Dev) : Dev :=
  if d.sup.restarts.contains n then
    let d := { d with sup := { d.sup with restarts := d.sup.restarts.erase n } }
    let d := if d.funcRuns n then (d.setReady (2 ^ n) 0).funcStart n else d
    d.raise 13
  else d

/-! Debug port: SERVICE (R458) -/

/-- Mode SERVICE is entered with the debug port open at a level: outputs stop, engines unload, memory is scrubbed but for the supervisor's bank, sessions end. -/
def Dev.enterService (m : List Host.Cell) (level : Nat) (d : Dev) : Dev :=
  let d := (d.leaveEnd).endSessions (fun _ => true)
  let d := if d.audioRuns then d.audioStop else d
  let d := (d.facReset).perService true
  let d := { d with stores := d.stores ++ (m.filter (fun (c : Host.Cell) => c.1 < 0x700000)).map (fun (c : Host.Cell) => (c.1, memUnlisted)), tes := { d.tes with bad := d.tes.bad.filter (fun a => 0x700000 ≤ a), used := [], lease := [], lost := [] } }
  let d := { d with sec := { d.sec with opening := none, port := level, words := [] }, sup := { d.sup with causesClear := none } }
  let d := d.does [Dev.put kSafeCause 0, Dev.put kModeStatus (setFld (setFld (d.get kModeStatus) 7 4 0) 0 0 0), Dev.put kModeRequest 10, Dev.put kMode 10, Dev.inc 0x712600, Dev.raise 1, Dev.raise 121, Dev.taint 1]
  let d := d.bbMake 12 0 121 level (d.get 0x710500) (d.get 0x712400)
  d.does [Dev.outSettle, Dev.hpSettle, Dev.auxSettle]

/-- An open under way goes on once the handover of R438 is done: a deployed device is erased first, and an erase that fails leaves the port closed. -/
def Dev.openProceed (m : List Host.Cell) (d : Dev) : Dev :=
  match d.sec.opening with
  | none => d
  | some level =>
    if d.leavePends then d
    else
      let erases : Bool := d.life = 2
      let d := if erases then d.erase 3 else d
      if erases && d.sec.eraseBad && d.sec.failed then { d with sec := { d.sec with opening := none } }
      else d.enterService m level

end Sys2Proof.Machine
end

