-- ==== Sys2Proof/Machine/Dict.lean ====
section
/-! DEFINITION. The dictionary engine (R36 to R64): which objects there are, what refuses an access and with which code, what a read gives, and what a write starts. -/
namespace Sys2Proof.Machine

/-! Objects (R36, R48) -/

/-- What an access needs to know of an object: its type, access and retention classes, range, size, group, and its binding if it is a user object. -/
structure Obj where
  ty : Ty
  acc : Acc
  ret : Ret
  rng : Rng
  size : Nat
  grp : Nat
  bind : Option ImgBind
  deriving DecidableEq, Repr

/-- The type of a binding's type code. -/
def bindTy (c : Nat) : Ty := nthD .u32 [.bool, .u8, .u16, .u32, .u64, .s16, .s32, .q31, .q428, .f32, .time64, .enum, .bits16, .bits32, .str] c

/-- The object at an index and subindex; none where there is no object (R36, R47). -/
def Dev.objAt (d : Dev) (k : Nat) : Option Obj :=
  let i := k / 256
  let s := k % 256
  if 0x1200 ≤ i && i ≤ 0x1204 && !d.groupHere s then none
  else if i = 0x1210 && !groupAllocated s then none
  else match objRow k with
    | some r => some { ty := r.ty, acc := r.acc, ret := r.ret, rng := r.rng, size := r.size, grp := r.group k, bind := none }
    | none => match d.bindOf k with
      | some (_, b) =>
        some { ty := bindTy b.ty, acc := (if b.acc = 0 then .ro else if b.acc = 1 then .rw else .st), ret := (if b.ret = 0 then .p else if b.ret = 1 then .n else .o),
               rng := (if b.ty = 14 then .str 64 else .any), size := (if b.ty = 14 then 64 else typeBytes b.ty), grp := (if b.acc = 2 then b.grp else 0), bind := some b }
      | none => none

/-! Privilege and the write lock (R40, R60) -/

/-- Privileges of Table 2-4. -/
inductive Priv where
  | host
  | admin
  | user
  | twin
  deriving DecidableEq, Repr

/-- The session in a slot. -/
def Dev.session (d : Dev) (slot : Nat) : Option Session := d.bus.sessions.find? (fun s => s.slot == slot)

/-- The privilege of a path. -/
def Dev.privOf (d : Dev) (p : Path) : Priv :=
  match p with
  | .tdt s => (match d.session s with | some x => if x.priv = 2 then .admin else .user | none => .user)
  | .chord => .twin
  | _ => .host

/-- An index lies in a range of 1230.rr, of which 0 is unused. -/
def Dev.userRange (d : Dev) (i : Nat) : Bool :=
  (upto 16).any (fun r => let v := d.get (key 0x1230 r); v != 0 && decide (fld v 31 16 ≤ i) && decide (i ≤ fld v 15 0))

/-- A read lies within the reach of a privilege (Table 2-4, R444). -/
def privReads (p : Priv) (k : Nat) : Bool :=
  let i := k / 256
  match p with
  | .user => !(0x7100 ≤ i && i < 0x7200)
  | .twin => (0x7000 ≤ i && i < 0x7100) || (0x7200 ≤ i && i < 0x7300) || mirroredKey k
  | _ => true

/-- A write lies within the reach of a privilege (Table 2-4). -/
def Dev.privWrites (d : Dev) (p : Priv) (o : Obj) (k : Nat) : Bool :=
  match p with
  | .host => true
  | .admin => k != 0x124100 && k != 0x710100 && k != 0x720600
  | .user => d.userRange (k / 256) || (match o.bind with | some b => b.user | none => false)
  | .twin => mirroredKey k

/-- The write lock refuses a write (R60): another party holds it, or its holder's lease has run out; on a SHADOW, every write of a mirrored object but its partner's (R424). -/
def Dev.lockedOut (d : Dev) (p : Path) (k : Nat) : Bool :=
  let free : Bool := match p with | .locus => true | .e2a => true | .chord => true | _ => k = 0x110000 || k = 0x124100
  let held : Bool := match d.bus.lock with
    | some (h, t) => p != .tdt h || decide (t ≤ d.now)
    | none => false
  (held && !free) || (d.twinState = 3 && d.twinRole = 2 && p != .chord && mirroredKey k)

/-! Readiness (R18, R34) -/

/-- A write meets a function that is not ready; the event-to-action table is of the Locus (Table 1-12) in the range of the event fabric (R470), and needs both. With the Core domain unpowered only 1100.00 takes a write, and in LISTEN the Perimeter's objects. -/
def Dev.notReady (d : Dev) (k : Nat) : Bool :=
  if d.sup.coreOn then !d.ready (readyOf k) || (readyOf k = 6 && k / 256 < 0x1400 && !d.ready 28)
  else !(k = 0x110000 || (k / 0x10000 = 0x44 && d.mode = 3 && d.ready 17))

/-! Values and their ranges (R37, R38) -/

/-- UTF-8: `need` continuation bytes are due, the next within `lo` to `hi`. -/
def utf8 : List Byte → Nat → Nat → Nat → Bool
  | [], need, _, _ => need = 0
  | b :: t, 0, _, _ =>
    let x := b.toNat
    if x < 0x80 then utf8 t 0 0 0
    else if 0xC2 ≤ x && x ≤ 0xDF then utf8 t 1 0x80 0xBF
    else if x = 0xE0 then utf8 t 2 0xA0 0xBF
    else if x = 0xED then utf8 t 2 0x80 0x9F
    else if 0xE1 ≤ x && x ≤ 0xEF then utf8 t 2 0x80 0xBF
    else if x = 0xF0 then utf8 t 3 0x90 0xBF
    else if 0xF1 ≤ x && x ≤ 0xF3 then utf8 t 3 0x80 0xBF
    else if x = 0xF4 then utf8 t 3 0x80 0x8F
    else false
  | b :: t, n + 1, lo, hi => decide (lo ≤ b.toNat) && decide (b.toNat ≤ hi) && utf8 t n 0x80 0xBF

/-- The value a number written stands for: a subnormal F32 is 0, and reserved fields are ignored (R8, Table 2-2). -/
def Obj.norm (o : Obj) (v : Nat) : Nat := o.rng.keep (if o.ty = .f32 && fld v 30 23 = 0 then 0 else v)

/-- A number lies in the object's range. -/
def Obj.holds (o : Obj) (v : Nat) : Bool :=
  o.rng.holds o.ty v && !(o.ty = .bool && decide (v > 1)) && !(o.ty = .f32 && fld v 30 23 = 255) && (match o.bind with | some b => b.holds (o.norm v) | none => true)

/-- What a write carries: a number, all the bytes of a STRING or BLOB, or a segment of a BLOB that goes on. -/
inductive Payload where
  | num (v : Nat)
  | bytes (b : List Byte)
  | part (b : List Byte)
  deriving DecidableEq, Repr

/-- The partial-write buffer of a path, and the longest segment it takes (R38). -/
def pathBuffer : Path → Nat
  | .spi => 0
  | .i2c => 1
  | .tdt s => 2 + s
  | .locus => 10
  | .e2a => 11
  | .chord => 12
def pathSegment : Path → Nat
  | .tdt _ => 1024
  | _ => 256

/-- The bytes of an object that a path has written so far. -/
def Dev.partOf (d : Dev) (p : Path) (k : Nat) : List Byte :=
  match assoc (pathBuffer p) d.bus.parts with | some (j, l) => if j = k then l else [] | none => []

/-- What a write carries, and the codes of its length, place and range (R37, R38). -/
def Dev.payload (d : Dev) (a : Access) (o : Obj) (k : Nat) : Payload × List Nat :=
  let n := a.data.length
  if o.ty = .blob then
    let base := if a.offset = 0 then [] else d.partOf a.path k
    let bad : Bool := n = 0 || decide (n > (pathSegment a.path)) || decide (a.offset + n > o.size) || base.length != a.offset
    let full := base ++ a.data
    if bad then (.part [], [eRange]) else if full.length = o.size then (.bytes full, []) else (.part full, [])
  else if o.ty = .str then (.bytes a.data, errIf (decide (n > min 64 o.size) || !utf8 a.data 0 0 0 || a.offset != 0) eRange)
  else
    let v := leNat a.data
    let fit : Bool := n = o.ty.bytes
    (.num (o.norm v), errIf (!fit) eType ++ errIf (a.offset != 0 || (fit && !o.holds v)) eRange)

/-! Refusals of the objects themselves -/

/-- A user write range touches 1000h to 12FFh or 7000h to 72FFh (Table 2-14). -/
def badUserRange (v : Nat) : Bool :=
  let lo := fld v 31 16
  let hi := fld v 15 0
  v != 0 && decide (lo ≤ hi) && ((decide (lo ≤ 0x12FF) && decide (0x1000 ≤ hi)) || (decide (lo ≤ 0x72FF) && decide (0x7000 ≤ hi)))

/-- Refusals of the objects of 1100h to 12FFh. -/
def Dev.metaCodes (d : Dev) (k v : Nat) : List Nat :=
  let i := k / 256
  let s := k % 256
  if k = 0x110000 then d.modeCodes v
  else if k = 0x112100 then errIf (d.mode = 10 || d.sup.soft.isSome || (d.mode = 1 && fld (d.get kResetCause) 3 0 = 4)) eBusy
  else if k = 0x112200 then errIf (!d.sup.restarts.isEmpty) eBusy
  else if k = 0x113100 then errIf (v = 1 && d.snapBusy) eBusy
  else if i = 0x1200 then
    if v = 0 then errIf (d.groupFails s).isSome eAgree
    else errIf (!d.timeReady) eNotReady ++ errIf (v < d.time64) eTimePast ++ errIf ((d.commitEntry s).isNone && d.freeSlot.isNone) eBusy
  else if i = 0x1204 then errIf (v = 1 && (d.groupFails s).isSome) eAgree
  else if i = 0x1230 then errIf (badUserRange v) eRange
  else []

/-- Refusals of the objects of 1400h to 23FFh beside the records of actions. -/
def Dev.timeCodes (d : Dev) (k v : Nat) : List Nat :=
  let st := d.get kTimeState
  if k / 256 = 0x1400 then errIf (k % 256 = 14 && d.get 0x114500 = 1) eBusy
  else if k / 256 = 0x1401 then errIf (bit v 1 && bit v 2) eRange
  else if k = 0x213000 then errIf (d.clk.scan) eBusy
  else if k = 0x221000 then errIf (st = 2 || st = 3 || st = 5 || st = 7 || d.tim.step.isSome) eBusy
  else if k = 0x225000 then errIf (v = 4 && st ≠ 6) eBusy
  else if k = 0x226100 then errIf (d.get 0x226000 = 2 && decide (v ≥ d.get 0x226200)) eRange
  else []

/-- A class P user object's value would not fit the region of R50. -/
def Dev.regionFull (d : Dev) (o : Obj) (k : Nat) : Bool :=
  match o.bind with
  | some b => b.ret = 0 && (d.pval k b.ty).isNone && decide (d.pvalBytes + typeBytes b.ty + 4 > 32768)
  | none => false

/-- Refusals of an object's own rules, but for the records of actions, once its value is known. -/
def Dev.ownCodes (d : Dev) (p : Path) (o : Obj) (k v : Nat) (b : List Byte) : List Nat :=
  errIf (d.regionFull o k) eBusy ++
  match k / 0x10000 with
  | 0x11 => d.metaCodes k v
  | 0x12 => d.metaCodes k v
  | 0x14 => d.timeCodes k v
  | 0x21 => d.timeCodes k v
  | 0x22 => d.timeCodes k v
  | 0x30 => d.netCheck k v b
  | 0x31 => d.netCheck k v b
  | 0x32 => d.netCheck k v b
  | 0x33 => d.netCheck k v b
  | 0x34 => errIf (k % 256 = 0x13 && k / 256 < 0x3410 && 15 ≤ v && d.view (k / 256 * 256 + 1) < 3) eRange
  | 0x40 => d.sapCheck k v
  | 0x42 => capCheck k v
  | 0x43 => capCheck k v
  | 0x44 => d.perCheck k v b
  | 0x45 => d.hpCheck k v
  | 0x46 => d.auxCheck k v
  | 0x50 => latCheck k v
  | 0x51 => latCheck k v
  | 0x52 => latCheck k v
  | 0x54 => d.facCheck (pathBuffer p) k v b
  | 0x58 => if k / 256 = 0x5831 then d.lockCheck (match p with | .tdt s => some s | _ => none) (k % 256) v else []
  | 0x60 => d.pwrCheck k v
  | 0x61 => d.pwrCheck k v
  | 0x63 => d.hkaCheck k v
  | 0x70 => d.twinCheck k v
  | 0x71 => d.secCheck k v b
  | 0x72 => d.secCheck k v b
  | _ => []

/-- Refusals that do not wait for the value: those of the lifecycle, of privilege, of the access class, of readiness and of the lock; and the loader's, for every segment (R307). -/
def Dev.gateCodes (d : Dev) (p : Path) (o : Obj) (k : Nat) : List Nat :=
  d.secLife k ++ errIf (!d.privWrites (d.privOf p) o k) ePrivilege ++ errIf (o.acc = .ro) eAccess ++ errIf (d.notReady k) eNotReady ++ errIf (d.lockedOut p k) eLocked
    ++ errIf (k = 0x548003 && d.fac.owner ≠ some (pathBuffer p)) eBusy

/-- Every code that applies to a write, the arm checks of R133 apart. -/
def Dev.plainCodes (d : Dev) (a : Access) (k : Nat) : List Nat :=
  match d.objAt k with
  | none => [eNoObject]
  | some o =>
    let (p, c) := d.payload a o k
    d.gateCodes a.path o k ++ c ++
      (if c.contains eType then []
       else match p with
         | .num v => d.ownCodes a.path o k v []
         | .bytes b => d.ownCodes a.path o k 0 b
         | .part _ => [])

/-- The access that a WRITE action makes (Table 5-11). -/
def actionAccess (p : Path) (hold : Bool) (target value : Nat) : Access := { path := p, hold := hold, data := leBytes (target % 256) value }

/-- Items 1 to 3 of R133 for an action, but for the fields that only a Locus entry has. -/
def Dev.armCodes (d : Dev) (p : Path) (action target value : Nat) (hold : Bool) : List Nat :=
  let n := target % 256
  if action = 2 || action > 8 then [eRange]
  else if action = 1 then
    if n = 0 || n > 8 then [eRange]
    else (d.plainCodes (actionAccess p hold target value) (target / 256)).filter
      (fun e => e = eNoObject || e = eLifecycle || e = ePrivilege || e = eAccess || e = eType || e = eRange)
  else if action = 7 then errIf (d.gpioFunc (fld target 3 0) ≠ 3) eAccess
  else []

/-- Refusals of a Locus entry (R132, R133). -/
def Dev.entryCodes (d : Dev) (ee : Nat) (b : List Byte) : List Nat :=
  let e := locusOf ee b
  errIf (match d.locusSlot ee with | some x => x.action = 2 | none => false) eBusy ++
  (if e.action = 0 then []
   else d.armCodes .locus e.action e.target e.value (bit e.flags 3) ++ errIf (fld e.flags 2 1 = 3 || (1 ≤ e.period && e.period ≤ 124999)) eRange
     ++ errIf (e.time < d.time64 || (e.epochReq ≠ 0 && e.epochReq ≠ d.get kEpoch)) eTimePast
     ++ errIf (decide ((d.locusOut ee).onBoundary e.time ≥ 64)) eBusy)

/-- Refusals of an event-to-action or GPIO action record (R138, R477). -/
def Dev.recordCodes (d : Dev) (event : Bool) (b : List Byte) : List Nat :=
  let action := fieldAt 1 1 b
  if action = 0 then []
  else d.armCodes .e2a action (fieldAt 4 4 b) (fieldAt 8 8 b) (bit (fieldAt 2 1 b) 2) ++ errIf (event && decide (fieldAt 0 1 b > 127)) eRange

/-- Every code that applies to a write (R41). -/
def Dev.writeCodes (d : Dev) (a : Access) (k : Nat) : List Nat :=
  let i := k / 256
  d.plainCodes a k ++
    (if i = 0x2310 || i = 0x1340 || i = 0x1407 then
      match d.objAt k with
      | some o => (match (d.payload a o k).1 with
        | .bytes b => if i = 0x2310 then d.entryCodes (k % 256) b else d.recordCodes (i = 0x1340) b
        | _ => [])
      | none => []
     else [])

/-! What a write starts -/

/-- A SAFE cause clears, and the outputs it held go on. -/
def Dev.causeEnd (i : Nat) (d : Dev) : Dev := (d.causeClear i).outSettle.hpSettle

/-- Writes of 1100h to 11FFh. -/
def Dev.actModes (k v : Nat) (d : Dev) : Dev :=
  if k = 0x110000 then d.modeAsk v
  else if k = 0x110500 then d.when (v = 1) Dev.safeReturn
  else if k = 0x112100 then d.softBegin v
  else if k = 0x112200 then d.domainReset v
  else if k = 0x112500 then
    ({ d with sup := { d.sup with wdtAt := if v = 0 then none else some (d.now + v * 1000000) } } : Dev).causeEnd 7
  else if k = 0x112600 then
    let p := d.get 0x112500
    if v = 1 then ({ d with sup := { d.sup with wdtAt := if p = 0 then none else some (d.now + p * 1000000) } } : Dev).causeEnd 7 else d
  else if k = 0x113100 then d.when (v = 1) Dev.snapAsk
  else if k = 0x115000 then (if v = 1 then { d with sup := { d.sup with ledgerClear := true } } else d)
  else d

/-- A commit written: now, or scheduled in a Locus entry, replacing a pending one (R29, R46). -/
def Dev.commitWrite (g v : Nat) (d : Dev) : Dev :=
  if v = 0 then (d.commitNow g).2
  else
    let slot : Option Nat := match d.commitEntry g with | some e => some e.slot | none => d.freeSlot
    match slot with
    | some ee => d.locusArm { slot := ee, time := v, action := 2, flags := 0, tag := 0, target := g, value := 0, period := 0, epochReq := 0, order := 0 }
    | none => d

/-- The write lock taken or freed by its holder (R60); a path that has no session takes nothing. -/
def Dev.lockSet (p : Path) (v : Nat) (d : Dev) : Dev :=
  match p with
  | .tdt s =>
    let held : Bool := match d.bus.lock with | some (h, _) => h = s | none => false
    if v = 1 then { d with bus := { d.bus with lock := some (s, d.now + 10000000000) } }
    else if held then { d with bus := { d.bus with lock := none } } else d
  | _ => d

/-- Writes of 1200h to 12FFh. -/
def Dev.actMeta (p : Path) (k v : Nat) (d : Dev) : Dev :=
  let i := k / 256
  let s := k % 256
  if i = 0x1200 then d.commitWrite s v
  else if i = 0x1203 then d.when (v = 1) (Dev.groupDiscard s)
  else if i = 0x1240 then d.lockSet p v
  else if i = 0x1241 then d.when (v = 1) Dev.lockFreed
  else d

/-- Writes of 1300h to 14FFh. -/
def Dev.actEvents (k old v : Nat) (d : Dev) : Dev :=
  let i := k / 256
  let s := k % 256
  if i = 0x1303 then d.evClear s v
  else if (0x1310 ≤ i && i ≤ 0x1313) || i = 0x1318 then d.irqSettle
  else if i = 0x1314 then d.when (old != v) (Dev.irqConfigured s)
  else if i = 0x1400 then d.when (old != v) (Dev.gpioFuncSet s)
  else if i = 0x1403 then d.gpioOut v
  else if i = 0x1405 then (d.put 0x140400 (clearBits (d.get 0x140400) v)).irqSettle
  else d

/-- Writes of 2000h to 23FFh. -/
def Dev.actTime (k v : Nat) (b : List Byte) (d : Dev) : Dev :=
  let i := k / 256
  if k = 0x213000 then d.when (v = 1) Dev.scanStart
  else if k = 0x221000 then d.stepBegin (.value v)
  else if k = 0x225000 then { d with tim := { d.tim with ppsFirst := false, ppsRun := 0 } }
  else if 0x2260 ≤ i && i ≤ 0x2263 then
    let off := d.get 0x226000 = 0
    { d with tim := { d.tim with ppsNom := d.ppsNominal, pps := d.tim.pps && !off, ppsFall := if off then none else d.tim.ppsFall } }
  else if k = 0x230200 then d.when (v = 1) Dev.locusClear
  else if i = 0x2310 then (let e := locusOf (k % 256) b; if e.action = 0 then d.locusFree e.slot else d.locusArm e)
  else d

/-- The bytes of an action record as they are kept, reserved fields 0 (R8, R138). -/
def recordKeep (b : List Byte) : List Byte := leBytes 2 (fieldAt 0 2 b) ++ leBytes 2 (fieldAt 2 1 b % 8) ++ slice 4 14 b ++ zeros 6

/-- What a write starts once its value stands, `old` the value before. -/
def Dev.actOn (m : List Host.Cell) (p : Path) (k old v : Nat) (b : List Byte) (d : Dev) : Dev :=
  match k / 0x10000 with
  | 0x11 => d.actModes k v
  | 0x12 => d.actMeta p k v
  | 0x13 => d.actEvents k old v
  | 0x14 => d.actEvents k old v
  | 0x21 => d.actTime k v b
  | 0x22 => d.actTime k v b
  | 0x23 => d.actTime k v b
  | 0x30 => d.netWrite k v b
  | 0x31 => d.netWrite k v b
  | 0x32 => d.netWrite k v b
  | 0x33 => d.netWrite k v b
  | 0x34 => d.strWrite k v
  | 0x35 => d.strWrite k v
  | 0x40 => d.sapWrite k old v
  | 0x41 => d.sapWrite k old v
  | 0x42 => d.capWrite k old v
  | 0x43 => d.capWrite k old v
  | 0x44 => d.perWrite k old v b
  | 0x45 => d.hpWrite k old v
  | 0x46 => if k % 256 = 5 && 0x4620 ≤ k / 256 then d.waveWrite (k / 256 - 0x4620) b else d.auxWrite k v
  | 0x50 => d.latWrite k old v
  | 0x51 => d.latWrite k old v
  | 0x52 => d.latWrite k old v
  | 0x54 => d.facWrite (pathBuffer p) k v b
  | 0x58 => match p with | .tdt s => if k / 256 = 0x5831 then d.lockWrite s (k % 256) v else d | _ => d
  | 0x60 => d.pwrWrite k v
  | 0x61 => d.pwrWrite k v
  | 0x62 => d.bstWrite k v
  | 0x63 => d.hkaWrite k v
  | 0x70 => d.twinWrite k v
  | 0x71 => (d.secWrite p k v b).openProceed m
  | 0x72 => d.secWrite p k v b
  | _ => d

/-- The object keeps no value of its own: what is written only acts. -/
def actsOnly (o : Obj) (k : Nat) : Bool :=
  let i := k / 256
  o.acc = .cmd || o.acc = .wo || k = 0x110000 || i = 0x1240 || i = 0x1403 || i = 0x2310 || i = 0x5831 || ((i = 0x4620 || i = 0x4621) && k % 256 = 5)

/-- A number or bytes taken by an object that is not staged, and what that starts. -/
def Dev.takeNow (m : List Host.Cell) (p : Path) (o : Obj) (k v : Nat) (b : List Byte) (d : Dev) : Dev :=
  let old := d.get k
  let d := if actsOnly o k then d
    else if o.ty.isBytes then d.putBlob k (if k / 256 = 0x1340 || k / 256 = 0x1407 then recordKeep b else b)
    else d.userPut k v
  d.actOn m p k old v b

/-- A member staged, and the implicit commit of its group's last member (R26, R27, R45): the code and the relation that fails. -/
def Dev.stage (hold : Bool) (o : Obj) (k v : Nat) (b : List Byte) (d : Dev) : Nat × Nat × Dev :=
  let d := if o.ty.isBytes then { d with st := { d.st with stagedBlob := assocPut k b d.st.stagedBlob } } else { d with st := { d.st with staged := assocPut k v d.st.staged } }
  if hold || d.lastMember o.grp ≠ some k then (eOk, 0, d)
  else match d.commitNow o.grp with
    | (none, d) => (eOk, 0, d)
    | (some r, d) => (eAgree, r, d)

/-! Mirrored writes (R424, R425) -/

/-- The WRITE frame of an accepted write: its access record and the TIME64 at which it acts. -/
def writeFrame (a : Access) (k at_ : Nat) : List Byte :=
  leBytes 1 2 ++ leBytes 1 (2 * b2n a.hold) ++ leBytes 2 (k / 256) ++ leBytes 1 (k % 256) ++ zeros 1 ++ leBytes 2 a.data.length ++ leBytes 4 a.offset ++ a.data ++ leBytes 8 at_

/-- The write acts now, and on the ACTIVE waits for the boundary at which it acts on both twins. -/
def Dev.actsNow (d : Dev) (o : Obj) (k v : Nat) (hold : Bool) : Bool :=
  if o.acc = .st then !hold && d.lastMember o.grp = some k else !(k / 256 = 0x1200 && v ≠ 0)

/-! The error log of a write -/

/-- The SOURCE and SESSION of a path, and the entry of a write that fails (R44). -/
def Dev.logWrite (p : Path) (k code rule : Nat) (d : Dev) : Dev :=
  let (src, ses) := pathSource p
  d.logError (k / 256) (k % 256) code src ses rule

/-- A write that nothing refused: staged, or taken at once; the code and relation of an implicit commit. -/
def Dev.accept (m : List Host.Cell) (a : Access) (o : Obj) (k v : Nat) (b : List Byte) (d : Dev) : Nat × Nat × Dev :=
  if o.acc = .st then d.stage a.hold o k v b else (eOk, 0, d.takeNow m a.path o k v b)

/-- A write that nothing refused, of an object that the ACTIVE mirrors: sent to the SHADOW, and, where it would act now and the strobes run, held for its boundary. -/
def Dev.acceptMirrored (m : List Host.Cell) (a : Access) (o : Obj) (k v : Nat) (b : List Byte) (d : Dev) : Nat × Nat × Dev :=
  let n := d.mirrorAt
  let whole := { a with offset := 0, data := if o.ty.isBytes then b else a.data }
  let send := fun (d : Dev) => d.chordSend 4 (writeFrame whole k (if d.actsNow o k v a.hold then boundaryTime d.fs n else 0))
  if d.med.run && d.actsNow o k v a.hold then
    let fails := if o.acc = .st then
        d.groupRule o.grp (fun j => if j = k && !o.ty.isBytes then v else d.view j) (fun j => if j = k && o.ty.isBytes then b else d.viewBlob j)
      else none
    let r := if o.acc = .st then (d.stage true o k v b).2.2 else d
    match fails with
    | some x => (eAgree, x, r.putBit (key 0x1202 o.grp) 2 true)
    | none => (eOk, 0, (send r).modTwin (fun t => { t with mirror := t.mirror ++ [{ at_ := n, key := k, access := whole, own := true }] }))
  else
    let (c, r, d) := d.accept m a o k v b
    (c, r, if c = eOk then send d else d)

/-! Accesses -/

/-- A same-word collision of WAVE_DATA's words with a DMA write (R410): each loss counted, the loser the dictionary engine. -/
def Dev.waveHits (d : Dev) (k : Nat) (hits : List (Nat × Nat)) : List (Nat × Nat) :=
  let w := k / 256 - 0x4620
  if (k / 256 = 0x4620 || k / 256 = 0x4621) && k % 256 = 5 then
    match nthD none d.aux.waves w with
    | some a => hits.filter (fun h => let p := a + 2 * d.get (wk w 4); p ≤ h.1 && h.1 < p + 1024 && d.portBWins h.1 && h.2 > 0)
    | none => []
  else []

/-- One write (R41): its code, and the part after it. A failed write changes nothing but the error log, save that a last member whose implicit commit is refused stays staged (R27). `hits` are the words at which
it meets a DMA write in the same cycle, with the times it loses. -/
def Dev.writeObj (m : List Host.Cell) (hits : List (Nat × Nat)) (a : Access) (k : Nat) (d : Dev) : Nat × Dev :=
  match d.objAt k with
  | none => (eNoObject, d.logWrite a.path k eNoObject 0)
  | some o =>
    let (p, _) := d.payload a o k
    let c := firstError (d.writeCodes a k)
    if c ≠ eOk then
      let rule := if c = eAgree then (match d.groupFails (k % 256) with | some r => r | none => 0) else 0
      let d := if c = eAgree && k / 256 = 0x1200 then d.putBit (key 0x1202 (k % 256)) 2 true else d
      (c, d.logWrite a.path k c rule)
    else match p with
    | .part l => (eOk, { d with bus := { d.bus with parts := assocPut (pathBuffer a.path) (k, l) d.bus.parts } })
    | .num v =>
      let (c, r, d) := if d.mirrors && mirroredKey k then d.acceptMirrored m a o k v [] else d.accept m a o k v []
      (c, if c = eOk then d else d.logWrite a.path k c r)
    | .bytes b =>
      let h := d.waveHits k hits
      let d := h.foldl (fun (x : Dev) e => times (Dev.collision e.1 0) (min e.2 2) x) d
      if h.any (fun e => e.2 ≥ 2) then (eBusy, d.logWrite a.path k eBusy 0)
      else
        let d := if o.ty = .blob then { d with bus := { d.bus with parts := assocDel (pathBuffer a.path) d.bus.parts } } else d
        let (c, r, d) := if d.mirrors && mirroredKey k then d.acceptMirrored m a o k 0 b else d.accept m a o k 0 b
        (c, if c = eOk then d else d.logWrite a.path k c r)

/-- A mirrored write reaches its boundary: one of this twin's own acts, the partner's is executed with TWIN privilege, and a refusal of it is a mismatch. -/
def Dev.mirrorAct (m : List Host.Cell) (x : Mirror) (d : Dev) : Dev :=
  if x.own then
    match d.objAt x.key with
    | some o =>
      if o.acc = .st then (d.commitNow o.grp).2
      else d.takeNow m x.access.path o x.key (o.norm (leNat x.access.data)) (if o.ty.isBytes then x.access.data else [])
    | none => d
  else
    let (c, d) := d.writeObj m [] x.access x.key
    if c = eOk then d else d.mismatch

/-! Reads -/

/-- GPIO_OUT as a read gives it: while GPIO14 is the rail enable it is high from the instant the Core domain is needed (R82). -/
def Dev.gpioOutValue (d : Dev) : Nat :=
  if d.get 0x114500 = 1 then setBit d.gpioOutRead 14 (d.sup.coreOn || d.mode = 1 || d.sup.railAt.isSome) else d.gpioOutRead

/-- The values of 1200h to 23FFh that follow from other state. -/
def Dev.hubValue (d : Dev) (k : Nat) : Option Nat :=
  let i := k / 256
  let s := k % 256
  match i with
  | 0x1201 => some (match d.commitEntry s with | some e => e.time | none => 0)
  | 0x1202 => some (d.groupState s)
  | 0x1210 => some (if d.groupHere s then d.groupInfo s else 0)
  | 0x1240 => some (match d.bus.lock with | some (h, _) => (match d.session h with | some x => x.id | none => 0) | none => 0)
  | 0x1260 => some (match d.session s with | some x => x.id | none => 0)
  | 0x1261 => some (match d.session s with | some x => x.priv | none => 0)
  | 0x1316 => some (d.irqVector s)
  | 0x1403 => some d.gpioOutValue
  | 0x2114 => some (ofInt 32 (satS 32 d.freqOffset))
  | 0x2115 => some d.freqWord
  | 0x2116 => some d.holdoverTime
  | 0x2200 => some (nthD 0 [d.time64, d.tim.latSec, d.tim.latNs, d.tim.latFrac] s)
  | 0x2201 => some d.increment
  | 0x2207 => some (ofInt 32 (roundDiv d.rate 1000))
  | 0x2251 => some d.tim.caps.length
  | 0x2300 => some (256 - d.loc.table.length)
  | 0x2301 => some (match d.loc.table with | e :: _ => e.time | [] => 0)
  | 0x2311 => some (match d.locusSlot s with | some e => if e.action = 2 then 2 else 1 | none => 0)
  | _ => none

/-- The values that follow from other state, over the whole dictionary. -/
def Dev.liveValue (d : Dev) (k : Nat) : Option Nat :=
  match d.ledgerValue k with
  | some v => some v
  | none =>
    match k / 0x10000 with
    | 0x30 => d.netValue k
    | 0x31 => d.netValue k
    | 0x32 => d.netValue k
    | 0x33 => d.netValue k
    | 0x34 => d.strValue k
    | 0x35 => d.strValue k
    | 0x40 => d.sapValue k
    | 0x41 => d.sapValue k
    | 0x42 => d.capValue k
    | 0x43 => d.capValue k
    | 0x44 => d.perValue k
    | 0x45 => d.hpValue k
    | 0x46 => d.auxValue k
    | 0x50 => d.latValue k
    | 0x52 => d.latValue k
    | 0x54 => d.facValue k
    | 0x56 => d.facValue k
    | 0x58 => d.tesValue k
    | 0x60 => d.pwrValue k
    | 0x61 => d.pwrValue k
    | 0x62 => d.bstValue k
    | 0x63 => d.hkaValue k
    | 0x70 => d.twinValue k
    | 0x71 => d.secValue k
    | 0x72 => d.secValue k
    | _ => d.hubValue k

/-- The always-on slice serves the object while the Core domain is unpowered (R18). -/
def Dev.sliceServes (d : Dev) (k : Nat) : Bool :=
  k = 0x110000 || k = 0x110100 || k = 0x110200 || k = 0x111000 || k = 0x112000 || (k / 0x10000 = 0x44 && d.mode = 3)

/-- What a number reads: a CMD object its default, a staged view where asked for (R39, R45); with the Core domain unpowered, the default of what is lost with it (R18). -/
def Dev.numValue (d : Dev) (staged : Bool) (o : Obj) (k : Nat) : Nat :=
  if o.acc = .cmd then d.dflt k
  else if staged && o.acc = .st then d.view k
  else if !d.sup.coreOn && !d.sliceServes k && o.ret = .o then d.dflt k
  else match d.liveValue k with | some v => v | none => d.get k

/-- What a read does beside returning a value: what is cleared, latched, or used up. -/
def Dev.touch (k : Nat) (d : Dev) : Dev :=
  let i := k / 256
  if k = 0x220000 then { d with tim := { d.tim with latSec := d.tim.sec, latNs := d.tim.ns, latFrac := d.tim.frac } }
  else match k / 0x10000 with
    | 0x30 => d.netTouch k
    | 0x32 => d.netTouch k
    | 0x35 => d.strTouch k
    | 0x42 => d.capTouch k
    | 0x46 => if k = 0x460003 then d.put k 0 else if (0x4610 ≤ i && i < 0x4618 && k % 256 = 0xB) || (0x4620 ≤ i && k % 256 = 7) then d.fresh.2 else d
    | 0x63 => d.hkaTouch k
    | _ => d

/-- Bytes of a waveform read through the dictionary engine (R411, R412): single-bit errors met are corrected, a bad word is returned as 0 with SAFE cause [5]. -/
def Dev.waveFetch (m : List Host.Cell) (singles doubles : List Nat) (w off n : Nat) (d : Dev) : List Byte × Dev :=
  match nthD none d.aux.waves w with
  | some a =>
    if d.get (wk w 4) < d.get (wk w 0) then
      let p := a + 2 * d.get (wk w 4) + off
      let r := (upto ((p % 4 + n + 3) / 4)).foldl (fun (r : List Byte × Dev) i =>
        let x := p / 4 * 4 + 4 * i
        let d := if doubles.contains x && !r.2.tes.bad.contains x then { r.2 with tes := { r.2.tes with bad := r.2.tes.bad ++ [x] } } else r.2
        let d := if singles.contains x && !d.wordBad x then d.eccFix x else d
        let (v, d) := d.readWord m x
        (r.1 ++ leBytes 4 v, d)) ([], d)
      ((r.1.drop (p % 4)).take n, r.2.outSettle.hpSettle)
    else (zeros n, d)
  | none => (zeros n, d)

/-- The bytes of a STRING or BLOB from an offset, and the part after the read: one whose read removes a record removes it with the segment that ends at its size. -/
def Dev.byteValue (m : List Host.Cell) (singles doubles : List Nat) (staged : Bool) (o : Obj) (k off n : Nat) (d : Dev) : List Byte × Dev :=
  let i := k / 256
  let cut := fun (b : List Byte) => (b.drop off).take n
  let taken := fun (r : List Byte × Dev) => (cut r.1, if off + n ≥ r.1.length then r.2 else d)
  if staged && o.acc = .st then (cut (d.viewBlob k), d)
  else if !d.sup.coreOn && o.ret = .o then (cut (zeros (if o.ty = .str then 0 else o.size)), d)
  else if k = 0x225200 then
    (match d.tim.caps with
     | c :: t => taken (c.bytes, ({ d with tim := { d.tim with caps := t } } : Dev).genUp k)
     | [] => (cut (zeros 16), d))
  else if i = 0x2310 then (cut (d.locusBytes (k % 256)), d)
  else if k = 0x445200 then taken (d.histBytes, d.histAdvance)
  else if (i = 0x4620 || i = 0x4621) && k % 256 = 5 then d.waveFetch m singles doubles (i - 0x4620) off (min n (1024 - off))
  else if k = 0x720200 then taken d.bbTake
  else match d.netTake k with
    | some r => taken r
    | none => (cut (match d.secBlob k with | some b => b | none => d.blobOf k), d)

/-- The size of a BLOB as it stands. -/
def Dev.blobSize (d : Dev) (o : Obj) (k : Nat) : Nat := if k = 0x445200 then d.histBytes.length else o.size

/-- The codes that apply to a read (R38 to R40). -/
def Dev.readCodes (d : Dev) (a : Access) (o : Obj) (k : Nat) : List Nat :=
  errIf (!privReads (d.privOf a.path) k) ePrivilege ++ errIf (o.acc = .wo) eAccess
    ++ errIf (if o.ty = .blob then decide (a.offset ≥ d.blobSize o k) else a.offset != 0) eRange

/-- One read (R39, R41): its reply, and the part after it. A read of a ledger's base latches the ledger first (R24). -/
def Dev.readObj (m : List Host.Cell) (singles doubles : List Nat) (a : Access) (k : Nat) (d : Dev) : Reply × Dev :=
  match d.objAt k with
  | none => ({ status := eNoObject }, d)
  | some o =>
    let c := firstError (d.readCodes a o k)
    if c ≠ eOk then ({ status := c }, d)
    else if o.ty.isBytes then
      let g := d.genOf k
      let (b, d) := d.byteValue m singles doubles a.staged o k a.offset (if o.ty = .blob then min a.length (pathSegment a.path) else a.length)
      ({ status := eOk, gen := g, data := b }, d)
    else
      let d := d.ledgerLatch k
      ({ status := eOk, data := leBytes o.ty.bytes (d.numValue a.staged o k) }, d.touch k)

/-! Requests of the host -/

/-- A path is answered (R483, R491): no transport while RESET_N or VIN holds the part, SPI and I2C only while their bank is present, TDT only in an open session with its ready bit set. -/
def Dev.pathUp (d : Dev) (p : Path) : Bool :=
  !d.sup.resetLow && !d.sup.vinDown &&
  match p with
  | .spi => d.sup.vddio0
  | .i2c => d.sup.vddio0
  | .tdt s => d.ready 11 && (d.session s).isSome
  | _ => false

/-- The response to a READ or WRITE of SPI or I2C, kept until the next (R53). -/
def Dev.answer (p : Path) (r : Reply) (d : Dev) : Dev :=
  match p with
  | .spi => { d with bus := { d.bus with keptSpi := some r, outSpi := .reply r } }
  | .i2c => { d with bus := { d.bus with keptI2c := some r, outI2c := .reply r } }
  | _ => d

/-- A READ request. -/
def Dev.hostReadAt (m : List Host.Cell) (singles doubles : List Nat) (a : Access) (k : Nat) (d : Dev) : Dev :=
  if d.pathUp a.path then
    let (r, d) := d.readObj m singles doubles a k
    d.answer a.path r
  else d

/-- A WRITE request: one that arrives before a snapshot's capture has ended waits (R92). -/
def Dev.hostWriteAt (m : List Host.Cell) (hits : List (Nat × Nat)) (a : Access) (k : Nat) (d : Dev) : Dev :=
  if d.pathUp a.path then
    if d.sup.capture then { d with sup := { d.sup with waits := d.sup.waits ++ [.write k a hits] } } else
    let (c, d) := d.writeObj m hits a k
    d.answer a.path { status := c }
  else d

/-- A READ and a WRITE request that meet no error of memory. -/
def Dev.hostRead (a : Access) (k : Nat) (m : List Host.Cell) (d : Dev) : Dev := d.hostReadAt m [] [] a k
def Dev.hostWrite (a : Access) (k : Nat) (m : List Host.Cell) (d : Dev) : Dev := d.hostWriteAt m [] a k

/-- The bytes a number of an object takes. -/
def keyBytes (k : Nat) : Nat := match objRow k with | some r => r.ty.bytes | none => 4

/-- A WRITE request of the number `v`, in the bytes of its type, to an object with a row of its own. -/
def Dev.hostSet (a : Access) (k v : Nat) (m : List Host.Cell) (d : Dev) : Dev := d.hostWriteAt m [] { a with data := leBytes (keyBytes k) v } k

end Sys2Proof.Machine
end

