-- ==== Sys2Proof/Machine/CmdCapture.lean ====
section
/-! DEFINITION. The meanings of the commands of audio capture (R221 to R241). -/
namespace Sys2Proof.Machine

/-! Writes of the capture chain -/

def execChEnableCapture (a : Access) (c v : Nat) (s : State) : Host.Outcome State Fault Refusal := .next (s.quiet (Dev.hostSet a (key (0x4200 + c % 16) 0) v))
def execInputSel (a : Access) (c v : Nat) (s : State) : Host.Outcome State Fault Refusal := .next (s.quiet (Dev.hostSet a (key (0x4200 + c % 16) 1) v))
def execPgaGain (a : Access) (c v : Nat) (s : State) : Host.Outcome State Fault Refusal := .next (s.quiet (Dev.hostSet a (key (0x4200 + c % 16) 2) v))
def execFinalStage (a : Access) (c v : Nat) (s : State) : Host.Outcome State Fault Refusal := .next (s.quiet (Dev.hostSet a (key (0x4300 + c % 16) 0) v))
def execWindHpf (a : Access) (c v : Nat) (s : State) : Host.Outcome State Fault Refusal := .next (s.quiet (Dev.hostSet a (key (0x4300 + c % 16) 1) v))
def execDelay (a : Access) (c v : Nat) (s : State) : Host.Outcome State Fault Refusal := .next (s.quiet (Dev.hostSet a (key (0x4300 + c % 16) 2) v))
def execBiasEnable (a : Access) (k v : Nat) (s : State) : Host.Outcome State Fault Refusal := .next (s.quiet (Dev.hostSet a (key (0x4210 + k % 2) 0) v))
def execBiasVoltage (a : Access) (k v : Nat) (s : State) : Host.Outcome State Fault Refusal := .next (s.quiet (Dev.hostSet a (key (0x4210 + k % 2) 1) v))

/-! What happens to a channel -/

def execCaptureValid (c : Nat) (s : State) : Host.Outcome State Fault Refusal := .next (s.act (Dev.capValid c))
def execBiasShort (k : Nat) (s : State) : Host.Outcome State Fault Refusal := .next (s.act (Dev.biasShort k))

/-- The retry 1 s after a short, `gone` where the short is gone (R226). -/
def execBiasRetry (k : Nat) (gone : Bool) (s : State) : Host.Outcome State Fault Refusal := .next (s.act (Dev.biasRetry k gone))

/-- A bias current has stayed below 20 µA, or above 50 µA, for 100 ms (R226). -/
def execBiasOpen (k : Nat) (opened : Bool) (s : State) : Host.Outcome State Fault Refusal := .next (s.act (Dev.biasOpen k opened))

/-- A PDM data line has stayed constant, or toggled again, for 1 ms (R230). -/
def execPdmStuck (line : Nat) (stuck : Bool) (s : State) : Host.Outcome State Fault Refusal := .next (s.act (Dev.pdmStuck line stuck))

/-- A sample of a channel is over range, positive or negative (R236). -/
def execCaptureOvr (c : Nat) (hi : Bool) (s : State) : Host.Outcome State Fault Refusal := .next (s.act (Dev.capMark c hi))
def execOvrStatus (a : Access) (s : State) : Host.Outcome State Fault Refusal := .next (s.quiet (Dev.hostRead a 0x422000))

end Sys2Proof.Machine
end

