-- ==== Sys2Proof/Machine/CmdModes.lean ====
section
/-! DEFINITION. The meanings of the commands of the supervisor: modes, SAFE, the host watchdog, resets, bring-up, the snapshot, wake, and the supplies (R68 to R96, R490 to R492). -/
namespace Sys2Proof.Machine

/-! Modes -/

def execModeRequest (a : Access) (mode : Nat) (s : State) : Host.Outcome State Fault Refusal := .next (s.quiet (Dev.hostSet a kModeRequest mode))
def execModeStepComplete (s : State) : Host.Outcome State Fault Refusal := .next (s.act Dev.stepComplete)
def execSafeReturn (s : State) : Host.Outcome State Fault Refusal := .next (s.act Dev.safeReturn)

/-! The host watchdog (R77) -/

def execHostWdtPeriod (a : Access) (v : Nat) (s : State) : Host.Outcome State Fault Refusal := .next (s.quiet (Dev.hostSet a 0x112500 v))
def execHostWdtKick (a : Access) (s : State) : Host.Outcome State Fault Refusal := .next (s.quiet (Dev.hostSet a 0x112600 1))

/-- A SAFE cause arises, and the outputs take its action (R74). -/
def Dev.causeBegin (i : Nat) (d : Dev) : Dev := (d.causeSet i).outSettle.hpSettle

/-- The period has run out: EV9 once, and with action 1 SAFE cause [7]; it stays expired. -/
def Dev.wdtExpires (d : Dev) : Dev :=
  match d.sup.wdtAt with
  | some t =>
    if t ≤ d.now then
      let d := ({ d with sup := { d.sup with wdtAt := none } } : Dev).raise 9
      if d.get 0x112700 = 1 then d.causeBegin 7 else d
    else d
  | none => d

def execHostWdtExpiry (s : State) : Host.Outcome State Fault Refusal := .next (s.act Dev.wdtExpires)

/-! Resets (R83 to R88) -/

/-- VIN has risen through the POR threshold, `twin` the level of the TWIN_ID strap: the end of a BOR where VIN had fallen, else a POR. -/
def Dev.por (twin : Bool) (d : Dev) : Dev :=
  let kind := if d.sup.vinDown then 1 else 0
  let d := { d with sup := { d.sup with vinDown := false }, twin := { d.twin with id := twin } }
  d.resetNow kind false

def execPor (twin : Bool) (s : State) : Host.Outcome State Fault Refusal := .next (s.act (Dev.por twin))

/-- VIN has fallen below the BOR threshold: the part is reset, and held until VIN has risen again. -/
def Dev.bor (d : Dev) : Dev := d.when (!d.sup.vinDown) (fun d => ({ d with sup := { d.sup with vinDown := true } } : Dev).resetHold 1 false)

def execBor (s : State) : Host.Outcome State Fault Refusal := .next (s.act Dev.bor)

/-- RESET_N is low: the PIN reset, held until it rises; during a BOR nothing more. -/
def Dev.pinReset (d : Dev) : Dev :=
  if d.sup.resetLow then d
  else
    let d := { d with sup := { d.sup with resetLow := true } }
    if d.sup.vinDown then d else d.resetHold 2 false

def execPinReset (s : State) : Host.Outcome State Fault Refusal := .next (s.act Dev.pinReset)

/-- RESET_N rises: bring-up starts, unless VIN still holds the part. -/
def Dev.pinRelease (d : Dev) : Dev :=
  if !d.sup.resetLow then d
  else
    let d := { d with sup := { d.sup with resetLow := false } }
    if d.sup.vinDown then d else d.bringUpAo

def execResetNRelease (s : State) : Host.Outcome State Fault Refusal := .next (s.act Dev.pinRelease)

/-- A reset that only a powered Core domain can take. -/
def Dev.coreReset (kind : Nat) (lockstep : Bool) (d : Dev) : Dev := d.when d.sup.coreOn (Dev.resetNow kind lockstep)

def execSupervisorWatchdogExpiry (s : State) : Host.Outcome State Fault Refusal := .next (s.act (Dev.coreReset 3 false))
def execLockstepMismatch (s : State) : Host.Outcome State Fault Refusal := .next (s.act (Dev.coreReset 3 true))
def execCoreSupply (s : State) : Host.Outcome State Fault Refusal := .next (s.act (Dev.coreReset 6 false))
def execSoftReset (a : Access) (mode : Nat) (s : State) : Host.Outcome State Fault Refusal := .next (s.quiet (Dev.hostSet a 0x112100 mode))
def execSoftResetCoreRestart (s : State) : Host.Outcome State Fault Refusal := .next (s.act Dev.softRestart)
def execDomainReset (a : Access) (function : Nat) (s : State) : Host.Outcome State Fault Refusal := .next (s.quiet (Dev.hostSet a 0x112200 function))
def execDomainResetDone (function : Nat) (s : State) : Host.Outcome State Fault Refusal := .next (s.run (fun _ => Dev.domainDone function))

/-! Bring-up (R78 to R82) -/

/-- VCORE and VDD33 are in range; `erased` tells whether an erase that is completed at step 9 reads back right. -/
def Dev.released (erased : Bool) (m : List Host.Cell) (d : Dev) : Dev := ({ d with sec := { d.sec with eraseBad := !erased } } : Dev).coreRelease m

def execCoreRelease (erased : Bool) (s : State) : Host.Outcome State Fault Refusal := .next (s.run (Dev.released erased))

/-- The rails have not come within 100 ms: the wake step is refused with SUPPLY, and GPIO14 falls (R82). -/
def Dev.railTimeout (d : Dev) : Dev :=
  match d.sup.railAt with
  | some t =>
    if t + 100000000 ≤ d.now && d.mode = 3 && d.inStep && !d.sup.coreOn then
      let d := { d with sup := { d.sup with railAt := none } }
      (d.put kModeStatus (setFld (setFld (d.get kModeStatus) 7 4 0) 0 0 0)).modeRefuse 4
    else d
  | none => d

def execRailTimeout (s : State) : Host.Outcome State Fault Refusal := .next (s.act Dev.railTimeout)

/-! The snapshot and wake -/

def execSnapshotStore (a : Access) (s : State) : Host.Outcome State Fault Refusal := .next (s.quiet (Dev.hostSet a 0x113100 1))
def execSnapshotStoreDone (s : State) : Host.Outcome State Fault Refusal := .next (s.act Dev.snapDone)

/-- Sources fire in one cycle of the always-on slice, laid out as 1142.00 (R95). -/
def execWake (sources : Nat) (s : State) : Host.Outcome State Fault Refusal := .next (s.act (Dev.wake sources false))

/-- The wake timer runs out (R95). -/
def Dev.wakeExpires (d : Dev) : Dev :=
  match d.sup.wakeAt with
  | some t => if t ≤ d.now then ({ d with sup := { d.sup with wakeAt := none } } : Dev).wake (2 ^ 4) false else d
  | none => d

def execWakeTimerExpiry (s : State) : Host.Outcome State Fault Refusal := .next (s.act Dev.wakeExpires)

/-! Supplies -/

/-- The part is not held in reset. -/
def Dev.alive (d : Dev) : Bool := !d.sup.resetLow && !d.sup.vinDown

def execVinWarn (s : State) : Host.Outcome State Fault Refusal := .next (s.act (fun d => d.when d.alive (Dev.raise 11)))

/-- VIN is under 8.5 V or over 30 V: SAFE cause [1] or [2] once the supervisor runs (R74). -/
def Dev.vinFault (high : Bool) (d : Dev) : Dev :=
  let d := { d with sup := if high then { d.sup with vinHigh := true } else { d.sup with vinLow := true } }
  if d.ready 0 then d.causeBegin (if high then 2 else 1) else d

def execVinUndervoltage (s : State) : Host.Outcome State Fault Refusal := .next (s.act (Dev.vinFault false))
def execVinOvervoltage (s : State) : Host.Outcome State Fault Refusal := .next (s.act (Dev.vinFault true))

/-- VIN has been back in range for 10 ms. -/
def Dev.vinBack (high : Bool) (d : Dev) : Dev :=
  let d := { d with sup := if high then { d.sup with vinHigh := false } else { d.sup with vinLow := false } }
  d.causeEnd (if high then 2 else 1)

def execVinRecovery (high : Bool) (s : State) : Host.Outcome State Fault Refusal := .next (s.act (Dev.vinBack high))

/-- A required supply has left its recommended range: bit [2] of 1152.00 (R490). -/
def execSupplyOutOfRange (s : State) : Host.Outcome State Fault Refusal := .next (s.act (fun d => d.when d.alive (Dev.taint 2)))

/-- A VDDIO bank is lost: its pins are high impedance; the slave serial ports, whose pins are bank 1's, then stop under R209, and a host frame in progress on bank 0 is discarded (R491, R492). -/
def Dev.bankLost (bank : Nat) (frame : Bool) (d : Dev) : Dev :=
  if bank = 0 then
    let d := if frame && d.sup.vddio0 && d.alive then ({ d with bus := { d.bus with outSpi := .none } } : Dev).inc 0x141000 else d
    { d with sup := { d.sup with vddio0 := false } }
  else { d with sup := { d.sup with vddio1 := false } }

def execVddioLoss (bank : Nat) (frame : Bool) (s : State) : Host.Outcome State Fault Refusal := .next (s.act (Dev.bankLost bank frame))

/-- A VDDIO bank is back. -/
def Dev.bankBack (bank : Nat) (d : Dev) : Dev := { d with sup := if bank = 0 then { d.sup with vddio0 := true } else { d.sup with vddio1 := true } }

def execVddioReturn (bank : Nat) (s : State) : Host.Outcome State Fault Refusal := .next (s.act (Dev.bankBack bank))

end Sys2Proof.Machine
end

