-- ==== Sys2Proof/Machine/CmdClocks.lean ====
section
/-! DEFINITION. The meanings of the commands of the clocks: input monitors, the SPLL, the media PLL, holdover, steering and the band scan (R99 to R115), and the loss of VDD33 (R492). -/
namespace Sys2Proof.Machine

/-! The SPLL -/

/-- The SPLL is lost (R113): cores and tick run from the internal oscillator, network time coasts, the links drop, acquisition stops and the media domains go on from the synthesiser; SAFE cause [0], EV16, the count and the record. It relocks on an input. -/
def Dev.spllLost (input : Nat) (d : Dev) : Dev :=
  if !d.ready 3 then d
  else
    let d := d.put 0x200400 (setFld (d.clockReport.get 0x200400) 5 3 6)
    let d := { d with clk := { d.clk with relockOn := input, acq := none, adjacent := false, retryAt := none } }
    let d := d.does [Dev.setReady 0 (2 ^ 3), Dev.coastFromSync, Dev.linkSet 0 0, Dev.linkSet 1 0, Dev.holdover, Dev.causeBegin 0, Dev.raise 16, Dev.inc 0x200600]
    d.bbMake 3 2 16 0 (d.get 0x200400) (d.get 0x200600)

/-- The phase error of the SPLL has exceeded its bound: it relocks on the input in use. -/
def execSpllLoss (s : State) : Host.Outcome State Fault Refusal := .next (s.act (fun d => d.spllLost (d.get 0x200300)))

/-- READY is being entered, so that the MPLL acquires though no media domain runs. -/
def Dev.entersReady (d : Dev) : Bool := d.mode = 4 && d.inStep && fld (d.get kModeStatus) 7 4 = 5

/-- REFCLK has been in tolerance for 100 ms (R100). -/
def Dev.refSteady (d : Dev) : Bool := match d.clk.refTolAt with | some t => d.refTol && decide (t + 100000000 ≤ d.now) | none => false

/-- The SPLL locks on an input: the first lock of a bring-up goes on from step 7 of Table 3-7; a relock raises EV17, clears SAFE cause [0] and lets the MPLL acquire again (R113). -/
def Dev.spllLocks (input : Nat) (d : Dev) : Dev :=
  let d := { d.spllOn input with clk := { (d.spllOn input).clk with waitRef := false } }
  if !d.ready 20 then d.bringUpRest
  else
    let d := (d.raise 17).causeEnd 0
    if d.clk.run || d.entersReady then d.acquire else d.mpllReport

/-- The SPLL relocks once its input allows it; one that waits for REFCLK needs it in tolerance for 100 ms (R99, R100, R113). -/
def Dev.spllRelock (d : Dev) : Dev :=
  if d.ready 3 || !d.sup.coreOn || !d.sup.vdd33 then d
  else if d.clk.waitRef then (if d.refSteady then d.spllLocks 1 else d)
  else if d.clk.relockOn = 1 then (if d.refTol then d.spllLocks 1 else d)
  else if d.clk.xtal then d.spllLocks 0 else d

def execSpllRelock (s : State) : Host.Outcome State Fault Refusal := .next (s.act Dev.spllRelock)

/-- The monitors report; a change of XTAL_OK, REFCLK_PRESENT or REFCLK_IN_TOL raises EV17 (R100). -/
def Dev.monitorReport (d : Dev) : Dev :=
  let d := d.refTrack
  if !d.sup.coreOn then d
  else
    let old := fld (d.get 0x200400) 2 0
    let d := d.clockReport
    d.when (fld (d.get 0x200400) 2 0 != old) (Dev.raise 17)

/-- A clock input fails: the crystal, or REFCLK, missing or at a frequency in mHz out of tolerance (R100). The SPLL is lost with the input that drives it; from REFCLK it falls back to the crystal, or waits for REFCLK. -/
def Dev.inputFails (ref present : Bool) (milliHz : Nat) (d : Dev) : Dev :=
  let d := if ref then { d with clk := { d.clk with refPresent := present, refMilliHz := milliHz } } else { d with clk := { d.clk with xtal := false } }
  let d := d.monitorReport
  let active := d.get 0x200300
  if ref then
    if active = 1 && !d.refTol && d.ready 3 then
      let back : Bool := d.get 0x200200 = 1
      let d := d.spllLost (if back then 0 else 1)
      { d with clk := { d.clk with waitRef := !back } }
    else d
  else if active = 0 then d.spllLost 0 else d

def execInputMonitorFault (ref present : Bool) (milliHz : Nat) (s : State) : Host.Outcome State Fault Refusal := .next (s.act (Dev.inputFails ref present milliHz))

/-- A clock input returns; an SPLL that waits for REFCLK locks once it has been back for 100 ms. -/
def Dev.inputReturns (ref : Bool) (milliHz : Nat) (d : Dev) : Dev :=
  let d := if ref then { d with clk := { d.clk with refPresent := true, refMilliHz := milliHz } } else { d with clk := { d.clk with xtal := true } }
  let d := d.monitorReport
  if d.clk.waitRef then d.spllRelock else d

def execInputMonitorReturn (ref : Bool) (milliHz : Nat) (s : State) : Host.Outcome State Fault Refusal := .next (s.act (Dev.inputReturns ref milliHz))

/-! VDD33 (R492) -/

/-- The functions of the mixed-signal die: MPLL, the capture converters, decimation, the headphone and line outputs, AUX, HKA. -/
def mixedSignal : List Nat := [4, 15, 16, 23, 24, 25]

/-- VDD33 is lost: the SPLL with it, and the mixed-signal functions clear their ready bits. -/
def Dev.vdd33Lost (d : Dev) : Dev :=
  if !d.sup.coreOn || !d.sup.vdd33 then d
  else
    let d := ({ d with sup := { d.sup with vdd33 := false } } : Dev).spllLost (d.get 0x200300)
    let d := d.setReady 0 ((mixedSignal.map (fun n => 2 ^ n)).sum)
    d.does [Dev.capStopAnalog, Dev.hpSettle, Dev.hkaRestart, Dev.auxSettle]

def execVdd33Loss (s : State) : Host.Outcome State Fault Refusal := .next (s.act Dev.vdd33Lost)

/-- VDD33 has been back for 1 ms: the functions the mode runs are ready again; the SPLL relocks, and the MPLL acquires, under R113. -/
def Dev.vdd33Back (d : Dev) : Dev :=
  if !d.sup.coreOn || d.sup.vdd33 then d
  else
    let d := { d with sup := { d.sup with vdd33 := true } }
    mixedSignal.foldl (fun (a : Dev) n => if a.funcRuns n && !a.ready n then (let b := a.setReady (2 ^ n) 0; if n = 4 then b else b.funcStart n) else a) d

def execVdd33Recovery (s : State) : Host.Outcome State Fault Refusal := .next (s.run (fun _ => Dev.vdd33Back))

/-! Acquisition (R110) -/

/-- Acquisition ends with a lock, on a band beside the entry's where `adj` names it with its range: the entry in use is rewritten, EV20. In READY entry the strobes begin and the MPLL is LOCKED; running domains return under R112. -/
def Dev.mpllLocks (adj : Option (Nat × Nat × Nat)) (d : Dev) : Dev :=
  if d.clk.acq.isNone || d.clk.scan || !d.ready 3 then d
  else
    let e := d.get 0x210300
    let d := match d.clk.adjacent, adj with
      | true, some (b, lo, hi) => d.does [Dev.put (key 0x2121 e) b, Dev.put (key 0x2122 e) lo, Dev.put (key 0x2123 e) hi, Dev.raise 20]
      | _, _ => d
    let d := { d with clk := { d.clk with acq := none, adjacent := false, retryAt := none } }
    let d := d.putBit 0x211100 4 false
    if d.clk.run then d.mpllReport
    else if d.entersReady then d.strobesStart.raise 19
    else d.mpllReport

def execMpllLock (adjacent : Option (Nat × Nat × Nat)) (s : State) : Host.Outcome State Fault Refusal := .next (s.run (fun _ => Dev.mpllLocks adjacent))

/-- The attempt on the entry's band has run its 400 us: the bands beside it are tried. -/
def Dev.attemptFails (d : Dev) : Dev :=
  match d.clk.acq with
  | some t => if !d.clk.adjacent && t + 400000 ≤ d.now then { d with clk := { d.clk with adjacent := true } } else d
  | none => d

def execAcquisitionAttemptFail (s : State) : Host.Outcome State Fault Refusal := .next (s.act Dev.attemptFails)

/-- No band has locked 1.2 ms after acquisition started: BAND_FAULT with EV20, and a retry 100 ms after the attempt began; in READY entry the domains start on the synthesiser (Table 3-8 step 2). -/
def Dev.bandFault (d : Dev) : Dev :=
  match d.clk.acq with
  | some t =>
    if d.clk.adjacent && t + 1200000 ≤ d.now then
      let new := !d.bitOf 0x211100 4
      let d := { d with clk := { d.clk with acq := none, adjacent := false, retryAt := some (t + 100000000) } }
      let d := (d.putBit 0x211100 4 true).when new (Dev.raise 20)
      if !d.clk.run && d.entersReady then d.strobesStart.holdover else d.mpllReport
    else d
  | none => d

def execBandFault (s : State) : Host.Outcome State Fault Refusal := .next (s.run (fun _ => Dev.bandFault))

/-- 100 ms have passed: the MPLL acquires again. -/
def Dev.bandRetry (d : Dev) : Dev :=
  match d.clk.retryAt with
  | some t => if t ≤ d.now && d.ready 3 then d.acquire else d
  | none => d

def execBandFaultRetry (s : State) : Host.Outcome State Fault Refusal := .next (s.act Dev.bandRetry)

/-! Holdover (R111, R112) -/

/-- The MPLL loses lock: its word is frozen, the media domains move to the synthesiser, and it acquires again. -/
def Dev.mpllLosesLock (d : Dev) : Dev :=
  if !d.clk.run || d.clk.acq.isSome || d.clk.retryAt.isSome || d.clk.scan || !d.ready 3 then d
  else ((d.inc 0x211800).acquire).holdover

def execMpllLockLoss (s : State) : Host.Outcome State Fault Refusal := .next (s.act Dev.mpllLosesLock)

/-- The phases agree and nothing holds the domains on the synthesiser: they return to the MPLL. -/
def Dev.domainsReturn (d : Dev) : Dev := d.holdoverEnd

def execHoldoverReturn (s : State) : Host.Outcome State Fault Refusal := .next (s.act Dev.domainsReturn)

/-- A holdover has lasted 2 s: EV21, and the sinks with MUTE-ON-HLD act (R22). -/
def Dev.holdover2s (d : Dev) : Dev :=
  match d.clk.hldAt with
  | some t => if !d.clk.hld2s && t + 2000000000 ≤ d.now then ({ d with clk := { d.clk with hld2s := true } } : Dev).raise 21 else d
  | none => d

def execHoldover2s (s : State) : Host.Outcome State Fault Refusal := .next (s.act Dev.holdover2s)

/-- The synthesiser has reached the committed word (R105). -/
def Dev.slewComplete (d : Dev) : Dev :=
  if d.clk.slewing && d.clk.acq.isNone && d.clk.retryAt.isNone && d.ready 3 then
    ({ d with clk := { d.clk with slewing := false, word := d.commitWord } } : Dev).mpllReport
  else d

def execSlewComplete (s : State) : Host.Outcome State Fault Refusal := .next (s.act Dev.slewComplete)

/-! Steering (R109) -/

/-- The validity of the steering source has gone: the domains go to holdover. While the fallback is in use, the time of the primary source's validity starts anew. -/
def Dev.steerLost (d : Dev) : Dev :=
  let d := if d.bitOf 0x211100 5 && !d.primaryValid then { d with clk := { d.clk with primaryAt := none } } else d
  if d.clk.run && d.bitOf 0x211100 2 && !d.steerValid then
    ((d.putBit 0x211100 2 false).modClk (fun c => { c with srcLost := true, lostAt := some d.now })).holdover
  else d

def execSteeringSourceLost (s : State) : Host.Outcome State Fault Refusal := .next (s.act Dev.steerLost)

/-- The steering source is valid: STEER_VALID, and the MPLL takes back the domains. -/
def Dev.steerBack (d : Dev) : Dev :=
  let d := if d.bitOf 0x211100 5 && d.primaryValid && d.clk.primaryAt.isNone then { d with clk := { d.clk with primaryAt := some d.now } } else d
  if d.clk.run && !d.bitOf 0x211100 2 && d.steerValid then
    ((d.putBit 0x211100 2 true).modClk (fun c => { c with srcLost := false, lostAt := none })).domainsReturn
  else d

def execSteeringSourceValid (s : State) : Host.Outcome State Fault Refusal := .next (s.act Dev.steerBack)

/-- FALLBACK_DELAY has passed in holdover: an internal commit with only the source changed, EV22. -/
def Dev.fallbackTaken (d : Dev) : Dev :=
  match d.clk.lostAt with
  | some t =>
    if d.clk.srcLost && d.get 0x211200 ≠ 0 && !d.bitOf 0x211100 5 && t + d.get 0x211300 * 1000000 ≤ d.now then
      let d := d.modClk (fun c => { c with srcLost := false, lostAt := none })
      let d := (d.mpllCommit.putBit 0x211100 5 true)
      let d := d.modClk (fun c => { c with primaryAt := if d.primaryValid then some d.now else none })
      (d.putBit 0x211100 2 d.steerValid).raise 22
    else d
  | none => d

def execFallbackTaken (s : State) : Host.Outcome State Fault Refusal := .next (s.act Dev.fallbackTaken)

/-- The primary source has been valid for 1 s: it is used again by an internal commit, EV22. -/
def Dev.fallbackReleased (d : Dev) : Dev :=
  match d.clk.primaryAt with
  | some t =>
    if d.bitOf 0x211100 5 && d.primaryValid && t + 1000000000 ≤ d.now then
      let d := d.modClk (fun c => { c with srcLost := false, lostAt := none })
      let d := d.mpllCommit
      (d.putBit 0x211100 2 d.steerValid).raise 22
    else d
  | none => d

def execFallbackRelease (s : State) : Host.Outcome State Fault Refusal := .next (s.act Dev.fallbackReleased)

/-! The band scan (R107) -/

def execBandScan (a : Access) (s : State) : Host.Outcome State Fault Refusal := .next (s.quiet (Dev.hostSet a 0x213000 1))

/-- The scan ends with FMIN and FMAX of each band as measured, in order from band 0; it waits for the SPLL (Table 4-10). -/
def execBandScanComplete (bands : List (Nat × Nat)) (s : State) : Host.Outcome State Fault Refusal := .next (s.act (fun d => d.when (d.ready 3) (Dev.scanEnd bands)))

end Sys2Proof.Machine
end

