-- ==== Sys2Proof/Machine/CmdEvents.lean ====
section
/-! DEFINITION. The meanings of the commands of the event fabric, the interrupt pins and the GPIO pins (R471 to R478). -/
namespace Sys2Proof.Machine

def execEvClear (a : Access) (k mask : Nat) (s : State) : Host.Outcome State Fault Refusal := .next (s.quiet (Dev.hostSet a (key 0x1303 (k % 256)) mask))
def execIrqMask (a : Access) (n k mask : Nat) (s : State) : Host.Outcome State Fault Refusal := .next (s.quiet (Dev.hostSet a (key (0x1310 + n % 4) (k % 256)) mask))
def execIrqConfig (a : Access) (n v : Nat) (s : State) : Host.Outcome State Fault Refusal := .next (s.quiet (Dev.hostSet a (key 0x1314 (n % 256)) v))
def execIrqPulseEnd (n : Nat) (s : State) : Host.Outcome State Fault Refusal := .next (s.act (Dev.pulseEnd n))
def execIrqGapEnd (n : Nat) (s : State) : Host.Outcome State Fault Refusal := .next (s.act (Dev.gapEnd n))
def execGpioFunc (a : Access) (g v : Nat) (s : State) : Host.Outcome State Fault Refusal := .next (s.quiet (Dev.hostSet a (key 0x1400 (g % 256)) v))
def execGpioOut (a : Access) (levels : Nat) (s : State) : Host.Outcome State Fault Refusal := .next (s.quiet (Dev.hostSet a 0x140300 levels))

/-- A level of a GPIO pin has held for DEBOUNCE (R477); an edge that 1144.00 selects on GPIO0 to GPIO7 is a wake source (R94). -/
def Dev.gpioIn (g : Nat) (level : Bool) (d : Dev) : Dev :=
  let edge := d.gpioFunc g = 1 && bit d.evt.gpioKnown g && d.bitOf 0x140200 g != level
  let d := d.gpioLevel g level
  if edge && g < 8 && d.bitOf 0x114400 g && d.bitOf 0x114400 (8 + g) == level then d.wake (2 ^ 1) false else d

def execGpioEdge (g : Nat) (level : Bool) (s : State) : Host.Outcome State Fault Refusal := .next (s.act (fun d => d.when (g < 16 && d.sup.vddio0) (Dev.gpioIn g level)))
def execGpioEdgeClear (a : Access) (mask : Nat) (s : State) : Host.Outcome State Fault Refusal := .next (s.quiet (Dev.hostSet a 0x140500 mask))
def execGpioAction (a : Access) (g : Nat) (s : State) : Host.Outcome State Fault Refusal := .next (s.quiet (Dev.hostWrite a (key 0x1407 (g % 256))))

end Sys2Proof.Machine
end

