-- ==== Sys2Proof/Machine/CmdFacetOps.lean ====
section
/-! DEFINITION. The meanings of the Facet instructions and primitives (Tables 12-2 and 12-3): one definition each over the operations of FacetOps, on the task the engine now runs (R289). -/
namespace Sys2Proof.Machine

/-- ADD: scalar addition. -/
def execFacetAdd (e dst x y : Nat) (s : State) : Host.Outcome State Fault Refusal := .next (s.act (Dev.scalar e dst x y opAdd))
/-- SUB: scalar subtraction. -/
def execFacetSub (e dst x y : Nat) (s : State) : Host.Outcome State Fault Refusal := .next (s.act (Dev.scalar e dst x y opSub))
/-- AND: bitwise. -/
def execFacetAnd (e dst x y : Nat) (s : State) : Host.Outcome State Fault Refusal := .next (s.act (Dev.scalar e dst x y (fun p q d => (p &&& q, d))))
/-- OR: bitwise. -/
def execFacetOr (e dst x y : Nat) (s : State) : Host.Outcome State Fault Refusal := .next (s.act (Dev.scalar e dst x y (fun p q d => (p ||| q, d))))
/-- XOR: bitwise. -/
def execFacetXor (e dst x y : Nat) (s : State) : Host.Outcome State Fault Refusal := .next (s.act (Dev.scalar e dst x y (fun p q d => (p ^^^ q, d))))
/-- SHL: left by the count in register y. -/
def execFacetShl (e dst x y : Nat) (s : State) : Host.Outcome State Fault Refusal := .next (s.act (Dev.scalar e dst x y opShl))
/-- SHR: right by the count in register y. -/
def execFacetShr (e dst x y : Nat) (s : State) : Host.Outcome State Fault Refusal := .next (s.act (Dev.scalar e dst x y opShr))
/-- MUL: scalar product. -/
def execFacetMul (e dst x y : Nat) (s : State) : Host.Outcome State Fault Refusal := .next (s.act (Dev.scalar e dst x y opMul))
/-- MIN: the smaller. -/
def execFacetMin (e dst x y : Nat) (s : State) : Host.Outcome State Fault Refusal := .next (s.act (Dev.scalar e dst x y opMin))
/-- MAX: the larger. -/
def execFacetMax (e dst x y : Nat) (s : State) : Host.Outcome State Fault Refusal := .next (s.act (Dev.scalar e dst x y opMax))
/-- CMP: the order of two registers, kept for BRF. -/
def execFacetCmp (e x y : Nat) (s : State) : Host.Outcome State Fault Refusal := .next (s.act (Dev.compare e x y))
/-- MOV: a register, also into an address generator. -/
def execFacetMov (e : Nat) (dst : SDest) (src : Nat) (s : State) : Host.Outcome State Fault Refusal := .next (s.act (Dev.onCtx e (fun c d => (c.setDest dst (c.sreg src), d))))
/-- LI: an immediate. -/
def execFacetLi (e : Nat) (dst : SDest) (v : Nat) (s : State) : Host.Outcome State Fault Refusal := .next (s.act (Dev.onCtx e (fun c d => (c.setDest dst v, d))))
/-- VMAC: four products added to an accumulator. -/
def execFacetVmac (e acc x y : Nat) (s : State) : Host.Outcome State Fault Refusal := .next (s.act (Dev.vmac e acc x y 1 1))
/-- VMSU: four products taken from an accumulator. -/
def execFacetVmsu (e acc x y : Nat) (s : State) : Host.Outcome State Fault Refusal := .next (s.act (Dev.vmac e acc x y 1 (-1)))
/-- VMUL: four products into an accumulator. -/
def execFacetVmul (e acc x y : Nat) (s : State) : Host.Outcome State Fault Refusal := .next (s.act (Dev.vmac e acc x y 0 1))
/-- VADD: four sums. -/
def execFacetVadd (e dst x y : Nat) (s : State) : Host.Outcome State Fault Refusal := .next (s.act (Dev.vector e dst x y lvAdd))
/-- VSUB: four differences. -/
def execFacetVsub (e dst x y : Nat) (s : State) : Host.Outcome State Fault Refusal := .next (s.act (Dev.vector e dst x y lvSub))
/-- VABS: four absolute values. -/
def execFacetVabs (e dst x : Nat) (s : State) : Host.Outcome State Fault Refusal := .next (s.act (Dev.vector e dst x x lvAbs))
/-- VMAX: the larger, lane by lane. -/
def execFacetVmax (e dst x y : Nat) (s : State) : Host.Outcome State Fault Refusal := .next (s.act (Dev.vector e dst x y lvMax))
/-- VSHR: four lanes right by a count. -/
def execFacetVshr (e dst x n : Nat) (s : State) : Host.Outcome State Fault Refusal := .next (s.act (Dev.vector e dst x x (lvShr n)))
/-- VEXT: Q1.31 of an accumulator. -/
def execFacetVext (e dst acc : Nat) (s : State) : Host.Outcome State Fault Refusal := .next (s.act (Dev.vext e dst acc))
/-- FMAC: four products added to a register. -/
def execFacetFmac (e dst x y : Nat) (s : State) : Host.Outcome State Fault Refusal := .next (s.act (Dev.fmac e dst x y))
/-- FMUL: four products. -/
def execFacetFmul (e dst x y : Nat) (s : State) : Host.Outcome State Fault Refusal := .next (s.act (Dev.vector e dst x y (float2 fltMul)))
/-- FADD: four sums. -/
def execFacetFadd (e dst x y : Nat) (s : State) : Host.Outcome State Fault Refusal := .next (s.act (Dev.vector e dst x y (float2 fltAdd)))
/-- FSUB: four differences. -/
def execFacetFsub (e dst x y : Nat) (s : State) : Host.Outcome State Fault Refusal := .next (s.act (Dev.vector e dst x y (float2 (fun f p q => fltAdd f p (fltNeg q)))))
/-- FMAX: the larger, lane by lane. -/
def execFacetFmax (e dst x y : Nat) (s : State) : Host.Outcome State Fault Refusal := .next (s.act (Dev.vector e dst x y (float2 fltMax)))
/-- FABS: four absolute values. -/
def execFacetFabs (e dst x : Nat) (s : State) : Host.Outcome State Fault Refusal := .next (s.act (Dev.vector e dst x x (float2 (fun _ p _ => fltAbs p))))
/-- FCVT: between Q1.31 and binary32. -/
def execFacetFcvt (e dst x : Nat) (toFixed : Bool) (s : State) : Host.Outcome State Fault Refusal := .next (s.act (Dev.vector e dst x x (float2 (fun f p _ => if toFixed then fixOfFlt f p else fltOfFix p))))
/-- FRCP: four reciprocals, to 22 bits. -/
def execFacetFrcp (e dst x : Nat) (s : State) : Host.Outcome State Fault Refusal := .next (s.act (Dev.vector e dst x x (float2 (fun f p _ => fltRcp f p))))
/-- FRSQ: four reciprocal square roots, to 22 bits. -/
def execFacetFrsq (e dst x : Nat) (s : State) : Host.Outcome State Fault Refusal := .next (s.act (Dev.vector e dst x x (float2 (fun f p _ => fltRsq f p))))
/-- FLOG2: any four words, among them those accurate to 22 bits. -/
def execFacetFlog2 (e dst x : Nat) (s : State) : Host.Outcome State Fault Refusal := .next (s.act (Dev.vector e dst x x (float2 (fun f _ _ => f % 2 ^ 32))))
/-- FEXP2: any four words, among them those accurate to 22 bits. -/
def execFacetFexp2 (e dst x : Nat) (s : State) : Host.Outcome State Fault Refusal := .next (s.act (Dev.vector e dst x x (float2 (fun f _ _ => f % 2 ^ 32))))
/-- LD: one word into a scalar register. -/
def execFacetLd (e dst : Nat) (m : MemRef) (s : State) : Host.Outcome State Fault Refusal := .next (s.act (Dev.load e 1 m (fun c l => c.setS dst (nthD 0 l 0))))
/-- ST: a scalar register. -/
def execFacetSt (e src : Nat) (m : MemRef) (s : State) : Host.Outcome State Fault Refusal := .next (s.act (Dev.storeTo e m (fun c => [c.sreg src])))
/-- VLD: four words into a vector register. -/
def execFacetVld (e dst : Nat) (m : MemRef) (s : State) : Host.Outcome State Fault Refusal := .next (s.act (Dev.load e 4 m (fun c l => c.setV dst l)))
/-- VST: a vector register. -/
def execFacetVst (e src : Nat) (m : MemRef) (s : State) : Host.Outcome State Fault Refusal := .next (s.act (Dev.storeTo e m (fun c => c.vreg src)))
def execFacetLoop (e count last : Nat) (s : State) : Host.Outcome State Fault Refusal := .next (s.act (Dev.loop e count last))
def execFacetBrf (e mask target : Nat) (s : State) : Host.Outcome State Fault Refusal := .next (s.act (Dev.branch e mask target))
def execFacetCall (e target : Nat) (s : State) : Host.Outcome State Fault Refusal := .next (s.act (Dev.call e target))
def execFacetRet (e : Nat) (s : State) : Host.Outcome State Fault Refusal := .next (s.act (Dev.ret e))
def execFacetHalt (e cycles : Nat) (s : State) : Host.Outcome State Fault Refusal := .next (s.run (Dev.halt e cycles))
def execFacetTagrd (e dst port : Nat) (s : State) : Host.Outcome State Fault Refusal := .next (s.act (Dev.tagRead e dst port))
def execFacetTagset (e port first count bits : Nat) (s : State) : Host.Outcome State Fault Refusal := .next (s.act (Dev.tagMark e port first count bits false))
def execFacetTagclr (e port first count bits : Nat) (s : State) : Host.Outcome State Fault Refusal := .next (s.act (Dev.tagMark e port first count bits true))
def execFacetUvrd (e dst rec : Nat) (s : State) : Host.Outcome State Fault Refusal := .next (s.act (Dev.varRead e dst rec))
def execFacetUvwr (e src rec : Nat) (s : State) : Host.Outcome State Fault Refusal := .next (s.act (Dev.varWrite e src rec))
/-- DMARD: from an allocation to local memory. -/
def execFacetDmard (e alloc off loc words : Nat) (s : State) : Host.Outcome State Fault Refusal := .next (s.act (Dev.dmaIssue e { write := false, alloc := alloc, off := off, loc := loc, words := words }))
/-- DMAWR: from local memory to an allocation. -/
def execFacetDmawr (e alloc off loc words : Nat) (s : State) : Host.Outcome State Fault Refusal := .next (s.act (Dev.dmaIssue e { write := true, alloc := alloc, off := off, loc := loc, words := words }))
/-- DMAWAIT: the words a single-bit or an uncorrectable error is found in, and those that port A writes in the same cycle with how often. -/
def execFacetDmawait (e : Nat) (singles doubles : List Nat) (hits : List (Nat × Nat)) (s : State) : Host.Outcome State Fault Refusal := .next (s.run (fun m d => d.dmaWait e m { singles := singles, doubles := doubles, hits := hits }))
def execFacetLock (e dst k : Nat) (s : State) : Host.Outcome State Fault Refusal := .next (s.act (Dev.facetLock e dst (k % 16)))
def execFacetUnlock (e k : Nat) (s : State) : Host.Outcome State Fault Refusal := .next (s.act (Dev.facetUnlock e (k % 16)))
def execFacetBiq (e : Nat) (areas : List (Nat × Nat)) (s : State) : Host.Outcome State Fault Refusal := .next (s.act (Dev.prim e areas))
def execFacetConv (e : Nat) (areas : List (Nat × Nat)) (s : State) : Host.Outcome State Fault Refusal := .next (s.act (Dev.prim e areas))
def execFacetFft (e : Nat) (areas : List (Nat × Nat)) (s : State) : Host.Outcome State Fault Refusal := .next (s.act (Dev.prim e areas))
def execFacetIfft (e : Nat) (areas : List (Nat × Nat)) (s : State) : Host.Outcome State Fault Refusal := .next (s.act (Dev.prim e areas))
def execFacetEnv (e : Nat) (areas : List (Nat × Nat)) (s : State) : Host.Outcome State Fault Refusal := .next (s.act (Dev.prim e areas))
def execFacetComp (e : Nat) (areas : List (Nat × Nat)) (s : State) : Host.Outcome State Fault Refusal := .next (s.act (Dev.prim e areas))
def execFacetLim (e : Nat) (areas : List (Nat × Nat)) (s : State) : Host.Outcome State Fault Refusal := .next (s.act (Dev.prim e areas))
def execFacetRamp (e buf g target left : Nat) (cosine : Bool) (s : State) : Host.Outcome State Fault Refusal := .next (s.act (Dev.ramp e buf g target left cosine))
def execFacetXfade (e dst x y pos len : Nat) (power : Bool) (s : State) : Host.Outcome State Fault Refusal := .next (s.act (Dev.xfade e dst x y pos len power))
def execFacetDly (e buf alloc len : Nat) (s : State) : Host.Outcome State Fault Refusal := .next (s.run (fun m d => d.delayLine e m buf alloc len))
def execFacetTlu (e : Nat) (areas : List (Nat × Nat)) (s : State) : Host.Outcome State Fault Refusal := .next (s.act (Dev.prim e areas))
def execFacetEnvx (e buf : Nat) (slots : List Nat) (s : State) : Host.Outcome State Fault Refusal := .next (s.act (Dev.envExport e buf slots))
def execFacetPilot (e buf ch : Nat) (s : State) : Host.Outcome State Fault Refusal := .next (s.act (Dev.pilotAdd e buf ch))
def execFacetSignal (e code : Nat) (s : State) : Host.Outcome State Fault Refusal := .next (s.act (Dev.signal e code))

end Sys2Proof.Machine
end

