-- ==== Sys2Proof/Machine/CmdFacet.lean ====
section
/-! DEFINITION. The meanings of the commands that control the Facet engines, their tasks and their loader (R285 to R319). -/
namespace Sys2Proof.Machine

/-! ENGINE_CTRL and SWAP_SET (Table 12-8, R312) -/

def execStart (a : Access) (e : Nat) (s : State) : Host.Outcome State Fault Refusal := .next (s.quiet (Dev.hostSet a (key (0x5400 + e % 8) 0) 1))
def execStop (a : Access) (e : Nat) (s : State) : Host.Outcome State Fault Refusal := .next (s.quiet (Dev.hostSet a (key (0x5400 + e % 8) 0) 2))
def execSwap (a : Access) (e : Nat) (s : State) : Host.Outcome State Fault Refusal := .next (s.quiet (Dev.hostSet a (key (0x5400 + e % 8) 0) 3))
def execDiscardStandby (a : Access) (e : Nat) (s : State) : Host.Outcome State Fault Refusal := .next (s.quiet (Dev.hostSet a (key (0x5400 + e % 8) 0) 4))
def execUnload (a : Access) (e : Nat) (s : State) : Host.Outcome State Fault Refusal := .next (s.quiet (Dev.hostSet a (key (0x5400 + e % 8) 0) 5))
def execClearFault (a : Access) (e : Nat) (s : State) : Host.Outcome State Fault Refusal := .next (s.run (Dev.hostSet a (key (0x5400 + e % 8) 0) 6))
def execSwapSet (a : Access) (mask : Nat) (s : State) : Host.Outcome State Fault Refusal := .next (s.quiet (Dev.hostSet a 0x542000 mask))

/-! At boundaries -/

/-- Every requested swap whose boundary S is the next one, or has come, is made (R313). -/
def execSwapBoundary (s : State) : Host.Outcome State Fault Refusal := .next (s.act Dev.swapDue)
def execEngineStartPoint (e : Nat) (s : State) : Host.Outcome State Fault Refusal := .next (s.act (fun d => d.when (e < 8) (Dev.engBegin e)))

/-- Task `t` of an engine is released; `outgoing` where it is of the image a swap has just replaced (R315). -/
def execTaskRelease (e t : Nat) (outgoing : Bool) (s : State) : Host.Outcome State Fault Refusal := .next (s.act (fun d => d.when (e < 8) (Dev.release e t (!outgoing))))
def execOverrun (e t : Nat) (outgoing : Bool) (s : State) : Host.Outcome State Fault Refusal := .next (s.act (fun d => d.when (e < 8) (Dev.overrunTask e t (!outgoing))))

/-- A fault of Table 12-7 detected in a running engine, at the instruction it has come to; an uncorrectable word returned to DMA sets SAFE cause [5] too. -/
def Dev.engineFault (e cause : Nat) (d : Dev) : Dev :=
  if e ≥ 8 || cause ≥ 7 || d.engState e ≠ 2 then d
  else
    let d := match d.current e with
      | some (act, _, t, r) => d.engFault e cause r.ctx.pc t.num (!act)
      | none => d.engFault e cause 0 0 false
    if cause = 4 then (d.causeSet 5).outSettle else d

def execEngineFault (e cause : Nat) (s : State) : Host.Outcome State Fault Refusal := .next (s.act (Dev.engineFault e cause))
def execAutoRecover (e : Nat) (s : State) : Host.Outcome State Fault Refusal := .next (s.run (fun _ d => d.when (e < 8) (Dev.autoRecover e)))
def execEcoClockChange (s : State) : Host.Outcome State Fault Refusal := .next (s.act Dev.ecoClock)

/-! The loader and the boot store (R307, R308, R311) -/

def execLoadStart (a : Access) (s : State) : Host.Outcome State Fault Refusal := .next (s.quiet (Dev.hostSet a 0x548002 1))
def execLoadChunk (a : Access) (s : State) : Host.Outcome State Fault Refusal := .next (s.quiet (Dev.hostWrite a 0x548003))
def execLoadFinish (a : Access) (s : State) : Host.Outcome State Fault Refusal := .next (s.quiet (Dev.hostSet a 0x548004 1))

/-- The checks of the staged image finish with what cryptography and the flow analysis found, or with an uncorrectable word of the staging area (R308). -/
def execLoadResult (v : Verdict) (ecc : Option Nat) (s : State) : Host.Outcome State Fault Refusal := .next (s.run (fun _ => Dev.loadResult v ecc))
def execLoaderOwnerTimeout (s : State) : Host.Outcome State Fault Refusal := .next (s.act Dev.ownerTimeout)
def execBootErase (a : Access) (slot : Nat) (s : State) : Host.Outcome State Fault Refusal := .next (s.quiet (Dev.hostSet a 0x549300 slot))

end Sys2Proof.Machine
end

