-- ==== Sys2Proof/Machine/CmdHka.lean ====
section
/-! DEFINITION. The meanings of the commands of the housekeeping converter and of Tessera memory (R388 to R417). -/
namespace Sys2Proof.Machine

/-! The converter -/

def execSeqStart (a : Access) (s : State) : Host.Outcome State Fault Refusal := .next (s.quiet (Dev.hostSet a 0x630001 1))
def execSeqStop (a : Access) (s : State) : Host.Outcome State Fault Refusal := .next (s.quiet (Dev.hostSet a 0x630002 1))
def execPeriodicTrigger (s : State) : Host.Outcome State Fault Refusal := .next (s.act Dev.periodic)

/-- The conversion in progress ends with its code before correction, above full scale or below AGND (R391, R394). -/
def execConversionDone (raw : Nat) (ovr und : Bool) (s : State) : Host.Outcome State Fault Refusal := .next (s.act (Dev.convDone raw ovr und))
def execMonitorRequest (s : State) : Host.Outcome State Fault Refusal := .next (s.act Dev.monRequest)
def execUrgent (a : Access) (v : Nat) (s : State) : Host.Outcome State Fault Refusal := .next (s.quiet (Dev.hostSet a 0x635000 v))
def execCalibrate (a : Access) (s : State) : Host.Outcome State Fault Refusal := .next (s.quiet (Dev.hostSet a 0x634000 1))

/-- A calibration ends with the factors it found (R401). -/
def execCalibrationDone (offset : Int) (gain : Nat) (s : State) : Host.Outcome State Fault Refusal := .next (s.act (Dev.calDone offset gain))
def execResult (a : Access) (q : Nat) (s : State) : Host.Outcome State Fault Refusal := .next (s.quiet (Dev.hostRead a (key 0x6320 (q % 256))))
def execWindowStatus (a : Access) (s : State) : Host.Outcome State Fault Refusal := .next (s.quiet (Dev.hostRead a 0x632300))

/-! Tessera memory -/

/-- One slot of the background tester (R413), with the words it finds bad by one bit or more and whether the region's March test fails. -/
def execBgTestSlot (singles doubles : List Nat) (fails : Bool) (s : State) : Host.Outcome State Fault Refusal := .next (s.act (Dev.bgTest singles doubles fails))
def execLockTake (a : Access) (k v : Nat) (s : State) : Host.Outcome State Fault Refusal := .next (s.quiet (Dev.hostSet a (key 0x5831 (k % 256)) v))

/-- A lock's lease of 50 us runs out (R417): it is revoked, and a Facet engine that held it faults. -/
def Dev.leaseEnds (k : Nat) (d : Dev) : Dev :=
  match d.leaseOver k with
  | some h => let d := d.lockRevoke k; if h < 8 then d.engineFault h 5 else d
  | none => d

def execLockRevoked (k : Nat) (s : State) : Host.Outcome State Fault Refusal := .next (s.act (fun d => d.when (k < 16) (Dev.leaseEnds k)))

end Sys2Proof.Machine
end

