-- ==== Sys2Proof/Machine/CmdLattice.lean ====
section
/-! DEFINITION. The meanings of the commands of the Lattice and the Vertex mixer (R267 to R284). -/
namespace Sys2Proof.Machine

/-- The multiplexer selections by number: SRC_SEL, OUT_SEL, VTX_IN_SEL, and FACET_IN_SEL of the eight engines (Table 11-4b). -/
def muxIndex (n : Nat) : Nat := nthD 0x5010 [0x5010, 0x5020, 0x5040, 0x5030, 0x5031, 0x5032, 0x5033, 0x5034, 0x5035, 0x5036, 0x5037] (n % 11)

def execMuxSelection (a : Access) (mux sub v : Nat) (s : State) : Host.Outcome State Fault Refusal := .next (s.quiet (Dev.hostSet a (key (muxIndex mux) (sub % 256)) v))

/-- A fade-out that has reached silence ends: the new node is passed from the switch sample on (R276). -/
def Dev.fadeSwitch (k : Nat) (d : Dev) : Dev :=
  match assoc k d.lat.fades with
  | some f => if f.out && f.g = 0 then d.setFade k (some { f with out := false }) else d
  | none => d

/-- A fade-in whose next sample is at full level is over (R276). -/
def Dev.fadeEnd (k : Nat) (d : Dev) : Dev :=
  match assoc k d.lat.fades with
  | some f => if !f.out && f.g + 1 ≥ d.fadeLen then d.setFade k none else d
  | none => d

def execRampSwitchSample (mux sub : Nat) (s : State) : Host.Outcome State Fault Refusal := .next (s.act (Dev.fadeSwitch (key (muxIndex mux) (sub % 256))))
def execRampEnd (mux sub : Nat) (s : State) : Host.Outcome State Fault Refusal := .next (s.act (Dev.fadeEnd (key (muxIndex mux) (sub % 256))))
def execSinkDest (a : Access) (lane v : Nat) (s : State) : Host.Outcome State Fault Refusal := .next (s.quiet (Dev.hostSet a (key 0x5021 (lane % 256)) v))

/-- A gain of a Vertex output for an input, in Q4.28 (R280). -/
def execVtxGain (a : Access) (out inp v : Nat) (s : State) : Host.Outcome State Fault Refusal := .next (s.quiet (Dev.hostSet a (key (0x5100 + out % 64) (inp % 256)) v))
def execSinkPolicy (a : Access) (node v : Nat) (s : State) : Host.Outcome State Fault Refusal := .next (s.quiet (Dev.hostSet a (key (0x5210 + node / 256 % 2) (node % 256)) v))

end Sys2Proof.Machine
end

