-- ==== Sys2Proof/Machine/CmdDict.lean ====
section
/-! DEFINITION. The meanings of the commands of the transports, the dictionary, the agreement groups and the ledgers (R24, R25, R39 to R63, R480, R481). -/
namespace Sys2Proof.Machine

/-! Requests of SPI and I2C -/

/-- READ: an object's value or staged value, after the checks of R41. `singles` and `doubles` are the addresses of words of Tessera memory found with a single-bit or an uncorrectable error. -/
def execRead (a : Access) (index sub : Nat) (singles doubles : List Nat) (s : State) : Host.Outcome State Fault Refusal :=
  .next (s.quiet (fun m d => d.hostReadAt m singles doubles a (key index (sub % 256))))

/-- WRITE: checked, then it acts, stages or is refused. `hits` are the words at which it meets a DMA write in the same cycle, with the times it loses (R410). -/
def execWrite (a : Access) (index sub : Nat) (hits : List (Nat × Nat)) (s : State) : Host.Outcome State Fault Refusal :=
  .next (s.run (fun m d => d.hostWriteAt m hits a (key index (sub % 256))))

/-- What SPI or I2C is answered with, `i2c` telling which. -/
def Dev.busOut (i2c : Bool) (x : Answer) (d : Dev) : Dev := { d with bus := if i2c then { d.bus with outI2c := x } else { d.bus with outSpi := x } }

/-- A request that is not a READ or WRITE is answered while its transport is up (R53, R483, R491). -/
def Dev.busReply (i2c : Bool) (x : Answer) (d : Dev) : Dev := d.when (d.pathUp (if i2c then .i2c else .spi)) (Dev.busOut i2c x)

/-- RESEND (R53): the kept response, or NOT_READY with none kept. -/
def Dev.resend (i2c : Bool) (d : Dev) : Dev :=
  d.busReply i2c (.reply (match (if i2c then d.bus.keptI2c else d.bus.keptSpi) with | some r => r | none => { status := eNotReady }))

def execResend (i2c : Bool) (s : State) : Host.Outcome State Fault Refusal := .next (s.act (Dev.resend i2c))

/-- NOP (R53): OK, and nothing else. -/
def execNop (i2c : Bool) (s : State) : Host.Outcome State Fault Refusal := .next (s.act (Dev.busReply i2c (.reply { status := eOk })))

/-- An undefined OP (R53): RANGE, not executed and not logged. -/
def execUndefinedOp (i2c : Bool) (s : State) : Host.Outcome State Fault Refusal := .next (s.act (Dev.busReply i2c (.reply { status := eRange })))

/-- A request with a bad CRC (R53): 0x5B, counted in 1250.00 or 1250.01. -/
def Dev.badCrc (i2c : Bool) (d : Dev) : Dev :=
  d.when (d.pathUp (if i2c then .i2c else .spi)) (fun d => (d.busOut i2c .badCrc).inc (if i2c then 0x125001 else 0x125000))

def execBadCrcRequest (i2c : Bool) (s : State) : Host.Outcome State Fault Refusal := .next (s.act (Dev.badCrc i2c))

/-- A request cut short (R480, R481): no answer, counted; the kept response stays. -/
def Dev.cutShort (i2c : Bool) (d : Dev) : Dev :=
  d.when (d.pathUp (if i2c then .i2c else .spi)) (fun d => (d.busOut i2c .none).inc (if i2c then 0x141001 else 0x141000))

def execSpiAborted (s : State) : Host.Outcome State Fault Refusal := .next (s.act (Dev.cutShort false))
def execI2cTimeout (s : State) : Host.Outcome State Fault Refusal := .next (s.act (Dev.cutShort true))
def execI2cShortTransfer (s : State) : Host.Outcome State Fault Refusal := .next (s.act (Dev.cutShort true))

/-! The Terryn Dictionary Transport (R56 to R63, R451 to R453) -/

/-- A TDT frame in clear (Table 2-12): the header, and the payload, whose authentication tag is left to the sealing. -/
def tdtFrame (type status session seq frag flags : Nat) (payload : List Byte) : List Byte :=
  leBytes 1 0x54 ++ leBytes 1 1 ++ leBytes 1 type ++ leBytes 1 status ++ leBytes 4 session ++ leBytes 4 seq ++ leBytes 2 payload.length ++ leBytes 1 frag ++ leBytes 1 flags ++ payload

/-- The frames that a TDT command sends. -/
def Dev.tdtOut (l : List (List Byte)) (d : Dev) : Dev := { d with bus := { d.bus with outTdt := l } }

/-- TDT frames are received: its ready bit is set, and nothing holds the part in reset (R56, R483). -/
def Dev.tdtUp (d : Dev) : Bool := d.ready 11 && !d.sup.resetLow && !d.sup.vinDown

/-- A frame dropped under R56 or R451. -/
def Dev.tdtDrop (d : Dev) : Dev := d.inc 0x125002

/-- An open session by its ID. -/
def Dev.sessionById (d : Dev) (id : Nat) : Option Session := d.bus.sessions.find? (fun s => s.id == id)

/-- A session changed in its slot. -/
def Dev.modSession (slot : Nat) (f : Session → Session) (d : Dev) : Dev :=
  { d with bus := { d.bus with sessions := d.bus.sessions.map (fun s => if s.slot = slot then f s else s) } }

/-- An authenticated frame of a session: its 60 s start again, and the lease of the write lock it holds is renewed unless it has run out (R59, R60, Table 1-10). -/
def Dev.heard (slot : Nat) (d : Dev) : Dev :=
  let d := d.modSession slot (fun s => { s with seen := d.now })
  match d.bus.lock with
  | some (h, t) => if h = slot && t > d.now then { d with bus := { d.bus with lock := some (h, d.now + 10000000000) } } else d
  | none => d

/-- Bytes padded with zeros to a multiple of 4. -/
def pad4 (b : List Byte) : List Byte := b ++ zeros ((4 - b.length % 4) % 4)

/-- A response record of R57; its FLAGS repeat the request's. -/
def replyRecord (r : Reply) (flags index sub : Nat) : List Byte :=
  leBytes 1 r.status ++ leBytes 1 flags ++ leBytes 2 index ++ leBytes 1 sub ++ zeros 1 ++ leBytes 2 r.data.length ++ leBytes 2 r.gen ++ zeros 2 ++ pad4 r.data

/-- The access an access record asks for. -/
def recordAccess (r : AccessRecord) (slot : Nat) : Access :=
  { path := .tdt slot, staged := bit r.flags 0, hold := bit r.flags 1, offset := r.offset, length := r.length, data := r.data }

/-- One access record executed (R57). -/
def Dev.recordDo (m : List Host.Cell) (slot : Nat) (r : AccessRecord) (d : Dev) : Reply × Dev :=
  let k := key r.index (r.sub % 256)
  if r.op = 1 then d.readObj m [] [] (recordAccess r slot) k
  else if r.op = 2 then (let (c, d) := d.writeObj m [] (recordAccess r slot) k; ({ status := c }, d))
  else if r.op = 0 then ({ status := eOk }, d)
  else ({ status := eRange }, d)

/-- The records of a REQUEST executed in order (R57): the response records, and whether one of them ended the session, which then ends after the RESPONSE (Table 19-16). -/
def Dev.recordsDo (m : List Host.Cell) (x : Session) (l : List AccessRecord) (d : Dev) : List Byte × Bool × Dev :=
  l.foldl (fun (acc : List Byte × Bool × Dev) r =>
    let (out, gone, d) := acc
    let (y, d) := d.recordDo m x.slot r
    let out := out ++ replyRecord y r.flags r.index r.sub
    if (d.session x.slot).isSome then (out, gone, d) else (out, true, { d with bus := { d.bus with sessions := d.bus.sessions ++ [x] } })) ([], false, d)

/-- A frame of a session after its tag (R56, R58): dropped where the tag is wrong, the session unknown or the payload too long; `f` is what an accepted one does. -/
def Dev.tdtIn (id : Nat) (ok : Bool) (len : Nat) (f : Session → Dev → Dev) (d : Dev) : Dev :=
  if !d.tdtUp then d
  else match d.sessionById id with
    | none => (d.tdtOut []).tdtDrop
    | some x => if !ok || len > 1400 then (d.tdtOut []).tdtDrop else f x ((d.tdtOut []).heard x.slot)

/-- A session whose SEQ has reached its top is closed (R58). -/
def Dev.seqTop (slot seq : Nat) (d : Dev) : Dev := d.when (decide (seq ≥ 0xFFFFFFFF)) (Dev.endSession slot)

/-- REQUEST (R57, R58): the next SEQ is executed, the last one answered again from the cache, any other dropped. One that writes before a snapshot's capture has ended waits (R92). -/
def Dev.request (m : List Host.Cell) (id : Nat) (ok : Bool) (seq len : Nat) (l : List AccessRecord) (d : Dev) : Dev :=
  Dev.tdtIn id ok len (fun x d =>
    if seq = x.lastSeq + 1 then
      if d.sup.capture && l.any (fun r => r.op = 2) then { d with sup := { d.sup with waits := d.sup.waits ++ [.request id ok seq len l] } } else
      let d := d.modSession x.slot (fun s => { s with lastSeq := seq, bulk := 0 })
      let (out, gone, d) := d.recordsDo m x l
      let f := tdtFrame 0x21 0 id seq 0 0 out
      let d := (d.tdtOut [f]).modSession x.slot (fun s => { s with lastSeq := seq, cached := f })
      (d.when gone (Dev.endSession x.slot)).seqTop x.slot seq
    else if seq = x.lastSeq then d.tdtOut [x.cached]
    else d.inc 0x125003) d

def execRequest (session : Nat) (ok : Bool) (seq len : Nat) (records : List AccessRecord) (s : State) : Host.Outcome State Fault Refusal :=
  .next (s.run (fun m d => d.request m session ok seq len records))

/-- The snapshot's values are captured, and what waited for that is executed in order (R92). -/
def Dev.captureNow (m : List Host.Cell) (d : Dev) : Dev :=
  if !d.sup.capture then d
  else
    let l := d.sup.waits
    let d := ({ d with sup := { d.sup with waits := [] } } : Dev).snapCapture
    l.foldl (fun (a : Dev) w => match w with
      | .write k x h => a.hostWriteAt m h x k
      | .request i ok q n r => a.request m i ok q n r) d

/-- Objects of a range in ascending order. -/
def sortedIn (lo hi : Nat) (l : List Nat) : List Nat :=
  l.foldl (fun (acc : List Nat) k => if lo ≤ k && k ≤ hi && !acc.contains k then acc.takeWhile (fun x => x < k) ++ k :: acc.dropWhile (fun x => x < k) else acc) []

/-- Every object from one name to another, ascending: those of the maps, and the bound user objects. -/
def Dev.objectsIn (d : Dev) (lo hi : Nat) : List Nat :=
  let maps := (upto (hi / 65536 + 1)).flatMap (fun p => if p < lo / 65536 then [] else (objPage p).flatMap ObjRow.keys)
  let user := (upto 8).flatMap (fun e => match (d.eng e).active with | some b => b.img.binds.map (·.obj) | none => [])
  (sortedIn lo hi (maps ++ user)).filter (fun k => (d.objAt k).isSome)

/-- The fragments of a BULK_READ being filled: those that are full, the one in progress, whether the range ends before its last object, and the part. -/
structure BulkFill where
  full : List (List Byte) := []
  open_ : List Byte := []
  more : Bool := false

/-- One object of a BULK_READ (R61): large BLOBs are skipped, and an object that does not fit the sixteenth fragment ends the answer unread. -/
def Dev.bulkOne (m : List Host.Cell) (slot : Nat) (staged : Bool) (k : Nat) (x : BulkFill × Dev) : BulkFill × Dev :=
  let (b, d) := x
  if b.more then x
  else match d.objAt k with
    | none => x
    | some o =>
      if o.ty = .blob && d.blobSize o k > 64 then x
      else
        let (r, e) := d.readObj m [] [] { path := .tdt slot, staged := staged, length := 1400 } k
        let y := replyRecord r (b2n staged) (k / 256) (k % 256)
        if b.open_.length + y.length ≤ 1400 then ({ b with open_ := b.open_ ++ y }, e)
        else if b.full.length < 15 then ({ b with full := b.full ++ [b.open_], open_ := y }, e)
        else ({ b with more := true }, d)

/-- The fragments of a BULK_READ, the last with LAST, and MORE where the range goes on (Table 2-12). -/
def bulkFrames (id seq answer : Nat) (b : BulkFill) : List (List Byte) :=
  let l := b.full ++ [b.open_]
  (upto l.length).map (fun i =>
    let last := i + 1 = l.length
    tdtFrame 0x31 0 id seq i (b2n last + 2 * b2n (last && b.more) + 4 * answer) (nthD [] l i))

/-- BULK_READ (R58, R61, R452): read afresh at each arrival; a session whose count of fresh executions would pass 63 is closed. -/
def Dev.bulkRead (m : List Host.Cell) (id : Nat) (ok : Bool) (seq len first last : Nat) (staged : Bool) (d : Dev) : Dev :=
  Dev.tdtIn id ok len (fun x d =>
    if seq = x.lastSeq + 1 || seq = x.lastSeq then
      let n := if seq = x.lastSeq then x.bulk + 1 else 0
      if n > 63 then d.endSession x.slot
      else
        let d := d.modSession x.slot (fun s => { s with lastSeq := seq, bulk := n })
        let (b, d) := (d.objectsIn first last).foldl (fun (a : BulkFill × Dev) k => Dev.bulkOne m x.slot staged k a) ({}, d)
        (d.tdtOut (bulkFrames id seq n b)).seqTop x.slot seq
    else d.inc 0x125003) d

def execBulkRead (session : Nat) (ok : Bool) (seq len : Nat) (firstIndex firstSub lastIndex lastSub : Nat) (staged : Bool) (s : State) : Host.Outcome State Fault Refusal :=
  .next (s.quiet (fun m d => d.bulkRead m session ok seq len (key firstIndex (firstSub % 256)) (key lastIndex (lastSub % 256)) staged))

/-- KEEPALIVE (R452): a counter above the last is echoed, any other dropped. -/
def Dev.keepalive (id : Nat) (ok : Bool) (len counter : Nat) (d : Dev) : Dev :=
  Dev.tdtIn id ok len (fun x d =>
    if counter > x.alive then (d.modSession x.slot (fun s => { s with alive := counter })).tdtOut [tdtFrame 0x22 0 id counter 0 0 []]
    else d.inc 0x125003) d

def execKeepalive (session : Nat) (ok : Bool) (len counter : Nat) (s : State) : Host.Outcome State Fault Refusal := .next (s.act (Dev.keepalive session ok len counter))

/-- CLOSE (R452): its SEQ is one above the last; it is not answered. -/
def Dev.close (id : Nat) (ok : Bool) (seq len : Nat) (d : Dev) : Dev :=
  Dev.tdtIn id ok len (fun x d => if seq = x.lastSeq + 1 then d.endSession x.slot else d.inc 0x125003) d

def execTdtClose (session : Nat) (ok : Bool) (seq len : Nat) (s : State) : Host.Outcome State Fault Refusal := .next (s.act (Dev.close session ok seq len))

/-- OPEN (R59, R451, R453): verified where a session may exist and the rate allows, at most 16 in a second, else dropped and counted; answered with a nonce and a session ID of the TRNG, which are free values, or BUSY. -/
def Dev.openSession (keySel : Nat) (ok : Bool) (nonce : List Byte) (d : Dev) : Dev :=
  let slot := 12 - keySel
  let recent := d.sec.opens.filter (fun t => d.now < t + 1000000000)
  if !d.tdtUp then d
  else if !((d.life = 1 || d.life = 2) && (keySel = 1 || keySel = 2) && d.keyValid slot) || recent.length ≥ 16 then (d.tdtOut []).tdtDrop
  else
    let d := (d.tdtOut []).modSec (fun s => { s with opens := recent ++ [d.now] })
    if !ok then d.tdtDrop
    else match (upto 8).find? (fun n => (d.session n).isNone) with
      | none => (d.tdtOut [tdtFrame 0x11 eBusy 0 0 0 0 []]).inc 0x713001
      | some n =>
        let (r, d) := d.fresh
        let (i, d) := d.fresh
        let nd := leBytes 16 r
        let id := 1 + i % (2 ^ 32 - 1)
        let x : Session := { slot := n, id := id, priv := keySel, keySlot := slot, nonces := nonce ++ nd, lastSeq := 0, cached := [], bulk := 0, alive := 0, seen := d.now }
        let d := { d with bus := { d.bus with sessions := d.bus.sessions ++ [x] } }
        ((d.tdtOut [tdtFrame 0x11 0 id 0 0 0 nd]).inc 0x713000).raise 124

def execTdtOpen (keySel : Nat) (ok : Bool) (nonce : List Byte) (s : State) : Host.Outcome State Fault Refusal := .next (s.act (Dev.openSession keySel ok nonce))

/-- The supervisor revokes what a silent session held (R32): EV5 and a record of kind LEASE. -/
def Dev.revoked (resource slot : Nat) (d : Dev) : Dev := (d.raise 5).bbMake 7 1 5 0 resource slot

/-- A session has been silent for 60 s (R59, R32). -/
def Dev.sessionTimeout (slot : Nat) (d : Dev) : Dev :=
  match d.session slot with
  | some x => if x.seen + 60000000000 ≤ d.now then (d.endSession slot).revoked 3 slot else d
  | none => d

def execSessionTimeout (slot : Nat) (s : State) : Host.Outcome State Fault Refusal := .next (s.act (Dev.sessionTimeout slot))

/-- DISCOVER (R63): one ANNOUNCE is scheduled while discovery is enabled and fewer than ten have been sent or wait within the second. -/
def Dev.discover (d : Dev) : Dev :=
  let sent := d.bus.announced.filter (fun t => d.now < t + 1000000000)
  if d.tdtUp && d.get 0x123200 = 1 && sent.length + d.bus.announces.length < 10 then { d with bus := { d.bus with announces := d.bus.announces ++ [d.now] } } else d

def execDiscover (s : State) : Host.Outcome State Fault Refusal := .next (s.act Dev.discover)

/-- The payload of an ANNOUNCE (Table 2-13). -/
def Dev.announceBytes (d : Dev) : List Byte :=
  let name := d.blobOf 0x123300
  leBytes 4 (d.get 0x100000) ++ leBytes 2 (d.get 0x100100) ++ leBytes 2 (d.get 0x100200) ++ leBytes 6 (d.get 0x330000) ++ leBytes 1 d.life
    ++ leBytes 1 d.twinRole ++ leBytes 1 d.mode ++ zeros 1 ++ name.take 32 ++ zeros (32 - name.length)

/-- The random delay after a DISCOVER is over. -/
def Dev.announce (d : Dev) : Dev :=
  match d.bus.announces with
  | [] => d
  | _ :: t =>
    let sent := d.bus.announced.filter (fun t => d.now < t + 1000000000)
    ({ d with bus := { d.bus with announces := t, announced := sent ++ [d.now] } } : Dev).tdtOut [tdtFrame 2 0 0 0 0 0 d.announceBytes]

def execAnnounce (s : State) : Host.Outcome State Fault Refusal := .next (s.act Dev.announce)

/-! The write lock -/

def execWriteLock (a : Access) (v : Nat) (s : State) : Host.Outcome State Fault Refusal := .next (s.quiet (Dev.hostSet a 0x124000 v))
def execLockBreak (a : Access) (s : State) : Host.Outcome State Fault Refusal := .next (s.quiet (Dev.hostSet a 0x124100 1))

/-- The lease of the write lock has run out (R31, R32, R60). -/
def Dev.lockExpires (d : Dev) : Dev :=
  match d.bus.lock with
  | some (h, t) => if t ≤ d.now then ({ d with bus := { d.bus with lock := none } } : Dev).revoked 2 h else d
  | none => d

def execWriteLockLeaseExpiry (s : State) : Host.Outcome State Fault Refusal := .next (s.act Dev.lockExpires)

/-! Agreement groups -/

def execCommitNow (a : Access) (g : Nat) (s : State) : Host.Outcome State Fault Refusal := .next (s.quiet (Dev.hostSet a (key 0x1200 (g % 256)) 0))
def execCommitSchedule (a : Access) (g time : Nat) (s : State) : Host.Outcome State Fault Refusal := .next (s.quiet (Dev.hostSet a (key 0x1200 (g % 256)) time))
def execDiscard (a : Access) (g : Nat) (s : State) : Host.Outcome State Fault Refusal := .next (s.quiet (Dev.hostSet a (key 0x1203 (g % 256)) 1))
def execCheck (a : Access) (g : Nat) (s : State) : Host.Outcome State Fault Refusal := .next (s.quiet (Dev.hostSet a (key 0x1204 (g % 256)) 1))

/-- The first media entry that is due holds a commit, of a group if one is named: it is committed or refused, and its slot freed (R29, R132). -/
def Dev.commitRun (g : Option Nat) (d : Dev) : Dev :=
  match d.firstDue true with
  | some e =>
    if e.action = 2 && (match g with | some x => e.target = x | none => true) then
      let (c, d) := d.commitDue e.target
      d.locusDone e c
    else d
  | none => d

def execScheduledCommit (g : Nat) (s : State) : Host.Outcome State Fault Refusal := .next (s.act (Dev.commitRun (some g)))

/-! Ledgers -/

def execLedgerClear (a : Access) (s : State) : Host.Outcome State Fault Refusal := .next (s.quiet (Dev.hostSet a 0x115000 1))
def execLedgerRead (a : Access) (index sub : Nat) (s : State) : Host.Outcome State Fault Refusal := .next (s.quiet (Dev.hostRead a (key index (sub % 256))))

end Sys2Proof.Machine
end

