-- ==== Sys2Proof/Machine/CmdMedia.lean ====
section
/-! DEFINITION. The meanings of the tick, the media boundary and a Sync transmitted (R116, R15, R431). -/
namespace Sys2Proof.Machine

/-! The tick -/

/-- A number of ticks of 4 ns: the counter and the shapers move; what waits for a media boundary acts at once while no strobe runs. -/
def Dev.ticks (n : Nat) (m : List Host.Cell) (d : Dev) : Dev :=
  let d := times (fun (d : Dev) => d.timeTick.netTick) n d
  if d.med.run then d else Dev.captureNow m d.ledgerDoClear

def execTick (n : Nat) (s : State) : Host.Outcome State Fault Refusal := .next (s.run (Dev.ticks n))

/-! The media boundary (R15, R274) -/

/-- What is due before the samples move: a ledger clear, a snapshot's capture, and the mirrored writes whose boundary this is. -/
def Dev.boundaryWrites (m : List Host.Cell) (d : Dev) : Dev :=
  let d := Dev.captureNow m d.ledgerDoClear
  let n := d.med.index
  let due := d.twin.mirror.filter (fun x => decide (x.at_ ≤ n))
  let d := d.modTwin (fun t => { t with mirror := t.mirror.filter (fun x => decide (n < x.at_)) })
  due.foldl (fun (d : Dev) x => d.mirrorAct m x) d

/-- Every source writes a sample and its tag (R15), from the outputs of the analogue chains and sense converters by node. -/
def Dev.boundarySources (inputs : List (Nat × Int)) (m : List Host.Cell) (d : Dev) : Dev :=
  let (l0, d) := d.capBoundary inputs
  let (l1, d) := d.sapBoundary
  let (l2, d) := d.asrcBoundary
  let (l3, d) := d.lsBoundary
  let (l4, d) := d.pwrSense inputs
  let (l5, d) := d.auxBoundary m
  let l := l0 ++ l1 ++ l2 ++ l3 ++ l4 ++ l5
  let (l6, d) := d.chordBoundary l
  d.latSources (l ++ l6)

/-- Every sink takes its sample. -/
def Dev.boundarySinks (d : Dev) : Dev :=
  let d := d.sapTake.tsBoundary.perBoundary
  (d.pwrBoundary d.bst.pvdd).hpBoundary

/-- One Lattice sample strobe: the fabric takes what the boundary before left, the sources write, the sinks take theirs. -/
def Dev.mediaBoundary (inputs : List (Nat × Int)) (m : List Host.Cell) (d : Dev) : Dev :=
  if !d.med.run then d
  else
    let d : Dev := { d with med := { d.med with index := d.med.index + 1 } }
    let d := (d.boundaryWrites m).sapMasters
    let n := d.med.index
    let (fac, d) := d.facOutputs n
    let d := (d.latFabric fac).facInputs n
    let d := ((d.boundarySources inputs m).latSinks).boundarySinks
    { d with med := { d.med with invOnce := false } }.ledgerEdge

def execMediaSampleBoundary (inputs : List (Nat × Int)) (s : State) : Host.Outcome State Fault Refusal := .next (s.run (Dev.mediaBoundary inputs))

/-! Sync -/

/-- The device serves as grandmaster: of a pair, the twin that holds the role. -/
def Dev.serves (d : Dev) : Bool := d.timeReady && d.get 0x222000 ≠ 0 && (d.get kTimeState = 6 || d.get kTimeState = 7) && (d.twinState ≠ 3 || d.tbit 8)

/-- A Sync message: header and originTimestamp as IEEE 1588 and IEEE 802.1AS lay them out. PRESUMED (assumption log 50). -/
def Dev.syncBody (d : Dev) : List Byte :=
  let gptp : Bool := d.get 0x222000 = 4
  let ident := if d.twinState = 3 then d.pairIdent else eui64 (d.get 0x330000)
  let two : Bool := d.get 0x222A00 = 1
  let t := d.time64
  beBytes 1 (if gptp then 16 else 0) ++ beBytes 1 2 ++ beBytes 2 44 ++ beBytes 1 (d.get 0x222100) ++ zeros 1 ++ beBytes 2 (512 * b2n two) ++ zeros 12 ++ beBytes 8 ident ++ beBytes 2 1
    ++ beBytes 2 (d.twin.syncs % 65536) ++ zeros 1 ++ beBytes 1 (d.get 0x222600 % 256) ++ beBytes 6 (t / 1000000000) ++ beBytes 4 (t % 1000000000)

/-- Its frame, by the transport of the profile (Table 5-2). -/
def Dev.syncFrame (ident : Nat) (d : Dev) : List Byte :=
  let src := beBytes 6 (if d.sharesMac then d.get 0x700100 else d.get 0x330000)
  let body := d.syncBody
  let udp := beBytes 2 319 ++ beBytes 2 319 ++ beBytes 2 (8 + body.length) ++ zeros 2 ++ body
  let tr := if d.get 0x222000 = 4 then 2 else d.get 0x222B00
  if tr = 2 then beBytes 6 (if d.get 0x222000 = 4 then 0x0180C200000E else 0x011B19000000) ++ src ++ beBytes 2 0x88F7 ++ body
  else if tr = 0 then
    txCheck true true (beBytes 6 (macOf4 0xE0000181) ++ src ++ beBytes 2 0x0800 ++ beBytes 1 0x45 ++ zeros 1 ++ beBytes 2 (20 + udp.length) ++ beBytes 2 ident ++ zeros 2 ++ beBytes 1 1
      ++ beBytes 1 17 ++ zeros 2 ++ beBytes 4 (if d.sharesIp4 then d.get 0x700101 else d.get 0x330200) ++ beBytes 4 0xE0000181 ++ udp)
  else
    let g := if d.sharesIp6 then d.ip6 0x700102 else d.ip6 0x330500
    txCheck false true (beBytes 6 0x333300000181 ++ src ++ beBytes 2 0x86DD ++ beBytes 4 0x60000000 ++ beBytes 2 udp.length ++ beBytes 1 17 ++ beBytes 1 1
      ++ beBytes 16 (if g = 0 then d.ip6Local else g) ++ beBytes 16 (0xFF0E * 2 ^ 112 + 0x181) ++ udp)

/-- A Sync is sent: counted, the grandmaster lease renewed for 1 s (R431), and its frame given on ring 6 to the switch (Table 6-9, R165). -/
def Dev.syncOut (d : Dev) : Dev :=
  if !d.serves then d
  else
    let (x, d) := d.fresh
    let f : QFrame := { bytes := d.syncFrame (x % 65536), cls := 7, ring := some 6, chain := [{ buf := 0, control := 0, port := 0, len := 0 }], rxAt := some d.now }
    let d := d.modTwin (fun t => { t with syncs := (t.syncs + 1) % 2 ^ 32, gmLease := d.now + 1000000000 })
    if d.switchOn then { d with net := { d.net with handed := d.net.handed ++ [f] } }.add64 (key 0x3316 8) 1 else d

def execSyncTransmit (s : State) : Host.Outcome State Fault Refusal := .next (s.act Dev.syncOut)

end Sys2Proof.Machine
end

