-- ==== Sys2Proof/Machine/CmdNet.lean ====
section
/-! DEFINITION. The meanings of the commands of the Ethernet ports, switch and endpoint (R142 to R169). -/
namespace Sys2Proof.Machine

/-- Port A is kept for a magic packet in LISTEN (R144). -/
def Dev.wolA (d : Dev) : Bool := d.mode = 3 && d.get 0x300000 = 1 && d.get 0x300400 = 1 && d.bitOf 0x114000 5

/-- A link code that port A may take now: for a magic packet 100BASE-TX or 10BASE-Te alone (R144). -/
def Dev.linkACan (d : Dev) (code : Nat) : Bool := d.linkAFits code || (d.wolA && 1 ≤ code && code ≤ 2 && d.bitOf 0x300100 (code - 1))

/-- Port A's link takes a state (R143), with what negotiation settled beside the rate; Energy-Efficient Ethernet runs in LISTEN alone. -/
def Dev.linkA (code : Nat) (mdix master eee : Bool) (d : Dev) : Dev :=
  if d.linkACan code then
    let up := code ≠ 0
    (d.linkSet 0 code).does [Dev.putBit 0x300300 1 (up && mdix), Dev.putBit 0x300300 2 (code = 3 && master), Dev.putBit 0x300300 3 (up && eee && d.mode = 3)]
  else d

def execLinkA (code : Nat) (mdix master eee : Bool) (s : State) : Host.Outcome State Fault Refusal := .next (s.act (Dev.linkA code mdix master eee))

/-- Port B's link takes a state (R145). -/
def execLinkB (code : Nat) (s : State) : Host.Outcome State Fault Refusal := .next (s.act (fun d => d.when (d.linkBFits code) (Dev.linkSet 1 code)))

def execAAdvertise (a : Access) (v : Nat) (s : State) : Host.Outcome State Fault Refusal := .next (s.quiet (Dev.hostSet a 0x300100 v))

/-- The objects of Table 6-2 that restart port B (R145): its enable, its speed and its role. -/
def execBMode (a : Access) (n v : Nat) (s : State) : Host.Outcome State Fault Refusal := .next (s.quiet (Dev.hostSet a (key (0x3100 + n % 3) 0) v))

/-- A frame arrives on port A while it listens for a magic packet (R144): one that holds it raises EV34 and wakes the device. -/
def Dev.magicIn (b : List Byte) (d : Dev) : Dev := if d.wolA && d.linkOf 0 ≠ 0 && d.magic b then (d.raise 34).wake (2 ^ 5) false else d

def execMagicPacket (bytes : List Byte) (s : State) : Host.Outcome State Fault Refusal := .next (s.act (Dev.magicIn bytes))

/-- A frame received whole at port A or B, or the next one that endpoint E hands to the switch (R148, R156). `full` has a bit for each class and port whose egress queue has no room. -/
def Dev.frameReceived (port : Nat) (bytes : List Byte) (ok : Bool) (age full : Nat) (d : Dev) : Dev :=
  if !d.switchOn then d
  else if port = 2 then d.frameFromE full
  else d.when (port < 2 && d.linkOf port ≠ 0) (Dev.frameIn port bytes ok age full)

def execFrameReceived (port : Nat) (bytes : List Byte) (ok : Bool) (age full : Nat) (s : State) : Host.Outcome State Fault Refusal := .next (s.act (Dev.frameReceived port bytes ok age full))
def execFrameTransmitted (port : Nat) (s : State) : Host.Outcome State Fault Refusal := .next (s.act (fun d => d.when (port < 3) (Dev.frameOut port)))
def execAddrFlush (a : Access) (v : Nat) (s : State) : Host.Outcome State Fault Refusal := .next (s.quiet (Dev.hostSet a 0x320500 v))

/-- Learned addresses not seen for the ageing time go (R148). -/
def execAddressAgeing (s : State) : Host.Outcome State Fault Refusal :=
  .next (s.act (fun d => d.addrKeep (fun (e : Nat × Nat × Nat) => decide (d.now < e.2.2 + d.get 0x320300 * 1000000000))))

def execPause (quantum : Nat) (s : State) : Host.Outcome State Fault Refusal := .next (s.act (Dev.pause quantum))
def execPauseQuantumEnd (s : State) : Host.Outcome State Fault Refusal := .next (s.act Dev.pauseDone)
def execPauseWatchdogTrip (s : State) : Host.Outcome State Fault Refusal := .next (s.act Dev.pauseTrip)
def execPauseWdHoldoffEnd (s : State) : Host.Outcome State Fault Refusal := .next (s.act Dev.pauseAgain)
def execGateListStart (p : Nat) (s : State) : Host.Outcome State Fault Refusal := .next (s.act (Dev.gateListStart p))
def execGateEntryChange (p : Nat) (s : State) : Host.Outcome State Fault Refusal := .next (s.act (Dev.gateEntry p))
def execPost (a : Access) (r : Nat) (s : State) : Host.Outcome State Fault Refusal := .next (s.quiet (Dev.hostWrite a (key 0x3330 (r % 256))))
def execReap (a : Access) (r : Nat) (s : State) : Host.Outcome State Fault Refusal := .next (s.quiet (Dev.hostRead a (key 0x3331 (r % 256))))
def execRingEnable (a : Access) (r v : Nat) (s : State) : Host.Outcome State Fault Refusal := .next (s.quiet (Dev.hostSet a (key (0x3310 + r % 4) 1) v))
def execLaunch (r : Nat) (s : State) : Host.Outcome State Fault Refusal := .next (s.act (Dev.launch r))
def execTsRecord (a : Access) (q : Nat) (s : State) : Host.Outcome State Fault Refusal := .next (s.quiet (Dev.hostRead a (key 0x3350 (q % 256))))
def execAStatus (a : Access) (s : State) : Host.Outcome State Fault Refusal := .next (s.quiet (Dev.hostRead a 0x300300))

end Sys2Proof.Machine
end

