-- ==== Sys2Proof/Machine/CmdOutputs.lean ====
section
/-! DEFINITION. The meanings of the commands of the headphone and line outputs, the jack and the auxiliary outputs (R366 to R387). -/
namespace Sys2Proof.Machine

/-! Headphone and line: output 0 and output 1 -/

def execHpEnable (a : Access) (v : Nat) (s : State) : Host.Outcome State Fault Refusal := .next (s.quiet (Dev.hostSet a (ok_ 0 0) v))
def execLoutEnable (a : Access) (v : Nat) (s : State) : Host.Outcome State Fault Refusal := .next (s.quiet (Dev.hostSet a (ok_ 1 0) v))
def execOutputStartDone (o : Nat) (s : State) : Host.Outcome State Fault Refusal := .next (s.act (fun d => d.when (o < 2) (Dev.outStarted o)))
def execOutputStopDone (o : Nat) (s : State) : Host.Outcome State Fault Refusal := .next (s.act (fun d => d.when (o < 2) (Dev.outStopped o)))
def execHpRange (a : Access) (v : Nat) (s : State) : Host.Outcome State Fault Refusal := .next (s.quiet (Dev.hostSet a (ok_ 0 1) v))
def execVolumeStep (s : State) : Host.Outcome State Fault Refusal := .next (s.act Dev.volStep)
def execHpLineFault (o : Nat) (s : State) : Host.Outcome State Fault Refusal := .next (s.act (fun d => d.when (o < 2) (Dev.outFault o)))
def execHpLineRetry (o : Nat) (s : State) : Host.Outcome State Fault Refusal := .next (s.act (fun d => d.when (o < 2) (Dev.outRetry o)))

/-! The jack: the raw state of the two switches, a bit set where it indicates presence -/

def execJackMute (raw : Nat) (s : State) : Host.Outcome State Fault Refusal :=
  .next (s.act (fun d => d.when (d.alive && (d.put 0x452002 (raw % 4)).jackAbsent) (Dev.jackRaw raw)))
def execPresenceReturns (raw : Nat) (s : State) : Host.Outcome State Fault Refusal :=
  .next (s.act (fun d => d.when (d.alive && !(d.put 0x452002 (raw % 4)).jackAbsent) (Dev.jackRaw raw)))

/-- A declaration of the jack, and the wake source it is where it changes the state (R374, R94). -/
def Dev.jackDeclare (f : Dev → Dev) (bits : Nat) (d : Dev) : Dev :=
  let was := d.jackIn
  let d := f d
  if d.jackIn != was then d.wake bits false else d

def execJackInsertion (s : State) : Host.Outcome State Fault Refusal := .next (s.act (fun d => d.when d.alive (Dev.jackDeclare Dev.jackInsert (2 ^ 2))))
def execJackRemoval (raw : Nat) (s : State) : Host.Outcome State Fault Refusal := .next (s.act (fun d => d.when d.alive (Dev.jackDeclare (Dev.jackRemove raw) (2 ^ 3))))

/-- The BIAS1 current in uA, averaged for an identification (R375), or held for 30 ms (R376). -/
def execJackIdentify (ua : Nat) (s : State) : Host.Outcome State Fault Refusal := .next (s.act (Dev.jackIdentify ua))
def execButton (ua : Nat) (s : State) : Host.Outcome State Fault Refusal := .next (s.act (Dev.button ua))

/-! Auxiliary outputs -/

def execRange (a : Access) (c v : Nat) (s : State) : Host.Outcome State Fault Refusal := .next (s.quiet (Dev.hostSet a (ak (c % 8) 0) v))
def execLoadCmd (a : Access) (mask : Nat) (s : State) : Host.Outcome State Fault Refusal := .next (s.quiet (Dev.hostSet a 0x460000 mask))
def execLoadPinEdge (falling : Bool) (s : State) : Host.Outcome State Fault Refusal := .next (s.act (fun d => d.when d.alive (Dev.loadPin falling)))
def execHeldValuesApply (s : State) : Host.Outcome State Fault Refusal := .next (s.act Dev.heldApply)
def execClearNFall (s : State) : Host.Outcome State Fault Refusal := .next (s.act Dev.clearFall)
def execClearNRise (s : State) : Host.Outcome State Fault Refusal := .next (s.act Dev.clearRise)
def execComplianceLoss (c : Nat) (s : State) : Host.Outcome State Fault Refusal := .next (s.act (Dev.auxLost c))
def execComplianceClear (c : Nat) (s : State) : Host.Outcome State Fault Refusal := .next (s.act (Dev.auxRegained c))
def execCompliance (a : Access) (s : State) : Host.Outcome State Fault Refusal := .next (s.quiet (Dev.hostRead a 0x460003))

/-- The first carrier period 200 us after a RANGE write of an IMMEDIATE channel (R381). -/
def Dev.rangeDue (c : Nat) (d : Dev) : Dev :=
  if c < 8 && d.get (ak c 3) = 4 && (d.auxCh c).pend.isSome && d.auxDue c then (d.auxCopy c).auxSettle else d

def execRangePendingExpiry (c : Nat) (s : State) : Host.Outcome State Fault Refusal := .next (s.act (Dev.rangeDue c))
def execWaveSize (a : Access) (w v : Nat) (s : State) : Host.Outcome State Fault Refusal := .next (s.quiet (Dev.hostSet a (wk (w % 2) 0) v))

/-- A write of WAVE_DATA, with the words at which it meets a DMA write in the same cycle and how often it loses (R385, R410). -/
def execWaveData (a : Access) (w : Nat) (hits : List (Nat × Nat)) (s : State) : Host.Outcome State Fault Refusal :=
  .next (s.run (fun m => Dev.hostWriteAt m hits a (wk (w % 2) 5)))
def execWaveRestart (a : Access) (w : Nat) (s : State) : Host.Outcome State Fault Refusal := .next (s.quiet (Dev.hostSet a (wk (w % 2) 6) 1))
def execWaveDone (w : Nat) (s : State) : Host.Outcome State Fault Refusal := .next (s.act (Dev.waveDone w))

end Sys2Proof.Machine
end

