-- ==== Sys2Proof/Machine/CmdPerimeter.lean ====
section
/-! DEFINITION. The meanings of the commands of the listening Perimeter (R243 to R265). -/
namespace Sys2Proof.Machine

def execCrystalLoss (s : State) : Host.Outcome State Fault Refusal := .next (s.act Dev.perCrystalLoss)
def execCrystalReturn (s : State) : Host.Outcome State Fault Refusal := .next (s.act Dev.perCrystalReturn)

/-- A 10 ms history block completes (R251, R254); a detection of a phrase that wakes the device does so from LISTEN (R261). -/
def Dev.historyBlock (x : HistIn) (d : Dev) : Dev :=
  let d := d.perBlock x
  if d.per.wakeReq.isSome then (d.modPer (fun p => { p with wakeReq := none })).wake 0 true else d

def execHistoryBlock (x : HistIn) (s : State) : Host.Outcome State Fault Refusal := .next (s.act (Dev.historyBlock x))
def execListenMicStuck (m : Nat) (stuck : Bool) (s : State) : Host.Outcome State Fault Refusal := .next (s.act (Dev.perStuck m stuck))
def execHistBlock (a : Access) (s : State) : Host.Outcome State Fault Refusal := .next (s.quiet (Dev.hostRead a 0x445200))
def execHistReadSeq (a : Access) (v : Nat) (s : State) : Host.Outcome State Fault Refusal := .next (s.quiet (Dev.hostSet a 0x445100 v))
def execEnrolSlot (a : Access) (p : Nat) (s : State) : Host.Outcome State Fault Refusal := .next (s.quiet (Dev.hostSet a 0x444000 (p % 128)))
def execEnrolErase (a : Access) (p : Nat) (s : State) : Host.Outcome State Fault Refusal := .next (s.quiet (Dev.hostSet a 0x444000 (0x80 + p % 127)))
def execEnrolCancel (a : Access) (s : State) : Host.Outcome State Fault Refusal := .next (s.quiet (Dev.hostSet a 0x444000 0xFF))
def execEnrolTimeout (s : State) : Host.Outcome State Fault Refusal := .next (s.act Dev.enrolTimeout)

/-- The three utterances have been checked, averaged and stored: the result of Table 10-9 and the template (R260). -/
def execEnrolStoreDone (result : Nat) (template : List Byte) (s : State) : Host.Outcome State Fault Refusal := .next (s.act (Dev.enrolStored result template))
def execTemplate (a : Access) (p : Nat) (s : State) : Host.Outcome State Fault Refusal := .next (s.quiet (Dev.hostWrite a (key 0x4442 (p % 256))))
def execWakeOutClear (a : Access) (v : Nat) (s : State) : Host.Outcome State Fault Refusal := .next (s.quiet (Dev.hostSet a 0x446100 v))
def execWakeOutPulseEnd (s : State) : Host.Outcome State Fault Refusal := .next (s.act Dev.wakePulseEnd)

end Sys2Proof.Machine
end

