-- ==== Sys2Proof/Machine/CmdPower.lean ====
section
/-! DEFINITION. The meanings of the commands of the power stage and the boost supply (R320 to R365). -/
namespace Sys2Proof.Machine

/-! Channels -/

def execChEnable (a : Access) (n v : Nat) (s : State) : Host.Outcome State Fault Refusal := .next (s.quiet (Dev.hostSet a (pk (n % 8) 0) v))
def execCommonModeRampDone (n : Nat) (s : State) : Host.Outcome State Fault Refusal := .next (s.act (fun d => d.when (n < 8) (Dev.cmUpDone n)))
def execMuteRampDone (n : Nat) (s : State) : Host.Outcome State Fault Refusal := .next (s.act (fun d => d.when (n < 8) (Dev.muteDone n)))
def execCmDownDone (n : Nat) (s : State) : Host.Outcome State Fault Refusal := .next (s.act (fun d => d.when (n < 8) (Dev.cmDownDone n)))
def execSampleLinkLoss (die : Nat) (s : State) : Host.Outcome State Fault Refusal := .next (s.act (fun d => d.when (die < 2) (Dev.dieCut die)))
def execModFreq (a : Access) (v : Nat) (s : State) : Host.Outcome State Fault Refusal := .next (s.quiet (Dev.hostSet a 0x610000 v))
def execFullScaleV (a : Access) (n v : Nat) (s : State) : Host.Outcome State Fault Refusal := .next (s.quiet (Dev.hostSet a (pk (n % 8) 1) v))
def execBridgeReconfig (k : Nat) (s : State) : Host.Outcome State Fault Refusal := .next (s.act (fun d => d.when (k < 4) (Dev.bridgeReconfig k)))

/-- A leg current of a driven channel reaches I_LIMIT (R334): the cycle is counted on the governing channel and I_LIMITING shows it for 1 ms. -/
def Dev.cycleCut (n : Nat) (d : Dev) : Dev :=
  if n < 8 && d.chDriven n then
    let g := d.pwrGov n
    (d.add64 (pk g 0x28) 1).modPch g (fun c => { c with cutAt := some d.now })
  else d

def execCurrentLimit (n : Nat) (s : State) : Host.Outcome State Fault Refusal := .next (s.act (Dev.cycleCut n))

/-- Counted faults of Table 13-5 on a channel in a state in which each is detected. -/
def Dev.chTrip (n i : Nat) (ok : Dev → Bool) (d : Dev) : Dev := d.when (n < 8 && d.chDriven n && ok d) (Dev.chFault n i true)

def execShort (n : Nat) (s : State) : Host.Outcome State Fault Refusal := .next (s.act (Dev.chTrip n 0 (fun _ => true)))
def execOvercurrent (n : Nat) (s : State) : Host.Outcome State Fault Refusal := .next (s.act (Dev.chTrip n 1 (fun _ => true)))
def execLegShort (n : Nat) (s : State) : Host.Outcome State Fault Refusal := .next (s.act (Dev.chTrip n 2 (fun d => d.chState (d.pwrGov n) ≠ 3)))
def execDc (n : Nat) (s : State) : Host.Outcome State Fault Refusal := .next (s.act (Dev.chTrip n 3 (fun d => d.get (pk (d.pwrGov n) 5) ≠ 0)))
def execSense (n : Nat) (s : State) : Host.Outcome State Fault Refusal := .next (s.act (Dev.chTrip n 4 (fun _ => true)))

/-- A gate-drive supply is down, or back for 1 ms: of channels 0 to 7, or of the boost's phases A to D as units 8 to 11 (Tables 13-5 and 14-4). -/
def execGateDrive (u : Nat) (s : State) : Host.Outcome State Fault Refusal := .next (s.act (Dev.gateDown u))
def execGateDriveRecovery (u : Nat) (s : State) : Host.Outcome State Fault Refusal := .next (s.act (Dev.gateUp u))
def execPvddOv (s : State) : Host.Outcome State Fault Refusal := .next (s.act Dev.pvddOv)
def execPvddOvRecovery (s : State) : Host.Outcome State Fault Refusal := .next (s.act Dev.pvddOvEnd)
def execRetry (n : Nat) (s : State) : Host.Outcome State Fault Refusal := .next (s.act (fun d => d.when (n < 8) (Dev.chRetry n)))
def execClearLatch (a : Access) (n v : Nat) (s : State) : Host.Outcome State Fault Refusal := .next (s.quiet (Dev.hostSet a (pk (n % 8) 0x25) v))
def execSoftRestartDone (n : Nat) (s : State) : Host.Outcome State Fault Refusal := .next (s.act (fun d => d.when (n < 8) (Dev.softDone n)))

/-- The 0.1 ms step of the power limit (R339, R361): each channel's mean power over the last 1 ms in uW, VIN and PVDD in 10 mV and the input current in 10 mA. -/
def execPowerLimitStep (powers : List Int) (vin pvdd iin : Nat) (s : State) : Host.Outcome State Fault Refusal := .next (s.act (Dev.limitStepAll powers vin pvdd iin))

/-- A power die's junction temperature in m°C (R343). -/
def execDieTemperature (die : Nat) (t : Int) (s : State) : Host.Outcome State Fault Refusal := .next (s.act (Dev.dieTemp die t))

/-- A pilot window of a channel ends with what its fit gives (R345): `kind` 0 the ultrasonic window with a magnitude and a phase, otherwise the sub-audio one with a resistance. -/
def execPilotResult (n kind : Nat) (valid : Bool) (mag : Nat) (phase : Int) (s : State) : Host.Outcome State Fault Refusal :=
  .next (s.act (fun d => d.when (n < 8) (Dev.pilotResult n kind valid mag phase)))
def execReCapture (a : Access) (n : Nat) (s : State) : Host.Outcome State Fault Refusal := .next (s.quiet (Dev.hostSet a (zk (n % 8) 8) 1))

/-! The boost -/

def execEnvelopeRecord (s : State) : Host.Outcome State Fault Refusal := .next (s.act Dev.envArrive)

/-- The 10 us step of the boost (R353): VIN and PVDD in 10 mV and the input current in 10 mA. -/
def execBoostCommand (vin pvdd iin : Nat) (s : State) : Host.Outcome State Fault Refusal := .next (s.act (Dev.boostCommand vin pvdd iin))
def execRailLow (s : State) : Host.Outcome State Fault Refusal := .next (s.act Dev.railLow)
def execBoostStart (pvdd vin : Nat) (s : State) : Host.Outcome State Fault Refusal := .next (s.act (Dev.boostStart pvdd vin))
def execRailShort (s : State) : Host.Outcome State Fault Refusal := .next (s.act Dev.railShort)
def execRailShortRestart (s : State) : Host.Outcome State Fault Refusal := .next (s.act Dev.shortRestart)
def execPhaseImbalance (p : Nat) (s : State) : Host.Outcome State Fault Refusal := .next (s.act (fun d => d.when (p < 4) (Dev.imbalance p)))
def execBoostClear (a : Access) (v : Nat) (s : State) : Host.Outcome State Fault Refusal := .next (s.quiet (Dev.hostSet a 0x621104 v))

end Sys2Proof.Machine
end

