-- ==== Sys2Proof/Machine/CmdSecurity.lean ====
section
/-! DEFINITION. The meanings of the commands of the lifecycle, the keys, the unlock tokens, the test access port and the black box (R444 to R468). -/
namespace Sys2Proof.Machine

/-! Lifecycle and keys: 5AA5h above the target (Table 19-3) -/

/-- The write of target 1, with what the TRNG's health test gives (R446). -/
def execLifecycleProvision (a : Access) (trng : Bool) (s : State) : Host.Outcome State Fault Refusal :=
  .next (s.run (fun m d => Dev.hostSet a 0x710100 0x5AA50001 m (d.modSec (fun q => { q with trngFault := !trng }))))
def execLifecycleDeploy (a : Access) (s : State) : Host.Outcome State Fault Refusal := .next (s.run (Dev.hostSet a 0x710100 0x5AA50002))
def execKeyPublic (a : Access) (slot : Nat) (s : State) : Host.Outcome State Fault Refusal := .next (s.run (Dev.hostWrite a (key 0x7111 (slot % 256))))
def execKeySecret (a : Access) (slot : Nat) (s : State) : Host.Outcome State Fault Refusal := .next (s.run (Dev.hostWrite a (key 0x7112 (slot % 256))))
def execKeyRevoke (a : Access) (slot : Nat) (s : State) : Host.Outcome State Fault Refusal := .next (s.run (Dev.hostSet a (key 0x7113 (slot % 256)) 1))

/-! Unlock requests and tokens (R454, R455); `erased` tells that an erase reads back clean (R458) -/

def Dev.erasing (erased : Bool) (d : Dev) : Dev := d.modSec (fun q => { q with eraseBad := !erased })

def execUnlockScan (a : Access) (s : State) : Host.Outcome State Fault Refusal := .next (s.run (Dev.hostSet a 0x712100 1))
def execUnlockFull (a : Access) (s : State) : Host.Outcome State Fault Refusal := .next (s.run (Dev.hostSet a 0x712100 2))
def execUnlockService (a : Access) (s : State) : Host.Outcome State Fault Refusal := .next (s.run (Dev.hostSet a 0x712100 3))
def execUnlockRetire (a : Access) (erased : Bool) (s : State) : Host.Outcome State Fault Refusal := .next (s.run (fun m d => Dev.hostSet a 0x712100 4 m (d.erasing erased)))
def execToken (a : Access) (s : State) : Host.Outcome State Fault Refusal := .next (s.run (Dev.hostWrite a 0x712300))
def execTokenVerified (sigOk erased : Bool) (s : State) : Host.Outcome State Fault Refusal := .next (s.run (fun m d => ((d.erasing erased).tokenVerified sigOk).openProceed m))
def execLockoutEnd (s : State) : Host.Outcome State Fault Refusal := .next (s.act Dev.lockoutEnd)

/-! The test access port (Table 19-10) -/

def execTapBypass (s : State) : Host.Outcome State Fault Refusal := .next (s.act (Dev.tapDo 0xFF true id))
def execTapIdcode (s : State) : Host.Outcome State Fault Refusal := .next (s.act (Dev.tapDo 1 true (Dev.modTap (fun t => { t with out := 0x148166BF }))))

/-- The boundary-scan register captures the pins, and takes what is shifted in. -/
def execTapSamplePreload (pins : Nat) (scan : Option Nat) (s : State) : Host.Outcome State Fault Refusal := .next (s.act (fun d => d.tapDo 2 d.portOpen (Dev.tapScan 0 pins scan)))
def execTapExtest (pins : Nat) (scan : Option Nat) (s : State) : Host.Outcome State Fault Refusal := .next (s.act (fun d => d.tapDo 3 d.portOpen (Dev.tapScan 1 pins scan)))
def execTapClamp (s : State) : Host.Outcome State Fault Refusal := .next (s.act (fun d => d.tapDo 4 d.portOpen (Dev.modTap (fun t => { t with drive := 2 }))))
def execTapHighz (s : State) : Host.Outcome State Fault Refusal := .next (s.act (fun d => d.tapDo 5 d.portOpen (Dev.modTap (fun t => { t with drive := 3 }))))
def execTrstN (s : State) : Host.Outcome State Fault Refusal := .next (s.act (Dev.modTap (fun t => { t with ir := 1, drive := 0, out := 0, err := false })))

/-- A level requested over the debug port: the challenge and its signature come out; a refused request changes nothing. -/
def Dev.dbgChallenge (level : Nat) (m : List Host.Cell) (d : Dev) : Dev :=
  d.tapDo 0x10 true (fun (d : Dev) =>
    if 1 ≤ level && level ≤ 4 && (d.unlockCodes level).isEmpty then ((d.unlock level).chalOut).openProceed m
    else (d.chalOut).modTap (fun t => { t with err := true }))

def execDbgChallenge (level : Nat) (s : State) : Host.Outcome State Fault Refusal := .next (s.run (Dev.dbgChallenge level))

/-- A token over the debug port, verified as one written to `7123.00`; the result code comes out. -/
def Dev.dbgUnlock (sigOk erased : Bool) (m : List Host.Cell) (d : Dev) : Dev :=
  d.tapDo 0x11 true (fun (d : Dev) =>
    let c := firstError d.tokenCodes
    if c ≠ eOk then d.modTap (fun t => { t with out := c, err := true })
    else
      let d := (d.erasing erased).tokenIn none
      let ok : Bool := match d.sec.verify with | some t => sigOk && t.timely && d.keyValid 9 && d.challenged | none => false
      ((d.tokenVerified sigOk).modTap (fun t => { t with out := if ok then eOk else eRange, err := !ok })).openProceed m)

def execDbgUnlock (sigOk erased : Bool) (s : State) : Host.Outcome State Fault Refusal := .next (s.run (Dev.dbgUnlock sigOk erased))

/-! The debug protocol (R460) -/

def Dev.dbgOut (v : Nat) (d : Dev) : Dev := d.modTap (fun t => { t with out := v })
def Dev.dbgErr (d : Dev) : Dev := d.modTap (fun t => { t with err := true })

/-- The Tessera banks other than the supervisor's. -/
def dbgMem (a : Nat) : Bool := a % 4 = 0 && a < 0x700000

/-- A word of the tested banks; of a bank whose layout the spec does not give, one that nothing has written has a free value. -/
def Dev.dbgRead (m : List Host.Cell) (a : Nat) (d : Dev) : Dev :=
  if a < 0x500000 || m.any (fun (c : Host.Cell) => a ≤ c.1 && c.1 < a + 4) then d.dbgOut (memWord m a)
  else let (x, d) := d.fresh; d.dbgOut (x % 2 ^ 32)

/-- The number of a word of an engine's memories among those the debugger has written. -/
def engWord (e : Nat) (code : Bool) (a : Nat) : Nat := e * 2 ^ 32 + b2n code * 2 ^ 31 + a

/-- An aligned word lies in an engine's local memory, or in its two banks of instruction memory (Table 12-1). -/
def engMem (e : Nat) (code : Bool) (a : Nat) : Bool := e < 8 && a % 4 = 0 && a < (if code then 131072 else 262144)

def Dev.dbgReadEng (e : Nat) (code : Bool) (a : Nat) (d : Dev) : Dev :=
  match code, (d.eng e).active, assoc (engWord e code a) d.sec.words with
  | false, some b, w => if b.inLocal a 4 then d.dbgOut (memWord b.mem a) else d.dbgOut (match w with | some v => v | none => 0)
  | _, _, some v => d.dbgOut v
  | true, some _, none => let (x, d) := d.fresh; d.dbgOut (x % 2 ^ 32)
  | _, none, none => d.dbgOut 0

def Dev.dbgWriteEng (e : Nat) (code : Bool) (a v : Nat) (d : Dev) : Dev :=
  match code, (d.eng e).active with
  | false, some b => if b.inLocal a 4 then d.modBank e true (fun b => b.putWords a [v]) else d.modSec (fun q => { q with words := assocPut (engWord e code a) v q.words })
  | _, _ => d.modSec (fun q => { q with words := assocPut (engWord e code a) v q.words })

/-- A register of the task an engine runs: kind 0 scalar, 1 vector and 2 accumulator by register × 4 + lane, 3 address generator by generator × 4 + field, 4 the instruction address. -/
def Ctx.peek (c : Ctx) (kind n : Nat) : Int :=
  match kind with
  | 0 => c.sreg n
  | 1 => (nthD 0 (c.vreg (n / 4)) (n % 4) : Nat)
  | 2 => nthD 0 (c.acc (n / 4)) (n % 4)
  | 3 => let q := nthD (0, 0, 0, 0) c.gen (n / 4); nthD 0 [q.1, q.2.1, q.2.2.1, q.2.2.2] (n % 4)
  | _ => c.pc

def Ctx.poke (c : Ctx) (kind n : Nat) (v : Int) : Ctx :=
  match kind with
  | 0 => c.setS n (ofInt 32 v)
  | 1 => c.setV (n / 4) (modNth (fun _ => ofInt 32 v) (c.vreg (n / 4)) (n % 4))
  | 2 => c.setA (n / 4) (modNth (fun _ => toInt 72 (ofInt 72 v)) (c.acc (n / 4)) (n % 4))
  | 3 => c.setDest (.gen (n / 4) (n % 4)) (ofInt 32 v)
  | _ => { c with pc := ofInt 16 v }

/-- One debug transaction; outside the reach of R460 it returns an error and changes nothing. -/
def Dev.dbgDo (op : DbgOp) (m : List Host.Cell) (d : Dev) : Dev :=
  match op with
  | .readMem a => if dbgMem a then d.dbgRead m a else d.dbgErr
  | .writeMem a v => if dbgMem a then d.store a (leBytes 4 v) else d.dbgErr
  | .readEngine e code a => if engMem e code a then d.dbgReadEng e code a else d.dbgErr
  | .writeEngine e code a v => if engMem e code a then d.dbgWriteEng e code a (v % 2 ^ 32) else d.dbgErr
  | .halt e => if e < 8 then d.modTap (fun t => { t with halted := setBit t.halted e true, steps := modNth (fun _ => 0) t.steps e }) else d.dbgErr
  | .single e => if e < 8 && bit d.sec.tap.halted e then d.modTap (fun t => { t with steps := modNth (fun n => n + 1) t.steps e }) else d.dbgErr
  | .resume e => if e < 8 then d.modTap (fun t => { t with halted := setBit t.halted e false, steps := modNth (fun _ => 0) t.steps e }) else d.dbgErr
  | .readReg e kind n => if e < 8 then (match d.current e with
      | some (_, _, _, r) => d.dbgOut (ofInt 72 (r.ctx.peek kind n))
      | none => let (x, d) := d.fresh; d.dbgOut (x % 2 ^ 72)) else d.dbgErr
  | .writeReg e kind n v => if e < 8 then (match d.current e with
      | some (act, _, _, r) => d.setRun e act { r with ctx := r.ctx.poke kind n v }
      | none => d) else d.dbgErr
  | .readObj i s staged offset length =>
    let (r, d) := d.readObj m [] [] { path := .spi, staged := staged, offset := offset, length := length } (key i s)
    if r.status = eOk then d.dbgOut (leNat r.data) else d.modTap (fun t => { t with out := r.status, err := true })
  | .writeObj i s hold offset data =>
    let (c, d) := d.writeObj m [] { path := .spi, hold := hold, offset := offset, data := data } (key i s)
    d.modTap (fun t => { t with out := c, err := c != eOk })

def execDbgAccess (op : DbgOp) (s : State) : Host.Outcome State Fault Refusal := .next (s.run (fun m d => d.tapDo 0x12 (d.sec.port = 2) (Dev.dbgDo op m)))

/-! The black box -/

def execBbRecordWrite (s : State) : Host.Outcome State Fault Refusal := .next (s.act Dev.bbWrite)
def execBbRecord (a : Access) (s : State) : Host.Outcome State Fault Refusal := .next (s.quiet (Dev.hostRead a 0x720200))
def execBbClear (a : Access) (v : Nat) (s : State) : Host.Outcome State Fault Refusal := .next (s.quiet (Dev.hostSet a 0x720600 v))

end Sys2Proof.Machine
end

