-- ==== Sys2Proof/Machine/CmdStreams.lean ====
section
/-! DEFINITION. The meanings of the commands of the audio streams, the serial audio ports and the sample-rate converter (R170 to R217). -/
namespace Sys2Proof.Machine

/-! Streams -/

def execTsEnable (a : Access) (n v : Nat) (s : State) : Host.Outcome State Fault Refusal := .next (s.quiet (Dev.hostSet a (key (0x3400 + n % 16) 0) v))
def execTalkerStart (n : Nat) (s : State) : Host.Outcome State Fault Refusal := .next (s.act (fun d => d.when (n < 16) (Dev.tsStart n)))
def execTalkerPacketComplete (n : Nat) (s : State) : Host.Outcome State Fault Refusal := .next (s.act (fun d => d.when (n < 16) (Dev.tsComplete n)))

/-- One attempt to resolve a talker's destination, with the MAC address that answered, if any (R180). -/
def execResolveRetry (n : Nat) (found : Option Nat) (s : State) : Host.Outcome State Fault Refusal := .next (s.act (fun d => d.when (n < 16) (Dev.tsTry n found)))
def execResolveRefresh (n : Nat) (found : Option Nat) (s : State) : Host.Outcome State Fault Refusal := .next (s.act (fun d => d.when (n < 16) (Dev.tsRefresh n found)))
def execLsEnable (a : Access) (n v : Nat) (s : State) : Host.Outcome State Fault Refusal := .next (s.quiet (Dev.hostSet a (key (0x3500 + n % 16) 0) v))

/-- A packet reaches a listener, `frac` of a sample after the last media boundary (R185 to R190). -/
def execListenerPacket (n frac : Nat) (bytes : List Byte) (s : State) : Host.Outcome State Fault Refusal :=
  .next (s.act (fun d => d.when (n < 16 && d.streamsOn && d.lsOn n) (Dev.lsPacket n frac bytes)))
def execLostPacket (n : Nat) (s : State) : Host.Outcome State Fault Refusal := .next (s.act (fun d => d.when (n < 16 && d.streamsOn) (Dev.lsLost n)))
def execStreamStop (n : Nat) (s : State) : Host.Outcome State Fault Refusal := .next (s.act (fun d => d.when (n < 16 && d.streamsOn) (Dev.lsStop n)))
def execLsStatus (a : Access) (n : Nat) (s : State) : Host.Outcome State Fault Refusal := .next (s.quiet (Dev.hostRead a (key (0x3500 + n % 16) 0x29)))
def execLsLevelMin (a : Access) (n : Nat) (s : State) : Host.Outcome State Fault Refusal := .next (s.quiet (Dev.hostRead a (key (0x3500 + n % 16) 0x2C)))

/-! Serial audio -/

def execSapEnable (a : Access) (p v : Nat) (s : State) : Host.Outcome State Fault Refusal := .next (s.quiet (Dev.hostSet a (key (0x4000 + 16 * (p % 4)) 0) v))

/-- A frame-start edge at a port (R209): `period` ns after the one before, after `bclks` BCLK periods, with the slot values received in the frame it completes. -/
def execFrameStart (p period bclks : Nat) (slots : List Nat) (s : State) : Host.Outcome State Fault Refusal := .next (s.act (fun d => d.when (p < 4) (Dev.sapEdge p period bclks slots)))
def execSapStop (p : Nat) (s : State) : Host.Outcome State Fault Refusal := .next (s.act (fun d => d.when (p < 4) (Dev.sapStop p)))
def execTestSlipEnable (a : Access) (p v : Nat) (s : State) : Host.Outcome State Fault Refusal := .next (s.quiet (Dev.hostSet a (key (0x4000 + 16 * (p % 4)) 0xC) v))
def execTestSlip (a : Access) (p v : Nat) (s : State) : Host.Outcome State Fault Refusal := .next (s.quiet (Dev.hostSet a (key (0x4000 + 16 * (p % 4)) 0xD) v))
def execAsrcEnable (a : Access) (g v : Nat) (s : State) : Host.Outcome State Fault Refusal := .next (s.quiet (Dev.hostSet a (key (0x4100 + 16 * (g % 2)) 0) v))
def execAsrcLock (g : Nat) (s : State) : Host.Outcome State Fault Refusal := .next (s.act (fun d => d.when (g < 2) (Dev.asrcLock g)))

end Sys2Proof.Machine
end

