-- ==== Sys2Proof/Machine/CmdTime.lean ====
section
/-! DEFINITION. The meanings of the commands of network time, PPS_OUT and TIME_CAP, and of the Locus and event-to-action tables (R116 to R139). -/
namespace Sys2Proof.Machine

/-! Network time -/

/-- TIME_NOW (R116): network time is read, and its other fields latched. -/
def execTimeNow (a : Access) (s : State) : Host.Outcome State Fault Refusal := .next (s.quiet (Dev.hostRead a 0x220000))

/-- A Sync arrives from the master in use: its offset, with the path delay now current (R124). A SHADOW's time follows its partner instead (R431). -/
def Dev.syncIn (offset : Int) (delay : Nat) (d : Dev) : Dev :=
  let s := d.get kTimeState
  if !d.timeReady || d.get 0x222000 = 0 || d.twinRole = 2 || !(s = 2 || s = 3 || s = 5) then d
  else (d.put 0x223400 (delay % 2 ^ 32)).measure offset

def execSync (offset : Int) (delay : Nat) (s : State) : Host.Outcome State Fault Refusal := .next (s.act (Dev.syncIn offset delay))
def execSlewProfileEnd (s : State) : Host.Outcome State Fault Refusal := .next (s.act Dev.slewEnd)

/-- The best master clock algorithm's choice: this device, under the identity it announces, or a master with its steps removed and the port its messages arrive on (R118, R122). -/
def Dev.bmca (self : Bool) (gm steps port : Nat) (d : Dev) : Dev :=
  if !d.timeReady || d.twinRole = 2 then d
  else if self then d.becomeGm (if d.twinState = 3 then d.pairIdent else eui64 (d.get 0x330000))
  else d.qualify gm steps port

def execAnnounceMessage (self : Bool) (gm steps port : Nat) (s : State) : Host.Outcome State Fault Refusal := .next (s.act (Dev.bmca self gm steps port))

/-- announceReceiptTimeout has expired (R123): the device is selected as grandmaster where it may be, or else coasts with no master. -/
def Dev.announceExpires (self : Bool) (d : Dev) : Dev :=
  match d.tim.announceAt with
  | some t =>
    if t ≤ d.now then
      let d := { d with tim := { d.tim with announceAt := none } }
      if self && d.get 0x222500 = 1 then d.bmca true 0 0 0
      else
        let d := ({ d with tim := { d.tim with master := false, fresh := false, meas := [] } } : Dev).coastFromSync
        let had := d.get 0x223100 ≠ 0
        ((d.put 0x223100 0).when had (Dev.raise 27)).portStates 3
    else d
  | none => d

def execAnnounceReceiptTimeout (self : Bool) (s : State) : Host.Outcome State Fault Refusal := .next (s.act (Dev.announceExpires self))

/-- No Sync for 3 sync intervals (R123). -/
def Dev.syncExpires (d : Dev) : Dev :=
  match d.tim.lastSync with
  | some t => if t + d.syncIntervals 3 ≤ d.now then d.coastFromSync else d
  | none => d

def execSyncTimeout (s : State) : Host.Outcome State Fault Refusal := .next (s.act Dev.syncExpires)

/-- The step of R128 is made: the counter, the epoch, the Locus entries, the streams and the gate lists. Where the strobes are not reloaded but run on under new indices, the blocks and envelope records begin anew as at a reload. -/
def Dev.epochStep (d : Dev) : Dev :=
  match d.tim.step with
  | some (t, goal) =>
    if t ≤ d.now then
      let d := (d.stepMake goal).gateEpoch
      let d := d.when (d.ready 12) Dev.strEpoch
      if d.med.run && d.tim.reload.isNone then d.facEpoch.boostReload else d
    else d
  | none => d

def execEpochStep (s : State) : Host.Outcome State Fault Refusal := .next (s.act Dev.epochStep)

/-- The strobe dividers are reloaded (R128 step 3, Tables 12-12 and 14-7). -/
def Dev.reloadStrobes (d : Dev) : Dev :=
  match d.tim.reload with
  | some t => if t ≤ d.now then (let d := d.strobeReload; if d.med.run then d.facEpoch.boostReload else d) else d
  | none => d

def execStrobeReload (s : State) : Host.Outcome State Fault Refusal := .next (s.act Dev.reloadStrobes)
def execTimeSet (a : Access) (time : Nat) (s : State) : Host.Outcome State Fault Refusal := .next (s.quiet (Dev.hostSet a 0x221000 time))

/-! PPS_OUT and TIME_CAP -/

def execPpsOutEdge (s : State) : Host.Outcome State Fault Refusal := .next (s.act Dev.ppsEdge)
def execPpsOutFall (s : State) : Host.Outcome State Fault Refusal := .next (s.act Dev.ppsDrop)

/-- An edge on TIME_CAP, `back` ns before the tick: captured where CAP_MODE selects it; a rising one in PPS discipline also disciplines (R131). -/
def Dev.capEdge (rising : Bool) (back : Nat) (d : Dev) : Dev :=
  let mode := d.get 0x225000
  if !d.timeReady || !(mode = 3 || (rising && (mode = 1 || mode = 4)) || (!rising && mode = 2)) then d
  else
    let d := d.capture rising (back % 4)
    if mode = 4 then d.ppsDiscipline (back % 4) else d

def execTimeCapEdge (rising : Bool) (back : Nat) (s : State) : Host.Outcome State Fault Refusal := .next (s.act (Dev.capEdge rising back))

/-- No PPS edge for 3 s (R131). -/
def Dev.ppsLost (d : Dev) : Dev :=
  match d.tim.ppsSeen with
  | some t => if d.get kTimeState = 7 && t + 3000000000 ≤ d.now then ({ d with tim := { d.tim with ppsRun := 0 } } : Dev).setTimeState 6 else d
  | none => d

def execPpsDisciplineLoss (s : State) : Host.Outcome State Fault Refusal := .next (s.act Dev.ppsLost)
def execCapEntry (a : Access) (s : State) : Host.Outcome State Fault Refusal := .next (s.quiet (Dev.hostRead a 0x225200))

/-! The Locus table and the event-to-action queue -/

/-- A write of 2310.ee: the payload is the access's. -/
def execEntry (a : Access) (ee : Nat) (s : State) : Host.Outcome State Fault Refusal := .next (s.quiet (Dev.hostWrite a (key 0x2310 (ee % 256))))
def execLocusClear (a : Access) (s : State) : Host.Outcome State Fault Refusal := .next (s.quiet (Dev.hostSet a 0x230200 1))
def execE2aEntry (a : Access) (ee : Nat) (s : State) : Host.Outcome State Fault Refusal := .next (s.quiet (Dev.hostWrite a (key 0x1340 (ee % 256))))

/-- An action about to run: where it comes from (3 Locus, 4 the event-to-action table or a GPIO record), the object that holds it, HOLD, TARGET, VALUE and TAG. -/
structure Act where
  source : Nat
  slot : Nat
  hold : Bool
  target : Nat
  value : Nat
  tag : Nat

/-- An event raised by an action itself: one of the event-to-action table triggers no entry (R139). -/
def Dev.raiseBy (source e : Nat) (d : Dev) : Dev := if source = 4 then d.raiseQuiet e else d.raise e

/-- A queued action is due (R139): a tick action at once; a media action at the first boundary at least 1 us after the occurrence, after that boundary's Locus actions. -/
def Dev.queuedDue (d : Dev) (q : QAct) : Bool :=
  if !mediaAction q.action then true
  else if (d.firstDue true).isSome then false
  else if d.med.run then decide (q.at_ + 1000 ≤ d.now)
  else decide (boundaryTime d.fs (boundaryAt d.fs (d.time64 + q.at_ + 1000 - d.now)) ≤ d.time64)

/-- The first due action is taken, of the Locus table or of the queue, if it is the one asked for; `f` runs it and tells its error code. -/
def Dev.actRun (queue : Bool) (action : Nat) (f : Act → Dev → Nat × Dev) (d : Dev) : Dev :=
  if queue then
    match d.evt.queue.find? (fun q => mediaAction q.action == mediaAction action) with
    | some q =>
      if q.action = action && d.queuedDue q then
        (f { source := 4, slot := q.src, hold := q.hold, target := q.target, value := q.value, tag := q.tag } { d with evt := { d.evt with queue := d.evt.queue.erase q } }).2
      else d
    | none => d
  else
    match d.firstDue (mediaAction action) with
    | some e =>
      if e.action = action then
        let (c, d) := f { source := 3, slot := key 0x2310 e.slot, hold := bit e.flags 3, target := e.target, value := e.value, tag := e.tag } d
        d.locusDone e c
      else d
    | none => d

/-- The path an action writes by. -/
def actPath (source : Nat) : Path := if source = 4 then .e2a else .locus

/-- A write an action makes: its failure is logged with the write, counted and raised (R135). -/
def Dev.actWrite (m : List Host.Cell) (x : Act) (a : Access) (k : Nat) (d : Dev) : Nat × Dev :=
  let (c, d) := d.writeObj m [] a k
  (c, if c = eOk then d else (d.inc 0x230600).raiseBy x.source 29)

/-- An action that writes no object: its failure names its own slot (R135). -/
def Dev.actPlain (x : Act) (r : Dev × Nat) : Nat × Dev :=
  let (d, c) := r
  (c, if c = eOk then d else d.actionFail (x.slot / 256) (x.slot % 256) c x.source)

def execLocusWrite (queue : Bool) (s : State) : Host.Outcome State Fault Refusal :=
  .next (s.run (fun m => Dev.actRun queue 1 (fun x => Dev.actWrite m x (actionAccess (actPath x.source) x.hold x.target x.value) (x.target / 256))))

/-- A due COMMIT entry commits its group as a scheduled commit. -/
def Dev.locusCommit (d : Dev) : Dev := Dev.actRun false 2 (fun x d => d.commitDue x.target) d

def execLocusCommit (s : State) : Host.Outcome State Fault Refusal := .next (s.act Dev.locusCommit)
def execLocusLoad (queue : Bool) (s : State) : Host.Outcome State Fault Refusal :=
  .next (s.act (Dev.actRun queue 3 (fun x d => (eOk, d.auxLoad (x.target % 256)))))
def execLocusGateSwap (queue : Bool) (s : State) : Host.Outcome State Fault Refusal :=
  .next (s.act (Dev.actRun queue 4 (fun x d => (eOk, d.gateSwap (x.target % 4)))))
def execLocusImageSwap (queue : Bool) (s : State) : Host.Outcome State Fault Refusal :=
  .next (s.act (Dev.actRun queue 5 (fun x d => Dev.actPlain x (d.swapAction (x.target % 256) x.slot))))
def execLocusMode (queue : Bool) (s : State) : Host.Outcome State Fault Refusal :=
  .next (s.quiet (fun m => Dev.actRun queue 6 (fun x => Dev.actWrite m x { path := actPath x.source, data := leBytes 1 (x.target % 256) } kModeRequest)))
def execLocusGpio (queue : Bool) (s : State) : Host.Outcome State Fault Refusal :=
  .next (s.act (Dev.actRun queue 7 (fun x d => Dev.actPlain x (d.gpioAction x.target))))
def execLocusEvent (queue : Bool) (s : State) : Host.Outcome State Fault Refusal :=
  .next (s.act (Dev.actRun queue 8 (fun x d => (eOk, (d.put 0x230500 x.tag).raiseBy x.source 31))))

end Sys2Proof.Machine
end

