-- ==== Sys2Proof/Machine/CmdTwin.lean ====
section
/-! DEFINITION. The meanings of the commands of the twin and the Chord link (R420 to R443). -/
namespace Sys2Proof.Machine

/-! Fencing -/

def execFenceIn (s : State) : Host.Outcome State Fault Refusal := .next (s.act Dev.fenceEnter)
def execFenceInRelease (s : State) : Host.Outcome State Fault Refusal := .next (s.act Dev.fenceLeave)
def execFenceRelease (a : Access) (v : Nat) (s : State) : Host.Outcome State Fault Refusal := .next (s.quiet (Dev.hostSet a 0x700201 v))
def execAutoRejoin (s : State) : Host.Outcome State Fault Refusal := .next (s.act Dev.autoRejoin)
def execForceAlone (a : Access) (v : Nat) (s : State) : Host.Outcome State Fault Refusal := .next (s.quiet (Dev.hostSet a 0x700202 v))
def execClaimWait (s : State) : Host.Outcome State Fault Refusal := .next (s.act Dev.claimWait)

/-! Heartbeats, samples, lanes and pairing -/

def execHeartbeatSend (s : State) : Host.Outcome State Fault Refusal := .next (s.act Dev.beatSend)
def execHeartbeat (h : Heart) (s : State) : Host.Outcome State Fault Refusal := .next (s.act (Dev.beat h))

/-- The heartbeats have stopped for the time of R435; an open of the debug port that waited for a handover goes on. -/
def execHeartbeatLoss (s : State) : Host.Outcome State Fault Refusal := .next (s.run (fun m d => d.beatLost.openProceed m))

/-- A SAMPLES frame of boundary `n`: each sample as a Q1.31 value and its tag (R429). -/
def execSamples (n : Nat) (samples : List (Int × Nat)) (s : State) : Host.Outcome State Fault Refusal := .next (s.act (Dev.samplesIn_ n samples))
def execSamplesSend (s : State) : Host.Outcome State Fault Refusal := .next (s.act Dev.samplesSend)
def execSamplesMissing (crc : Bool) (s : State) : Host.Outcome State Fault Refusal := .next (s.act (Dev.samplesLost crc))

/-- A HELLO with the partner's model, variant, revision, TWIN_ID and hold of the shared identity (R439). -/
def execHello (model variant rev : Nat) (twin holds : Bool) (s : State) : Host.Outcome State Fault Refusal := .next (s.act (Dev.hello model variant rev twin holds))
def execLaneFault (lane : Nat) (s : State) : Host.Outcome State Fault Refusal := .next (s.act (Dev.laneSet lane false))
def execLaneGood (lane : Nat) (s : State) : Host.Outcome State Fault Refusal := .next (s.act (Dev.laneSet lane true))
def execChordTrained (s : State) : Host.Outcome State Fault Refusal := .next (s.act Dev.chordTrained)
def execGmLeaseExpiry (s : State) : Host.Outcome State Fault Refusal := .next (s.act Dev.gmExpire)

/-! Mirroring (R424, R425, R439) -/

/-- The access of a mirrored record, with TWIN privilege. -/
def chordAccess (r : AccessRecord) : Access := { path := .chord, hold := bit r.flags 1, offset := r.offset, length := r.length, data := r.data }

/-- A SHADOW that is paired takes what its partner mirrors. -/
def Dev.takesMirror (d : Dev) : Bool := d.chordUp && d.twinState = 3 && d.twinRole = 2

/-- A WRITE frame: executed at the media boundary its time names, or at once where it names none or no strobe runs. -/
def Dev.chordWrite (r : AccessRecord) (time : Nat) (m : List Host.Cell) (d : Dev) : Dev :=
  let x : Mirror := { at_ := boundaryAt d.fs time, key := key r.index r.sub, access := chordAccess r, own := false }
  if !d.takesMirror then d
  else if d.med.run && time ≠ 0 then d.modTwin (fun t => { t with mirror := t.mirror ++ [x] })
  else d.mirrorAct m x

def execChordWrite (record : AccessRecord) (time : Nat) (s : State) : Host.Outcome State Fault Refusal := .next (s.run (Dev.chordWrite record time))

/-- The mirrored writes that put a transferred set in place: every value, staged where its object is, then one commit for each group touched. -/
def Dev.transfer (d : Dev) (at_ : Nat) (l : List AccessRecord) : List Mirror :=
  let isSt (r : AccessRecord) : Bool := match d.objAt (key r.index r.sub) with | some o => o.acc = .st | none => false
  let grp (r : AccessRecord) : Nat := match d.objAt (key r.index r.sub) with | some o => o.grp | none => 0
  let vals := l.map (fun (r : AccessRecord) => ({ at_ := at_, key := key r.index r.sub, access := { chordAccess r with hold := isSt r }, own := false } : Mirror))
  let groups := ((l.filter isSt).map grp).eraseDups
  vals ++ groups.map (fun g => { at_ := at_, key := key 0x1200 g, access := { path := .chord, data := zeros 8 }, own := false })

/-- MIRROR_DATA frames with the committed mirrored state: the SHADOW commits it at one boundary, the next. -/
def Dev.mirrorData (l : List AccessRecord) (m : List Host.Cell) (d : Dev) : Dev :=
  if !d.takesMirror then d
  else
    let xs := d.transfer (d.med.index + 1) l
    if d.med.run then d.modTwin (fun t => { t with mirror := t.mirror ++ xs }) else xs.foldl (fun (d : Dev) x => d.mirrorAct m x) d

def execMirrorData (records : List AccessRecord) (s : State) : Host.Outcome State Fault Refusal := .next (s.run (Dev.mirrorData records))

/-- A BLACKBOX frame's record is kept as the partner's (R466). -/
def execBlackbox (record : List Byte) (s : State) : Host.Outcome State Fault Refusal := .next (s.act (fun d => d.when (d.chordUp && d.twinState = 3) (Dev.bbCopy record)))

/-! Handover (R438); an open of the debug port that waited for it goes on -/

def execHandoverRequest (s0 cause : Nat) (s : State) : Host.Outcome State Fault Refusal := .next (s.act (Dev.handRequest s0 cause))
def execHandoverGrant (s0 : Nat) (s : State) : Host.Outcome State Fault Refusal := .next (s.act (Dev.handGrant s0))
def execHandoverDone (s : State) : Host.Outcome State Fault Refusal := .next (s.run (fun m d => d.handDone.openProceed m))
def execHandoverBoundary (s : State) : Host.Outcome State Fault Refusal := .next (s.run (fun m d => d.handBoundary.openProceed m))
def execHandoverTimeout (s : State) : Host.Outcome State Fault Refusal := .next (s.run (fun m d => d.handTimeout.openProceed m))
def execLeave (s : State) : Host.Outcome State Fault Refusal := .next (s.run (fun m d => d.leave.openProceed m))
def execSwitchover (a : Access) (v : Nat) (s : State) : Host.Outcome State Fault Refusal := .next (s.quiet (Dev.hostSet a 0x700200 v))

/-- A takeover trigger of Table 18-5 arises: 0 a SAFE cause, 1 the loss of link, 2 a board fault. -/
def execFailover (trigger : Nat) (s : State) : Host.Outcome State Fault Refusal := .next (s.act (Dev.failover trigger))

end Sys2Proof.Machine
end

