-- ==== Sys2Proof/Machine/Dispatch.lean ====
section
/-! DEFINITION. What each command does: one arm for each constructor of Instr. -/
namespace Sys2Proof.Machine

def exec (i : Instr) (s : State) : Host.Outcome State Fault Refusal :=
  match i with

  | .read a index sub singles doubles => Sys2Proof.Machine.execRead a index sub singles doubles s
  | .write a index sub hits => Sys2Proof.Machine.execWrite a index sub hits s
  | .resend i2c => Sys2Proof.Machine.execResend i2c s
  | .nop i2c => Sys2Proof.Machine.execNop i2c s
  | .undefinedOp i2c => Sys2Proof.Machine.execUndefinedOp i2c s
  | .badCrcRequest i2c => Sys2Proof.Machine.execBadCrcRequest i2c s
  | .spiAborted => Sys2Proof.Machine.execSpiAborted s
  | .i2cTimeout => Sys2Proof.Machine.execI2cTimeout s
  | .i2cShortTransfer => Sys2Proof.Machine.execI2cShortTransfer s
  | .discover => Sys2Proof.Machine.execDiscover s
  | .announce => Sys2Proof.Machine.execAnnounce s
  | .tdtOpen keySel ok nonce => Sys2Proof.Machine.execTdtOpen keySel ok nonce s
  | .tdtClose session ok seq len => Sys2Proof.Machine.execTdtClose session ok seq len s
  | .request session ok seq len records => Sys2Proof.Machine.execRequest session ok seq len records s
  | .keepalive session ok len counter => Sys2Proof.Machine.execKeepalive session ok len counter s
  | .bulkRead session ok seq len firstIndex firstSub lastIndex lastSub staged => Sys2Proof.Machine.execBulkRead session ok seq len firstIndex firstSub lastIndex lastSub staged s
  | .sessionTimeout slot => Sys2Proof.Machine.execSessionTimeout slot s
  | .writeLock a v => Sys2Proof.Machine.execWriteLock a v s
  | .lockBreak a => Sys2Proof.Machine.execLockBreak a s
  | .writeLockLeaseExpiry => Sys2Proof.Machine.execWriteLockLeaseExpiry s
  | .commitNow a g => Sys2Proof.Machine.execCommitNow a g s
  | .commitSchedule a g time => Sys2Proof.Machine.execCommitSchedule a g time s
  | .discard a g => Sys2Proof.Machine.execDiscard a g s
  | .check a g => Sys2Proof.Machine.execCheck a g s
  | .scheduledCommit g => Sys2Proof.Machine.execScheduledCommit g s
  | .ledgerClear a => Sys2Proof.Machine.execLedgerClear a s
  | .ledgerRead a index sub => Sys2Proof.Machine.execLedgerRead a index sub s
  | .modeRequest a mode => Sys2Proof.Machine.execModeRequest a mode s
  | .modeStepComplete => Sys2Proof.Machine.execModeStepComplete s
  | .safeReturn => Sys2Proof.Machine.execSafeReturn s
  | .hostWdtPeriod a v => Sys2Proof.Machine.execHostWdtPeriod a v s
  | .hostWdtKick a => Sys2Proof.Machine.execHostWdtKick a s
  | .hostWdtExpiry => Sys2Proof.Machine.execHostWdtExpiry s
  | .por twin => Sys2Proof.Machine.execPor twin s
  | .bor => Sys2Proof.Machine.execBor s
  | .pinReset => Sys2Proof.Machine.execPinReset s
  | .resetNRelease => Sys2Proof.Machine.execResetNRelease s
  | .supervisorWatchdogExpiry => Sys2Proof.Machine.execSupervisorWatchdogExpiry s
  | .lockstepMismatch => Sys2Proof.Machine.execLockstepMismatch s
  | .coreSupply => Sys2Proof.Machine.execCoreSupply s
  | .softReset a mode => Sys2Proof.Machine.execSoftReset a mode s
  | .softResetCoreRestart => Sys2Proof.Machine.execSoftResetCoreRestart s
  | .domainReset a function => Sys2Proof.Machine.execDomainReset a function s
  | .domainResetDone function => Sys2Proof.Machine.execDomainResetDone function s
  | .coreRelease erased => Sys2Proof.Machine.execCoreRelease erased s
  | .railTimeout => Sys2Proof.Machine.execRailTimeout s
  | .snapshotStore a => Sys2Proof.Machine.execSnapshotStore a s
  | .snapshotStoreDone => Sys2Proof.Machine.execSnapshotStoreDone s
  | .wake sources => Sys2Proof.Machine.execWake sources s
  | .wakeTimerExpiry => Sys2Proof.Machine.execWakeTimerExpiry s
  | .vinWarn => Sys2Proof.Machine.execVinWarn s
  | .vinUndervoltage => Sys2Proof.Machine.execVinUndervoltage s
  | .vinOvervoltage => Sys2Proof.Machine.execVinOvervoltage s
  | .vinRecovery high => Sys2Proof.Machine.execVinRecovery high s
  | .supplyOutOfRange => Sys2Proof.Machine.execSupplyOutOfRange s
  | .vdd33Loss => Sys2Proof.Machine.execVdd33Loss s
  | .vddioLoss bank frame => Sys2Proof.Machine.execVddioLoss bank frame s
  | .inputMonitorFault ref present milliHz => Sys2Proof.Machine.execInputMonitorFault ref present milliHz s
  | .spllLoss => Sys2Proof.Machine.execSpllLoss s
  | .spllRelock => Sys2Proof.Machine.execSpllRelock s
  | .mpllLock adjacent => Sys2Proof.Machine.execMpllLock adjacent s
  | .acquisitionAttemptFail => Sys2Proof.Machine.execAcquisitionAttemptFail s
  | .bandFault => Sys2Proof.Machine.execBandFault s
  | .bandFaultRetry => Sys2Proof.Machine.execBandFaultRetry s
  | .mpllLockLoss => Sys2Proof.Machine.execMpllLockLoss s
  | .holdoverReturn => Sys2Proof.Machine.execHoldoverReturn s
  | .holdover2s => Sys2Proof.Machine.execHoldover2s s
  | .slewComplete => Sys2Proof.Machine.execSlewComplete s
  | .steeringSourceLost => Sys2Proof.Machine.execSteeringSourceLost s
  | .steeringSourceValid => Sys2Proof.Machine.execSteeringSourceValid s
  | .fallbackTaken => Sys2Proof.Machine.execFallbackTaken s
  | .fallbackRelease => Sys2Proof.Machine.execFallbackRelease s
  | .bandScan a => Sys2Proof.Machine.execBandScan a s
  | .bandScanComplete bands => Sys2Proof.Machine.execBandScanComplete bands s
  | .timeNow a => Sys2Proof.Machine.execTimeNow a s
  | .sync offset delay => Sys2Proof.Machine.execSync offset delay s
  | .slewProfileEnd => Sys2Proof.Machine.execSlewProfileEnd s
  | .announceMessage self gm steps port => Sys2Proof.Machine.execAnnounceMessage self gm steps port s
  | .announceReceiptTimeout self => Sys2Proof.Machine.execAnnounceReceiptTimeout self s
  | .syncTimeout => Sys2Proof.Machine.execSyncTimeout s
  | .epochStep => Sys2Proof.Machine.execEpochStep s
  | .strobeReload => Sys2Proof.Machine.execStrobeReload s
  | .timeSet a time => Sys2Proof.Machine.execTimeSet a time s
  | .ppsOutEdge => Sys2Proof.Machine.execPpsOutEdge s
  | .ppsOutFall => Sys2Proof.Machine.execPpsOutFall s
  | .timeCapEdge rising back => Sys2Proof.Machine.execTimeCapEdge rising back s
  | .ppsDisciplineLoss => Sys2Proof.Machine.execPpsDisciplineLoss s
  | .capEntry a => Sys2Proof.Machine.execCapEntry a s
  | .entry a ee => Sys2Proof.Machine.execEntry a ee s
  | .locusClear a => Sys2Proof.Machine.execLocusClear a s
  | .locusWrite queue => Sys2Proof.Machine.execLocusWrite queue s
  | .locusCommit => Sys2Proof.Machine.execLocusCommit s
  | .locusLoad queue => Sys2Proof.Machine.execLocusLoad queue s
  | .locusGateSwap queue => Sys2Proof.Machine.execLocusGateSwap queue s
  | .locusImageSwap queue => Sys2Proof.Machine.execLocusImageSwap queue s
  | .locusMode queue => Sys2Proof.Machine.execLocusMode queue s
  | .locusGpio queue => Sys2Proof.Machine.execLocusGpio queue s
  | .locusEvent queue => Sys2Proof.Machine.execLocusEvent queue s
  | .e2aEntry a ee => Sys2Proof.Machine.execE2aEntry a ee s
  | .evClear a k mask => Sys2Proof.Machine.execEvClear a k mask s
  | .irqMask a n k mask => Sys2Proof.Machine.execIrqMask a n k mask s
  | .irqConfig a n v => Sys2Proof.Machine.execIrqConfig a n v s
  | .irqPulseEnd n => Sys2Proof.Machine.execIrqPulseEnd n s
  | .irqGapEnd n => Sys2Proof.Machine.execIrqGapEnd n s
  | .gpioFunc a g v => Sys2Proof.Machine.execGpioFunc a g v s
  | .gpioOut a levels => Sys2Proof.Machine.execGpioOut a levels s
  | .gpioEdge g level => Sys2Proof.Machine.execGpioEdge g level s
  | .gpioEdgeClear a mask => Sys2Proof.Machine.execGpioEdgeClear a mask s
  | .gpioAction a g => Sys2Proof.Machine.execGpioAction a g s
  | .linkA code mdix master eee => Sys2Proof.Machine.execLinkA code mdix master eee s
  | .linkB code => Sys2Proof.Machine.execLinkB code s
  | .aAdvertise a v => Sys2Proof.Machine.execAAdvertise a v s
  | .bMode a n v => Sys2Proof.Machine.execBMode a n v s
  | .magicPacket bytes => Sys2Proof.Machine.execMagicPacket bytes s
  | .frameReceived port bytes ok age full => Sys2Proof.Machine.execFrameReceived port bytes ok age full s
  | .frameTransmitted port => Sys2Proof.Machine.execFrameTransmitted port s
  | .addrFlush a v => Sys2Proof.Machine.execAddrFlush a v s
  | .addressAgeing => Sys2Proof.Machine.execAddressAgeing s
  | .pause quantum => Sys2Proof.Machine.execPause quantum s
  | .pauseQuantumEnd => Sys2Proof.Machine.execPauseQuantumEnd s
  | .pauseWatchdogTrip => Sys2Proof.Machine.execPauseWatchdogTrip s
  | .pauseWdHoldoffEnd => Sys2Proof.Machine.execPauseWdHoldoffEnd s
  | .gateListStart p => Sys2Proof.Machine.execGateListStart p s
  | .gateEntryChange p => Sys2Proof.Machine.execGateEntryChange p s
  | .post a r => Sys2Proof.Machine.execPost a r s
  | .reap a r => Sys2Proof.Machine.execReap a r s
  | .ringEnable a r v => Sys2Proof.Machine.execRingEnable a r v s
  | .launch r => Sys2Proof.Machine.execLaunch r s
  | .tsRecord a q => Sys2Proof.Machine.execTsRecord a q s
  | .aStatus a => Sys2Proof.Machine.execAStatus a s
  | .tsEnable a n v => Sys2Proof.Machine.execTsEnable a n v s
  | .talkerStart n => Sys2Proof.Machine.execTalkerStart n s
  | .talkerPacketComplete n => Sys2Proof.Machine.execTalkerPacketComplete n s
  | .resolveRetry n found => Sys2Proof.Machine.execResolveRetry n found s
  | .resolveRefresh n found => Sys2Proof.Machine.execResolveRefresh n found s
  | .lsEnable a n v => Sys2Proof.Machine.execLsEnable a n v s
  | .listenerPacket n frac bytes => Sys2Proof.Machine.execListenerPacket n frac bytes s
  | .lostPacket n => Sys2Proof.Machine.execLostPacket n s
  | .streamStop n => Sys2Proof.Machine.execStreamStop n s
  | .lsStatus a n => Sys2Proof.Machine.execLsStatus a n s
  | .lsLevelMin a n => Sys2Proof.Machine.execLsLevelMin a n s
  | .sapEnable a p v => Sys2Proof.Machine.execSapEnable a p v s
  | .frameStart p period bclks slots => Sys2Proof.Machine.execFrameStart p period bclks slots s
  | .sapStop p => Sys2Proof.Machine.execSapStop p s
  | .testSlipEnable a p v => Sys2Proof.Machine.execTestSlipEnable a p v s
  | .testSlip a p v => Sys2Proof.Machine.execTestSlip a p v s
  | .asrcEnable a g v => Sys2Proof.Machine.execAsrcEnable a g v s
  | .asrcLock g => Sys2Proof.Machine.execAsrcLock g s
  | .chEnableCapture a c v => Sys2Proof.Machine.execChEnableCapture a c v s
  | .inputSel a c v => Sys2Proof.Machine.execInputSel a c v s
  | .pgaGain a c v => Sys2Proof.Machine.execPgaGain a c v s
  | .finalStage a c v => Sys2Proof.Machine.execFinalStage a c v s
  | .windHpf a c v => Sys2Proof.Machine.execWindHpf a c v s
  | .delay a c v => Sys2Proof.Machine.execDelay a c v s
  | .biasEnable a k v => Sys2Proof.Machine.execBiasEnable a k v s
  | .biasVoltage a k v => Sys2Proof.Machine.execBiasVoltage a k v s
  | .captureValid c => Sys2Proof.Machine.execCaptureValid c s
  | .biasShort k => Sys2Proof.Machine.execBiasShort k s
  | .biasRetry k gone => Sys2Proof.Machine.execBiasRetry k gone s
  | .biasOpen k opened => Sys2Proof.Machine.execBiasOpen k opened s
  | .pdmStuck line stuck => Sys2Proof.Machine.execPdmStuck line stuck s
  | .captureOvr c hi => Sys2Proof.Machine.execCaptureOvr c hi s
  | .ovrStatus a => Sys2Proof.Machine.execOvrStatus a s
  | .crystalLoss => Sys2Proof.Machine.execCrystalLoss s
  | .crystalReturn => Sys2Proof.Machine.execCrystalReturn s
  | .historyBlock x => Sys2Proof.Machine.execHistoryBlock x s
  | .listenMicStuck m stuck => Sys2Proof.Machine.execListenMicStuck m stuck s
  | .histBlock a => Sys2Proof.Machine.execHistBlock a s
  | .histReadSeq a v => Sys2Proof.Machine.execHistReadSeq a v s
  | .enrolSlot a p => Sys2Proof.Machine.execEnrolSlot a p s
  | .enrolErase a p => Sys2Proof.Machine.execEnrolErase a p s
  | .enrolCancel a => Sys2Proof.Machine.execEnrolCancel a s
  | .enrolTimeout => Sys2Proof.Machine.execEnrolTimeout s
  | .enrolStoreDone result template => Sys2Proof.Machine.execEnrolStoreDone result template s
  | .template a p => Sys2Proof.Machine.execTemplate a p s
  | .wakeOutClear a v => Sys2Proof.Machine.execWakeOutClear a v s
  | .wakeOutPulseEnd => Sys2Proof.Machine.execWakeOutPulseEnd s
  | .muxSelection a mux sub v => Sys2Proof.Machine.execMuxSelection a mux sub v s
  | .rampSwitchSample mux sub => Sys2Proof.Machine.execRampSwitchSample mux sub s
  | .rampEnd mux sub => Sys2Proof.Machine.execRampEnd mux sub s
  | .sinkDest a lane v => Sys2Proof.Machine.execSinkDest a lane v s
  | .vtxGain a out inp v => Sys2Proof.Machine.execVtxGain a out inp v s
  | .sinkPolicy a node v => Sys2Proof.Machine.execSinkPolicy a node v s
  | .start a e => Sys2Proof.Machine.execStart a e s
  | .stop a e => Sys2Proof.Machine.execStop a e s
  | .swap a e => Sys2Proof.Machine.execSwap a e s
  | .discardStandby a e => Sys2Proof.Machine.execDiscardStandby a e s
  | .unload a e => Sys2Proof.Machine.execUnload a e s
  | .clearFault a e => Sys2Proof.Machine.execClearFault a e s
  | .swapSet a mask => Sys2Proof.Machine.execSwapSet a mask s
  | .swapBoundary => Sys2Proof.Machine.execSwapBoundary s
  | .engineStartPoint e => Sys2Proof.Machine.execEngineStartPoint e s
  | .taskRelease e t outgoing => Sys2Proof.Machine.execTaskRelease e t outgoing s
  | .overrun e t outgoing => Sys2Proof.Machine.execOverrun e t outgoing s
  | .engineFault e cause => Sys2Proof.Machine.execEngineFault e cause s
  | .autoRecover e => Sys2Proof.Machine.execAutoRecover e s
  | .ecoClockChange => Sys2Proof.Machine.execEcoClockChange s
  | .facetAdd e dst x y => Sys2Proof.Machine.execFacetAdd e dst x y s
  | .facetSub e dst x y => Sys2Proof.Machine.execFacetSub e dst x y s
  | .facetAnd e dst x y => Sys2Proof.Machine.execFacetAnd e dst x y s
  | .facetOr e dst x y => Sys2Proof.Machine.execFacetOr e dst x y s
  | .facetXor e dst x y => Sys2Proof.Machine.execFacetXor e dst x y s
  | .facetShl e dst x y => Sys2Proof.Machine.execFacetShl e dst x y s
  | .facetShr e dst x y => Sys2Proof.Machine.execFacetShr e dst x y s
  | .facetMul e dst x y => Sys2Proof.Machine.execFacetMul e dst x y s
  | .facetMin e dst x y => Sys2Proof.Machine.execFacetMin e dst x y s
  | .facetMax e dst x y => Sys2Proof.Machine.execFacetMax e dst x y s
  | .facetCmp e x y => Sys2Proof.Machine.execFacetCmp e x y s
  | .facetMov e dst src => Sys2Proof.Machine.execFacetMov e dst src s
  | .facetLi e dst v => Sys2Proof.Machine.execFacetLi e dst v s
  | .facetVmac e acc x y => Sys2Proof.Machine.execFacetVmac e acc x y s
  | .facetVmsu e acc x y => Sys2Proof.Machine.execFacetVmsu e acc x y s
  | .facetVmul e acc x y => Sys2Proof.Machine.execFacetVmul e acc x y s
  | .facetVadd e dst x y => Sys2Proof.Machine.execFacetVadd e dst x y s
  | .facetVsub e dst x y => Sys2Proof.Machine.execFacetVsub e dst x y s
  | .facetVabs e dst x => Sys2Proof.Machine.execFacetVabs e dst x s
  | .facetVmax e dst x y => Sys2Proof.Machine.execFacetVmax e dst x y s
  | .facetVshr e dst x n => Sys2Proof.Machine.execFacetVshr e dst x n s
  | .facetVext e dst acc => Sys2Proof.Machine.execFacetVext e dst acc s
  | .facetFmac e dst x y => Sys2Proof.Machine.execFacetFmac e dst x y s
  | .facetFmul e dst x y => Sys2Proof.Machine.execFacetFmul e dst x y s
  | .facetFadd e dst x y => Sys2Proof.Machine.execFacetFadd e dst x y s
  | .facetFsub e dst x y => Sys2Proof.Machine.execFacetFsub e dst x y s
  | .facetFmax e dst x y => Sys2Proof.Machine.execFacetFmax e dst x y s
  | .facetFabs e dst x => Sys2Proof.Machine.execFacetFabs e dst x s
  | .facetFcvt e dst x toFixed => Sys2Proof.Machine.execFacetFcvt e dst x toFixed s
  | .facetFrcp e dst x => Sys2Proof.Machine.execFacetFrcp e dst x s
  | .facetFrsq e dst x => Sys2Proof.Machine.execFacetFrsq e dst x s
  | .facetFlog2 e dst x => Sys2Proof.Machine.execFacetFlog2 e dst x s
  | .facetFexp2 e dst x => Sys2Proof.Machine.execFacetFexp2 e dst x s
  | .facetLd e dst m => Sys2Proof.Machine.execFacetLd e dst m s
  | .facetSt e src m => Sys2Proof.Machine.execFacetSt e src m s
  | .facetVld e dst m => Sys2Proof.Machine.execFacetVld e dst m s
  | .facetVst e src m => Sys2Proof.Machine.execFacetVst e src m s
  | .facetLoop e count last => Sys2Proof.Machine.execFacetLoop e count last s
  | .facetBrf e mask target => Sys2Proof.Machine.execFacetBrf e mask target s
  | .facetCall e target => Sys2Proof.Machine.execFacetCall e target s
  | .facetRet e => Sys2Proof.Machine.execFacetRet e s
  | .facetHalt e cycles => Sys2Proof.Machine.execFacetHalt e cycles s
  | .facetTagrd e dst port => Sys2Proof.Machine.execFacetTagrd e dst port s
  | .facetTagset e port first count bits => Sys2Proof.Machine.execFacetTagset e port first count bits s
  | .facetTagclr e port first count bits => Sys2Proof.Machine.execFacetTagclr e port first count bits s
  | .facetUvrd e dst rec => Sys2Proof.Machine.execFacetUvrd e dst rec s
  | .facetUvwr e src rec => Sys2Proof.Machine.execFacetUvwr e src rec s
  | .facetDmard e alloc off loc words => Sys2Proof.Machine.execFacetDmard e alloc off loc words s
  | .facetDmawr e alloc off loc words => Sys2Proof.Machine.execFacetDmawr e alloc off loc words s
  | .facetDmawait e singles doubles hits => Sys2Proof.Machine.execFacetDmawait e singles doubles hits s
  | .facetLock e dst k => Sys2Proof.Machine.execFacetLock e dst k s
  | .facetUnlock e k => Sys2Proof.Machine.execFacetUnlock e k s
  | .facetBiq e areas => Sys2Proof.Machine.execFacetBiq e areas s
  | .facetConv e areas => Sys2Proof.Machine.execFacetConv e areas s
  | .facetFft e areas => Sys2Proof.Machine.execFacetFft e areas s
  | .facetIfft e areas => Sys2Proof.Machine.execFacetIfft e areas s
  | .facetEnv e areas => Sys2Proof.Machine.execFacetEnv e areas s
  | .facetComp e areas => Sys2Proof.Machine.execFacetComp e areas s
  | .facetLim e areas => Sys2Proof.Machine.execFacetLim e areas s
  | .facetRamp e buf g target left cosine => Sys2Proof.Machine.execFacetRamp e buf g target left cosine s
  | .facetXfade e dst x y pos len power => Sys2Proof.Machine.execFacetXfade e dst x y pos len power s
  | .facetDly e buf alloc len => Sys2Proof.Machine.execFacetDly e buf alloc len s
  | .facetTlu e areas => Sys2Proof.Machine.execFacetTlu e areas s
  | .facetEnvx e buf slots => Sys2Proof.Machine.execFacetEnvx e buf slots s
  | .facetPilot e buf ch => Sys2Proof.Machine.execFacetPilot e buf ch s
  | .facetSignal e code => Sys2Proof.Machine.execFacetSignal e code s
  | .loadStart a => Sys2Proof.Machine.execLoadStart a s
  | .loadChunk a => Sys2Proof.Machine.execLoadChunk a s
  | .loadFinish a => Sys2Proof.Machine.execLoadFinish a s
  | .loadResult v ecc => Sys2Proof.Machine.execLoadResult v ecc s
  | .loaderOwnerTimeout => Sys2Proof.Machine.execLoaderOwnerTimeout s
  | .bootErase a slot => Sys2Proof.Machine.execBootErase a slot s
  | .chEnable a n v => Sys2Proof.Machine.execChEnable a n v s
  | .commonModeRampDone n => Sys2Proof.Machine.execCommonModeRampDone n s
  | .muteRampDone n => Sys2Proof.Machine.execMuteRampDone n s
  | .cmDownDone n => Sys2Proof.Machine.execCmDownDone n s
  | .sampleLinkLoss die => Sys2Proof.Machine.execSampleLinkLoss die s
  | .modFreq a v => Sys2Proof.Machine.execModFreq a v s
  | .fullScaleV a n v => Sys2Proof.Machine.execFullScaleV a n v s
  | .bridgeReconfig k => Sys2Proof.Machine.execBridgeReconfig k s
  | .currentLimit n => Sys2Proof.Machine.execCurrentLimit n s
  | .short n => Sys2Proof.Machine.execShort n s
  | .overcurrent n => Sys2Proof.Machine.execOvercurrent n s
  | .legShort n => Sys2Proof.Machine.execLegShort n s
  | .dc n => Sys2Proof.Machine.execDc n s
  | .sense n => Sys2Proof.Machine.execSense n s
  | .gateDrive u => Sys2Proof.Machine.execGateDrive u s
  | .gateDriveRecovery u => Sys2Proof.Machine.execGateDriveRecovery u s
  | .pvddOv => Sys2Proof.Machine.execPvddOv s
  | .pvddOvRecovery => Sys2Proof.Machine.execPvddOvRecovery s
  | .retry n => Sys2Proof.Machine.execRetry n s
  | .clearLatch a n v => Sys2Proof.Machine.execClearLatch a n v s
  | .softRestartDone n => Sys2Proof.Machine.execSoftRestartDone n s
  | .powerLimitStep powers vin pvdd iin => Sys2Proof.Machine.execPowerLimitStep powers vin pvdd iin s
  | .dieTemperature die t => Sys2Proof.Machine.execDieTemperature die t s
  | .pilotResult n kind valid mag phase => Sys2Proof.Machine.execPilotResult n kind valid mag phase s
  | .reCapture a n => Sys2Proof.Machine.execReCapture a n s
  | .envelopeRecord => Sys2Proof.Machine.execEnvelopeRecord s
  | .boostCommand vin pvdd iin => Sys2Proof.Machine.execBoostCommand vin pvdd iin s
  | .railLow => Sys2Proof.Machine.execRailLow s
  | .boostStart pvdd vin => Sys2Proof.Machine.execBoostStart pvdd vin s
  | .railShort => Sys2Proof.Machine.execRailShort s
  | .railShortRestart => Sys2Proof.Machine.execRailShortRestart s
  | .phaseImbalance p => Sys2Proof.Machine.execPhaseImbalance p s
  | .boostClear a v => Sys2Proof.Machine.execBoostClear a v s
  | .hpEnable a v => Sys2Proof.Machine.execHpEnable a v s
  | .loutEnable a v => Sys2Proof.Machine.execLoutEnable a v s
  | .outputStartDone o => Sys2Proof.Machine.execOutputStartDone o s
  | .outputStopDone o => Sys2Proof.Machine.execOutputStopDone o s
  | .hpRange a v => Sys2Proof.Machine.execHpRange a v s
  | .volumeStep => Sys2Proof.Machine.execVolumeStep s
  | .hpLineFault o => Sys2Proof.Machine.execHpLineFault o s
  | .hpLineRetry o => Sys2Proof.Machine.execHpLineRetry o s
  | .jackMute raw => Sys2Proof.Machine.execJackMute raw s
  | .jackInsertion => Sys2Proof.Machine.execJackInsertion s
  | .jackRemoval raw => Sys2Proof.Machine.execJackRemoval raw s
  | .jackIdentify ua => Sys2Proof.Machine.execJackIdentify ua s
  | .button ua => Sys2Proof.Machine.execButton ua s
  | .range a c v => Sys2Proof.Machine.execRange a c v s
  | .loadCmd a mask => Sys2Proof.Machine.execLoadCmd a mask s
  | .loadPinEdge falling => Sys2Proof.Machine.execLoadPinEdge falling s
  | .heldValuesApply => Sys2Proof.Machine.execHeldValuesApply s
  | .clearNFall => Sys2Proof.Machine.execClearNFall s
  | .clearNRise => Sys2Proof.Machine.execClearNRise s
  | .complianceLoss c => Sys2Proof.Machine.execComplianceLoss c s
  | .compliance a => Sys2Proof.Machine.execCompliance a s
  | .waveSize a w v => Sys2Proof.Machine.execWaveSize a w v s
  | .waveData a w hits => Sys2Proof.Machine.execWaveData a w hits s
  | .waveRestart a w => Sys2Proof.Machine.execWaveRestart a w s
  | .waveDone w => Sys2Proof.Machine.execWaveDone w s
  | .seqStart a => Sys2Proof.Machine.execSeqStart a s
  | .seqStop a => Sys2Proof.Machine.execSeqStop a s
  | .periodicTrigger => Sys2Proof.Machine.execPeriodicTrigger s
  | .conversionDone raw ovr und => Sys2Proof.Machine.execConversionDone raw ovr und s
  | .monitorRequest => Sys2Proof.Machine.execMonitorRequest s
  | .urgent a v => Sys2Proof.Machine.execUrgent a v s
  | .calibrate a => Sys2Proof.Machine.execCalibrate a s
  | .calibrationDone offset gain => Sys2Proof.Machine.execCalibrationDone offset gain s
  | .result a q => Sys2Proof.Machine.execResult a q s
  | .windowStatus a => Sys2Proof.Machine.execWindowStatus a s
  | .bgTestSlot singles doubles fails => Sys2Proof.Machine.execBgTestSlot singles doubles fails s
  | .lockTake a k v => Sys2Proof.Machine.execLockTake a k v s
  | .lockRevoked k => Sys2Proof.Machine.execLockRevoked k s
  | .fenceIn => Sys2Proof.Machine.execFenceIn s
  | .fenceInRelease => Sys2Proof.Machine.execFenceInRelease s
  | .heartbeatSend => Sys2Proof.Machine.execHeartbeatSend s
  | .heartbeat h => Sys2Proof.Machine.execHeartbeat h s
  | .heartbeatLoss => Sys2Proof.Machine.execHeartbeatLoss s
  | .samples n samples => Sys2Proof.Machine.execSamples n samples s
  | .samplesSend => Sys2Proof.Machine.execSamplesSend s
  | .samplesMissing crc => Sys2Proof.Machine.execSamplesMissing crc s
  | .hello model variant rev twin holds => Sys2Proof.Machine.execHello model variant rev twin holds s
  | .chordWrite record time => Sys2Proof.Machine.execChordWrite record time s
  | .blackbox record => Sys2Proof.Machine.execBlackbox record s
  | .handoverRequest s0 cause => Sys2Proof.Machine.execHandoverRequest s0 cause s
  | .handoverGrant s0 => Sys2Proof.Machine.execHandoverGrant s0 s
  | .handoverDone => Sys2Proof.Machine.execHandoverDone s
  | .handoverBoundary => Sys2Proof.Machine.execHandoverBoundary s
  | .handoverTimeout => Sys2Proof.Machine.execHandoverTimeout s
  | .leave => Sys2Proof.Machine.execLeave s
  | .mirrorData records => Sys2Proof.Machine.execMirrorData records s
  | .laneFault lane => Sys2Proof.Machine.execLaneFault lane s
  | .laneGood lane => Sys2Proof.Machine.execLaneGood lane s
  | .chordTrained => Sys2Proof.Machine.execChordTrained s
  | .gmLeaseExpiry => Sys2Proof.Machine.execGmLeaseExpiry s
  | .switchover a v => Sys2Proof.Machine.execSwitchover a v s
  | .failover trigger => Sys2Proof.Machine.execFailover trigger s
  | .fenceRelease a v => Sys2Proof.Machine.execFenceRelease a v s
  | .autoRejoin => Sys2Proof.Machine.execAutoRejoin s
  | .forceAlone a v => Sys2Proof.Machine.execForceAlone a v s
  | .claimWait => Sys2Proof.Machine.execClaimWait s
  | .lifecycleProvision a trng => Sys2Proof.Machine.execLifecycleProvision a trng s
  | .lifecycleDeploy a => Sys2Proof.Machine.execLifecycleDeploy a s
  | .keyPublic a slot => Sys2Proof.Machine.execKeyPublic a slot s
  | .keySecret a slot => Sys2Proof.Machine.execKeySecret a slot s
  | .keyRevoke a slot => Sys2Proof.Machine.execKeyRevoke a slot s
  | .unlockScan a => Sys2Proof.Machine.execUnlockScan a s
  | .unlockFull a => Sys2Proof.Machine.execUnlockFull a s
  | .unlockService a => Sys2Proof.Machine.execUnlockService a s
  | .unlockRetire a erased => Sys2Proof.Machine.execUnlockRetire a erased s
  | .token a => Sys2Proof.Machine.execToken a s
  | .tokenVerified sigOk erased => Sys2Proof.Machine.execTokenVerified sigOk erased s
  | .lockoutEnd => Sys2Proof.Machine.execLockoutEnd s
  | .tapBypass => Sys2Proof.Machine.execTapBypass s
  | .tapIdcode => Sys2Proof.Machine.execTapIdcode s
  | .tapSamplePreload pins scan => Sys2Proof.Machine.execTapSamplePreload pins scan s
  | .tapExtest pins scan => Sys2Proof.Machine.execTapExtest pins scan s
  | .tapClamp => Sys2Proof.Machine.execTapClamp s
  | .tapHighz => Sys2Proof.Machine.execTapHighz s
  | .dbgChallenge level => Sys2Proof.Machine.execDbgChallenge level s
  | .dbgUnlock sigOk erased => Sys2Proof.Machine.execDbgUnlock sigOk erased s
  | .dbgAccess op => Sys2Proof.Machine.execDbgAccess op s
  | .trstN => Sys2Proof.Machine.execTrstN s
  | .bbRecordWrite => Sys2Proof.Machine.execBbRecordWrite s
  | .bbRecord a => Sys2Proof.Machine.execBbRecord a s
  | .bbClear a v => Sys2Proof.Machine.execBbClear a v s
  | .tick n => Sys2Proof.Machine.execTick n s
  | .mediaSampleBoundary inputs => Sys2Proof.Machine.execMediaSampleBoundary inputs s
  | .syncTransmit => Sys2Proof.Machine.execSyncTransmit s
  | .inputMonitorReturn ref milliHz => Sys2Proof.Machine.execInputMonitorReturn ref milliHz s
  | .vdd33Recovery => Sys2Proof.Machine.execVdd33Recovery s
  | .vddioReturn bank => Sys2Proof.Machine.execVddioReturn bank s
  | .presenceReturns raw => Sys2Proof.Machine.execPresenceReturns raw s
  | .rangePendingExpiry c => Sys2Proof.Machine.execRangePendingExpiry c s
  | .complianceClear c => Sys2Proof.Machine.execComplianceClear c s

end Sys2Proof.Machine
end

