-- ==== Sys2Proof/WellFormed.lean ====
section
/-! DEFINITION. Which commands are well formed: every operand within what the interface, pin or register it stands for can carry. -/
namespace Sys2Proof

/-- A path a command can name: a TDT session lies in one of eight slots (R59). -/
def Path.wf : Path → Bool
  | .tdt s => decide (s < 8)
  | _ => true

/-- A request header's fields (Table 2-10) and a payload no longer than the longest segment (R38). -/
def Access.wf (a : Access) : Bool := a.path.wf && decide (a.offset < 2 ^ 32) && decide (a.length < 2 ^ 16) && decide (a.data.length ≤ 1024)

/-- An access record's fields (R57). -/
def AccessRecord.wf (r : AccessRecord) : Bool :=
  decide (r.op < 256) && decide (r.flags < 256) && decide (r.index < 65536) && decide (r.sub < 256) && decide (r.length < 65536) && decide (r.offset < 2 ^ 32) && decide (r.data.length ≤ 1400)

/-- A place a Facet load or store names (Table 12-1). -/
def MemRef.wf : MemRef → Bool
  | .loc a => decide (a < 262144)
  | .gen g => decide (g < 4)
  | .inp p i => decide (p < 32) && decide (i < 64)
  | .out p i => decide (p < 32) && decide (i < 64)

/-- A destination of MOV and LI (Table 12-1). -/
def SDest.wf : SDest → Bool
  | .reg s => decide (s < 32)
  | .gen g f => decide (g < 4) && decide (f < 4)

/-- A debug transaction's operands (R460). -/
def DbgOp.wf : DbgOp → Bool
  | .readMem a => decide (a < 2 ^ 32)
  | .writeMem a v => decide (a < 2 ^ 32) && decide (v < 2 ^ 32)
  | .readEngine e _ a => decide (e < 8) && decide (a < 262144)
  | .writeEngine e _ a v => decide (e < 8) && decide (a < 262144) && decide (v < 2 ^ 32)
  | .halt e => decide (e < 8)
  | .single e => decide (e < 8)
  | .resume e => decide (e < 8)
  | .readReg e kind _ => decide (e < 8) && decide (kind < 5)
  | .writeReg e kind _ _ => decide (e < 8) && decide (kind < 5)
  | .readObj i s _ o l => decide (i < 65536) && decide (s < 256) && decide (o < 2 ^ 32) && decide (l < 65536)
  | .writeObj i s _ o d => decide (i < 65536) && decide (s < 256) && decide (o < 2 ^ 32) && decide (d.length ≤ 1024)

/-- A HEARTBEAT's fields (Table 18-4): the last sequence numbers of sixteen talkers. -/
def Heart.wf (h : Heart) : Bool :=
  decide (h.role < 256) && decide (h.flags < 256) && decide (h.mode < 256) && decide (h.epoch < 2 ^ 32) && decide (h.time < 2 ^ 64) && decide (h.boundary < 2 ^ 32) && decide (h.safe < 65536) && decide (h.ready < 2 ^ 32)
    && decide (h.launched.length ≤ 16) && h.launched.all (fun x => decide (x < 65536)) && decide (h.syncs < 2 ^ 32)

/-- A sample of a SAMPLES frame (R429): a Q1.31 value and four tags. -/
def sampleWf (s : Int × Nat) : Bool := decide (-2147483648 ≤ s.1) && decide (s.1 < 2147483648) && decide (s.2 < 16)

/-- A command is well formed. -/
def Instr.wellFormed : Instr → Bool
  | .read a index sub _ _ => a.wf && decide (index < 2 ^ 16) && decide (sub < 256)
  | .write a index sub _ => a.wf && decide (index < 2 ^ 16) && decide (sub < 256)
  | .resend _ => true
  | .nop _ => true
  | .undefinedOp _ => true
  | .badCrcRequest _ => true
  | .spiAborted => true
  | .i2cTimeout => true
  | .i2cShortTransfer => true
  | .discover => true
  | .announce => true
  | .tdtOpen keySel _ nonce => decide (keySel < 256) && decide (nonce.length = 16)
  | .tdtClose session _ seq len => decide (session < 2 ^ 32) && decide (seq < 2 ^ 32) && decide (len < 2 ^ 16)
  | .request session _ seq len records => decide (session < 2 ^ 32) && decide (seq < 2 ^ 32) && decide (len < 2 ^ 16) && decide (records.length ≤ 32) && records.all AccessRecord.wf
  | .keepalive session _ len counter => decide (session < 2 ^ 32) && decide (len < 2 ^ 16) && decide (counter < 2 ^ 32)
  | .bulkRead session _ seq len firstIndex firstSub lastIndex lastSub _ => decide (session < 2 ^ 32) && decide (seq < 2 ^ 32) && decide (len < 2 ^ 16) && decide (firstIndex < 2 ^ 16) && decide (firstSub < 256) && decide (lastIndex < 2 ^ 16) && decide (lastSub < 256)
  | .sessionTimeout slot => decide (slot < 8)
  | .writeLock a v => a.wf && decide (v < 2 ^ 32)
  | .lockBreak a => a.wf
  | .writeLockLeaseExpiry => true
  | .commitNow a g => a.wf && decide (g < 256)
  | .commitSchedule a g time => a.wf && decide (g < 256) && decide (time < 2 ^ 64)
  | .discard a g => a.wf && decide (g < 256)
  | .check a g => a.wf && decide (g < 256)
  | .scheduledCommit g => decide (g < 256)
  | .ledgerClear a => a.wf
  | .ledgerRead a index sub => a.wf && decide (index < 2 ^ 16) && decide (sub < 256)
  | .modeRequest a mode => a.wf && decide (mode < 256)
  | .modeStepComplete => true
  | .safeReturn => true
  | .hostWdtPeriod a v => a.wf && decide (v < 2 ^ 32)
  | .hostWdtKick a => a.wf
  | .hostWdtExpiry => true
  | .por _ => true
  | .bor => true
  | .pinReset => true
  | .resetNRelease => true
  | .supervisorWatchdogExpiry => true
  | .lockstepMismatch => true
  | .coreSupply => true
  | .softReset a mode => a.wf && decide (mode < 256)
  | .softResetCoreRestart => true
  | .domainReset a function => a.wf && decide (function < 256)
  | .domainResetDone function => decide (function < 256)
  | .coreRelease _ => true
  | .railTimeout => true
  | .snapshotStore a => a.wf
  | .snapshotStoreDone => true
  | .wake sources => decide (sources < 2 ^ 16)
  | .wakeTimerExpiry => true
  | .vinWarn => true
  | .vinUndervoltage => true
  | .vinOvervoltage => true
  | .vinRecovery _ => true
  | .supplyOutOfRange => true
  | .vdd33Loss => true
  | .vddioLoss bank _ => decide (bank < 2)
  | .inputMonitorFault _ _ milliHz => decide (milliHz < 2 ^ 48)
  | .spllLoss => true
  | .spllRelock => true
  | .mpllLock _ => true
  | .acquisitionAttemptFail => true
  | .bandFault => true
  | .bandFaultRetry => true
  | .mpllLockLoss => true
  | .holdoverReturn => true
  | .holdover2s => true
  | .slewComplete => true
  | .steeringSourceLost => true
  | .steeringSourceValid => true
  | .fallbackTaken => true
  | .fallbackRelease => true
  | .bandScan a => a.wf
  | .bandScanComplete bands => decide (bands.length ≤ 64)
  | .timeNow a => a.wf
  | .sync _ delayNs => decide (delayNs < 2 ^ 32)
  | .slewProfileEnd => true
  | .announceMessage _ gm steps port => decide (gm < 2 ^ 64) && decide (steps < 2 ^ 16) && decide (port < 3)
  | .announceReceiptTimeout _ => true
  | .syncTimeout => true
  | .epochStep => true
  | .strobeReload => true
  | .timeSet a time => a.wf && decide (time < 2 ^ 64)
  | .ppsOutEdge => true
  | .ppsOutFall => true
  | .timeCapEdge _ back => decide (back < 8)
  | .ppsDisciplineLoss => true
  | .capEntry a => a.wf
  | .entry a ee => a.wf && decide (ee < 256)
  | .locusClear a => a.wf
  | .locusWrite _ => true
  | .locusCommit => true
  | .locusLoad _ => true
  | .locusGateSwap _ => true
  | .locusImageSwap _ => true
  | .locusMode _ => true
  | .locusGpio _ => true
  | .locusEvent _ => true
  | .e2aEntry a ee => a.wf && decide (ee < 64)
  | .evClear a k mask => a.wf && decide (k < 4) && decide (mask < 2 ^ 32)
  | .irqMask a n k mask => a.wf && decide (n < 4) && decide (k < 4) && decide (mask < 2 ^ 32)
  | .irqConfig a n v => a.wf && decide (n < 4) && decide (v < 2 ^ 32)
  | .irqPulseEnd n => decide (n < 4)
  | .irqGapEnd n => decide (n < 4)
  | .gpioFunc a g v => a.wf && decide (g < 16) && decide (v < 2 ^ 32)
  | .gpioOut a levels => a.wf && decide (levels < 2 ^ 16)
  | .gpioEdge g _ => decide (g < 16)
  | .gpioEdgeClear a mask => a.wf && decide (mask < 2 ^ 16)
  | .gpioAction a g => a.wf && decide (g < 16)
  | .linkA code _ _ _ => decide (code < 4)
  | .linkB code => decide (code < 4)
  | .aAdvertise a v => a.wf && decide (v < 2 ^ 32)
  | .bMode a n v => a.wf && decide (n < 3) && decide (v < 2 ^ 32)
  | .magicPacket bytes => decide (bytes.length ≤ 65536)
  | .frameReceived port bytes _ age full => decide (port < 3) && decide (bytes.length ≤ 65536) && decide (age < 2 ^ 64) && decide (full < 2 ^ 24)
  | .frameTransmitted port => decide (port < 3)
  | .addrFlush a v => a.wf && decide (v < 2)
  | .addressAgeing => true
  | .pause quantum => decide (quantum < 2 ^ 16)
  | .pauseQuantumEnd => true
  | .pauseWatchdogTrip => true
  | .pauseWdHoldoffEnd => true
  | .gateListStart p => decide (p < 3)
  | .gateEntryChange p => decide (p < 3)
  | .post a r => a.wf && decide (r < 4)
  | .reap a r => a.wf && decide (r < 4)
  | .ringEnable a r v => a.wf && decide (r < 4) && decide (v < 2 ^ 32)
  | .launch r => decide (r < 5)
  | .tsRecord a q => a.wf && decide (q < 4)
  | .aStatus a => a.wf
  | .tsEnable a n v => a.wf && decide (n < 16) && decide (v < 2 ^ 32)
  | .talkerStart n => decide (n < 16)
  | .talkerPacketComplete n => decide (n < 16)
  | .resolveRetry n found => decide (n < 16) && (match found with | some x => decide (x < 2 ^ 48) | none => true)
  | .resolveRefresh n found => decide (n < 16) && (match found with | some x => decide (x < 2 ^ 48) | none => true)
  | .lsEnable a n v => a.wf && decide (n < 16) && decide (v < 2 ^ 32)
  | .listenerPacket n frac bytes => decide (n < 16) && decide (frac < 1000) && decide (bytes.length ≤ 65536)
  | .lostPacket n => decide (n < 16)
  | .streamStop n => decide (n < 16)
  | .lsStatus a n => a.wf && decide (n < 16)
  | .lsLevelMin a n => a.wf && decide (n < 16)
  | .sapEnable a p v => a.wf && decide (p < 4) && decide (v < 2 ^ 32)
  | .frameStart p period bclks slots => decide (p < 4) && decide (period < 2 ^ 40) && decide (bclks < 2 ^ 32) && slots.all (fun x => decide (x < 2 ^ 32))
  | .sapStop p => decide (p < 4)
  | .testSlipEnable a p v => a.wf && decide (p < 4) && decide (v < 2 ^ 32)
  | .testSlip a p v => a.wf && decide (p < 4) && decide (v < 2 ^ 32)
  | .asrcEnable a g v => a.wf && decide (g < 2) && decide (v < 2 ^ 32)
  | .asrcLock g => decide (g < 2)
  | .chEnableCapture a c v => a.wf && decide (c < 4) && decide (v < 2 ^ 32)
  | .inputSel a c v => a.wf && decide (c < 4) && decide (v < 2 ^ 32)
  | .pgaGain a c v => a.wf && decide (c < 4) && decide (v < 2 ^ 32)
  | .finalStage a c v => a.wf && decide (c < 14) && decide (v < 2 ^ 32)
  | .windHpf a c v => a.wf && decide (c < 14) && decide (v < 2 ^ 32)
  | .delay a c v => a.wf && decide (c < 14) && decide (v < 2 ^ 32)
  | .biasEnable a k v => a.wf && decide (k < 2) && decide (v < 2 ^ 32)
  | .biasVoltage a k v => a.wf && decide (k < 2) && decide (v < 2 ^ 32)
  | .captureValid c => decide (c < 14)
  | .biasShort k => decide (k < 2)
  | .biasRetry k _ => decide (k < 2)
  | .biasOpen k _ => decide (k < 2)
  | .pdmStuck line _ => decide (line < 4)
  | .captureOvr c _ => decide (c < 14)
  | .ovrStatus a => a.wf
  | .crystalLoss => true
  | .crystalReturn => true
  | .historyBlock _ => true
  | .listenMicStuck m _ => decide (m < 8)
  | .histBlock a => a.wf
  | .histReadSeq a v => a.wf && decide (v < 2 ^ 32)
  | .enrolSlot a p => a.wf && decide (p < 128)
  | .enrolErase a p => a.wf && decide (p < 127)
  | .enrolCancel a => a.wf
  | .enrolTimeout => true
  | .enrolStoreDone outcome _ => decide (outcome < 8)
  | .template a p => a.wf && decide (p < 8)
  | .wakeOutClear a v => a.wf && decide (v < 2 ^ 32)
  | .wakeOutPulseEnd => true
  | .muxSelection a mux sub v => a.wf && decide (mux < 11) && decide (sub < 256) && decide (v < 2 ^ 32)
  | .rampSwitchSample mux sub => decide (mux < 11) && decide (sub < 256)
  | .rampEnd mux sub => decide (mux < 11) && decide (sub < 256)
  | .sinkDest a lane v => a.wf && decide (lane < 256) && decide (v < 2 ^ 32)
  | .vtxGain a out inp v => a.wf && decide (out < 64) && decide (inp < 96) && decide (v < 2 ^ 32)
  | .sinkPolicy a node v => a.wf && decide (node < 512) && decide (v < 2 ^ 32)
  | .start a e => a.wf && decide (e < 8)
  | .stop a e => a.wf && decide (e < 8)
  | .swap a e => a.wf && decide (e < 8)
  | .discardStandby a e => a.wf && decide (e < 8)
  | .unload a e => a.wf && decide (e < 8)
  | .clearFault a e => a.wf && decide (e < 8)
  | .swapSet a mask => a.wf && decide (mask < 2 ^ 32)
  | .swapBoundary => true
  | .engineStartPoint e => decide (e < 8)
  | .taskRelease e t _ => decide (e < 8) && decide (t < 16)
  | .overrun e t _ => decide (e < 8) && decide (t < 16)
  | .engineFault e cause => decide (e < 8) && decide (cause < 7)
  | .autoRecover e => decide (e < 8)
  | .ecoClockChange => true
  | .facetAdd e dst x y => decide (e < 8) && decide (dst < 32) && decide (x < 32) && decide (y < 32)
  | .facetSub e dst x y => decide (e < 8) && decide (dst < 32) && decide (x < 32) && decide (y < 32)
  | .facetAnd e dst x y => decide (e < 8) && decide (dst < 32) && decide (x < 32) && decide (y < 32)
  | .facetOr e dst x y => decide (e < 8) && decide (dst < 32) && decide (x < 32) && decide (y < 32)
  | .facetXor e dst x y => decide (e < 8) && decide (dst < 32) && decide (x < 32) && decide (y < 32)
  | .facetShl e dst x y => decide (e < 8) && decide (dst < 32) && decide (x < 32) && decide (y < 32)
  | .facetShr e dst x y => decide (e < 8) && decide (dst < 32) && decide (x < 32) && decide (y < 32)
  | .facetMul e dst x y => decide (e < 8) && decide (dst < 32) && decide (x < 32) && decide (y < 32)
  | .facetMin e dst x y => decide (e < 8) && decide (dst < 32) && decide (x < 32) && decide (y < 32)
  | .facetMax e dst x y => decide (e < 8) && decide (dst < 32) && decide (x < 32) && decide (y < 32)
  | .facetCmp e x y => decide (e < 8) && decide (x < 32) && decide (y < 32)
  | .facetMov e dst src => decide (e < 8) && dst.wf && decide (src < 32)
  | .facetLi e dst v => decide (e < 8) && dst.wf && decide (v < 2 ^ 32)
  | .facetVmac e acc x y => decide (e < 8) && decide (acc < 8) && decide (x < 16) && decide (y < 16)
  | .facetVmsu e acc x y => decide (e < 8) && decide (acc < 8) && decide (x < 16) && decide (y < 16)
  | .facetVmul e acc x y => decide (e < 8) && decide (acc < 8) && decide (x < 16) && decide (y < 16)
  | .facetVadd e dst x y => decide (e < 8) && decide (dst < 16) && decide (x < 16) && decide (y < 16)
  | .facetVsub e dst x y => decide (e < 8) && decide (dst < 16) && decide (x < 16) && decide (y < 16)
  | .facetVabs e dst x => decide (e < 8) && decide (dst < 16) && decide (x < 16)
  | .facetVmax e dst x y => decide (e < 8) && decide (dst < 16) && decide (x < 16) && decide (y < 16)
  | .facetVshr e dst x n => decide (e < 8) && decide (dst < 16) && decide (x < 16) && decide (n < 2 ^ 32)
  | .facetVext e dst acc => decide (e < 8) && decide (dst < 16) && decide (acc < 8)
  | .facetFmac e dst x y => decide (e < 8) && decide (dst < 16) && decide (x < 16) && decide (y < 16)
  | .facetFmul e dst x y => decide (e < 8) && decide (dst < 16) && decide (x < 16) && decide (y < 16)
  | .facetFadd e dst x y => decide (e < 8) && decide (dst < 16) && decide (x < 16) && decide (y < 16)
  | .facetFsub e dst x y => decide (e < 8) && decide (dst < 16) && decide (x < 16) && decide (y < 16)
  | .facetFmax e dst x y => decide (e < 8) && decide (dst < 16) && decide (x < 16) && decide (y < 16)
  | .facetFabs e dst x => decide (e < 8) && decide (dst < 16) && decide (x < 16)
  | .facetFcvt e dst x _ => decide (e < 8) && decide (dst < 16) && decide (x < 16)
  | .facetFrcp e dst x => decide (e < 8) && decide (dst < 16) && decide (x < 16)
  | .facetFrsq e dst x => decide (e < 8) && decide (dst < 16) && decide (x < 16)
  | .facetFlog2 e dst x => decide (e < 8) && decide (dst < 16) && decide (x < 16)
  | .facetFexp2 e dst x => decide (e < 8) && decide (dst < 16) && decide (x < 16)
  | .facetLd e dst m => decide (e < 8) && decide (dst < 32) && m.wf
  | .facetSt e src m => decide (e < 8) && decide (src < 32) && m.wf
  | .facetVld e dst m => decide (e < 8) && decide (dst < 16) && m.wf
  | .facetVst e src m => decide (e < 8) && decide (src < 16) && m.wf
  | .facetLoop e count last => decide (e < 8) && decide (count < 32) && decide (last < 2 ^ 13)
  | .facetBrf e mask target => decide (e < 8) && decide (mask < 8) && decide (target < 2 ^ 13)
  | .facetCall e target => decide (e < 8) && decide (target < 2 ^ 13)
  | .facetRet e => decide (e < 8)
  | .facetHalt e cycles => decide (e < 8) && decide (cycles < 2 ^ 32)
  | .facetTagrd e dst port => decide (e < 8) && decide (dst < 32) && decide (port < 32)
  | .facetTagset e port first count bits => decide (e < 8) && decide (port < 32) && decide (first < 64) && decide (count < 65) && decide (bits < 16)
  | .facetTagclr e port first count bits => decide (e < 8) && decide (port < 32) && decide (first < 64) && decide (count < 65) && decide (bits < 16)
  | .facetUvrd e dst rec => decide (e < 8) && decide (dst < 32) && decide (rec < 256)
  | .facetUvwr e src rec => decide (e < 8) && decide (src < 32) && decide (rec < 256)
  | .facetDmard e alloc off loc words => decide (e < 8) && decide (alloc < 256) && decide (off < 2 ^ 24) && decide (loc < 2 ^ 18) && decide (words < 65537)
  | .facetDmawr e alloc off loc words => decide (e < 8) && decide (alloc < 256) && decide (off < 2 ^ 24) && decide (loc < 2 ^ 18) && decide (words < 65537)
  | .facetDmawait e _ _ _ => decide (e < 8)
  | .facetLock e dst k => decide (e < 8) && decide (dst < 32) && decide (k < 16)
  | .facetUnlock e k => decide (e < 8) && decide (k < 16)
  | .facetBiq e _ => decide (e < 8)
  | .facetConv e _ => decide (e < 8)
  | .facetFft e _ => decide (e < 8)
  | .facetIfft e _ => decide (e < 8)
  | .facetEnv e _ => decide (e < 8)
  | .facetComp e _ => decide (e < 8)
  | .facetLim e _ => decide (e < 8)
  | .facetRamp e buf g target left _ => decide (e < 8) && decide (buf < 2 ^ 18) && decide (g < 2 ^ 32) && decide (target < 2 ^ 32) && decide (left < 65537)
  | .facetXfade e dst x y pos len _ => decide (e < 8) && decide (dst < 2 ^ 18) && decide (x < 2 ^ 18) && decide (y < 2 ^ 18) && decide (pos < 65537) && decide (len < 65537)
  | .facetDly e buf alloc len => decide (e < 8) && decide (buf < 2 ^ 18) && decide (alloc < 256) && decide (len < 262145)
  | .facetTlu e _ => decide (e < 8)
  | .facetEnvx e buf slots => decide (e < 8) && decide (buf < 2 ^ 18) && slots.all (fun x => decide (x < 256))
  | .facetPilot e buf ch => decide (e < 8) && decide (buf < 2 ^ 18) && decide (ch < 8)
  | .facetSignal e code => decide (e < 8) && decide (code < 2 ^ 16)
  | .loadStart a => a.wf
  | .loadChunk a => a.wf
  | .loadFinish a => a.wf
  | .loadResult _ _ => true
  | .loaderOwnerTimeout => true
  | .bootErase a slot => a.wf && decide (slot < 8)
  | .chEnable a n v => a.wf && decide (n < 8) && decide (v < 2 ^ 32)
  | .commonModeRampDone n => decide (n < 8)
  | .muteRampDone n => decide (n < 8)
  | .cmDownDone n => decide (n < 8)
  | .sampleLinkLoss die => decide (die < 2)
  | .modFreq a v => a.wf && decide (v < 2 ^ 32)
  | .fullScaleV a n v => a.wf && decide (n < 8) && decide (v < 2 ^ 32)
  | .bridgeReconfig k => decide (k < 4)
  | .currentLimit n => decide (n < 8)
  | .short n => decide (n < 8)
  | .overcurrent n => decide (n < 8)
  | .legShort n => decide (n < 8)
  | .dc n => decide (n < 8)
  | .sense n => decide (n < 8)
  | .gateDrive u => decide (u < 12)
  | .gateDriveRecovery u => decide (u < 12)
  | .pvddOv => true
  | .pvddOvRecovery => true
  | .retry n => decide (n < 8)
  | .clearLatch a n v => a.wf && decide (n < 8) && decide (v < 2 ^ 32)
  | .softRestartDone n => decide (n < 8)
  | .powerLimitStep powers vin pvdd iin => decide (powers.length ≤ 8) && decide (vin < 2 ^ 16) && decide (pvdd < 2 ^ 16) && decide (iin < 2 ^ 16)
  | .dieTemperature die _ => decide (die < 2)
  | .pilotResult n kind _ mag _ => decide (n < 8) && decide (kind < 2) && decide (mag < 2 ^ 32)
  | .reCapture a n => a.wf && decide (n < 8)
  | .envelopeRecord => true
  | .boostCommand vin pvdd iin => decide (vin < 2 ^ 16) && decide (pvdd < 2 ^ 16) && decide (iin < 2 ^ 16)
  | .railLow => true
  | .boostStart pvdd vin => decide (pvdd < 2 ^ 16) && decide (vin < 2 ^ 16)
  | .railShort => true
  | .railShortRestart => true
  | .phaseImbalance p => decide (p < 4)
  | .boostClear a v => a.wf && decide (v < 2 ^ 32)
  | .hpEnable a v => a.wf && decide (v < 2 ^ 32)
  | .loutEnable a v => a.wf && decide (v < 2 ^ 32)
  | .outputStartDone o => decide (o < 2)
  | .outputStopDone o => decide (o < 2)
  | .hpRange a v => a.wf && decide (v < 2 ^ 32)
  | .volumeStep => true
  | .hpLineFault o => decide (o < 2)
  | .hpLineRetry o => decide (o < 2)
  | .jackMute raw => decide (raw < 4)
  | .jackInsertion => true
  | .jackRemoval raw => decide (raw < 4)
  | .jackIdentify ua => decide (ua < 2 ^ 16)
  | .button ua => decide (ua < 2 ^ 16)
  | .range a c v => a.wf && decide (c < 8) && decide (v < 2 ^ 32)
  | .loadCmd a mask => a.wf && decide (mask < 256)
  | .loadPinEdge _ => true
  | .heldValuesApply => true
  | .clearNFall => true
  | .clearNRise => true
  | .complianceLoss c => decide (c < 8)
  | .compliance a => a.wf
  | .waveSize a w v => a.wf && decide (w < 2) && decide (v < 2 ^ 16)
  | .waveData a w _ => a.wf && decide (w < 2)
  | .waveRestart a w => a.wf && decide (w < 2)
  | .waveDone w => decide (w < 2)
  | .seqStart a => a.wf
  | .seqStop a => a.wf
  | .periodicTrigger => true
  | .conversionDone raw _ _ => decide (raw < 2 ^ 16)
  | .monitorRequest => true
  | .urgent a v => a.wf && decide (v < 2 ^ 32)
  | .calibrate a => a.wf
  | .calibrationDone _ gain => decide (gain < 2 ^ 16)
  | .result a q => a.wf && decide (q < 256)
  | .windowStatus a => a.wf
  | .bgTestSlot _ _ _ => true
  | .lockTake a k v => a.wf && decide (k < 16) && decide (v < 2 ^ 32)
  | .lockRevoked k => decide (k < 16)
  | .fenceIn => true
  | .fenceInRelease => true
  | .heartbeatSend => true
  | .heartbeat h => h.wf
  | .heartbeatLoss => true
  | .samples n l => decide (n < 2 ^ 64) && decide (l.length ≤ 128) && l.all sampleWf
  | .samplesSend => true
  | .samplesMissing _ => true
  | .hello model variant rev _ _ => decide (model < 2 ^ 32) && decide (variant < 2 ^ 16) && decide (rev < 2 ^ 16)
  | .chordWrite record time => record.wf && decide (time < 2 ^ 64)
  | .blackbox record => decide (record.length = 32)
  | .handoverRequest s0 cause => decide (s0 < 2 ^ 64) && decide (cause < 256)
  | .handoverGrant s0 => decide (s0 < 2 ^ 64)
  | .handoverDone => true
  | .handoverBoundary => true
  | .handoverTimeout => true
  | .leave => true
  | .mirrorData records => decide (records.length ≤ 32) && records.all AccessRecord.wf
  | .laneFault lane => decide (lane < 2)
  | .laneGood lane => decide (lane < 2)
  | .chordTrained => true
  | .gmLeaseExpiry => true
  | .switchover a v => a.wf && decide (v < 2 ^ 32)
  | .failover trigger => decide (trigger < 8)
  | .fenceRelease a v => a.wf && decide (v < 2 ^ 32)
  | .autoRejoin => true
  | .forceAlone a v => a.wf && decide (v < 2 ^ 32)
  | .claimWait => true
  | .lifecycleProvision a _ => a.wf
  | .lifecycleDeploy a => a.wf
  | .keyPublic a slot => a.wf && decide (slot < 256)
  | .keySecret a slot => a.wf && decide (slot < 256)
  | .keyRevoke a slot => a.wf && decide (slot < 256)
  | .unlockScan a => a.wf
  | .unlockFull a => a.wf
  | .unlockService a => a.wf
  | .unlockRetire a _ => a.wf
  | .token a => a.wf
  | .tokenVerified _ _ => true
  | .lockoutEnd => true
  | .tapBypass => true
  | .tapIdcode => true
  | .tapSamplePreload pins _ => decide (pins < 2 ^ 64)
  | .tapExtest pins _ => decide (pins < 2 ^ 64)
  | .tapClamp => true
  | .tapHighz => true
  | .dbgChallenge level => decide (level < 256)
  | .dbgUnlock _ _ => true
  | .dbgAccess op => op.wf
  | .trstN => true
  | .bbRecordWrite => true
  | .bbRecord a => a.wf
  | .bbClear a v => a.wf && decide (v < 2 ^ 32)
  | .tick n => decide (n < 2 ^ 32)
  | .mediaSampleBoundary _ => true
  | .syncTransmit => true
  | .inputMonitorReturn _ milliHz => decide (milliHz < 2 ^ 48)
  | .vdd33Recovery => true
  | .vddioReturn bank => decide (bank < 2)
  | .presenceReturns raw => decide (raw < 4)
  | .rangePendingExpiry c => decide (c < 8)
  | .complianceClear c => decide (c < 8)

end Sys2Proof
end

