-- ==== Sys2Proof/Safety.lean ====
section
/-! DEFINITION. What a safe run is, in the terms the statements use: a step that answers a next state, the form of the state that every step keeps, what leaves an object or a byte as it is, and when a request is taken. -/
namespace Sys2Proof.Machine

/-- The outcome is a next state, not a fault or a refusal. -/
def goesOn : Host.Outcome State Fault Refusal → Prop
  | .next _ => True
  | _ => False

/-- A command answers a next state of which `P` holds, with the queue and the bytes of memory as they were. -/
def gives (i : Instr) (s : State) (P : Dev → Prop) : Prop :=
  ∃ t, exec i s = .next t ∧ t.pending = s.pending ∧ (∀ a, memRead t.mem a = memRead s.mem a) ∧ P t.dev

/-- A command answers exactly this part, with the queue and every byte of memory as they were. -/
def becomes (i : Instr) (s : State) (d : Dev) : Prop := exec i s = .next { s with dev := { d with stores := s.dev.stores } }

/-- The commands that may store to Tessera memory; every other command leaves it alone. -/
def mayStore : Instr → Bool
  | .write _ _ _ _ | .request _ _ _ _ _ | .domainResetDone _ | .coreRelease _ | .mpllLock _ | .bandFault | .locusWrite _ | .clearFault _ _ | .autoRecover _ => true
  | .facetHalt _ _ | .facetDmawait _ _ _ _ | .facetDly _ _ _ _ | .loadResult _ _ | .waveData _ _ _ | .tick _ | .mediaSampleBoundary _ | .vdd33Recovery => true
  | .heartbeatLoss | .chordWrite _ _ | .handoverDone | .handoverBoundary | .handoverTimeout | .leave | .mirrorData _ => true
  | .lifecycleProvision _ _ | .lifecycleDeploy _ | .keyPublic _ _ | .keySecret _ _ | .keyRevoke _ _ | .unlockScan _ | .unlockFull _ | .unlockService _ | .unlockRetire _ _ | .token _ | .tokenVerified _ _ => true
  | .dbgChallenge _ | .dbgUnlock _ _ | .dbgAccess _ => true
  | _ => false

/-- The form every step keeps: memory is canonical, and no store of an earlier command waits to be made. -/
def State.inv (s : State) : Prop := Memory.wf s.mem = true ∧ s.dev.stores = []

/-- A WRITE request on a path that is answered, while no snapshot is captured, of an object that no twin mirrors, and to which no code of R41 applies. -/
def Dev.takes (d : Dev) (a : Access) (k : Nat) : Prop :=
  d.pathUp a.path = true ∧ d.sup.capture = false ∧ d.writeCodes a k = [] ∧ (d.mirrors && mirroredKey k) = false

/-- The access of a row that writes the number `v` to an object: its payload is the number, in the bytes of the object's type. -/
def numAccess (a : Access) (k v : Nat) : Access := { a with data := leBytes (keyBytes k) v }

/-- The number `v` written by `a` to the object `k` is taken. -/
def Dev.takesNum (d : Dev) (a : Access) (k v : Nat) : Prop := d.takes (numAccess a k v) k ∧ v < 256 ^ keyBytes k

/-- The answer OK to a WRITE (Table 2-11). -/
def Dev.ok (a : Access) (d : Dev) : Dev := d.answer a.path { status := 0 }

/-- A row that writes the number `v` to the object `k`: where `h` holds and the write is taken, `f` is all that it does to the part, and the answer is OK. -/
def writes (i : Instr) (a : Access) (k v : Nat) (h : Dev → Prop) (f : Dev → Dev) : Prop :=
  ∀ s : State, s.dev.takesNum a k v → h s.dev → becomes i s ((f s.dev).ok a)

/-- The segment `a` completes the bytes `b` of the BLOB `k`, and the write is taken (R38). -/
def Dev.takesBytes (d : Dev) (a : Access) (k : Nat) (b : List Byte) : Prop :=
  d.takes a k ∧ ∃ o c, d.objAt k = some o ∧ o.ty = .blob ∧ d.payload a o k = (.bytes b, c)

/-- The part with a path's partial BLOB write gone, as it is once that write is complete. -/
def Dev.partDone (a : Access) (d : Dev) : Dev := { d with bus := { d.bus with parts := assocDel (pathBuffer a.path) d.bus.parts } }

/-- A row that writes the bytes `b` of the BLOB `k` with the segment `a`: where `h` holds and the write is taken, `f` is all that it does to the part beside the partial write, and the answer is OK. -/
def writesBytes (i : Instr) (a : Access) (k : Nat) (b : List Byte) (h : Dev → Prop) (f : Dev → Dev) : Prop :=
  ∀ s : State, s.dev.takesBytes a k b → h s.dev → becomes i s ((f (s.dev.partDone a)).ok a)

/-- A READ request on a path that is answered, to which no code of R41 applies. -/
def Dev.reads (d : Dev) (a : Access) (k : Nat) : Prop :=
  d.pathUp a.path = true ∧ ∃ o, d.objAt k = some o ∧ d.readCodes a o k = []

/-- A row that reads the number at `k`: where `h` holds and the read is granted, the answer is OK with the value `v` in the bytes of its type, and `f` is all that the read does to the part. -/
def readsNum (i : Instr) (a : Access) (k : Nat) (h : Dev → Prop) (v : Dev → Nat) (f : Dev → Dev) : Prop :=
  ∀ s : State, s.dev.reads a k → h s.dev → becomes i s ((f s.dev).answer a.path { status := 0, data := leBytes (keyBytes k) (v s.dev) })

/-- A row that reads `n` bytes at OFFSET of the BLOB `k`, whose bytes are `b`: the answer is OK with its GEN and those bytes, and `f` is all that the read does to the part. -/
def readsBytes (i : Instr) (a : Access) (k : Nat) (h : Dev → Prop) (b : Dev → List Byte) (f : Dev → Dev) : Prop :=
  ∀ s : State, s.dev.reads a k → h s.dev →
    becomes i s ((f s.dev).answer a.path { status := 0, gen := s.dev.genOf k, data := ((b s.dev).drop a.offset).take (min a.length (pathSegment a.path)) })

/-! The task an engine runs -/

/-- Engine `e` runs task `t` of the bank `b` (the active one where `act`), with registers and notes `r`, and the debugger does not hold it. -/
def Dev.running (d : Dev) (e : Nat) (act : Bool) (b : Bank) (t : ImgTask) (r : TaskRun) : Prop := d.current e = some (act, b, t, r) ∧ bit d.sec.tap.halted e = false

/-- An instruction that changes registers only: where `h` holds of them, `f` is what it does, and the task goes on to its next instruction. -/
def computes (i : Instr) (e : Nat) (h : Ctx → Prop) (f : Ctx → Ctx) : Prop :=
  ∀ (s : State) (act : Bool) (b : Bank) (t : ImgTask) (r : TaskRun), s.dev.running e act b t r → h r.ctx → becomes i s (s.dev.setRun e act { r with ctx := (f r.ctx).step })

/-- Lanes of a result from the n-th free value on: a lane that is marked is made of the next free value, the others use none. -/
def fillLanes {α : Type} : Nat → List (Bool × (Nat → α)) → List α
  | _, [] => []
  | n, (true, f) :: l => f (Config.free n) :: fillLanes (n + 1) l
  | n, (false, f) :: l => f 0 :: fillLanes n l

/-- An instruction that makes lanes of a register, some of them of free values. -/
def computesLanes {α : Type} (i : Instr) (e : Nat) (put : Ctx → List α → Ctx) (g : Ctx → List (Bool × (Nat → α))) : Prop :=
  ∀ (s : State) (act : Bool) (b : Bank) (t : ImgTask) (r : TaskRun), s.dev.running e act b t r →
    becomes i s (({ s.dev with free := s.dev.free + ((g r.ctx).filter (·.1)).length } : Dev).setRun e act { r with ctx := (put r.ctx (fillLanes s.dev.free (g r.ctx))).step })

/-- The word of a number that fits 32 bits, unsigned or else signed; a free value where it fits neither. -/
def wordOf (u v : Int) : Bool × (Nat → Nat) :=
  if fitsU 32 u then (false, fun _ => u.toNat) else if fitsS 32 v then (false, fun _ => ofInt 32 v) else (true, fun x => x % 2 ^ 32)

/-- A lane of Q1.31: the number where it fits, or a free value. -/
def laneOf (v : Int) : Bool × (Nat → Nat) := if fitsS 32 v then (false, fun _ => ofInt 32 v) else (true, fun x => x % 2 ^ 32)

/-- A lane of an accumulator of 72 bits: the number where it fits, or a free value. -/
def accOf (v : Int) : Bool × (Nat → Int) := if fitsS 72 v then (false, fun _ => v) else (true, fun x => toInt 72 x)

/-- A quotient saturated to 32 bits; where it is no integer, either neighbour, as the free value `z` says. -/
def quotOf (n : Int) (k z : Nat) : Int := satS 32 (if floorDiv n k * k = n then floorDiv n k else floorDiv n k + (z % 2 : Nat))

end Sys2Proof.Machine
end

