-- ==== Sys2Proof/Certificates/Slice0/Obligations.lean ====
section
/-! DEFINITION. The statements about the model, for the provers. A statement that names a state and a part says everything that changes; what it does not name stays as it was. -/

open Sys2Proof Sys2Proof.Machine

/-! The transports -/

/-- RESEND, NOP, an undefined OP, a bad CRC and a request cut short (R53, R480, R481): what SPI or I2C is answered with, what is counted, and nothing else. Where the spec leaves a reading open, the one taken is the model's: assumption log, entry 13. -/
def Obligations.BusAnswers : Prop :=
  (∀ (s : State) (r : Reply), s.dev.pathUp .spi = true → s.dev.bus.keptSpi = some r →
    becomes (.resend false) s { s.dev with bus := { s.dev.bus with outSpi := .reply r } }) ∧
  (∀ s : State, s.dev.pathUp .spi = true → s.dev.bus.keptSpi = none →
    becomes (.resend false) s { s.dev with bus := { s.dev.bus with outSpi := .reply { status := 6 } } }) ∧
  (∀ (s : State) (r : Reply), s.dev.pathUp .i2c = true → s.dev.bus.keptI2c = some r →
    becomes (.resend true) s { s.dev with bus := { s.dev.bus with outI2c := .reply r } }) ∧
  (∀ s : State, s.dev.pathUp .spi = true → becomes (.nop false) s { s.dev with bus := { s.dev.bus with outSpi := .reply { status := 0 } } }) ∧
  (∀ s : State, s.dev.pathUp .i2c = true → becomes (.nop true) s { s.dev with bus := { s.dev.bus with outI2c := .reply { status := 0 } } }) ∧
  (∀ s : State, s.dev.pathUp .spi = true → becomes (.undefinedOp false) s { s.dev with bus := { s.dev.bus with outSpi := .reply { status := 3 } } }) ∧
  (∀ s : State, s.dev.pathUp .i2c = true → becomes (.undefinedOp true) s { s.dev with bus := { s.dev.bus with outI2c := .reply { status := 3 } } }) ∧
  (∀ s : State, s.dev.pathUp .spi = true →
    becomes (.badCrcRequest false) s { s.dev.put 0x125000 (min (s.dev.get 0x125000 + 1) (2 ^ 32 - 1)) with bus := { s.dev.bus with outSpi := .badCrc } }) ∧
  (∀ s : State, s.dev.pathUp .i2c = true →
    becomes (.badCrcRequest true) s { s.dev.put 0x125001 (min (s.dev.get 0x125001 + 1) (2 ^ 32 - 1)) with bus := { s.dev.bus with outI2c := .badCrc } }) ∧
  (∀ s : State, s.dev.pathUp .spi = true →
    becomes .spiAborted s { s.dev.put 0x141000 (min (s.dev.get 0x141000 + 1) (2 ^ 32 - 1)) with bus := { s.dev.bus with outSpi := .none } }) ∧
  (∀ s : State, s.dev.pathUp .i2c = true →
    becomes .i2cTimeout s { s.dev.put 0x141001 (min (s.dev.get 0x141001 + 1) (2 ^ 32 - 1)) with bus := { s.dev.bus with outI2c := .none } }) ∧
  (∀ s : State, s.dev.pathUp .i2c = true →
    becomes .i2cShortTransfer s { s.dev.put 0x141001 (min (s.dev.get 0x141001 + 1) (2 ^ 32 - 1)) with bus := { s.dev.bus with outI2c := .none } })

/-- READ and WRITE of SPI (R39, R41, R53): a READ that no code of R41 refuses is answered with status OK and kept for RESEND, a number in the bytes of its type; a WRITE that none refuses, of a sink tag policy,
puts the three policy bits in the object and is answered OK; a WRITE that a code refuses changes the error log and the answer alone, and answers the code listed first. Where the spec leaves a reading open, the one taken is the model's: assumption log, entries 13 and 20. -/
def Obligations.ReadWrite : Prop :=
  (∀ (s : State) (a : Access) (index sub : Nat) (e1 e2 : List Nat) (o : Obj), a.path = .spi → s.dev.pathUp .spi = true → s.dev.objAt (key index (sub % 256)) = some o →
    s.dev.readCodes a o (key index (sub % 256)) = [] → o.ty.isBytes = false →
    ∃ t r, exec (.read a index sub e1 e2) s = .next t ∧ t.pending = s.pending ∧ t.mem = s.mem ∧ t.dev.bus.keptSpi = some r ∧ t.dev.bus.outSpi = .reply r ∧ r.status = 0 ∧ r.data.length = o.ty.bytes) ∧
  (∀ (s : State) (a : Access) (v : Nat) (hits : List (Nat × Nat)) (node : Nat), a.path = .spi → node < 256 → s.dev.stores = [] → s.dev.takesNum a (0x521000 + node) v →
    becomes (.write (numAccess a (0x521000 + node) v) 0x5210 node hits) s
      { s.dev.put (0x521000 + node) (v &&& 7) with bus := { s.dev.bus with keptSpi := some { status := 0 }, outSpi := .reply { status := 0 } } }) ∧
  (∀ (s : State) (a : Access) (index sub c : Nat) (hits : List (Nat × Nat)), a.path = .spi → s.dev.pathUp .spi = true → s.dev.sup.capture = false → s.dev.stores = [] → sub < 256 → index ≠ 0x1200 →
    firstError (s.dev.writeCodes a (key index sub)) = c → c ≠ 0 →
    becomes (.write a index sub hits) s
      { s.dev.logError index sub c 0 0xFF 0 with bus := { s.dev.bus with errNext := s.dev.bus.errNext + 1, keptSpi := some { status := c }, outSpi := .reply { status := c } } })

/-- Sessions of TDT (R57 to R60, R63, R451, R452): an OPEN that verifies takes the lowest free slot and is answered; a REQUEST of no records is answered by a RESPONSE of none, and its repetition from the cache; KEEPALIVE is echoed;
CLOSE and 60 s of silence end the session; DISCOVER schedules one ANNOUNCE, which is then sent. Where the spec leaves a reading open, the one taken is the model's: assumption log, entry 15.
BULK_READ (R58, R61): an accepted one is answered with its fragments, numbered from 0, each of them a BULK_DATA frame of the session; a repetition past the 63rd ends the session. Where the spec leaves a reading open, the one taken is the model's: assumption log, entry 15. -/
def Obligations.Sessions : Prop :=
  (∀ (s : State) (keySel n : Nat) (nonce : List Byte), s.dev.tdtUp = true → (s.dev.life = 1 ∨ s.dev.life = 2) → (keySel = 1 ∨ keySel = 2) → s.dev.keyValid (12 - keySel) = true →
    (s.dev.sec.opens.filter (fun t => s.dev.now < t + 1000000000)).length < 16 → (upto 8).find? (fun n => (s.dev.session n).isNone) = some n →
    gives (.tdtOpen keySel true nonce) s (fun d => ∃ (x : Session) (own : List Byte), d.bus.sessions = s.dev.bus.sessions ++ [x] ∧ x.slot = n ∧ x.priv = keySel ∧ x.keySlot = 12 - keySel ∧ x.lastSeq = 0 ∧ 0 < x.id
      ∧ x.seen = s.dev.now ∧ x.nonces = nonce ++ own ∧ own.length = 16 ∧ d.bus.outTdt = [tdtFrame 0x11 0 x.id 0 0 0 own] ∧ d.get 0x713000 = min (s.dev.get 0x713000 + 1) (2 ^ 32 - 1))) ∧
  (∀ (s : State) (x : Session) (seq len : Nat), s.dev.tdtUp = true → s.dev.sessionById x.id = some x → len ≤ 1400 → seq = x.lastSeq + 1 → seq < 0xFFFFFFFF → s.dev.sup.capture = false →
    s.dev.stores = [] → gives (.request x.id true seq len []) s (fun d => d.bus.outTdt = [tdtFrame 0x21 0 x.id seq 0 0 []] ∧ d.st = s.dev.st
      ∧ ∀ y ∈ d.bus.sessions, y.slot = x.slot → y.lastSeq = seq ∧ y.seen = s.dev.now ∧ y.cached = tdtFrame 0x21 0 x.id seq 0 0 [])) ∧
  (∀ (s : State) (x : Session) (len : Nat) (l : List AccessRecord), s.dev.tdtUp = true → s.dev.sessionById x.id = some x → len ≤ 1400 → s.dev.stores = [] →
    gives (.request x.id true x.lastSeq len l) s (fun d => d.bus.outTdt = [x.cached] ∧ d.st = s.dev.st)) ∧
  (∀ (s : State) (x : Session) (len counter : Nat), s.dev.tdtUp = true → s.dev.sessionById x.id = some x → len ≤ 1400 → x.alive < counter →
    gives (.keepalive x.id true len counter) s (fun d => d.bus.outTdt = [tdtFrame 0x22 0 x.id counter 0 0 []] ∧ d.st = s.dev.st
      ∧ ∀ y ∈ d.bus.sessions, y.slot = x.slot → y.alive = counter ∧ y.seen = s.dev.now)) ∧
  (∀ (s : State) (x : Session) (len : Nat), s.dev.tdtUp = true → s.dev.sessionById x.id = some x → len ≤ 1400 →
    gives (.tdtClose x.id true (x.lastSeq + 1) len) s (fun d => (∀ y ∈ d.bus.sessions, y.slot ≠ x.slot) ∧ d.bus.outTdt = [] ∧ ∀ h t, d.bus.lock = some (h, t) → h ≠ x.slot)) ∧
  (∀ (s : State) (x : Session) (slot : Nat), s.dev.session slot = some x → x.seen + 60000000000 ≤ s.dev.now →
    gives (.sessionTimeout slot) s (fun d => (∀ y ∈ d.bus.sessions, y.slot ≠ slot) ∧ ∀ h t, d.bus.lock = some (h, t) → h ≠ slot)) ∧
  (∀ s : State, s.dev.tdtUp = true → s.dev.get 0x123200 = 1 → (s.dev.bus.announced.filter (fun t => s.dev.now < t + 1000000000)).length + s.dev.bus.announces.length < 10 →
    becomes .discover s { s.dev with bus := { s.dev.bus with announces := s.dev.bus.announces ++ [s.dev.now] } }) ∧
  (∀ (s : State) (t : Nat) (l : List Nat), s.dev.bus.announces = t :: l →
    becomes .announce s { s.dev with bus := { s.dev.bus with announces := l, announced := s.dev.bus.announced.filter (fun t => s.dev.now < t + 1000000000) ++ [s.dev.now],
                                                             outTdt := [tdtFrame 2 0 0 0 0 0 s.dev.announceBytes] } }) ∧
  (∀ (s : State) (x : Session) (len i1 s1 i2 s2 : Nat) (staged : Bool), s.dev.tdtUp = true → s.dev.sessionById x.id = some x → len ≤ 1400 → x.lastSeq + 1 < 0xFFFFFFFF →
    (s.dev.objectsIn (key i1 (s1 % 256)) (key i2 (s2 % 256))) = [] →
    gives (.bulkRead x.id true (x.lastSeq + 1) len i1 s1 i2 s2 staged) s (fun d => d.bus.outTdt = [tdtFrame 0x31 0 x.id (x.lastSeq + 1) 0 1 []] ∧ d.st = s.dev.st)) ∧
  (∀ (s : State) (x : Session) (len i1 s1 i2 s2 : Nat) (staged : Bool), s.dev.tdtUp = true → s.dev.sessionById x.id = some x → len ≤ 1400 → x.bulk = 63 →
    gives (.bulkRead x.id true x.lastSeq len i1 s1 i2 s2 staged) s (fun d => (∀ y ∈ d.bus.sessions, y.slot ≠ x.slot) ∧ d.bus.outTdt = []))

/-! The write lock, the agreement groups and the ledgers -/

/-- The write lock (R31, R32, R60): a session takes it for 10 s or frees it; LOCK_BREAK and the end of its lease free it with EV5, the latter with a record of kind LEASE. Where the spec leaves a reading open, the one taken is the model's: assumption log, entry 14.
The ledgers (R24, R25): LEDGER_CLEAR waits for its boundary; a read of a ledger's base latches every field of it, HELD following from the equation of the ledger, and the base reads its latched count. Where the spec leaves a reading open, the one taken is the model's: assumption log, entry 20. -/
def Obligations.LockAndLedgers : Prop :=
  (∀ (a : Access) (slot : Nat), a.path = .tdt slot → writes (.writeLock a 1) a 0x124000 1 (fun _ => True) (fun d => { d with bus := { d.bus with lock := some (slot, d.now + 10000000000) } })) ∧
  (∀ (a : Access) (slot t : Nat), a.path = .tdt slot → writes (.writeLock a 0) a 0x124000 0 (fun d => d.bus.lock = some (slot, t)) (fun d => { d with bus := { d.bus with lock := none } })) ∧
  (∀ (a : Access) (x : Nat × Nat), writes (.lockBreak a) a 0x124100 1 (fun d => d.bus.lock = some x) (fun d => ({ d with bus := { d.bus with lock := none } } : Dev).raise 5)) ∧
  (∀ (s : State) (h t : Nat), s.dev.bus.lock = some (h, t) → t ≤ s.dev.now →
    becomes .writeLockLeaseExpiry s ((({ s.dev with bus := { s.dev.bus with lock := none } } : Dev).raise 5).bbMake 7 1 5 0 2 h)) ∧
  (∀ a : Access, writes (.ledgerClear a) a 0x115000 1 (fun _ => True) (fun d => { d with sup := { d.sup with ledgerClear := true } })) ∧
  (∀ (a : Access) (index sub n : Nat) (kind : LedgerKind) (s : State), s.dev.reads a (key index (sub % 256)) → ledgerOf (key index (sub % 256)) = some (kind, key index (sub % 256), n) →
    gives (.ledgerRead a index sub) s (fun d => ∀ f < n, assoc (key index (sub % 256) + f) d.st.latched = some (ledgerField kind (key index (sub % 256)) f (s.dev.ledgerCount kind)))) ∧
  (∀ (v : Nat → Nat) (base : Nat), ledgerField .sample base 4 v = (v base + v (base + 2)) - (v (base + 1) + v (base + 3)) ∧ ledgerField .egress base 3 v = v base - (v (base + 1) + v (base + 2))
    ∧ ledgerField .descriptor base 2 v = v base - v (base + 1))

/-- Commits (R27, R29, R46): COMMIT now commits the staged set and clears REFUSED; one value staged for an object of the maps is then its committed value, and the group's function acts; with a TIME a Locus entry holds the commit;
DISCARD unstages; CHECK changes nothing; a scheduled commit that is due commits, and its slot is done. Where the spec leaves a reading open, the one taken is the model's: assumption log, entry 19.
A commit that its group's rule refuses commits nothing (R27, R29): COMMIT answers AGREE and sets REFUSED; a scheduled commit is logged with the failing relation and raises EV6. Where the spec leaves a reading open, the one taken is the model's: assumption log, entry 19. -/
def Obligations.Commits : Prop :=
  (∀ (a : Access) (g : Nat), g < 256 → writes (.commitNow a g) a (0x120000 + g) 0 (fun d => d.groupFails g = none) (fun d => (d.groupTake g).putBit (0x120200 + g) 2 false)) ∧
  (∀ (a : Access) (g k v : Nat) (r : ObjRow), g < 256 → g < 0x20 ∨ 0x30 ≤ g → objRow k = some r →
    writes (.commitNow a g) a (0x120000 + g) 0 (fun d => d.groupFails g = none ∧ d.stagedOf g = [(k, v)] ∧ d.stagedBlobOf g = [])
      (fun d => (Dev.groupAct g (d.onlyMap g) (({ d with st := { d.st with staged := d.st.staged.filter (fun e => d.groupOf e.1 != g), stagedBlob := d.st.stagedBlob.filter (fun e => d.groupOf e.1 != g) } } : Dev).put k v)).putBit
        (0x120200 + g) 2 false)) ∧
  (∀ (a : Access) (g time ee : Nat), g < 256 → time ≠ 0 → writes (.commitSchedule a g time) a (0x120000 + g) time (fun d => d.commitEntry g = none ∧ d.freeSlot = some ee)
    (fun d => { d.genUp (key 0x2310 ee) with loc := { d.loc with
      table := locusInsert { slot := ee, time := time, action := 2, flags := 0, tag := 0, target := g, value := 0, period := 0, epochReq := 0, order := d.loc.armed } (d.loc.table.filter (fun e => e.slot != ee))
      armed := d.loc.armed + 1 } })) ∧
  (∀ (a : Access) (g : Nat), g < 256 → writes (.discard a g) a (0x120300 + g) 1 (fun d => d.commitEntry g = none)
    (fun d => { d with st := { d.st with staged := d.st.staged.filter (fun e => d.groupOf e.1 != g), stagedBlob := d.st.stagedBlob.filter (fun e => d.groupOf e.1 != g) } })) ∧
  (∀ (a : Access) (g : Nat), g < 256 → writes (.check a g) a (0x120400 + g) 1 (fun _ => True) (fun d => d)) ∧
  (∀ (s : State) (e : LEntry), s.dev.firstDue true = some e → e.action = 2 → s.dev.groupHere e.target = true → s.dev.groupFails e.target = none →
    becomes (.scheduledCommit e.target) s (((s.dev.groupTake e.target).putBit (key 0x1202 e.target) 2 false).locusDone e 0)) ∧
  (∀ (s : State) (a : Access) (g r : Nat), a.path = .spi → g < 256 → s.dev.pathUp .spi = true → s.dev.sup.capture = false → firstError (s.dev.writeCodes (numAccess a (0x120000 + g) 0) (0x120000 + g)) = 7 →
    s.dev.groupFails g = some r → becomes (.commitNow a g) s
      ({ (s.dev.putBit (0x120200 + g) 2 true).logError 0x1200 g 7 0 0xFF r with bus := { s.dev.bus with errNext := s.dev.bus.errNext + 1, keptSpi := some { status := 7 }, outSpi := .reply { status := 7 } } })) ∧
  (∀ (s : State) (e : LEntry) (r : Nat), s.dev.firstDue true = some e → e.action = 2 → s.dev.groupHere e.target = true → s.dev.groupFails e.target = some r →
    becomes (.scheduledCommit e.target) s ((((s.dev.putBit (key 0x1202 e.target) 2 true).logError 0x1200 e.target 7 3 0xFF r).raise 6).locusDone e 7))

/-! Modes, resets, bring-up and supplies -/

/-- Mode changes (R68 to R76): a request of the current mode, and one made in BRINGUP, only replaces 1100.00; one in READY for PLAY begins that step with TRANSITION and NEXT, and its end enters PLAY; SAFE asked for in READY is entered by cause [8];
SAFE_RETURN 1 leaves SAFE once every cause has been clear for 1 s. Where the spec leaves a reading open, the one taken is the model's: assumption log, entry 21.
The path between modes (R69): from every mode that a request leaves, the next mode of the path stands in the table of steps, each step is to a neighbour, and at most six of them reach any target that a request may name. -/
def Obligations.ModeChange : Prop :=
  (∀ (a : Access) (v : Nat), writes (.modeRequest a v) a 0x110000 v (fun d => d.mode = v ∧ d.inStep = false ∧ 2 ≤ v ∧ v ≤ 8) (fun d => d.put 0x110000 v)) ∧
  (∀ (a : Access) (v : Nat), writes (.modeRequest a v) a 0x110000 v (fun d => d.mode = 1) (fun d => d.put 0x110000 v)) ∧
  (∀ a : Access, writes (.modeRequest a 6) a 0x110000 6 (fun d => d.mode = 5 ∧ d.inStep = false ∧ d.twin.fenceIn = false)
    (fun d => ((d.put 0x110000 6).put 0x110200 (setFld (setFld (d.get 0x110200) 7 4 6) 0 0 1)).outSettle.hpSettle)) ∧
  (∀ a : Access, writes (.modeRequest a 9) a 0x110000 9 (fun d => d.mode = 5 ∧ d.inStep = false) (fun d => ((d.put 0x110000 9).causeSet 8).outSettle.hpSettle)) ∧
  (∀ s : State, s.dev.mode = 5 → s.dev.inStep = true → fld (s.dev.get 0x110200) 7 4 = 6 → s.dev.get 0x110400 = 0 →
    becomes .modeStepComplete s (((((s.dev.put 0x110200 (setFld (setFld (s.dev.get 0x110200) 7 4 0) 0 0 0)).put 0x110100 6).raise 1).outSettle.hpSettle.auxSettle).modeGo)) ∧
  (∀ (s : State) (t : Nat), s.dev.sup.causesClear = some t → t + 1000000000 ≤ s.dev.now → s.dev.mode = 9 → s.dev.get 0x110400 = 0 → s.dev.get 0x110500 = 1 →
    becomes .safeReturn s (((((({ s.dev with pwr := { s.dev.pwr with dieMute := 0 }, sup := { s.dev.sup with causesClear := none } } : Dev).put 0x110000 s.dev.sup.heldMode).raise 10).put 0x110100 s.dev.sup.heldMode).raise 1).outSettle.hpSettle.auxSettle.modeGo)) ∧
  (∀ m t, (2 ≤ m ∧ m ≤ 8 ∨ m = 11) → (2 ≤ t ∧ t ≤ 8 ∨ t = 11) → m ≠ t →
    ((m, pathNext m t) ∈ [(2, 3), (3, 2), (3, 4), (4, 3), (4, 5), (4, 11), (5, 4), (5, 6), (5, 7), (5, 8), (6, 5), (6, 7), (7, 5), (7, 6), (8, 5), (11, 4)])
      ∧ ∃ n ≤ 6, Nat.rec m (fun _ x => if x = t then x else pathNext x t) n = t)

/-- Resets (R83 to R88): each source's reset with the kind it leaves in 1120.00, the two that are held until a pin or VIN allows, and the SOFT and DOMAIN resets with their ends. Where the spec leaves a reading open, the one taken is the model's: assumption log, entry 22.
The host watchdog (R77): a write of its period or a kick starts it anew and ends cause [7]; its end raises EV9, and with action 1 sets cause [7]. Where the spec leaves a reading open, the one taken is the model's: assumption log, entry 9. -/
def Obligations.ResetsAndWatchdog : Prop :=
  (∀ (s : State) (twin : Bool), s.dev.sup.vinDown = false → becomes (.por twin) s (({ s.dev with twin := { s.dev.twin with id := twin } } : Dev).resetNow 0 false)) ∧
  (∀ (s : State) (twin : Bool), s.dev.sup.vinDown = true →
    becomes (.por twin) s (({ s.dev with sup := { s.dev.sup with vinDown := false }, twin := { s.dev.twin with id := twin } } : Dev).resetNow 1 false)) ∧
  (∀ s : State, s.dev.sup.vinDown = false → becomes .bor s (({ s.dev with sup := { s.dev.sup with vinDown := true } } : Dev).resetHold 1 false)) ∧
  (∀ s : State, s.dev.sup.resetLow = false → s.dev.sup.vinDown = false → becomes .pinReset s (({ s.dev with sup := { s.dev.sup with resetLow := true } } : Dev).resetHold 2 false)) ∧
  (∀ s : State, s.dev.sup.resetLow = true → s.dev.sup.vinDown = false → becomes .resetNRelease s ({ s.dev with sup := { s.dev.sup with resetLow := false } } : Dev).bringUpAo) ∧
  (∀ s : State, s.dev.sup.coreOn = true → becomes .supervisorWatchdogExpiry s (s.dev.resetNow 3 false)) ∧
  (∀ s : State, s.dev.sup.coreOn = true → becomes .lockstepMismatch s (s.dev.resetNow 3 true)) ∧
  (∀ s : State, s.dev.sup.coreOn = true → becomes .coreSupply s (s.dev.resetNow 6 false)) ∧
  (∀ (a : Access) (v : Nat), writes (.softReset a v) a 0x112100 v (fun _ => True)
    (fun d => ((({ d with sup := { d.sup with soft := some v }, lat := { d.lat with stopping := true } } : Dev).leaveBegin).pwrGo false))) ∧
  (∀ (s : State) (v : Nat), s.dev.sup.soft = some v → s.dev.leavePends = false → s.dev.pwrOff = true →
    gives .softResetCoreRestart s (fun d => d.mode = 1 ∧ d.get 0x110000 = v ∧ d.get 0x112000 = 4 + 256 * s.dev.mode ∧ d.sup.soft = none ∧ d.sup.coreOn = false)) ∧
  (∀ (a : Access) (n : Nat), writes (.domainReset a n) a 0x112200 n (fun _ => True) (Dev.domainReset n)) ∧
  (∀ s : State, s.dev.stores = [] → s.dev.sup.restarts = [5] → s.dev.sup.coreOn = true →
    becomes (.domainResetDone 5) s ((((({ s.dev with sup := { s.dev.sup with restarts := [] } } : Dev).setReady (2 ^ 5) 0).portStates 3)).raise 13)) ∧
  (∀ (a : Access) (v : Nat), v ≠ 0 → writes (.hostWdtPeriod a v) a 0x112500 v (fun _ => True)
    (fun d => ((({ d.put 0x112500 v with sup := { d.sup with wdtAt := some (d.now + v * 1000000) } } : Dev).causeClear 7).outSettle.hpSettle))) ∧
  (∀ a : Access, writes (.hostWdtPeriod a 0) a 0x112500 0 (fun d => d.bitOf 0x110400 7 = false)
    (fun d => (({ d.put 0x112500 0 with sup := { d.sup with wdtAt := none } } : Dev).outSettle.hpSettle))) ∧
  (∀ a : Access, writes (.hostWdtKick a) a 0x112600 1 (fun d => d.get 0x112500 ≠ 0)
    (fun d => ((({ d with sup := { d.sup with wdtAt := some (d.now + d.get 0x112500 * 1000000) } } : Dev).causeClear 7).outSettle.hpSettle))) ∧
  (∀ (s : State) (t : Nat), s.dev.sup.wdtAt = some t → t ≤ s.dev.now → s.dev.get 0x112700 = 0 →
    becomes .hostWdtExpiry s (({ s.dev with sup := { s.dev.sup with wdtAt := none } } : Dev).raise 9)) ∧
  (∀ (s : State) (t : Nat), s.dev.sup.wdtAt = some t → t ≤ s.dev.now → s.dev.get 0x112700 = 1 →
    becomes .hostWdtExpiry s (((({ s.dev with sup := { s.dev.sup with wdtAt := none } } : Dev).raise 9).causeSet 7).outSettle.hpSettle))

/-- Bring-up (R78 to R82): the release of the Core domain, and a wake step refused with SUPPLY when the rails have not come within 100 ms. Where the spec leaves a reading open, the one taken is the model's: assumption log, entry 23.
After a POR (R83, R84, Table 3-11): the kind in 1120.00 is POR with no previous mode, the part is in BRINGUP with its Core domain off or, where 1103.00 says so, in DORMANT, and every object not of class P has its default. Where the spec leaves a reading open, the one taken is the model's: assumption log, entries 5 and 22. -/
def Obligations.BringUpAndPor : Prop :=
  (∀ (s : State) (erased : Bool), s.dev.stores = [] → s.dev.sup.coreOn = false → s.dev.sup.resetLow = false → s.dev.sup.vinDown = false → s.dev.mode = 1 →
    exec (.coreRelease erased) s = .next { s with mem := memWriteAll ((({ s.dev with sec := { s.dev.sec with eraseBad := !erased } } : Dev).bringUp s.mem).stores) s.mem,
                                                  dev := { (({ s.dev with sec := { s.dev.sec with eraseBad := !erased } } : Dev).bringUp s.mem) with stores := [] } }) ∧
  (∀ (s : State) (t : Nat), s.dev.sup.railAt = some t → t + 100000000 ≤ s.dev.now → s.dev.mode = 3 → s.dev.inStep = true → s.dev.sup.coreOn = false →
    becomes .railTimeout s ((((({ s.dev with sup := { s.dev.sup with railAt := none } } : Dev).put 0x110200 (setFld (setFld (setFld (s.dev.get 0x110200) 7 4 0) 0 0 0) 15 8 4)).put 0x110000 3)).raise 7)) ∧
  (∀ (s : State) (twin : Bool) (t : State), s.dev.sup.resetLow = false → s.dev.sup.vinDown = false → exec (.por twin) s = .next t →
    t.dev.get 0x112000 = 0 ∧ t.dev.sup.coreOn = false ∧ (t.dev.mode = 1 ∨ t.dev.mode = 2 ∧ s.dev.get 0x110300 = 2) ∧ t.dev.st.staged = [] ∧ t.dev.st.stagedBlob = [])

/-- The snapshot and wake (R91 to R95): a store asked for is busy, a store that completes makes its slot the newest with its time, and EV12; a wake source that is enabled, and the wake timer, leave LISTEN and raise EV14. Where the spec leaves a reading open, the one taken is the model's: assumption log, entries 16 and 32.
Supplies (R74, R490 to R492): what a warning, a fault and a return of VIN, a supply out of range and the loss and return of VDDIO banks do. Where the spec leaves a reading open, the one taken is the model's: assumption log, entry 25. -/
def Obligations.SnapshotWakeSupplies : Prop :=
  (∀ a : Access, writes (.snapshotStore a) a 0x113100 1 (fun _ => True)
    (fun d => ({ d with sup := { d.sup with capture := true } } : Dev).put 0x113300 (setBit (d.get 0x113300) 4 true))) ∧
  (∀ s : State, s.dev.sup.storing = some 1 →
    becomes .snapshotStoreDone s (((({ s.dev with sup := { s.dev.sup with storing := none, newest := 1, slot1 := { s.dev.sup.slot1 with valid := true } } } : Dev).put 0x113200 s.dev.sup.slot1.time).put 0x113300
      (setFld (setBit (s.dev.get 0x113300) 0 true) 4 4 0)).raise 12)) ∧
  (∀ (s : State) (sources : Nat), s.dev.mode = 3 → s.dev.inStep = false → sources &&& s.dev.get 0x114000 &&& 0x3E ≠ 0 →
    becomes (.wake sources) s ((((({ s.dev with sup := { s.dev.sup with wakeAt := none } } : Dev).put 0x114200 (sources &&& s.dev.get 0x114000 &&& 0x3E)).raise 14).put 0x110000 (s.dev.get 0x114300)).modeGo)) ∧
  (∀ (s : State) (t : Nat), s.dev.sup.wakeAt = some t → t ≤ s.dev.now → s.dev.mode = 3 → s.dev.inStep = false → s.dev.bitOf 0x114000 4 = true →
    becomes .wakeTimerExpiry s ((((({ s.dev with sup := { s.dev.sup with wakeAt := none } } : Dev).put 0x114200 16).raise 14).put 0x110000 (s.dev.get 0x114300)).modeGo)) ∧
  (∀ s : State, s.dev.alive = true → becomes .vinWarn s (s.dev.raise 11)) ∧
  (∀ s : State, s.dev.ready 0 = true → becomes .vinUndervoltage s ((({ s.dev with sup := { s.dev.sup with vinLow := true } } : Dev).causeSet 1).outSettle.hpSettle)) ∧
  (∀ s : State, s.dev.ready 0 = false → becomes .vinUndervoltage s { s.dev with sup := { s.dev.sup with vinLow := true } }) ∧
  (∀ s : State, s.dev.ready 0 = true → becomes .vinOvervoltage s ((({ s.dev with sup := { s.dev.sup with vinHigh := true } } : Dev).causeSet 2).outSettle.hpSettle)) ∧
  (∀ s : State, becomes (.vinRecovery false) s ((({ s.dev with sup := { s.dev.sup with vinLow := false } } : Dev).causeClear 1).outSettle.hpSettle)) ∧
  (∀ s : State, becomes (.vinRecovery true) s ((({ s.dev with sup := { s.dev.sup with vinHigh := false } } : Dev).causeClear 2).outSettle.hpSettle)) ∧
  (∀ s : State, s.dev.alive = true → s.dev.bitOf 0x115200 2 = false → becomes .supplyOutOfRange s ((s.dev.put 0x115200 (setBit (s.dev.get 0x115200) 2 true)).raise 4)) ∧
  (∀ (s : State) (frame : Bool), becomes (.vddioLoss 1 frame) s { s.dev with sup := { s.dev.sup with vddio1 := false } }) ∧
  (∀ s : State, becomes (.vddioLoss 0 false) s { s.dev with sup := { s.dev.sup with vddio0 := false } }) ∧
  (∀ s : State, s.dev.sup.vddio0 = true → s.dev.alive = true →
    becomes (.vddioLoss 0 true) s (({ s.dev with sup := { s.dev.sup with vddio0 := false }, bus := { s.dev.bus with outSpi := .none } } : Dev).put 0x141000 (satAdd 32 (s.dev.get 0x141000) 1))) ∧
  (∀ s : State, becomes (.vddioReturn 0) s { s.dev with sup := { s.dev.sup with vddio0 := true } }) ∧
  (∀ s : State, becomes (.vddioReturn 1) s { s.dev with sup := { s.dev.sup with vddio1 := true } })

/-! Clocks -/

/-- The clock inputs and the SPLL (R99, R100, R113): a failed or returned input is reported, the SPLL lost with its input, and relocked; the loss of the SPLL coasts network time, drops the links, moves the media domains to the synthesiser and sets SAFE cause [0]. Where the spec leaves a reading open, the one taken is the model's: assumption log, entry 26. -/
def Obligations.SystemClock : Prop :=
  (∀ (s : State) (present : Bool) (f : Nat), s.dev.get 0x200300 = 0 →
    becomes (.inputMonitorFault false present f) s ((({ s.dev with clk := { s.dev.clk with xtal := false } } : Dev).monitorReport).spllLost 0)) ∧
  (∀ (s : State) (present : Bool) (f : Nat), s.dev.get 0x200300 = 0 →
    becomes (.inputMonitorFault true present f) s (({ s.dev with clk := { s.dev.clk with refPresent := present, refMilliHz := f } } : Dev).monitorReport)) ∧
  (∀ (s : State) (f : Nat), s.dev.clk.waitRef = false → becomes (.inputMonitorReturn false f) s (({ s.dev with clk := { s.dev.clk with xtal := true } } : Dev).monitorReport)) ∧
  (∀ (s : State) (f : Nat), s.dev.clk.waitRef = false →
    becomes (.inputMonitorReturn true f) s (({ s.dev with clk := { s.dev.clk with refPresent := true, refMilliHz := f } } : Dev).monitorReport)) ∧
  (∀ s : State, s.dev.ready 3 = true →
    let x : Dev := { s.dev.put 0x200400 (setFld (s.dev.clockReport.get 0x200400) 5 3 6) with clk := { s.dev.clk with relockOn := s.dev.get 0x200300, acq := none, adjacent := false, retryAt := none } }
    let y := (((((((x.setReady 0 (2 ^ 3)).coastFromSync).linkSet 0 0).linkSet 1 0).holdover).causeSet 0).outSettle.hpSettle.raise 16).inc 0x200600
    becomes .spllLoss s (y.bbMake 3 2 16 0 (y.get 0x200400) (y.get 0x200600))) ∧
  (∀ s : State, s.dev.ready 3 = false → s.dev.sup.coreOn = true → s.dev.sup.vdd33 = true → s.dev.clk.waitRef = false → s.dev.clk.relockOn = 0 → s.dev.clk.xtal = true → s.dev.ready 20 = true → s.dev.clk.run = true →
    let x : Dev := { s.dev.spllOn 0 with clk := { s.dev.clk with waitRef := false } }
    becomes .spllRelock s ((((x.raise 17).causeClear 0).outSettle.hpSettle).acquire)) ∧
  (∀ s : State, s.dev.sup.coreOn = true → s.dev.sup.vdd33 = true →
    becomes .vdd33Loss s ((((((({ s.dev with sup := { s.dev.sup with vdd33 := false } } : Dev).spllLost (s.dev.get 0x200300)).setReady 0 (2 ^ 4 + 2 ^ 15 + 2 ^ 16 + 2 ^ 23 + 2 ^ 24 + 2 ^ 25)).capStopAnalog).hpSettle).hkaRestart).auxSettle)) ∧
  (∀ s : State, s.dev.sup.coreOn = true → s.dev.sup.vdd33 = false →
    exec .vdd33Recovery s = .next (s.run (fun _ d => [4, 15, 16, 23, 24, 25].foldl (fun (a : Dev) n => if a.funcRuns n = true ∧ a.ready n = false then (if n = 4 then a.setReady (2 ^ 4) 0 else (a.setReady (2 ^ n) 0).funcStart n) else a)
      ({ d with sup := { d.sup with vdd33 := true } } : Dev))))

/-- Acquisition and the band scan of the media PLL (R107, R110): the attempt, the bands beside it, BAND_FAULT and its retry, the lock, and the scan from its start to its end. Where the spec leaves a reading open, the one taken is the model's: assumption log, entry 26. -/
def Obligations.Acquisition : Prop :=
  (∀ (s : State) (t : Nat), s.dev.stores = [] → s.dev.clk.acq = some t → s.dev.clk.scan = false → s.dev.ready 3 = true → s.dev.clk.run = true →
    becomes (.mpllLock none) s ((({ s.dev with clk := { s.dev.clk with acq := none, adjacent := false, retryAt := none } } : Dev).put 0x211100 (setBit (s.dev.get 0x211100) 4 false)).mpllReport)) ∧
  (∀ (s : State) (t b lo hi : Nat), s.dev.stores = [] → s.dev.clk.acq = some t → s.dev.clk.adjacent = true → s.dev.clk.scan = false → s.dev.ready 3 = true → s.dev.clk.run = true →
    gives (.mpllLock (some (b, lo, hi))) s (fun d => d.clk.acq = none ∧ d.get (key 0x2121 (s.dev.get 0x210300)) = b)) ∧
  (∀ (s : State) (t : Nat), s.dev.clk.acq = some t → s.dev.clk.scan = false → s.dev.ready 3 = true → s.dev.clk.run = false → s.dev.mode = 4 → s.dev.inStep = true → fld (s.dev.get 0x110200) 7 4 = 5 →
    exec (.mpllLock none) s = .next (s.run (fun _ d => ((({ d with clk := { d.clk with acq := none, adjacent := false, retryAt := none } } : Dev).put 0x211100 (setBit (d.get 0x211100) 4 false)).strobesStart).raise 19))) ∧
  (∀ (s : State) (t : Nat), s.dev.clk.acq = some t → s.dev.clk.adjacent = false → t + 400000 ≤ s.dev.now →
    becomes .acquisitionAttemptFail s { s.dev with clk := { s.dev.clk with adjacent := true } }) ∧
  (∀ (s : State) (t : Nat), s.dev.stores = [] → s.dev.clk.acq = some t → s.dev.clk.adjacent = true → t + 1200000 ≤ s.dev.now → s.dev.bitOf 0x211100 4 = false → s.dev.clk.run = true →
    becomes .bandFault s (((({ s.dev with clk := { s.dev.clk with acq := none, adjacent := false, retryAt := some (t + 100000000) } } : Dev).put 0x211100 (setBit (s.dev.get 0x211100) 4 true)).raise 20).mpllReport)) ∧
  (∀ (s : State) (t : Nat), s.dev.clk.retryAt = some t → t ≤ s.dev.now → s.dev.ready 3 = true →
    becomes .bandFaultRetry s (({ s.dev with clk := { s.dev.clk with acq := some s.dev.now, adjacent := false, retryAt := none } } : Dev).mpllReport)) ∧
  (∀ a : Access, writes (.bandScan a) a 0x213000 1 (fun _ => True) (fun d => ({ d with clk := { d.clk with scan := true } } : Dev).holdover)) ∧
  (∀ (s : State) (bands : List (Nat × Nat)), s.dev.ready 3 = true → s.dev.clk.scan = true → s.dev.clk.waitCommit = false → s.dev.clk.run = true →
    let x := (upto 16).foldl (fun (a : Dev) e => a.scanEntry bands e) s.dev
    becomes (.bandScanComplete bands) s ((({ x with clk := { s.dev.clk with scan := false } } : Dev).acquire).raise 23))

/-- Holdover and steering (R105, R109, R111, R112): the loss of lock, a return, 2 s of holdover, a slew that ends, the loss and return of the steering source, and the fallback taken and released. Where the spec leaves a reading open, the one taken is the model's: assumption log, entries 26 and 28. -/
def Obligations.HoldoverSteering : Prop :=
  (∀ s : State, s.dev.clk.run = true → s.dev.clk.acq = none → s.dev.clk.retryAt = none → s.dev.clk.scan = false → s.dev.ready 3 = true →
    becomes .mpllLockLoss s (((s.dev.put 0x211800 (satAdd 32 (s.dev.get 0x211800) 1)).acquire).holdover)) ∧
  (∀ (s : State) (t : Nat), s.dev.clk.hldAt = some t → s.dev.clk.held = false → s.dev.ready 3 = true →
    becomes .holdoverReturn s ((((({ s.dev with clk := { s.dev.clk with hldAt := none, hld2s := false } } : Dev).put 0x211600 (min ((s.dev.now - t) / 1000000) (2 ^ 32 - 1))).mpllReport)).raise 19)) ∧
  (∀ (s : State) (t : Nat), s.dev.clk.hldAt = some t → s.dev.clk.hld2s = false → t + 2000000000 ≤ s.dev.now →
    becomes .holdover2s s (({ s.dev with clk := { s.dev.clk with hld2s := true } } : Dev).raise 21)) ∧
  (∀ s : State, s.dev.clk.slewing = true → s.dev.clk.acq = none → s.dev.clk.retryAt = none → s.dev.ready 3 = true →
    becomes .slewComplete s (({ s.dev with clk := { s.dev.clk with slewing := false, word := s.dev.get 0x210100 * 2 ^ 32 + s.dev.get 0x210200 } } : Dev).mpllReport)) ∧
  (∀ s : State, s.dev.clk.run = true → s.dev.bitOf 0x211100 5 = false → s.dev.bitOf 0x211100 2 = true → s.dev.steerValid = false →
    becomes .steeringSourceLost s (({ s.dev.put 0x211100 (setBit (s.dev.get 0x211100) 2 false) with clk := { s.dev.clk with srcLost := true, lostAt := some s.dev.now } } : Dev).holdover)) ∧
  (∀ s : State, s.dev.clk.run = true → s.dev.bitOf 0x211100 5 = false → s.dev.bitOf 0x211100 2 = false → s.dev.steerValid = true →
    becomes .steeringSourceValid s (({ s.dev.put 0x211100 (setBit (s.dev.get 0x211100) 2 true) with clk := { s.dev.clk with srcLost := false, lostAt := none } } : Dev).holdoverEnd)) ∧
  (∀ (s : State) (t : Nat), s.dev.clk.lostAt = some t → s.dev.clk.srcLost = true → s.dev.get 0x211200 ≠ 0 → s.dev.bitOf 0x211100 5 = false → t + s.dev.get 0x211300 * 1000000 ≤ s.dev.now →
    let x := (({ s.dev with clk := { s.dev.clk with srcLost := false, lostAt := none } } : Dev).mpllCommit).putBit 0x211100 5 true
    let y := x.modClk (fun c => { c with primaryAt := if x.primaryValid then some x.now else none })
    becomes .fallbackTaken s ((y.putBit 0x211100 2 y.steerValid).raise 22)) ∧
  (∀ (s : State) (t : Nat), s.dev.clk.primaryAt = some t → s.dev.bitOf 0x211100 5 = true → s.dev.primaryValid = true → t + 1000000000 ≤ s.dev.now →
    let x := ({ s.dev with clk := { s.dev.clk with srcLost := false, lostAt := none } } : Dev).mpllCommit
    becomes .fallbackRelease s ((x.putBit 0x211100 2 x.steerValid).raise 22))

/-! Network time, the Locus table and the event-to-action queue -/

/-- The measurements of network time (R118 to R125): a Sync while SYNCED moves the servo, the third measurement of a new master confirms the median as a jump, and no Sync or Announce coasts; a slew that has run out is SYNCED again;
a master qualifies, or the device becomes grandmaster. Where the spec leaves a reading open, the one taken is the model's: assumption log, entries 27 and 29. -/
def Obligations.TimeStates : Prop :=
  (∀ (s : State) (off : Int) (delay : Nat), s.dev.timeReady = true → s.dev.get 0x222000 ≠ 0 → s.dev.twinRole ≠ 2 → s.dev.get 0x220500 = 3 → s.dev.tim.fresh = false → off.natAbs ≤ 1000 →
    becomes (.sync off delay) s (Dev.servoMove { (s.dev.put 0x223400 (delay % 2 ^ 32)).putI 32 0x220600 off with tim := { s.dev.tim with lastSync := some s.dev.now, meas := [] } })) ∧
  (∀ (s : State) (off x y : Int) (delay : Nat), s.dev.timeReady = true → s.dev.get 0x222000 ≠ 0 → s.dev.twinRole ≠ 2 → s.dev.get 0x220500 = 2 → s.dev.tim.meas = [x, y] →
    becomes (.sync off delay) s (Dev.jump (median3 x y off) false { (s.dev.put 0x223400 (delay % 2 ^ 32)).putI 32 0x220600 off with tim := { s.dev.tim with lastSync := some s.dev.now } })) ∧
  (∀ s : State, s.dev.get 0x220500 = 5 → s.dev.tim.remain = 0 → s.dev.tim.slew = 0 →
    becomes .slewProfileEnd s (((({ s.dev with clk := { s.dev.clk with timeSlew := false } } : Dev).raise 26).put 0x220500 3).raise 25).holdoverEnd) ∧
  (∀ (s : State) (gm steps port : Nat), s.dev.timeReady = true → s.dev.twinRole ≠ 2 → s.dev.get 0x222000 ≠ 0 → s.dev.get 0x220500 = 0 → s.dev.get 0x223200 ≠ gm →
    becomes (.announceMessage false gm steps port) s
      ((({ ((((s.dev.put 0x223200 gm).put 0x223300 steps).put 0x223100 port).raise 27) with
            tim := { s.dev.tim with announceAt := some (s.dev.now + s.dev.announceTimeout), fresh := true, meas := [], master := true, lastSync := some s.dev.now } } : Dev).put 0x220500 2).raise 25 |>.portStates 7)) ∧
  (∀ (s : State) (gm steps port : Nat), s.dev.timeReady = true → s.dev.twinRole = 0 → s.dev.twinState ≠ 3 → s.dev.get 0x222000 ≠ 0 → s.dev.get 0x222500 = 1 → s.dev.get 0x220500 = 0 →
    becomes (.announceMessage true gm steps port) s
      (((((({ s.dev with tim := { s.dev.tim with master := false, fresh := false, meas := [], slew := 0, remain := 0, ppsFirst := false, ppsRun := 0 } } : Dev).put 0x223200 (eui64 (s.dev.get 0x330000))).put 0x223300 0).put 0x223100 0).raise 27).put 0x220500 6
        |>.raise 25 |>.portStates 5)) ∧
  (∀ (s : State) (t : Nat), s.dev.tim.announceAt = some t → t ≤ s.dev.now → s.dev.get 0x223100 ≠ 0 → s.dev.get 0x220500 = 0 →
    becomes (.announceReceiptTimeout false) s ((((({ s.dev with tim := { s.dev.tim with announceAt := none, master := false, fresh := false, meas := [] } } : Dev).put 0x223100 0).raise 27)).portStates 3)) ∧
  (∀ (s : State) (t : Nat), s.dev.tim.lastSync = some t → t + s.dev.syncIntervals 3 ≤ s.dev.now → s.dev.get 0x220500 = 3 →
    becomes .syncTimeout s (((({ s.dev with tim := { s.dev.tim with slew := 0, remain := 0, meas := [], master := false, fresh := false, lastSync := none } } : Dev).put 0x220500 4)).raise 25))

/-- Steps, PPS_OUT and TIME_CAP (R116, R128, R130, R131): a time written is a step at the next tick while no audio runs; the step sets the counter and advances the epoch; the strobes reload; TIME_NOW latches the rest of the counter;
a pulse rises and falls; an edge is captured, and read once. Where the spec leaves a reading open, the one taken is the model's: assumption log, entries 27 and 30. -/
def Obligations.TimeSteps : Prop :=
  (∀ a : Access, readsNum (.timeNow a) a 0x220000 (fun d => a.staged = false ∧ d.sup.coreOn = true) (fun d => d.tim.sec * 1000000000 + d.tim.ns)
    (fun d => { d with tim := { d.tim with latSec := d.tim.sec, latNs := d.tim.ns, latFrac := d.tim.frac } })) ∧
  (∀ (a : Access) (v : Nat), writes (.timeSet a v) a 0x221000 v (fun d => d.tim.step = none ∧ d.audioRuns = false) (fun d => { d with tim := { d.tim with step := some (d.now + 4, .value v) } })) ∧
  (∀ (a : Access) (v : Nat), writes (.timeSet a v) a 0x221000 v (fun d => d.tim.step = none ∧ d.audioRuns = true) (fun d => { d with tim := { d.tim with step := some (d.now + 5000000, .value v) } })) ∧
  (∀ (s : State) (t v : Nat), s.dev.tim.step = some (t, .value v) → t ≤ s.dev.now → s.dev.med.run = false → s.dev.ready 12 = false → v / 1000000000 < 2 ^ 48 →
    gives .epochStep s (fun d => d.time64 = v ∧ d.tim.frac = 0 ∧ d.tim.step = none ∧ d.get 0x220200 = (s.dev.get 0x220200 + 1) % 2 ^ 32 ∧ d.get 0x220300 = v ∧ d.get 0x220400 = s.dev.time64)) ∧
  (∀ (s : State) (t : Nat), s.dev.tim.reload = some t → t ≤ s.dev.now → s.dev.med.run = false →
    becomes .strobeReload s { s.dev with tim := { s.dev.tim with reload := none }, clk := { s.dev.clk with timeSlew := false },
                                         med := { s.dev.med with index := boundaryAt s.dev.fs s.dev.time64 - 1, invOnce := true } }) ∧
  (∀ (s : State) (n m r : Nat), s.dev.timeReady = true → s.dev.ppsNominal = some n → s.dev.tim.ppsNom = some m → m < n → s.dev.tim.ppsRise = some r → s.dev.ppsPeriod ≤ 2 * (s.dev.now - r) → s.dev.tim.pps = false →
    becomes .ppsOutEdge s { s.dev with tim := { s.dev.tim with ppsNom := some n, pps := true, ppsRise := some s.dev.now, ppsFall := some (s.dev.now + s.dev.get 0x226100) } }) ∧
  (∀ (s : State) (t : Nat), s.dev.tim.ppsFall = some t → t ≤ s.dev.now → becomes .ppsOutFall s { s.dev with tim := { s.dev.tim with pps := false, ppsFall := none } }) ∧
  (∀ (s : State) (back : Nat), s.dev.timeReady = true → s.dev.get 0x225000 = 1 → s.dev.tim.caps ≠ [] → s.dev.tim.caps.length < 16 →
    becomes (.timeCapEdge true back) s (({ s.dev with tim := { s.dev.tim with caps := s.dev.tim.caps ++ [{ time := s.dev.time64 - back % 4, epoch := s.dev.get 0x220200, rising := true }] } } : Dev).raise 28)) ∧
  (∀ (s : State) (back : Nat), s.dev.timeReady = true → s.dev.get 0x225000 = 2 → s.dev.tim.caps.length = 16 →
    becomes (.timeCapEdge false back) s ((s.dev.put 0x225300 (satAdd 32 (s.dev.get 0x225300) 1)).raise 28)) ∧
  (∀ (s : State) (t : Nat), s.dev.tim.ppsSeen = some t → s.dev.get 0x220500 = 7 → t + 3000000000 ≤ s.dev.now →
    becomes .ppsDisciplineLoss s ((({ s.dev with tim := { s.dev.tim with ppsRun := 0 } } : Dev).put 0x220500 6).raise 25)) ∧
  (∀ (a : Access) (c : CapRec) (l : List CapRec), a.staged = false → a.offset = 0 → 16 ≤ a.length → readsBytes (.capEntry a) a 0x225200 (fun d => d.sup.coreOn = true ∧ d.tim.caps = c :: l) (fun _ => c.bytes)
    (fun d => ({ d with tim := { d.tim with caps := l } } : Dev).genUp 0x225200))

/-- The Locus table (R132 to R134, R302): an entry written is armed after those of the same TIME, an entry of action 0 frees its slot, and a clear leaves exactly the scheduled commits. Where the spec leaves a reading open, the one taken is the model's: assumption log, entry 31.
Table order (R132): an entry armed stands after every entry of an earlier or equal TIME and before every later one, in a table that is in order; every other entry keeps its place. Where the spec leaves a reading open, the one taken is the model's: assumption log, entry 31.
Due Locus entries and queued actions (R134, R135, R138, R139, Table 5-11): the first due entry's action runs and the entry is done with its code. Where the spec leaves a reading open, the one taken is the model's: assumption log, entries 12 and 31. -/
def Obligations.Locus : Prop :=
  (∀ (a : Access) (ee : Nat) (b : List Byte), ee < 256 → (locusOf ee b).action ≠ 0 → writesBytes (.entry a ee) a (0x231000 + ee) b (fun _ => True)
    (fun d => { d.genUp (0x231000 + ee) with loc := { d.loc with table := locusInsert { locusOf ee b with order := d.loc.armed } (d.loc.table.filter (fun e => e.slot != ee)), armed := d.loc.armed + 1 } })) ∧
  (∀ (a : Access) (ee : Nat) (b : List Byte) (e : LEntry), ee < 256 → (locusOf ee b).action = 0 → writesBytes (.entry a ee) a (0x231000 + ee) b (fun d => d.locusSlot ee = some e)
    (fun d => ({ d with loc := { d.loc with table := d.loc.table.filter (fun e => e.slot != ee) } } : Dev).genUp (0x231000 + ee))) ∧
  (∀ a : Access, writes (.locusClear a) a 0x230200 1 (fun _ => True) Dev.locusClear) ∧
  (∀ d : Dev, (d.loc.table.map (·.slot)).Nodup → d.locusClear.loc.table = d.loc.table.filter (fun e => e.action == 2) ∧ d.locusClear.st.obj = d.st.obj) ∧
  (∀ (e : LEntry) (l : List LEntry), l.Pairwise (fun x y => x.time ≤ y.time) →
    (locusInsert e l).Pairwise (fun x y => x.time ≤ y.time) ∧ locusInsert e l = l.filter (fun x => x.time ≤ e.time) ++ e :: l.filter (fun x => e.time < x.time)) ∧
  (∀ (s : State) (e : LEntry) (d : Dev), s.dev.stores = [] → s.dev.firstDue true = some e → e.action = 1 →
    s.dev.writeObj s.mem [] { path := .locus, hold := bit e.flags 3, data := leBytes (e.target % 256 % 256) e.value } (e.target / 256) = (0, d) → d.stores = [] → becomes (.locusWrite false) s (d.locusDone e 0)) ∧
  (∀ (s : State) (e : LEntry), s.dev.firstDue true = some e → e.action = 2 → s.dev.groupHere e.target = true → s.dev.groupFails e.target = none →
    becomes .locusCommit s (((s.dev.groupTake e.target).putBit (key 0x1202 e.target) 2 false).locusDone e 0)) ∧
  (∀ (s : State) (e : LEntry), s.dev.firstDue false = some e → e.action = 3 → becomes (.locusLoad false) s ((s.dev.auxLoad (e.target % 256)).locusDone e 0)) ∧
  (∀ (s : State) (e : LEntry), s.dev.firstDue false = some e → e.action = 4 → becomes (.locusGateSwap false) s ((s.dev.gateSwap (e.target % 4)).locusDone e 0)) ∧
  (∀ (s : State) (e : LEntry) (d : Dev), s.dev.firstDue true = some e → e.action = 5 → s.dev.swapAction (e.target % 256) (key 0x2310 e.slot) = (d, 0) → becomes (.locusImageSwap false) s (d.locusDone e 0)) ∧
  (∀ (s : State) (e : LEntry) (d : Dev), s.dev.firstDue true = some e → e.action = 6 → s.dev.writeObj s.mem [] { path := .locus, data := leBytes 1 (e.target % 256) } 0x110000 = (0, d) →
    becomes (.locusMode false) s (d.locusDone e 0)) ∧
  (∀ (s : State) (e : LEntry), s.dev.firstDue false = some e → e.action = 7 → s.dev.gpioFunc (fld e.target 3 0) = 3 → bit e.target 9 = false →
    becomes (.locusGpio false) s ((s.dev.putBit 0x140300 (fld e.target 3 0) (bit e.target 8)).locusDone e 0)) ∧
  (∀ (s : State) (e : LEntry), s.dev.firstDue false = some e → e.action = 8 → becomes (.locusEvent false) s (((s.dev.put 0x230500 e.tag).raise 31).locusDone e 0)) ∧
  (∀ (s : State) (q : QAct) (l : List QAct), s.dev.evt.queue = q :: l → q.action = 8 →
    becomes (.locusEvent true) s ((({ s.dev with evt := { s.dev.evt with queue := l } } : Dev).put 0x230500 q.tag).raiseQuiet 31))

/-! Events, interrupt pins and GPIO -/

/-- The event fabric and its pins (R138, R473 to R475): an entry written is kept with its reserved fields 0; each 1 written to EV_CLEAR clears its flag; masks and configuration settle the pins; a pulse and its gap end. Where the spec leaves a reading open, the one taken is the model's: assumption log, entry 59.
GPIO pins (R476, R477): a change of function forgets the level, OUT drives the OUTPUT pins, the first qualified level makes no edge and a selected change makes one, edge flags clear, and an action record is kept. Where the spec leaves a reading open, the one taken is the model's: assumption log, entry 59. -/
def Obligations.EventsAndGpio : Prop :=
  (∀ (a : Access) (ee : Nat) (b : List Byte), ee < 64 → writesBytes (.e2aEntry a ee) a (0x134000 + ee) b (fun _ => True)
    (Dev.putBlob (0x134000 + ee) (leBytes 2 (fieldAt 0 2 b) ++ leBytes 2 (fieldAt 2 1 b % 8) ++ slice 4 14 b ++ zeros 6))) ∧
  (∀ (a : Access) (k mask : Nat), k < 4 → writes (.evClear a k mask) a (0x130300 + k) mask (fun _ => True) (fun d => (d.put (0x130200 + k) (clearBits (d.get (0x130200 + k)) mask)).irqSettle)) ∧
  (∀ (a : Access) (n k mask : Nat), n < 4 → k < 4 → writes (.irqMask a n k mask) a (0x131000 + 256 * n + k) mask (fun _ => True) (fun d => (d.put (0x131000 + 256 * n + k) mask).irqSettle)) ∧
  (∀ (a : Access) (n : Nat), n < 4 → writes (.irqConfig a n 1) a (0x131400 + n) 1 (fun d => d.get (0x131400 + n) = 0) (fun d => (d.put (0x131400 + n) 1).irqSettle)) ∧
  (∀ (a : Access) (n : Nat), n < 4 → writes (.irqConfig a n 0) a (0x131400 + n) 0 (fun d => d.get (0x131400 + n) = 1)
    (fun d => ({ d.put (0x131400 + n) 0 with evt := { d.evt with pulses := modNth (fun _ => {}) d.evt.pulses n } } : Dev).irqSettle)) ∧
  (∀ (s : State) (n : Nat), n < 4 → (nthD {} s.dev.evt.pulses n).phase = 1 → (nthD {} s.dev.evt.pulses n).endAt ≤ s.dev.now →
    becomes (.irqPulseEnd n) s ({ s.dev with evt := { s.dev.evt with pulses := modNth (fun q => { q with phase := 2, endAt := s.dev.now + s.dev.get (key 0x1315 n) }) s.dev.evt.pulses n } } : Dev).irqSettle) ∧
  (∀ (s : State) (n : Nat), n < 4 → (nthD {} s.dev.evt.pulses n).phase = 2 → (nthD {} s.dev.evt.pulses n).endAt ≤ s.dev.now →
    becomes (.irqGapEnd n) s
      ({ s.dev with evt := { s.dev.evt with pulses := modNth (fun q => if q.more then { phase := 1, endAt := s.dev.now + s.dev.get (key 0x1315 n), more := false } else {}) s.dev.evt.pulses n } } : Dev).irqSettle) ∧
  (∀ (a : Access) (g v : Nat), g < 16 → writes (.gpioFunc a g v) a (0x140000 + g) v (fun d => d.get (0x140000 + g) ≠ v)
    (fun d => let x := (d.put (0x140000 + g) v).putBit 0x140200 g false
      { x with evt := { d.evt with gpioKnown := setBit d.evt.gpioKnown g false } })) ∧
  (∀ (a : Access) (v : Nat), writes (.gpioOut a v) a 0x140300 v (fun _ => True)
    (fun d => (upto 16).foldl (fun (a : Dev) g => if a.gpioFunc g = 2 ∧ ¬ (g = 14 ∧ a.get 0x114500 = 1) then a.putBit 0x140300 g (bit v g) else a) d)) ∧
  (∀ (s : State) (g : Nat) (level : Bool), g < 16 → s.dev.sup.vddio0 = true → s.dev.gpioFunc g = 1 → bit s.dev.evt.gpioKnown g = false →
    becomes (.gpioEdge g level) s (({ s.dev with evt := { s.dev.evt with gpioKnown := setBit s.dev.evt.gpioKnown g true } } : Dev).putBit 0x140200 g level)) ∧
  (∀ (s : State) (g : Nat), 8 ≤ g → g < 16 → s.dev.sup.vddio0 = true → s.dev.gpioFunc g = 1 → bit s.dev.evt.gpioKnown g = true → s.dev.bitOf 0x140200 g = false → bit (fld (s.dev.get (key 0x1401 g)) 4 3) 0 = true →
    s.dev.ready 28 = false →
    becomes (.gpioEdge g true) s ({ ((s.dev.putBit 0x140200 g true).putBit 0x140400 g true).put (key 0x1406 g) (satAdd 32 (s.dev.get (key 0x1406 g)) 1) with evt := { s.dev.evt with gpioHeld := s.dev.evt.gpioHeld ++ [g] } })) ∧
  (∀ (a : Access) (mask : Nat), writes (.gpioEdgeClear a mask) a 0x140500 mask (fun _ => True) (fun d => (d.put 0x140400 (clearBits (d.get 0x140400) mask)).irqSettle)) ∧
  (∀ (a : Access) (g : Nat) (b : List Byte), g < 16 → writesBytes (.gpioAction a g) a (0x140700 + g) b (fun _ => True)
    (Dev.putBlob (0x140700 + g) (leBytes 2 (fieldAt 0 2 b) ++ leBytes 2 (fieldAt 2 1 b % 8) ++ slice 4 14 b ++ zeros 6)))

/-- An occurrence of an event (R471, R473, R475): its counter and its pending flag, and no other object but interrupt pins, flags and what enabled entries queue; while EVENTS is clear it is counted and held alone. Where the spec leaves a reading open, the one taken is the model's: assumption log, entry 59. -/
def Obligations.EventOccurs : Prop :=
  (∀ (d : Dev) (e : Nat), e < 128 → d.ready 28 = true → (d.e2aFor e) = [] →
    (d.raise e).bitOf (key 0x1302 (e / 32)) (e % 32) = true ∧ (d.get (key 0x1300 e) < 0xFFFFFFFF → (d.raise e).get (key 0x1300 e) = d.get (key 0x1300 e) + 1)
      ∧ (d.get (key 0x1300 e) = 0xFFFFFFFF → (d.raise e).get (key 0x1300 e) = 0xFFFFFFFF ∧ (d.raise e).bitOf (key 0x1301 (e / 32)) (e % 32) = true)
      ∧ (∀ k, k / 256 ∉ [0x1300, 0x1301, 0x1302, 0x1317] → (d.raise e).get k = d.get k)) ∧
  (∀ (d : Dev) (e : Nat), e < 128 → d.ready 28 = false → d.get (key 0x1300 e) < 0xFFFFFFFF →
    d.raise e = { d.put (key 0x1300 e) (d.get (key 0x1300 e) + 1) with evt := { d.evt with held := d.evt.held ++ [e] } })

/-! Ethernet -/

/-- Links (R143 to R145): a link takes a state it may take, an advertisement or a mode of port B written takes its link down first, and a magic packet in LISTEN wakes the device with EV34. Where the spec leaves a reading open, the one taken is the model's: assumption log, entry 33.
A link's change (R143, R145): its status is the code, its bit of A_STATUS follows, and a drop is counted; a link that stays as it was changes nothing. Where the spec leaves a reading open, the one taken is the model's: assumption log, entry 33. -/
def Obligations.Links : Prop :=
  (∀ (s : State) (code : Nat) (mdix master eee : Bool), s.dev.linkACan code = true →
    becomes (.linkA code mdix master eee) s
      ((((s.dev.linkSet 0 code).putBit 0x300300 1 (code ≠ 0 && mdix)).putBit 0x300300 2 (code = 3 && master)).putBit 0x300300 3 (code ≠ 0 && eee && ((s.dev.linkSet 0 code).mode = 3)))) ∧
  (∀ (s : State) (code : Nat), s.dev.linkBFits code = true → becomes (.linkB code) s (s.dev.linkSet 1 code)) ∧
  (∀ (a : Access) (v : Nat), writes (.aAdvertise a v) a 0x300100 v (fun _ => True) (fun d => (d.put 0x300100 (v &&& 7)).linkSet 0 0)) ∧
  (∀ (a : Access) (n v : Nat), n < 2 → writes (.bMode a n v) a (0x310000 + 256 * n) v (fun _ => True) (fun d => (d.put (0x310000 + 256 * n) v).linkSet 1 0)) ∧
  (∀ (a : Access) (v : Nat), writes (.bMode a 2 v) a 0x310200 v (fun _ => True) (fun d => (d.put 0x310200 (v &&& 3)).linkSet 1 0)) ∧
  (∀ (s : State) (b : List Byte), s.dev.wolA = true → s.dev.linkOf 0 ≠ 0 → s.dev.magic b = true → becomes (.magicPacket b) s ((s.dev.raise 34).wake (2 ^ 5) false)) ∧
  (∀ a : Access, a.staged = false → readsNum (.aStatus a) a 0x300300 (fun d => d.sup.coreOn = true) (fun d => d.get 0x300300) (fun d => d.put 0x300300 (setBit (d.get 0x300300) 4 false))) ∧
  (∀ (d : Dev) (code : Nat), d.get 0x300200 ≠ code → (d.linkSet 0 code).get 0x300200 = code ∧ (d.linkSet 0 code).bitOf 0x300300 0 = (code ≠ 0 : Bool)
    ∧ (d.linkSet 0 code).get 0x300500 = (if code = 0 then min (d.get 0x300500 + 1) (2 ^ 32 - 1) else d.get 0x300500)) ∧
  (∀ (d : Dev) (p : Nat), d.linkSet p (d.get (if p = 0 then 0x300200 else 0x310300)) = d)

/-- Frames at the switch (R148, R149, R156, R157): one with a bad FCS is counted and goes no further, a PAUSE frame of port A is consumed, one of a VLAN the port belongs to is forwarded by its destination; a frame of E is classified like one received;
a frame whose last byte has left its port counts as sent and is on the wire. Where the spec leaves a reading open, the one taken is the model's: assumption log, entries 34, 35 and 36.
Pause and gate lists (R146, R147, R151, R152): a quantum and its end, the watchdog and its holdoff, a list that starts, and the next entry of the operating list. Where the spec leaves a reading open, the one taken is the model's: assumption log, entry 34. -/
def Obligations.SwitchAndGates : Prop :=
  (∀ (s : State) (p age full : Nat) (b : List Byte), s.dev.switchOn = true → p < 2 → s.dev.linkOf p ≠ 0 → bit (s.dev.port p).bad 3 = true →
    becomes (.frameReceived p b false age full) s ((s.dev.add64 (key (0x3230 + p) 0) 1).add64 (key (0x3230 + p) 3) 1)) ∧
  (∀ (s : State) (age full : Nat) (b : List Byte), s.dev.switchOn = true → s.dev.linkOf 0 ≠ 0 → 60 ≤ b.length → b.length ≤ 1996 → etherType (untag b).2 = 0x8808 → beAt 14 2 (untag b).2 = 1 →
    becomes (.frameReceived 0 b true age full) s (((s.dev.add64 (key 0x3230 0) 1).add64 (key 0x3230 2) 1).putBit 0x300300 4 true)) ∧
  (∀ (s : State) (p age full e : Nat) (b : List Byte), s.dev.switchOn = true → p < 2 → s.dev.linkOf p ≠ 0 → 60 ≤ b.length → b.length ≤ 1996 → (untag b).1 = none → etherType b ≠ 0x8808 → s.dev.ptpStops b = false →
    s.dev.vlan (s.dev.get (key 0x3202 p)) = some e → bit (vlanMembers e) p = true →
    let x := ((s.dev.add64 (key (0x3230 + p) 0) 1).add64 (key (0x3230 + p) 1) 1).learn p (macSrc b)
    becomes (.frameReceived p b true age full) s (x.forward p age full b 0 e (x.destPorts p (macDst b) (vlanMembers e)) { bytes := [], cls := 0 })) ∧
  (∀ (s : State) (age full e : Nat) (b : List Byte) (ok : Bool) (f : QFrame) (l : List QFrame), s.dev.switchOn = true → s.dev.net.handed = f :: l → (untag f.bytes).1 = none → s.dev.vlan (s.dev.get 0x320202) = some e →
    bit (vlanMembers e) 2 = true →
    let x := ((({ s.dev with net := { s.dev.net with handed := l } } : Dev).add64 (key 0x3232 0) 1).add64 (key 0x3232 1) 1).learn 2 (macSrc f.bytes)
    becomes (.frameReceived 2 b ok age full) s (x.forward 2 0 full f.bytes 0 e (if f.port = 1 then 1 else if f.port = 2 then 2 else x.destPorts 2 (macDst f.bytes) (vlanMembers e)) f)) ∧
  (∀ (s : State) (t0 l0 e : Nat) (f : QFrame), (s.dev.port 0).tx = some (f, t0, l0, e) → e ≤ s.dev.now → (untag f.bytes).1 = none → f.rxAt = none → f.tsReq = false → f.ring = none → f.talker = none →
    let x := (s.dev.modPort 0 (fun n => { n with tx := none, idleAt := e + s.dev.byteTimes 0 12 })).add64 (key 0x3234 1) 1
    becomes (.frameTransmitted 0) s (({ x with net := { x.net with wireA := f.bytes ++ zeros (60 - f.bytes.length) } } : Dev).txKick 0)) ∧
  (∀ a : Access, writes (.addrFlush a 1) a 0x320500 1 (fun _ => True) (fun d => { d with net := { d.net with addrs := [], full := false } })) ∧
  (∀ s : State, let l := s.dev.net.addrs.filter (fun e => s.dev.now < e.2.2 + s.dev.get 0x320300 * 1000000000)
    becomes .addressAgeing s { s.dev with net := { s.dev.net with addrs := l, full := s.dev.net.full && (1024 ≤ l.length : Bool) } }) ∧
  (∀ (s : State) (q : Nat), s.dev.ready 8 = true → s.dev.get 0x310300 ≠ 0 → s.dev.get 0x310400 ≠ 0 → s.dev.net.pauseOff = none → s.dev.net.pauseEnd = none → q ≠ 0 →
    becomes (.pause q) s { s.dev with net := { s.dev.net with pauseEnd := some (s.dev.now + q * 512 * 1000000 / linkRate (s.dev.get 0x310300)), pausedAt := some s.dev.now } }) ∧
  (∀ (s : State) (t : Nat), s.dev.net.pauseEnd = some t → t ≤ s.dev.now →
    becomes .pauseQuantumEnd s (({ s.dev with net := { s.dev.net with pauseEnd := none, pausedAt := none } } : Dev).txKick 1)) ∧
  (∀ (s : State) (t e : Nat), s.dev.net.pausedAt = some t → s.dev.net.pauseEnd = some e → t + s.dev.get 0x310600 * 1000000 ≤ s.dev.now → s.dev.now ≤ e →
    becomes .pauseWatchdogTrip s (((({ s.dev with net := { s.dev.net with pauseEnd := none, pausedAt := none, pauseOff := some (s.dev.now + s.dev.get 0x310700 * 1000000) } } : Dev).put 0x310800
      (satAdd 32 (s.dev.get 0x310800) 1)).raise 43).txKick 1)) ∧
  (∀ (s : State) (t : Nat), s.dev.net.pauseOff = some t → t ≤ s.dev.now → becomes .pauseWdHoldoffEnd s { s.dev with net := { s.dev.net with pauseOff := none } }) ∧
  (∀ (s : State) (p c x : Nat) (g : GList), (s.dev.port p).pend = some (g, c) → s.dev.gateStartAt g c = some x → x ≤ s.dev.time64 →
    becomes (.gateListStart p) s (((s.dev.modPort p (fun n => { n with oper := { g with base := x }, pend := none, entry := 0, nextAt := x + (match g.entries with | e :: _ => e.2 | [] => 0) })).put (key 0x3214 p) x).raise 36)) ∧
  (∀ (s : State) (p : Nat), (s.dev.port p).oper.enable = true → (s.dev.port p).nextAt ≤ s.dev.time64 → (s.dev.port p).entry + 1 < (s.dev.port p).oper.entries.length →
    becomes (.gateEntryChange p) s
      (s.dev.modPort p (fun n => { n with entry := (s.dev.port p).entry + 1, nextAt := n.nextAt + (nthD (255, 0) n.oper.entries ((s.dev.port p).entry + 1)).2 })))

/-- Host rings, launch and timestamps (R159 to R163, R166, R167): a posting is given with the next SERIAL, a reap removes the oldest returned descriptor, disabling a ring flushes it, a launch frame whose time has come starts on its port,
and a timestamp record is read once. Where the spec leaves a reading open, the one taken is the model's: assumption log, entries 34 and 36. -/
def Obligations.RingsLaunch : Prop :=
  (∀ (a : Access) (r : Nat) (b : List Byte), 2 ≤ r → r < 4 → writesBytes (.post a r) a (0x333000 + r) b (fun _ => True)
    (fun d => (d.modRing r (fun g => { g with posted := g.posted ++ [{ buf := fieldAt 0 1 b, control := 0, port := fieldAt 2 1 b, len := min 512 (fieldAt 4 2 b), tsRef := fieldAt 8 2 b, serial := (d.ring r).serial, time := fieldAt 16 8 b }], serial := ((d.ring r).serial + 1) % 65536 })).add64 (key (0x3310 + r) 8) 1)) ∧
  (∀ (a : Access) (r : Nat) (b : List Byte), r < 2 → writesBytes (.post a r) a (0x333000 + r) b (fun _ => True)
    (fun d => ((d.modRing r (fun g => { g with posted := g.posted ++ [{ buf := fieldAt 0 1 b, control := fieldAt 1 1 b &&& 0x3F, port := fieldAt 2 1 b, len := min 512 (fieldAt 4 2 b), tsRef := fieldAt 8 2 b, serial := (d.ring r).serial, time := fieldAt 16 8 b }], serial := ((d.ring r).serial + 1) % 65536 })).add64 (key (0x3310 + r) 8) 1).ringPump r 256)) ∧
  (∀ (a : Access) (r : Nat) (x : Desc) (l : List Desc), r < 4 → a.staged = false → a.offset = 0 → 24 ≤ a.length →
    readsBytes (.reap a r) a (0x333100 + r) (fun d => d.sup.coreOn = true ∧ (d.ring r).reap = x :: l ∧ l.length < d.get (key (0x3310 + r) 0)) (fun _ => x.bytes r)
      (fun d => (d.modRing r (fun g => { g with reap := l })).genUp (0x333100 + r))) ∧
  (∀ (a : Access) (r : Nat), r < 4 → writes (.ringEnable a r 0) a (0x331001 + 256 * r) 0 (fun _ => True) (fun d => (d.put (0x331001 + 256 * r) 0).ringFlush r)) ∧
  (∀ (a : Access) (r : Nat), r < 4 → writes (.ringEnable a r 1) a (0x331001 + 256 * r) 1 (fun _ => True) (fun d => if r < 2 then (d.put (0x331001 + 256 * r) 1).ringPump r 256 else d.put (0x331001 + 256 * r) 1)) ∧
  (∀ (s : State) (t : Nat) (f : QFrame) (l : List QFrame), s.dev.net.media = f :: l → f.launch = some t → t ≤ s.dev.time64 → s.dev.time64 ≤ t + s.dev.get (key 0x3314 4) → s.dev.mayStart (f.port - 1) f = true →
    becomes (.launch 4) s ((({ s.dev with net := { s.dev.net with media := l } } : Dev).add64 (key (0x3234 + (f.port - 1)) 0) 1).txBegin (f.port - 1) f)) ∧
  (∀ (a : Access) (q : Nat) (x : TsRec) (l : List TsRec), q < 4 → a.staged = false → a.offset = 0 → 16 ≤ a.length →
    readsBytes (.tsRecord a q) a (0x335000 + q) (fun d => d.sup.coreOn = true ∧ nthD [] d.net.ts q = x :: l) (fun _ => leBytes 8 x.time ++ leBytes 4 x.epoch ++ leBytes 2 x.ref ++ leBytes 1 x.kind ++ zeros 1)
      (fun d => ({ d with net := { d.net with ts := modNth (fun _ => l) d.net.ts q } } : Dev).genUp (0x335000 + q)))

/-! Audio streams -/

/-- Talkers (R176 to R180): an enable resolves its destination, a boundary of its packet grid starts it with its first frame, a packet complete goes to ring 4 with its launch time, and a destination is resolved and refreshed. Where the spec leaves a reading open, the one taken is the model's: assumption log, entries 36 and 37. -/
def Obligations.Talkers : Prop :=
  (∀ (a : Access) (n : Nat), n < 16 → writes (.tsEnable a n 1) a (0x340000 + 256 * n) 1 (fun d => (d.talker n).run = false)
    (fun d => ((d.put (0x340000 + 256 * n) 1).modTalker n (fun t => if t.run then { t with stop := false } else { t with seq := none, report := none })).tsResolve n)) ∧
  (∀ (a : Access) (n : Nat), n < 16 → writes (.tsEnable a n 0) a (0x340000 + 256 * n) 0 (fun d => (d.talker n).run = false)
    (fun d => (d.put (0x340000 + 256 * n) 0).putBit (kTs n 0x28) 1 false)) ∧
  (∀ (s : State) (n : Nat), n < 16 → s.dev.streamsOn = true → s.dev.med.run = true → s.dev.get (kTs n 0) = 1 → (s.dev.talker n).run = false → s.dev.tsSet n = true → (s.dev.tsMac n).isSome = true →
    s.dev.tim.step = none → s.dev.tim.reload = none → s.dev.tsSpp n ≠ 0 → s.dev.med.index % s.dev.tsSpp n = 0 →
    becomes (.talkerStart n) s ((((s.dev.modTalker n (fun t => { t with run := true, stop := false, marker := true, start := s.dev.med.index, frames := [] })).putBit (kTs n 0x28) 0 true).raise 54).tsFrame n)) ∧
  (∀ (s : State) (n : Nat), n < 16 → n < s.dev.str.tx.length → (s.dev.talker n).run = true → (s.dev.talker n).stop = false → s.dev.tsSpp n ≠ 0 → (s.dev.talker n).frames.length = s.dev.tsSpp n →
    (s.dev.talker n).start + s.dev.tsSpp n ≤ s.dev.med.index → s.dev.get 0x700301 = 0 → s.dev.twin.launchFrom ≤ (s.dev.talker n).start → s.dev.get (kTs n 0x11) ≠ 0 →
    gives (.talkerPacketComplete n) s (fun d => (d.talker n).frames = [] ∧ (d.talker n).start = (s.dev.talker n).start + s.dev.tsSpp n ∧ (d.talker n).marker = false ∧ ∃ f : QFrame, d.net.media = s.dev.net.media ++ [f] ∧ f.talker = some n
      ∧ f.frames = s.dev.tsSpp n ∧ f.port = s.dev.get (kTs n 0x11) ∧ f.launch = some (boundaryTime s.dev.fs ((s.dev.talker n).start + s.dev.tsSpp n) + s.dev.get (kTs n 0x12)))) ∧
  (∀ (s : State) (n mac : Nat), n < 16 → s.dev.bitOf (kTs n 0x28) 1 = true → (s.dev.talker n).tryAt ≤ s.dev.now →
    becomes (.resolveRetry n (some mac)) s (((s.dev.modTalker n (fun t => { t with mac := some mac, fails := 0, refreshAt := s.dev.now + 60000000000 })).putBit (kTs n 0x28) 1 false).putBit (kTs n 0x28) 3 false)) ∧
  (∀ (s : State) (n : Nat), n < 16 → s.dev.bitOf (kTs n 0x28) 1 = true → (s.dev.talker n).tryAt ≤ s.dev.now → (s.dev.talker n).fails = 2 →
    becomes (.resolveRetry n none) s (((s.dev.modTalker n (fun t => { t with fails := 3, tryAt := s.dev.now + 1000000000 })).putBit (kTs n 0x28) 3 true).raise 54)) ∧
  (∀ (s : State) (n old mac : Nat), n < 16 → (s.dev.talker n).mac = some old → (s.dev.talker n).refreshAt ≤ s.dev.now →
    becomes (.resolveRefresh n (some mac)) s (s.dev.modTalker n (fun t => { t with refreshAt := s.dev.now + 60000000000, mac := some mac })))

/-- Listeners (R184 to R190): an enable with a committed set waits for packets, one disabled is OFF, an accepted packet of its sender takes its place in the buffer, one that came before is counted alone, a slot without a packet is lost, silence returns to WAITING,
and the two reads that clear. Where the spec leaves a reading open, the one taken is the model's: assumption log, entry 37. -/
def Obligations.Listeners : Prop :=
  (∀ (a : Access) (n : Nat), n < 16 → writes (.lsEnable a n 1) a (0x350000 + 256 * n) 1 (fun d => d.get (kLs n 0x28) = 0 ∧ d.streamsOn = true ∧ d.lsSet n = true ∧ d.lsGroup n = 0)
    (fun d => (d.put (0x350000 + 256 * n) 1).put (kLs n 0x28) 1)) ∧
  (∀ (a : Access) (n : Nat), n < 16 → writes (.lsEnable a n 0) a (0x350000 + 256 * n) 0 (fun _ => True) (fun d => (d.put (0x350000 + 256 * n) 0).lsOff n)) ∧
  (∀ (s : State) (n frac : Nat) (b : List Byte) (p : PktIn), n < 16 → s.dev.streamsOn = true → s.dev.lsOn n = true → s.dev.lsDest n (untag b).2 = true → s.dev.lsFilter n (untag b).2 = true → s.dev.get (kLs n 1) < 3 →
    s.dev.rtpRead n (untag b).2 = some p → p.pay.length = s.dev.lsSpp n * s.dev.get (kLs n 2) * fmtWidth (s.dev.get (kLs n 1)) → (s.dev.listener n).sender = some (p.src, p.id) →
    becomes (.listenerPacket n frac b) s (s.dev.lsAccept n frac p)) ∧
  (∀ (d : Dev) (n frac : Nat) (p : PktIn), n < d.str.rx.length → (p.seq, p.ts) ∈ (d.listener n).recent →
    d.lsAccept n frac p = Dev.lsEv51 n ((((((d.add64 (kLs n 0x30) 1).add64 (kLs n 0x20) (d.lsSpp n)).modListener n (fun l => { l with heard := some d.now })).add64 (kLs n 0x34) 1).add64 (kLs n 0x21) (d.lsSpp n)))) ∧
  (∀ (s : State) (n m : Nat), n < 16 → s.dev.streamsOn = true → (s.dev.listener n).missed = m + 1 →
    becomes (.lostPacket n) s (Dev.lsEv50 n ((s.dev.modListener n (fun l => { l with missed := l.missed - 1 })).add64 (kLs n 0x31) 1))) ∧
  (∀ (s : State) (n t : Nat), n < 16 → s.dev.streamsOn = true → (s.dev.listener n).heard = some t → 2 ≤ s.dev.get (kLs n 0x28) → t + 4 * s.dev.lsPacketNs n ≤ s.dev.now → becomes (.streamStop n) s (s.dev.lsWait n)) ∧
  (∀ (a : Access) (n : Nat), n < 16 → a.staged = false → readsNum (.lsStatus a n) a (0x350029 + 256 * n) (fun d => d.sup.coreOn = true) (fun d => setBit (d.get (0x350029 + 256 * n)) 3 (d.lsSteers n))
    (fun d => d.put (0x350029 + 256 * n) (setBit (d.get (0x350029 + 256 * n)) 2 false))) ∧
  (∀ (a : Access) (n : Nat), n < 16 → a.staged = false → readsNum (.lsLevelMin a n) a (0x35002C + 256 * n) (fun d => d.sup.coreOn = true) (fun d => d.get (0x35002C + 256 * n))
    (fun d => d.modListener n (fun l => { l with fresh := true })))

/-! Serial audio ports and sample-rate conversion -/

/-- Serial audio (R200 to R217): an enable starts a port with a committed set, a write of 0 turns it off, a frame start of a locked slave and of one that searches is taken as its state says, a port without edges stops with EV56, test slips,
a converter group that is enabled or locks. Where the spec leaves a reading open, the one taken is the model's: assumption log, entry 38. -/
def Obligations.SerialAudio : Prop :=
  (∀ (a : Access) (p v : Nat), p < 4 → v &&& 3 ≠ 0 → writes (.sapEnable a p v) a (0x400000 + 4096 * p) v (fun d => d.sapState p = 0 ∧ d.sapOn = true ∧ d.sapSet p = true)
    (fun d => (d.put (0x400000 + 4096 * p) (v &&& 3)).sapStart p)) ∧
  (∀ (a : Access) (p : Nat), p < 4 → writes (.sapEnable a p 0) a (0x400000 + 4096 * p) 0 (fun _ => True) (fun d => (d.put (0x400000 + 4096 * p) 0).sapOff p)) ∧
  (∀ (s : State) (p period bclks : Nat) (slots : List Nat), p < 4 → s.dev.sapOn = true → s.dev.sapState p = 2 → s.dev.get (kSap p 5) = 0 →
    let x := s.dev.sapLocked p period bclks slots
    becomes (.frameStart p period bclks slots) s (x.modSap p (fun q => { q with edge := some x.now, edgeIdx := x.med.index }))) ∧
  (∀ (s : State) (p period bclks : Nat) (slots : List Nat), p < 4 → s.dev.sapOn = true → s.dev.sapState p = 1 → s.dev.get (kSap p 5) = 0 →
    let x := s.dev.sapSearch p period bclks
    becomes (.frameStart p period bclks slots) s (x.modSap p (fun q => { q with edge := some x.now, edgeIdx := x.med.index }))) ∧
  (∀ (s : State) (p period bclks : Nat) (slots : List Nat), p < 4 → s.dev.sapOn = true → s.dev.sapState p = 3 → s.dev.get (kSap p 5) = 0 →
    let x := (s.dev.modSap p (fun q => { q with hist := [] })).sapTo p 1
    becomes (.frameStart p period bclks slots) s (x.modSap p (fun q => { q with edge := some x.now, edgeIdx := x.med.index }))) ∧
  (∀ (s : State) (p : Nat), p < 4 → s.dev.get (kSap p 5) = 0 → s.dev.sapState p = 2 → (s.dev.sapPort p).edge = none →
    let x := s.dev.sapUnlock p 3
    becomes (.sapStop p) s (((x.put (kSapSt p 3) (satAdd 32 (x.get (kSapSt p 3)) 1)).put (kSapSt p 0) 0).raise 56)) ∧
  (∀ (a : Access) (p : Nat), p < 4 → writes (.testSlipEnable a p 1) a (0x40000C + 4096 * p) 1 (fun _ => True) (fun d => (d.put (0x40000C + 4096 * p) 1).taint 0)) ∧
  (∀ (a : Access) (p : Nat), p < 4 → writes (.testSlipEnable a p 0) a (0x40000C + 4096 * p) 0 (fun _ => True) (fun d => d.put (0x40000C + 4096 * p) 0)) ∧
  (∀ (a : Access) (p v : Nat), p < 4 → writes (.testSlip a p v) a (0x40000D + 4096 * p) v (fun _ => True) (fun d => d.modSap p (fun q => { q with slip := toInt 16 v }))) ∧
  (∀ (a : Access) (g v : Nat), g < 2 → writes (.asrcEnable a g v) a (0x410000 + 4096 * g) v (fun _ => True) (fun d => (d.put (0x410000 + 4096 * g) v).asrcFollow g)) ∧
  (∀ (s : State) (g : Nat), g < 2 → s.dev.asrcRuns g = true → s.dev.get (kAsrcSt g 8) = 2 →
    becomes (.asrcLock g) s ((((s.dev.put (kAsrcSt g 9) (s.dev.asrcRatio g % 2 ^ 32)).put (kAsrcSt g 8) 3)).raise 61))

/-! Capture and the Perimeter -/

/-- Changes of a capture channel (R222 to R224, R233): each makes the samples of Table 9-6 invalid where the value changes, and a delay none. Where the spec leaves a reading open, the one taken is the model's: assumption log, entry 39.
An interval of invalid samples (R233): a change never shortens one in progress. Where the spec leaves a reading open, the one taken is the model's: assumption log, entry 39. -/
def Obligations.CaptureChanges : Prop :=
  (∀ (a : Access) (c : Nat), c < 14 → analogCh c = true → writes (.chEnableCapture a c 1) a (0x420000 + 256 * c) 1 (fun d => d.get (0x420000 + 256 * c) = 0)
    (fun d => (d.put (0x420000 + 256 * c) 1).settle c (ceilDiv (64 * d.fs) 48000))) ∧
  (∀ (a : Access) (c : Nat), c < 14 → analogCh c = true → writes (.chEnableCapture a c 0) a (0x420000 + 256 * c) 0 (fun d => d.get (0x420000 + 256 * c) = 1)
    (fun d => (d.put (0x420000 + 256 * c) 0).modCap c (fun x => { last := x.last, left := x.left, ev63 := x.ev63 }))) ∧
  (∀ (a : Access) (c v : Nat), c < 14 → analogCh c = true → c ≠ 3 → writes (.inputSel a c v) a (0x420001 + 256 * c) v (fun d => d.get (0x420001 + 256 * c) ≠ v)
    (fun d => (d.put (0x420001 + 256 * c) v).settle c (ceilDiv (48 * d.fs) 48000))) ∧
  (∀ (a : Access) (v : Nat), writes (.inputSel a 3 v) a 0x420301 v (fun d => d.get 0x420301 ≠ v) (fun d => ((d.put 0x420301 v).setBias 1 4 (v = 3)).settle 3 (ceilDiv (48 * d.fs) 48000))) ∧
  (∀ (a : Access) (c v : Nat), c < 14 → analogCh c = true → writes (.pgaGain a c v) a (0x420002 + 256 * c) v (fun d => d.get (0x420002 + 256 * c) ≠ v)
    (fun d => (d.put (0x420002 + 256 * c) v).settle c (ceilDiv (12 * d.fs) 48000))) ∧
  (∀ (a : Access) (c v : Nat), c < 14 → writes (.finalStage a c v) a (0x430000 + 256 * c) v (fun d => d.get (0x430000 + 256 * c) ≠ v)
    (fun d => (d.put (0x430000 + 256 * c) v).settle c (ceilDiv (64 * d.fs) 48000))) ∧
  (∀ (a : Access) (c v : Nat), c < 14 → writes (.windHpf a c v) a (0x430001 + 256 * c) v (fun d => d.get (0x430001 + 256 * c) ≠ v)
    (fun d => (d.put (0x430001 + 256 * c) v).settle c (ceilDiv (16 * d.fs) 48000))) ∧
  (∀ (a : Access) (c v : Nat), c < 14 → writes (.delay a c v) a (0x430002 + 256 * c) v (fun _ => True) (fun d => d.put (0x430002 + 256 * c) v)) ∧
  (∀ (s : State) (c : Nat), c < 14 → s.dev.capState c = 1 → (s.dev.capCh c).left = 0 → becomes (.captureValid c) s ((s.dev.modCap c (fun x => { x with settling := false })).raise 65)) ∧
  (∀ (s : State) (c : Nat) (hi : Bool), c < 14 → s.dev.capRuns = true → s.dev.capOn c = true → (s.dev.capCh c).excess = none → analogCh c = true → s.dev.bitOf 0x422000 c = true →
    becomes (.captureOvr c hi) s ((s.dev.put (key (0x4200 + c) 4) (satAdd 32 (s.dev.get (key (0x4200 + c) 4)) 1)).modCap c (fun x => { x with excess := some hi }))) ∧
  (∀ a : Access, a.staged = false → readsNum (.ovrStatus a) a 0x422000 (fun d => d.sup.coreOn = true) (fun d => d.get 0x422000) (fun d => d.put 0x422000 0)) ∧
  (∀ (d : Dev) (c n : Nat), c < d.cap.chans.length → ((d.settle c n).capCh c).left = max (d.capCh c).left n ∧ ∀ j, j ≠ c → (d.settle c n).capCh j = d.capCh j)

/-- Bias generators and PDM lines (R225, R226, R230): a generator turned on or off, its voltage, a short and its retry, an open, and a stuck line. Where the spec leaves a reading open, the one taken is the model's: assumption log, entry 39. -/
def Obligations.BiasPdm : Prop :=
  (∀ (a : Access) (k : Nat), k < 2 → writes (.biasEnable a k 1) a (0x421000 + 256 * k) 1 (fun d => d.get (0x421000 + 256 * k) = 0 ∧ (k = 1 → d.hp.biasJack = false))
    (fun d => ((d.put (0x421000 + 256 * k) 1).setBias k 0 true).settleBias k)) ∧
  (∀ (a : Access) (k : Nat), k < 2 → writes (.biasEnable a k 0) a (0x421000 + 256 * k) 0 (fun d => d.get (0x421000 + 256 * k) = 1 ∧ (k = 1 → d.hp.biasJack = false)) (fun d => (d.put (0x421000 + 256 * k) 0).biasOff k)) ∧
  (∀ (a : Access) (v : Nat), writes (.biasEnable a 1 v) a 0x421100 v (fun d => d.hp.biasJack = true) (fun d => d.put 0x421100 v)) ∧
  (∀ (a : Access) (k v : Nat), k < 2 → writes (.biasVoltage a k v) a (0x421001 + 256 * k) v (fun d => d.get (0x421001 + 256 * k) ≠ v ∧ d.biasBit k 0 = true)
    (fun d => (d.put (0x421001 + 256 * k) v).settleBias k)) ∧
  (∀ (s : State) (k : Nat), k < 2 → s.dev.ready 15 = true → s.dev.biasBit k 0 = true → s.dev.biasBit k 4 = false →
    let x := (((s.dev.setBias k 0 false).setBias k 1 true).setBias k 3 true).inc (key (0x4210 + k) 4)
    becomes (.biasShort k) s (({ x with cap := { s.dev.cap with retry := modNth (fun _ => some (s.dev.now + 1000000000)) s.dev.cap.retry k } } : Dev).raise 62)) ∧
  (∀ (s : State) (k t : Nat), k < 2 → nthD none s.dev.cap.retry k = some t → t ≤ s.dev.now → s.dev.biasBit k 3 = true →
    let x := (({ s.dev with cap := { s.dev.cap with retry := modNth (fun _ => none) s.dev.cap.retry k } } : Dev).setBias k 0 true).setBias k 3 false
    becomes (.biasRetry k true) s (((x.setBias k 1 false).raise 62).settleBias k) ∧ becomes (.biasRetry k false) s x) ∧
  (∀ (s : State) (k : Nat) (o : Bool), k < 2 → s.dev.ready 15 = true → s.dev.biasBit k 0 = true → s.dev.biasBit k 2 ≠ o → becomes (.biasOpen k o) s ((s.dev.setBias k 2 o).raise 62)) ∧
  (∀ (s : State) (line : Nat), line < 4 → s.dev.capRuns = true → s.dev.pdmRuns (s.dev.lineClk line) = true → bit s.dev.cap.chEn (2 * line) = true → bit s.dev.cap.chEn (2 * line + 1) = false → s.dev.bitOf 0x423100 (2 * line) = false →
    becomes (.pdmStuck line true) s ((s.dev.putBit 0x423100 (2 * line) true).raise 64))

/-- The Perimeter's clock and history (R246, R247, R250 to R252): the crystal lost and returned, a stuck microphone, a block completed, and the block read at HIST_READ_SEQ, which the segment that ends it advances. Where the spec leaves a reading open, the one taken is the model's: assumption log, entry 39. -/
def Obligations.PerimeterHistory : Prop :=
  (∀ s : State, s.dev.per.xtal = true → s.dev.per.on = true → s.dev.per.media = false → becomes .crystalLoss s ((({ s.dev with per := { s.dev.per with xtal := false } } : Dev).perAbandon.pdmApply).raise 93)) ∧
  (∀ s : State, s.dev.per.xtal = false → s.dev.per.on = true → s.dev.per.media = false →
    becomes .crystalReturn s
      (((({ s.dev with per := { s.dev.per with xtal := true, gap := true, suspUntil := s.dev.now + s.dev.get 0x423003 * 1000000, blockTime := s.dev.stamp, blockAt := s.dev.now } } : Dev).perSettle 3).pdmApply).raise 93)) ∧
  (∀ (s : State) (x : HistIn), s.dev.per.on = true → s.dev.per.media = true → s.dev.mode = 5 → s.dev.get 0x441000 = 0 → x.utter = none → s.dev.per.setPend = false → s.dev.per.avail = s.dev.per.aec → s.dev.per.wakeReq = none →
    let y := Dev.histEnd x (s.dev.modPer (fun p => { p with rawQuiet := if x.rawQuiet then min 20 (p.rawQuiet + 1) else 0, aecQuiet := if x.aecQuiet then min 20 (p.aecQuiet + 1) else 0 }))
    becomes (.historyBlock x) s (y.modPer (fun p => { p with frame := p.frame + 1 }))) ∧
  (∀ (s : State) (m : Nat), m < 8 → bit s.dev.listenMics m = true → s.dev.pdmRuns (s.dev.lineClk (m / 2)) = true → s.dev.bitOf 0x442600 m = false →
    becomes (.listenMicStuck m true) s ((s.dev.putBit 0x442600 m true).raise 94)) ∧
  (∀ (a : Access), a.staged = false → a.offset = 0 → readsBytes (.histBlock a) a 0x445200 (fun d => (d.sup.coreOn = true) ∧ d.histBytes.length ≤ min a.length (pathSegment a.path) ∧ d.per.ring.any (fun b => b.seq == d.get 0x445100) = true) Dev.histBytes
    (fun d => (d.put 0x445100 ((d.get 0x445100 + 1) % 2 ^ 32)).histGen)) ∧
  (∀ (a : Access) (v : Nat), writes (.histReadSeq a v) a 0x445100 v (fun d => d.get 0x445100 ≠ v) (fun d => (d.put 0x445100 v).histGen))

/-- Enrolment, templates and WAKE_OUT (R255, R260, R262): an enrolment starts, is cancelled, times out and is stored; a slot is erased or written; WAKE_OUT is cleared or ends its pulse. Where the spec leaves a reading open, the one taken is the model's: assumption log, entries 4 and 39. -/
def Obligations.EnrolWakeOut : Prop :=
  (∀ (a : Access) (p : Nat), p < 8 → writes (.enrolSlot a p) a 0x444000 p (fun d => d.per.part = none)
    (fun d => ({ d with per := { d.per with enrol := some (p, d.now) } } : Dev).put 0x444100 (enrolStatus 0 p 0 true))) ∧
  (∀ (a : Access) (p : Nat), p < 8 → writes (.enrolErase a p) a 0x444000 (0x80 + p) (fun d => d.per.part = none)
    (fun d => (d.putBlob (key 0x4442 p) (zeros 3632)).put (key 0x4443 p) 0)) ∧
  (∀ (a : Access) (p t : Nat), writes (.enrolCancel a) a 0x444000 0xFF (fun d => d.per.enrol = some (p, t))
    (fun d => (({ d with per := { d.per with enrol := none } } : Dev).put 0x444100 (enrolStatus (fld (d.get 0x444100) 3 0) p 4 false)).raise 91)) ∧
  (∀ (s : State) (p t : Nat), s.dev.per.enrol = some (p, t) → t + 10000000000 ≤ s.dev.now →
    becomes .enrolTimeout s ((({ s.dev with per := { s.dev.per with enrol := none } } : Dev).put 0x444100 (enrolStatus (fld (s.dev.get 0x444100) 3 0) p 3 false)).raise 91)) ∧
  (∀ (s : State) (p t : Nat) (b : List Byte), s.dev.per.enrol = some (p, t) → 3 ≤ fld (s.dev.get 0x444100) 3 0 →
    becomes (.enrolStoreDone 2 b) s ((({ s.dev with per := { s.dev.per with enrol := none } } : Dev).put 0x444100 (enrolStatus (fld (s.dev.get 0x444100) 3 0) p 2 false)).raise 91)) ∧
  (∀ (s : State) (p t : Nat) (b : List Byte), s.dev.per.enrol = some (p, t) → 3 ≤ fld (s.dev.get 0x444100) 3 0 →
    becomes (.enrolStoreDone 1 b) s ((s.dev.templateSet p b true).enrolEnd 1)) ∧
  (∀ (a : Access) (p : Nat) (b : List Byte), p < 8 → writesBytes (.template a p) a (0x444200 + p) b (fun d => d.per.part = none)
    (fun d => (d.putBlob (0x444200 + p) b).put (0x444300 + p) (Config.templateFrames b % 65536 + 65536))) ∧
  (∀ a : Access, writes (.wakeOutClear a 1) a 0x446100 1 (fun _ => True) (fun d => { d with per := { d.per with wakeOut := false, wakeEnd := none } })) ∧
  (∀ (s : State) (t : Nat), s.dev.per.wakeEnd = some t → t ≤ s.dev.now → becomes .wakeOutPulseEnd s { s.dev with per := { s.dev.per with wakeOut := false, wakeEnd := none } })

/-! The Lattice and the Vertex mixer -/

/-- Selections, gains and policies (R273, R275, R276, R280): a selection of a sink without RAMP switches at once, one with RAMP fades, and its fade's two ends; a gain is direct or moves over VTX_RAMP; a destination and a policy only take their values. Where the spec leaves a reading open, the one taken is the model's: assumption log, entry 48. -/
def Obligations.Lattice : Prop :=
  (∀ (a : Access) (x v : Nat), x < 256 → writes (.muxSelection a 0 x v) a (0x501000 + x) v (fun d => d.bitOf (attrOf (0x501000 + x)) 0 = false) (fun d => (d.put (0x501000 + x) v).setFade (0x501000 + x) none)) ∧
  (∀ (a : Access) (x v : Nat), x < 256 → writes (.muxSelection a 1 x v) a (0x502000 + x) v (fun d => d.bitOf (attrOf (0x502000 + x)) 0 = true ∧ assoc (0x502000 + x) d.lat.fades = none ∧ d.get (0x502000 + x) ≠ v)
    (fun d => (d.put (0x502000 + x) v).setFade (0x502000 + x) (some { out := true, old := d.get (0x502000 + x), new := v, g := d.fadeLen }))) ∧
  (∀ (s : State) (x : Nat) (f : Fade), x < 256 → assoc (0x501000 + x) s.dev.lat.fades = some f → f.out = true → f.g = 0 →
    becomes (.rampSwitchSample 0 x) s (s.dev.setFade (0x501000 + x) (some { f with out := false }))) ∧
  (∀ (s : State) (x : Nat) (f : Fade), x < 256 → assoc (0x501000 + x) s.dev.lat.fades = some f → f.out = false → s.dev.fadeLen ≤ f.g + 1 → becomes (.rampEnd 0 x) s (s.dev.setFade (0x501000 + x) none)) ∧
  (∀ (a : Access) (x v : Nat), x < 256 → writes (.sinkDest a x v) a (0x502100 + x) v (fun _ => True) (fun d => d.put (0x502100 + x) v)) ∧
  (∀ (a : Access) (o i v : Nat), o < 64 → i < 96 → writes (.vtxGain a o i v) a (0x510000 + 256 * o + i) v (fun d => d.get (0x505000 + o) = 0)
    (fun d => { d.put (0x510000 + 256 * o + i) v with lat := { d.lat with moves := assocDel (0x510000 + 256 * o + i) d.lat.moves } })) ∧
  (∀ (a : Access) (node v : Nat), node < 512 → writes (.sinkPolicy a node v) a (0x521000 + node) v (fun _ => True) (fun d => d.put (0x521000 + node) (v &&& 7)))

/-! The Facet array -/

/-- Engine control and swaps (R290, R310, R312 to R315, R318): START, STOP, SWAP, DISCARD_STANDBY, UNLOAD and CLEAR_FAULT of ENGINE_CTRL, SWAP_SET, the boundary at which a requested swap is made, and the one at which an engine begins. Where the spec leaves a reading open, the one taken is the model's: assumption log, entry 45. -/
def Obligations.EngineControl : Prop :=
  (∀ (a : Access) (e : Nat) (b : Bank), e < 8 → writes (.start a e) a (0x540000 + 256 * e) 1 (fun d => (d.eng e).active = some b)
    (fun d => d.modEng e (fun x => { x with startAt := some (upTo (max (d.med.index + 1) (boundaryAt d.fs (d.time64 + 1000))) b.img.hyper), stopAt := none }))) ∧
  (∀ (a : Access) (e : Nat) (b : Bank), e < 8 → writes (.stop a e) a (0x540000 + 256 * e) 2 (fun d => (d.eng e).active = some b)
    (fun d => d.modEng e (fun x => { x with stopAt := some (upTo (d.med.index + 1) b.img.hyper) }))) ∧
  (∀ (a : Access) (e : Nat), e < 8 → writes (.swap a e) a (0x540000 + 256 * e) 3 (fun _ => True) (Dev.swapRequest (2 ^ e) none)) ∧
  (∀ (a : Access) (e : Nat), e < 8 → writes (.discardStandby a e) a (0x540000 + 256 * e) 4 (fun _ => True) (Dev.discardStandby e)) ∧
  (∀ (a : Access) (e : Nat), e < 8 → writes (.unload a e) a (0x540000 + 256 * e) 5 (fun _ => True) (Dev.unload e)) ∧
  (∀ (a : Access) (e : Nat), e < 8 → writes (.clearFault a e) a (0x540000 + 256 * e) 6 (fun d => d.stores = [] ∧ d.get (key (0x5400 + e) 8) ≠ 1)
    (fun d => ((d.unload e).put (key (0x5400 + e) 4) 0).put (key (0x5400 + e) 5) 0)) ∧
  (∀ (a : Access) (v : Nat), v < 256 → v ≠ 0 → writes (.swapSet a v) a 0x542000 v (fun _ => True) (Dev.swapRequest v none)) ∧
  (∀ s : State, becomes .swapBoundary s s.dev.swapDue) ∧
  (∀ (s : State) (e n : Nat) (b : Bank), e < 8 → (s.dev.eng e).startAt = some n → (s.dev.eng e).active = some b → n ≤ s.dev.med.index + 1 → s.dev.med.run = true → s.dev.engState e = 1 →
    becomes (.engineStartPoint e) s ((s.dev.modEng e (fun x => { x with active := some { b with outs := [], pipe := b.img.ports.map (fun p => (p.port, n)), since := n, tasks := b.tasks.map (fun t => { t with rel := none, seen := none, vals := [], sets := [], clrs := [], envs := [] }) }, startAt := none, last := [], drain := none, fenced := false })).setEng e 2)) ∧
  (∀ (d : Dev) (e : Nat) (x y : Bank), e < d.fac.engs.length → e < 8 → (d.eng e).active = some x → (d.eng e).standby = some y →
    ((d.swapRequest (2 ^ e) none).eng e).swapAt = some (upTo (d.med.index + 1) (max (max 1 x.img.hyper) y.img.hyper)) ∧
    ((d.discardStandby e).eng e).standby = none ∧ ((d.discardStandby e).eng e).active = some x ∧ ((d.unload e).eng e).active = none ∧ ((d.unload e).eng e).standby = none ∧ (d.unload e).engState e = 0 ∧
    ∀ n, ((d.swapOne e n).eng e).active.map (·.img) = some y.img ∧ ((d.swapOne e n).eng e).standby.map (·.img) = some x.img ∧ ((d.swapOne e n).eng e).swapAt = none) ∧
  (∀ (d : Dev), (∀ e < 8, ∀ n, (d.eng e).swapAt = some n → d.med.index + 1 < n) → d.swapDue = d)

/-- Releases and faults (R288, R291, R296, R300, R316 to R318): a release takes its block and its variables, one that ends writes its blocks to the output ports, one past its deadline is aborted, the eighth in a row is a fault, a fault stops and fences the engine,
AUTO_RECOVER acts 100 ms later, and the clock changes at its boundary. Where the spec leaves a reading open, the one taken is the model's: assumption log, entries 43 and 45. -/
def Obligations.Releases : Prop :=
  (∀ (s : State) (e t n : Nat) (b : Bank) (k : ImgTask), e < 8 → (s.dev.eng e).active = some b → b.task t = some k → n = s.dev.med.index / k.block * k.block → b.since + k.block ≤ n → s.dev.engState e = 2 → (b.run t).seen ≠ some n → (b.run t).rel = none →
    let snap : List (Nat × Nat) := (b.img.binds.zip (upto 256)).filterMap (fun x => if x.1.acc = 0 || x.1.ty = 14 then none else some (x.2, s.dev.get x.1.obj))
    becomes (.taskRelease e t false) s (s.dev.modBank e true (fun q =>
      { q with mem := snap.foldl (fun m (x : Nat × Nat) => match b.img.binds[x.1]? with | some y => memPut m y.var (leBytes (typeBytes y.ty) x.2) | none => m) q.mem }.setRun
        { (q.run t) with rel := some n, seen := some n, vals := [], sets := [], clrs := [], publ := [], envs := [], snap := snap, ctx := { (q.run t).ctx with pc := k.entry, loops := [], calls := [], dma := [] } }))) ∧
  (∀ (s : State) (e t n : Nat) (b : Bank) (k : ImgTask), e < 8 → (s.dev.eng e).active = some b → b.task t = some k → (b.run t).rel = some n → n + k.block ≤ s.dev.med.index + 1 → s.dev.engState e = 2 →
    let r := b.run t
    let x := (((s.dev.setRun e true { r with rel := none, excess := r.excess + 1, vals := [], sets := [], clrs := [], envs := [], publ := [] }).envEnd b k { r with envs := [] } n).inc (key (0x5400 + e) 6)).locksFree e
    (x.eng e).ev98 = none → (r.excess + 1 < 8 → becomes (.overrun e t false) s ((x.modEng e (fun y => { y with ev98 := some x.now })).raise 98)) ∧
      (8 ≤ r.excess + 1 → ((x.modEng e (fun y => { y with ev98 := some x.now })).raise 98).bitOf 0x200400 4 = false →
        becomes (.overrun e t false) s (((x.modEng e (fun y => { y with ev98 := some x.now })).raise 98).engFault e 0 r.ctx.pc t false))) ∧
  (∀ (s : State) (e c : Nat) (act : Bool) (b : Bank) (t : ImgTask) (r : TaskRun), e < 8 → c < 7 → s.dev.current e = some (act, b, t, r) →
    becomes (.engineFault e c) s (if c = 4 then ((s.dev.engFault e c r.ctx.pc t.num (!act)).causeSet 5).outSettle else s.dev.engFault e c r.ctx.pc t.num (!act))) ∧
  (∀ (d : Dev) (e c a t : Nat) (sb : Bool), e < 8 → e < d.fac.engs.length → d.engState e = 2 → c < 16 → a < 65536 → t < 16 →
    let x := d.engFault e c a t sb
    x.engState e = 3 ∧ (x.eng e).fenced = true ∧ (x.eng e).swapAt = none ∧ x.get (key (0x5400 + e) 4) = d.get (key (0x5400 + e) 4) ||| 2 ^ c ∧ x.get (key (0x5400 + e) 5) = a + 65536 * t + 1048576 * b2n sb) ∧
  (∀ (s : State) (e t : Nat), e < 8 → (s.dev.eng e).recoverAt = some t → t ≤ s.dev.now → s.dev.engState e = 3 →
    exec (.autoRecover e) s = .next (s.run (fun _ d => (d.modEng e (fun x => { x with recoverAt := none, recovers := x.recovers ++ [d.now] })).clearFault e))) ∧
  (∀ (s : State), becomes .ecoClockChange s s.dev.ecoClock) ∧
  (∀ (d : Dev) (e n : Nat) (v : Bool), e < 8 → (d.eng e).clkAt = some (n, v) → ((n ≤ d.med.index + 1 → (d.ecoClock.eng e).slow = v ∧ (d.ecoClock.eng e).clkAt = none) ∧ (d.med.index + 1 < n → d.med.run = true → d.ecoClock.eng e = d.eng e))) ∧
  (∀ (s : State) (e cycles : Nat) (act : Bool) (b : Bank) (t : ImgTask) (r : TaskRun), s.dev.running e act b t r → r.ctx.dma = [] → s.dev.stores = [] → becomes (.facetHalt e cycles) s (s.dev.finish e cycles)) ∧
  (∀ (d : Dev) (e cycles n : Nat) (b : Bank) (t : ImgTask) (r : TaskRun), d.current e = some (true, b, t, r) → r.rel = some n → d.med.index < n + t.block →
    ∃ b', ((d.finish e cycles).eng e).active = some b' ∧ b'.img = b.img ∧ ∀ p ∈ b.img.ports, p.task = t.num → ∃ vs : List (Int × Nat × Nat), (p.port, n + t.block, vs) ∈ b'.outs ∧ vs.length = t.block ∧
      ∀ i < t.block, ∀ v, assoc (p.port * 64 + i) r.vals = some v → (nthD (0, 0, 0) vs i).1 = v)

/-- Scalar instructions (Table 12-2): a result that fits 32 bits, unsigned or signed, is exact, and one that fits neither is free; shifts, the bitwise operations, the smaller and the larger, the order that CMP keeps, and what MOV and LI write.
An engine that runs no task does nothing. Where the spec leaves a reading open, the one taken is the model's: assumption log, entries 41 and 42. -/
def Obligations.ScalarOps : Prop :=
  (∀ e x y dst : Nat,
    computesLanes (.facetAdd e dst x y) e (fun c l => c.setS dst (nthD 0 l 0)) (fun c => [wordOf (c.sreg x + c.sreg y : Nat) (toInt 32 (c.sreg x) + toInt 32 (c.sreg y))]) ∧
    computesLanes (.facetSub e dst x y) e (fun c l => c.setS dst (nthD 0 l 0)) (fun c => [wordOf ((c.sreg x : Int) - c.sreg y) (toInt 32 (c.sreg x) - toInt 32 (c.sreg y))]) ∧
    computesLanes (.facetMul e dst x y) e (fun c l => c.setS dst (nthD 0 l 0)) (fun c => [wordOf (c.sreg x * c.sreg y : Nat) (toInt 32 (c.sreg x) * toInt 32 (c.sreg y))]) ∧
    computes (.facetAnd e dst x y) e (fun _ => True) (fun c => c.setS dst (c.sreg x &&& c.sreg y)) ∧
    computes (.facetOr e dst x y) e (fun _ => True) (fun c => c.setS dst (c.sreg x ||| c.sreg y)) ∧
    computes (.facetXor e dst x y) e (fun _ => True) (fun c => c.setS dst (c.sreg x ^^^ c.sreg y)) ∧
    computesLanes (.facetShl e dst x y) e (fun c l => c.setS dst (nthD 0 l 0)) (fun c => [if c.sreg y < 32 then (false, fun _ => c.sreg x * 2 ^ c.sreg y % 2 ^ 32) else (true, fun z => z % 2 ^ 32)]) ∧
    computesLanes (.facetShr e dst x y) e (fun c l => c.setS dst (nthD 0 l 0)) (fun c => [if c.sreg y < 32 then (false, fun _ => ofInt 32 (floorDiv (ordS (c.sreg x)) (2 ^ c.sreg y)) % 2 ^ 32) else (true, fun z => z % 2 ^ 32)]) ∧
    computes (.facetMin e dst x y) e (fun _ => True) (fun c => c.setS dst (if ordS (c.sreg x) ≤ ordS (c.sreg y) then c.sreg x else c.sreg y)) ∧
    computes (.facetMax e dst x y) e (fun _ => True) (fun c => c.setS dst (if ordS (c.sreg x) ≤ ordS (c.sreg y) then c.sreg y else c.sreg x)) ∧
    computes (.facetCmp e x y) e (fun _ => True) (fun c => { c with cmp := if c.sreg x = c.sreg y then 0 else if ordS (c.sreg x) < ordS (c.sreg y) then 1 else 2 }) ∧
    computes (.facetMov e (.reg dst) x) e (fun _ => True) (fun c => c.setS dst (c.sreg x)) ∧
    computes (.facetLi e (.reg dst) x) e (fun _ => True) (fun c => c.setS dst x)) ∧
  (∀ e g f x : Nat, computes (.facetMov e (.gen g f) x) e (fun _ => True) (fun c => c.setDest (.gen g f) (c.sreg x)) ∧ computes (.facetLi e (.gen g f) x) e (fun _ => True) (fun c => c.setDest (.gen g f) x)) ∧
  (∀ (c : Ctx) (g v : Nat) (q : Nat × Nat × Nat × Nat), c.gen[g]? = some q → (c.setDest (.gen g 0) v).gen[g]? = some (v, q.2) ∧ (c.setDest (.gen g 1) v).gen[g]? = some (q.1, v, q.2.2) ∧
    (c.setDest (.gen g 2) v).gen[g]? = some (q.1, q.2.1, v, q.2.2.2) ∧ (c.setDest (.gen g 3) v).gen[g]? = some (q.1, q.2.1, q.2.2.1, v)) ∧
  (∀ (s : State) (e dst x y : Nat), s.dev.current e = none → ∀ i ∈ [Instr.facetAdd e dst x y, .facetSub e dst x y, .facetMul e dst x y, .facetAnd e dst x y, .facetOr e dst x y, .facetXor e dst x y, .facetShl e dst x y, .facetShr e dst x y,
    .facetMin e dst x y, .facetMax e dst x y, .facetCmp e x y, .facetMov e (.reg dst) x, .facetLi e (.reg dst) x], becomes i s s.dev)

/-- Vector instructions (Table 12-2): four lanes of Q1.31, of 72-bit accumulators, or of binary32. A lane that does not fit is free, and so are a tie of VEXT, what a VSHR rounds to, and what binary32 leaves open. Where the spec leaves a reading open, the one taken is the model's: assumption log, entries 41 and 42. -/
def Obligations.VectorOps : Prop :=
  (∀ e dst x y : Nat,
    computesLanes (.facetVadd e dst x y) e (fun c l => c.setV dst l) (fun c => ((c.vreg x).zip (c.vreg y)).map (fun p => laneOf (toInt 32 p.1 + toInt 32 p.2))) ∧
    computesLanes (.facetVsub e dst x y) e (fun c l => c.setV dst l) (fun c => ((c.vreg x).zip (c.vreg y)).map (fun p => laneOf (toInt 32 p.1 - toInt 32 p.2))) ∧
    computesLanes (.facetVabs e dst x) e (fun c l => c.setV dst l) (fun c => (c.vreg x).map (fun p => laneOf (toInt 32 p).natAbs)) ∧
    computes (.facetVmax e dst x y) e (fun _ => True) (fun c => c.setV dst (((c.vreg x).zip (c.vreg y)).map (fun p => if toInt 32 p.1 ≤ toInt 32 p.2 then p.2 else p.1))) ∧
    computesLanes (.facetVshr e dst x y) e (fun c l => c.setV dst l) (fun c => (c.vreg x).map (fun p => (true, fun z =>
      if 32 ≤ y then z % 2 ^ 32 else ofInt 32 (if floorDiv (toInt 32 p) (2 ^ y) * 2 ^ y = toInt 32 p then floorDiv (toInt 32 p) (2 ^ y) else floorDiv (toInt 32 p) (2 ^ y) + (z % 2 : Nat))))) ∧
    computesLanes (.facetVmul e dst x y) e (fun c l => c.setA dst l) (fun c => ((c.acc dst).zip ((c.vreg x).zip (c.vreg y))).map (fun p => accOf (toInt 32 p.2.1 * toInt 32 p.2.2))) ∧
    computesLanes (.facetVmac e dst x y) e (fun c l => c.setA dst l) (fun c => ((c.acc dst).zip ((c.vreg x).zip (c.vreg y))).map (fun p => accOf (p.1 + toInt 32 p.2.1 * toInt 32 p.2.2))) ∧
    computesLanes (.facetVmsu e dst x y) e (fun c l => c.setA dst l) (fun c => ((c.acc dst).zip ((c.vreg x).zip (c.vreg y))).map (fun p => accOf (p.1 - toInt 32 p.2.1 * toInt 32 p.2.2))) ∧
    computesLanes (.facetVext e dst x) e (fun c l => c.setV dst l) (fun c => (c.acc x).map (fun v =>
      if v - floorDiv v (2 ^ 31) * 2 ^ 31 = 2 ^ 30 then (true, fun z => ofInt 32 (satS 32 (floorDiv v (2 ^ 31) + (z % 2 : Nat))))
      else (false, fun _ => ofInt 32 (satS 32 (if v - floorDiv v (2 ^ 31) * 2 ^ 31 > 2 ^ 30 then floorDiv v (2 ^ 31) + 1 else floorDiv v (2 ^ 31))))))) ∧
  (∀ e dst x y : Nat,
    computesLanes (.facetFmul e dst x y) e (fun c l => c.setV dst l) (fun c => ((c.vreg x).zip (c.vreg y)).map (fun p => (true, fun z => fltMul z p.1 p.2))) ∧
    computesLanes (.facetFadd e dst x y) e (fun c l => c.setV dst l) (fun c => ((c.vreg x).zip (c.vreg y)).map (fun p => (true, fun z => fltAdd z p.1 p.2))) ∧
    computesLanes (.facetFsub e dst x y) e (fun c l => c.setV dst l) (fun c => ((c.vreg x).zip (c.vreg y)).map (fun p => (true, fun z => fltAdd z p.1 (fltNeg p.2)))) ∧
    computesLanes (.facetFmax e dst x y) e (fun c l => c.setV dst l) (fun c => ((c.vreg x).zip (c.vreg y)).map (fun p => (true, fun z => fltMax z p.1 p.2))) ∧
    computesLanes (.facetFabs e dst x) e (fun c l => c.setV dst l) (fun c => (c.vreg x).map (fun p => (true, fun _ => fltAbs p))) ∧
    computesLanes (.facetFcvt e dst x true) e (fun c l => c.setV dst l) (fun c => (c.vreg x).map (fun p => (true, fun z => fixOfFlt z p))) ∧
    computesLanes (.facetFcvt e dst x false) e (fun c l => c.setV dst l) (fun c => (c.vreg x).map (fun p => (true, fun _ => fltOfFix p))) ∧
    computesLanes (.facetFrcp e dst x) e (fun c l => c.setV dst l) (fun c => (c.vreg x).map (fun p => (true, fun z => fltRcp z p))) ∧
    computesLanes (.facetFrsq e dst x) e (fun c l => c.setV dst l) (fun c => (c.vreg x).map (fun p => (true, fun z => fltRsq z p))) ∧
    computesLanes (.facetFlog2 e dst x) e (fun c l => c.setV dst l) (fun c => (c.vreg x).map (fun _ => (true, fun z => z % 2 ^ 32))) ∧
    computesLanes (.facetFexp2 e dst x) e (fun c l => c.setV dst l) (fun c => (c.vreg x).map (fun _ => (true, fun z => z % 2 ^ 32))) ∧
    computesLanes (.facetFmac e dst x y) e (fun c l => c.setV dst l) (fun c => ((c.vreg dst).zip ((c.vreg x).zip (c.vreg y))).map (fun p => (true, fun z => fltFma z p.2.1 p.2.2 p.1))))

/-- Loads, stores and flow (Tables 12-2, 12-7; R292): local memory by address or generator, input and output blocks, what lies outside the image's declarations is a BOUNDS fault, loops held to their maximum, forward branches, and calls to a depth of 8. Where the spec leaves a reading open, the one taken is the model's: assumption log, entries 41 and 43. -/
def Obligations.MemoryOps : Prop :=
  (∀ (s : State) (e : Nat) (act : Bool) (b : Bank) (t : ImgTask) (r : TaskRun), s.dev.running e act b t r → ∀ (x : Nat) (m : MemRef),
    (∀ w, r.ctx.addr m 0 = some w → b.inLocal w 4 = true →
      becomes (.facetLd e x m) s (s.dev.setRun e act { r with ctx := ((r.ctx.setS x (memWord b.mem w)).moveOn m).step }) ∧
      becomes (.facetSt e x m) s (s.dev.modBank e act (fun q => (q.putWords w [r.ctx.sreg x]).setRun { r with ctx := (r.ctx.moveOn m).step }))) ∧
    (∀ w, r.ctx.addr m 0 = some w → b.inLocal w 4 = false →
      becomes (.facetLd e x m) s (s.dev.engFault e 2 r.ctx.pc t.num (!act)) ∧ becomes (.facetSt e x m) s (s.dev.engFault e 2 r.ctx.pc t.num (!act))) ∧
    (∀ w0 w1 w2 w3, r.ctx.addr m 0 = some w0 → r.ctx.addr m 1 = some w1 → r.ctx.addr m 2 = some w2 → r.ctx.addr m 3 = some w3 →
      b.inLocal w0 4 = true → b.inLocal w1 4 = true → b.inLocal w2 4 = true → b.inLocal w3 4 = true →
      becomes (.facetVld e x m) s (s.dev.setRun e act { r with ctx := ((r.ctx.setV x [memWord b.mem w0, memWord b.mem w1, memWord b.mem w2, memWord b.mem w3]).moveOn m).step }) ∧
      ∀ v0 v1 v2 v3, r.ctx.vreg x = [v0, v1, v2, v3] → becomes (.facetVst e x m) s (s.dev.modBank e act (fun q => ((((q.putWords w0 [v0]).putWords w1 [v1]).putWords w2 [v2]).putWords w3 [v3]).setRun { r with ctx := (r.ctx.moveOn m).step })))) ∧
  (∀ (s : State) (e : Nat) (act : Bool) (b : Bank) (t : ImgTask) (r : TaskRun), s.dev.running e act b t r → ∀ x p k n : Nat,
    (bit t.ins p = true → k < t.block → r.rel = some n →
      becomes (.facetLd e x (.inp p k)) s (s.dev.setRun e act { r with ctx := (r.ctx.setS x (Smp.word (nthD {} ((s.dev.eng e).block p n t.block) k))).step })) ∧
    (bit t.outs p = true → k < t.block →
      becomes (.facetSt e x (.out p k)) s (s.dev.setRun e act { r with vals := assocPut (p * 64 + k) (toInt 32 (r.ctx.sreg x)) r.vals, ctx := r.ctx.step }) ∧
      (∀ v, assoc (p * 64 + k) r.vals = some v → becomes (.facetLd e x (.out p k)) s (s.dev.setRun e act { r with ctx := (r.ctx.setS x (ofInt 32 v)).step }))) ∧
    becomes (.facetSt e x (.inp p k)) s (s.dev.engFault e 2 r.ctx.pc t.num (!act)) ∧ becomes (.facetVst e x (.inp p k)) s (s.dev.engFault e 2 r.ctx.pc t.num (!act)) ∧
    (bit t.ins p = false → becomes (.facetLd e x (.inp p k)) s (s.dev.engFault e 2 r.ctx.pc t.num (!act))) ∧
    (bit t.outs p = false → becomes (.facetSt e x (.out p k)) s (s.dev.engFault e 2 r.ctx.pc t.num (!act)))) ∧
  (∀ (s : State) (e : Nat) (act : Bool) (b : Bank) (t : ImgTask) (r : TaskRun), s.dev.running e act b t r → ∀ x last : Nat, r.ctx.loops.length < 4 → r.ctx.pc < last →
    (∀ most, assoc r.ctx.pc b.img.loops = some most → r.ctx.sreg x ≤ most → 0 < r.ctx.sreg x →
      becomes (.facetLoop e x last) s (s.dev.setRun e act { r with ctx := { r.ctx with pc := r.ctx.pc + 1, loops := (r.ctx.pc + 1, last, r.ctx.sreg x) :: r.ctx.loops } })) ∧
    (∀ most, assoc r.ctx.pc b.img.loops = some most → most < r.ctx.sreg x → 0 < most →
      becomes (.facetLoop e x last) s ((s.dev.inc (key (0x5400 + e) 0xE)).setRun e act { r with ctx := { r.ctx with pc := r.ctx.pc + 1, loops := (r.ctx.pc + 1, last, most) :: r.ctx.loops } })) ∧
    (r.ctx.sreg x = 0 → becomes (.facetLoop e x last) s (s.dev.setRun e act { r with ctx := ({ r.ctx with pc := last, loops := (r.ctx.pc + 1, last, 1) :: r.ctx.loops } : Ctx).step }))) ∧
  (∀ (s : State) (e : Nat) (act : Bool) (b : Bank) (t : ImgTask) (r : TaskRun), s.dev.running e act b t r → ∀ x mask target : Nat,
    (4 ≤ r.ctx.loops.length → becomes (.facetLoop e x target) s (s.dev.engFault e 1 r.ctx.pc t.num (!act))) ∧
    (r.ctx.pc < target → bit mask r.ctx.cmp = true → becomes (.facetBrf e mask target) s (s.dev.setRun e act { r with ctx := { r.ctx with pc := target, loops := r.ctx.loops.dropWhile (fun l => l.2.1 < target) } })) ∧
    (r.ctx.pc < target → bit mask r.ctx.cmp = false → becomes (.facetBrf e mask target) s (s.dev.setRun e act { r with ctx := r.ctx.step })) ∧
    (target ≤ r.ctx.pc → becomes (.facetBrf e mask target) s (s.dev.engFault e 1 r.ctx.pc t.num (!act))) ∧
    (r.ctx.calls.length < 8 → becomes (.facetCall e target) s (s.dev.setRun e act { r with ctx := { r.ctx with pc := target, calls := r.ctx.pc :: r.ctx.calls } })) ∧
    (8 ≤ r.ctx.calls.length → becomes (.facetCall e target) s (s.dev.engFault e 1 r.ctx.pc t.num (!act))) ∧
    (∀ p l, r.ctx.calls = p :: l → becomes (.facetRet e) s (s.dev.setRun e act { r with ctx := ({ r.ctx with pc := p, calls := l } : Ctx).step })) ∧
    (r.ctx.calls = [] → becomes (.facetRet e) s (s.dev.engFault e 1 r.ctx.pc t.num (!act)))) ∧
  (∀ (c : Ctx) (f l n : Nat) (t : List (Nat × Nat × Nat)), c.loops = (f, l, n) :: t → (c.pc ≠ l → c.step = { c with pc := c.pc + 1 }) ∧ (c.pc = l → 1 < n → c.step = { c with pc := f, loops := (f, l, n - 1) :: t }))

/-- Tags, user variables, shared memory, locks and primitives (R293, R294, R297, R300, R302, R303, R410, R416; Table 12-3): tags read and noted, a bound variable read and published, transfers issued and waited for, a lock taken or not, and the primitives,
whose results are free where the spec does not fix them. Where the spec leaves a reading open, the one taken is the model's: assumption log, entries 41, 42 and 43. -/
def Obligations.SharedOps : Prop :=
  (∀ (s : State) (e : Nat) (act : Bool) (b : Bank) (t : ImgTask) (r : TaskRun), s.dev.running e act b t r → ∀ x p first count bits n : Nat,
    (bit t.ins p = true → r.rel = some n → t.block ≤ 32 → becomes (.facetTagrd e x p) s (s.dev.setRun e act { r with ctx := (r.ctx.setV x ((upto 4).map (tagWord (((s.dev.eng e).block p n t.block).map (·.t))))).step })) ∧
    (bit t.ins p = false → becomes (.facetTagrd e x p) s (s.dev.engFault e 2 r.ctx.pc t.num (!act))) ∧
    (bit t.outs p = true → first < t.block → r.sets = [] → bits < 16 → becomes (.facetTagset e p first 1 bits) s (s.dev.setRun e act { r with ctx := r.ctx.step, sets := [(p * 64 + first, bits)] })) ∧
    (bit t.outs p = true → first < t.block → r.clrs = [] → bits < 4 → becomes (.facetTagclr e p first 1 bits) s (s.dev.setRun e act { r with ctx := r.ctx.step, clrs := [(p * 64 + first, bits)] })) ∧
    (bit t.outs p = false → becomes (.facetTagset e p first count bits) s (s.dev.engFault e 2 r.ctx.pc t.num (!act)) ∧ becomes (.facetTagclr e p first count bits) s (s.dev.engFault e 2 r.ctx.pc t.num (!act))) ∧
    (∀ y v, b.img.binds[p]? = some y → assoc p r.snap = some v → typeBytes y.ty ≠ 8 → becomes (.facetUvrd e x p) s (s.dev.setRun e act { r with ctx := (r.ctx.setS x v).step })) ∧
    (∀ y v, b.img.binds[p]? = some y → assoc p r.snap = some v → typeBytes y.ty = 8 → becomes (.facetUvrd e x p) s (s.dev.setRun e act { r with ctx := ((r.ctx.setS x v).setS (x + 1) (v / 2 ^ 32)).step })) ∧
    (∀ y, b.img.binds[p]? = some y → y.acc = 0 → y.ty ≠ 14 → typeBytes y.ty ≠ 8 → becomes (.facetUvwr e x p) s (s.dev.modBank e act (fun q =>
      { q with mem := memPut q.mem y.var (leBytes (typeBytes y.ty) (r.ctx.sreg x)) }.setRun { r with ctx := r.ctx.step, publ := assocPut p (r.ctx.sreg x) r.publ }))) ∧
    (∀ y, b.img.binds[p]? = some y → y.acc ≠ 0 → becomes (.facetUvwr e x p) s (s.dev.engFault e 2 r.ctx.pc t.num (!act)))) ∧
  (∀ (s : State) (e : Nat) (act : Bool) (b : Bank) (t : ImgTask) (r : TaskRun), s.dev.running e act b t r → ∀ (k off loc words : Nat) (al : ImgAlloc), b.img.allocs[k]? = some al →
    (off + 4 * words ≤ al.size → b.inLocal loc (4 * words) = true →
      becomes (.facetDmard e k off loc words) s ((s.dev.locksRenew e).setRun e act { r with ctx := ({ r.ctx with dma := r.ctx.dma ++ [{ write := false, alloc := k, off := off, loc := loc, words := words }] } : Ctx).step }) ∧
      becomes (.facetDmawr e k off loc words) s ((s.dev.locksRenew e).setRun e act { r with ctx := ({ r.ctx with dma := r.ctx.dma ++ [{ write := true, alloc := k, off := off, loc := loc, words := words }] } : Ctx).step })) ∧
    (al.size < off + 4 * words → becomes (.facetDmard e k off loc words) s (s.dev.engFault e 2 r.ctx.pc t.num (!act)) ∧ becomes (.facetDmawr e k off loc words) s (s.dev.engFault e 2 r.ctx.pc t.num (!act)))) ∧
  (∀ (s : State) (e : Nat) (singles doubles : List Nat) (hits : List (Nat × Nat)),
    exec (.facetDmawait e singles doubles hits) s = .next (s.run (fun m d => ((d.locksRenew e).dmaAll e m { singles := singles, doubles := doubles, hits := hits }).onCtx e (fun c d => (c, d))))) ∧
  (∀ (d : Dev) (e : Nat) (m : List Host.Cell) (act : Bool) (b : Bank) (t : ImgTask) (r : TaskRun) (k off loc words : Nat) (al : ImgAlloc), d.running e act b t r → d.stores = [] → d.tes.bad = [] → b.img.allocs[k]? = some al → al.loc = false →
    d.dmaDo e m {} { write := false, alloc := k, off := off, loc := loc, words := words } = d.modBank e act (fun q => (q.putWords loc ((upto words).map (fun i => memWord m (al.addr + off + 4 * i)))).setRun { r with ctx := { r.ctx with dma := r.ctx.dma.drop 1 } })) ∧
  (∀ (m : List Host.Cell) (d : Dev) (a w : Nat), d.stores = [] → d.wordBad a = false → d.wordBad (a + 4) = false → d.dmaRead m {} a 2 = (none, [memWord m a, memWord m (a + 4)], d) ∧
    (d.portBWins a = true → d.dmaWrite w {} a [5] = d.store a (leBytes 4 5)) ∧ (d.portBWins a = false → d.dmaWrite w {} a [5] = d.store a (leBytes 4 5)) ∧
    (d.portBWins a = false → (d.dmaWrite w { hits := [(a, 2)] } a [5]).stores = d.stores)) ∧
  (∀ (e k dst : Nat), k < 16 →
    (∀ (s : State) (act : Bool) (b : Bank) (t : ImgTask) (r : TaskRun), s.dev.running e act b t r →
      (s.dev.get (lockObj k) = 0xFF ∨ s.dev.get (lockObj k) = e → becomes (.facetLock e dst k) s ((s.dev.lockTake k e).2.setRun e act { r with ctx := (r.ctx.setS dst 1).step })) ∧
      (s.dev.get (lockObj k) ≠ 0xFF → s.dev.get (lockObj k) ≠ e → becomes (.facetLock e dst k) s (s.dev.setRun e act { r with ctx := (r.ctx.setS dst 0).step })) ∧
      (s.dev.get (lockObj k) = e → becomes (.facetUnlock e k) s ((s.dev.lockFree k).setRun e act { r with ctx := r.ctx.step })) ∧
      (s.dev.get (lockObj k) ≠ e → becomes (.facetUnlock e k) s (s.dev.setRun e act { r with ctx := r.ctx.step }))) ∧
    (∀ d : Dev, d.get (lockObj k) = 0xFF → (d.lockTake k e).1 = true ∧ (d.lockTake k e).2.get (lockObj k) = e ∧ assoc k (d.lockTake k e).2.tes.lease = some (d.now + 50000) ∧ (d.lockTake k e).2.fac = d.fac)) ∧
  (∀ (s : State) (e : Nat) (act : Bool) (b : Bank) (t : ImgTask) (r : TaskRun), s.dev.running e act b t r → ∀ w n : Nat,
    (b.inLocal w (4 * n) = true → ∀ i ∈ [Instr.facetBiq e [(w, n)], .facetConv e [(w, n)], .facetFft e [(w, n)], .facetIfft e [(w, n)], .facetEnv e [(w, n)], .facetComp e [(w, n)], .facetLim e [(w, n)], .facetTlu e [(w, n)]],
      becomes i s ((({ s.dev with free := s.dev.free + n } : Dev).modBank e act (fun q => q.putWords w ((upto n).map (fun j => Config.free (s.dev.free + j) % 2 ^ 32)))).modBank e act (fun q => q.setRun { r with ctx := r.ctx.step }))) ∧
    (b.inLocal w (4 * n) = false → ∀ i ∈ [Instr.facetBiq e [(w, n)], .facetConv e [(w, n)], .facetFft e [(w, n)], .facetIfft e [(w, n)], .facetEnv e [(w, n)], .facetComp e [(w, n)], .facetLim e [(w, n)], .facetTlu e [(w, n)]],
      becomes i s (s.dev.engFault e 2 r.ctx.pc t.num (!act)))) ∧
  (∀ (s : State) (e : Nat) (act : Bool) (b : Bank) (t : ImgTask) (r : TaskRun), s.dev.running e act b t r → ∀ buf x y g target left pos len code : Nat, b.inLocal buf (4 * t.block) = true →
    (t.block ≤ r.ctx.sreg left → let g0 := toInt 32 (r.ctx.sreg g); let g1 := toInt 32 (r.ctx.sreg target); let m := r.ctx.sreg left
      becomes (.facetRamp e buf g target left false) s (({ s.dev with free := s.dev.free + t.block + (if t.block < m then 2 else 1) } : Dev).modBank e act (fun q => (q.putWords buf (((b.words buf t.block).zip (upto t.block)).map (fun v => ofInt 32
        (if m ≤ v.2 + 1 then quotOf (toInt 32 v.1 * g1) (2 ^ 28) (Config.free (s.dev.free + v.2)) else quotOf (toInt 32 v.1 * (g0 * m + (g1 - g0) * (v.2 + 1 : Nat))) (m * 2 ^ 28) (Config.free (s.dev.free + v.2)))))).setRun
        { r with ctx := ((r.ctx.setS g (ofInt 32 (if m ≤ t.block then g1 else quotOf (g0 * m + (g1 - g0) * t.block) m (Config.free (s.dev.free + t.block + 1))))).setS left (m - t.block)).step }))) ∧
    (r.ctx.sreg left = 0 → ∀ cosine, becomes (.facetRamp e buf g target left cosine) s (({ s.dev with free := s.dev.free + t.block + 1 } : Dev).modBank e act (fun q => (q.putWords buf (((b.words buf t.block).zip (upto t.block)).map (fun v => ofInt 32
        (quotOf (toInt 32 v.1 * toInt 32 (r.ctx.sreg target)) (2 ^ 28) (Config.free (s.dev.free + v.2)))))).setRun { r with ctx := ((r.ctx.setS g (ofInt 32 (toInt 32 (r.ctx.sreg target)))).setS left 0).step }))) ∧
    (b.inLocal x (4 * t.block) = true → b.inLocal y (4 * t.block) = true → r.ctx.sreg len ≤ r.ctx.sreg pos → ∀ power, becomes (.facetXfade e buf x y pos len power) s (s.dev.modBank e act (fun q =>
      (q.putWords buf (((b.words y t.block).map (toInt 32)).map (ofInt 32))).setRun { r with ctx := (r.ctx.setS pos (min (r.ctx.sreg len) (r.ctx.sreg pos + t.block))).step }))) ∧
    (b.inLocal x (4 * t.block) = true → b.inLocal y (4 * t.block) = true → r.ctx.sreg pos + t.block < r.ctx.sreg len → let m := r.ctx.sreg len; let p := r.ctx.sreg pos
      becomes (.facetXfade e buf x y pos len false) s (({ s.dev with free := s.dev.free + t.block } : Dev).modBank e act (fun q =>
        (q.putWords buf (((upto t.block).zip ((b.words x t.block).zip (b.words y t.block))).map (fun v => ofInt 32 (quotOf (toInt 32 v.2.1 * (m - (p + v.1 + 1) : Nat) + toInt 32 v.2.2 * (p + v.1 + 1 : Nat)) m (Config.free (s.dev.free + v.1)))))).setRun
        { r with ctx := (r.ctx.setS pos (p + t.block)).step }))) ∧
    (b.img.envs.length = 1 → becomes (.facetEnvx e buf [0]) s (s.dev.setRun e act { r with ctx := r.ctx.step, envs := assocPut 0 (ceilDiv (((b.words buf t.block).foldl (fun m w => max m (toInt 32 w).natAbs) 0) * 65535) (2 ^ 31)) r.envs })) ∧
    (s.dev.pilotsOn x = false → becomes (.facetPilot e buf x) s (s.dev.modBank e act (fun q => (q.putWords buf (((b.words buf t.block).map (toInt 32)).map (ofInt 32))).setRun { r with ctx := r.ctx.step }))) ∧
    (s.dev.pilotsOn x = true → let l := Dev.each (fun (v : Int) (d : Dev) => (satS 32 (v + (d.pilotSum x).1), (d.pilotSum x).2)) ((b.words buf t.block).map (toInt 32)) s.dev
      becomes (.facetPilot e buf x) s (l.2.modBank e act (fun q => (q.putWords buf (l.1.map (ofInt 32))).setRun { r with ctx := r.ctx.step }))) ∧
    becomes (.facetSignal e code) s (((s.dev.put (key (0x5400 + e) 0x10) (code % 65536)).raise 103).setRun e act { r with ctx := r.ctx.step })) ∧
  (∀ (s : State) (e buf k len : Nat) (act : Bool) (b : Bank) (t : ImgTask) (r : TaskRun) (al : ImgAlloc), s.dev.running e act b t r → s.dev.stores = [] → b.img.allocs[k]? = some al → al.loc = false → 0 < len → len ≤ 262144 → 4 * len ≤ al.size →
    b.inLocal buf (4 * t.block) = true → t.block ≤ len → s.dev.tes.bad = [] →
    let p := match assoc al.addr s.dev.fac.dly with | some p => p % len | none => 0
    let at_ := fun i => al.addr + 4 * ((p + i) % len)
    exec (.facetDly e buf k len) s = .next (s.run (fun m d =>
      let d := (((b.words buf t.block).zip (upto t.block)).foldl (fun (d : Dev) x => d.store (at_ x.2) (leBytes 4 x.1)) d)
      let d := { d with fac := { d.fac with dly := assocPut al.addr ((p + t.block) % len) d.fac.dly } }
      (d.locksRenew e).modBank e act (fun q => (q.putWords buf ((upto t.block).map (fun i => memWord m (at_ i)))).setRun { r with ctx := r.ctx.step }))))

/-- The loader and the boot store (R307, R308, R310, R311): LOAD_START takes the loader, chunks are staged, LOAD_FINISH begins the checks, their result installs the image, writes the boot store, or names the check that failed; an owner that is silent for 10 s loses it, and a boot slot is erased. Where the spec leaves a reading open, the one taken is the model's: assumption log, entries 46 and 47. -/
def Obligations.Loader : Prop :=
  (∀ a : Access, writes (.loadStart a) a 0x548002 1 (fun _ => True) (fun d => { d with fac := { d.fac with staged := [], owner := some (pathBuffer a.path), chunkAt := d.now } })) ∧
  (∀ (a : Access) (b : List Byte), writesBytes (.loadChunk a) a 0x548003 b (fun _ => True) (fun d => { d with fac := { d.fac with staged := d.fac.staged ++ b, chunkAt := d.now } })) ∧
  (∀ a : Access, writes (.loadFinish a) a 0x548004 1 (fun _ => True) (fun d => (({ d with fac := { d.fac with checking := true, owner := none } } : Dev).put 0x548005 1).put 0x548006 0)) ∧
  (∀ (s : State) (v : Verdict) (o : Nat), s.dev.fac.checking = true → exec (.loadResult v (some o)) s = .next (s.run (fun _ d => (d.eccBad (0x700000 + o)).loadEnd 3 o))) ∧
  (∀ (s : State) (v : Verdict) (c x : Nat), s.dev.fac.checking = true → s.dev.stores = [] → s.dev.checkImage (s.dev.get 0x548000) v s.dev.fac.staged = .error (c, x) → becomes (.loadResult v none) s (s.dev.loadEnd c x)) ∧
  (∀ (s : State) (v : Verdict) (i : Image) (t : Dev), s.dev.fac.checking = true → s.dev.get 0x548001 = 0 → s.dev.checkImage (s.dev.get 0x548000) v s.dev.fac.staged = .ok i → s.dev.install (s.dev.get 0x548000) i = .ok t →
    exec (.loadResult v none) s = .next (s.run (fun _ _ => t.loadEnd 2 i.size))) ∧
  (∀ (s : State) (v : Verdict) (i : Image), s.dev.fac.checking = true → s.dev.stores = [] → s.dev.get 0x548001 = 1 → s.dev.mode = 11 → s.dev.checkImage (s.dev.get 0x548000) v s.dev.fac.staged = .ok i → i.portBad = none →
    i.size ≤ 163840 - s.dev.bootUsed (s.dev.get 0x548000) → becomes (.loadResult v none) s ((s.dev.bootSet (s.dev.get 0x548000) (some (s.dev.fac.staged.take i.size, v))).loadEnd 2 i.size)) ∧
  (∀ (d : Dev) (e : Nat) (v : Verdict) (b : List Byte) (o : Nat), readImage v b = .error o → d.checkImage e v b = .error (3, o)) ∧
  (∀ s : State, (s.dev.fac.owner.isSome = true → s.dev.fac.chunkAt + 10000000000 ≤ s.dev.now → becomes .loaderOwnerTimeout s { s.dev with fac := { s.dev.fac with owner := none } }) ∧
    (s.dev.now < s.dev.fac.chunkAt + 10000000000 → becomes .loaderOwnerTimeout s s.dev)) ∧
  (∀ (a : Access) (v : Nat), writes (.bootErase a v) a 0x549300 v (fun _ => True) (Dev.bootSet v none))

/-! The power stage and the boost -/

/-- Power channels (R327 to R332): CH_ENABLE, the ramps of Table 13-4 as they end, a lost sample link, MOD_FREQ and FULL_SCALE_V, a pair reconfigured, a soft restart complete; and what each state of Table 13-3 does when the channel is wanted, must be at high impedance, or is not wanted. Where the spec leaves a reading open, the one taken is the model's: assumption log, entry 53. -/
def Obligations.PowerChannels : Prop :=
  (∀ (a : Access) (n v : Nat), n < 8 → writes (.chEnable a n v) a (pk n 0) v (fun d => d.pwrGov n = n) (fun d => (d.put (pk n 0) v).chSettle n)) ∧
  (∀ (d : Dev) (n : Nat), (d.chState n = 7 → d.chSettle n = d) ∧
    (d.chWanted n = true → d.mustHiz n = false → (d.chState n = 0 → d.chSettle n = d.chStart n false) ∧ (d.chState n = 5 → d.chSettle n = d.chStart n true) ∧ (d.chState n = 6 → d.chSettle n = d) ∧
      (d.chState n = 2 → d.signalOk n = true → d.chSettle n = d.chRamp n true) ∧ (d.chState n = 2 → d.signalOk n = false → d.chSettle n = d) ∧
      (d.chState n = 3 → (d.pch n).stop = false → (d.pch n).ramping = false → d.signalOk n = false → d.chSettle n = d.chRamp n false)) ∧
    (d.chWanted n = true → d.mustHiz n = true → d.chState n < 5 → d.chSettle n = d.chRest n 5) ∧
    (d.chWanted n = false → (d.chState n = 1 ∨ d.chState n = 2 → d.chSettle n = d.chDown n) ∧ (d.chState n = 5 ∨ d.chState n = 6 → d.chSettle n = d.chRest n 0) ∧
      (d.chState n = 3 → (d.pch n).ramping = false → d.chSettle n = (d.chRamp n false).modPch n (fun c => { c with stop := true })))) ∧
  (∀ (s : State) (n t : Nat), n < 8 → (s.dev.pch n).due = some t → t ≤ s.dev.now →
    (s.dev.chState n = 1 → becomes (.commonModeRampDone n) s (((s.dev.setCh n 2).modPch n (fun c => { c with due := none })).chSettle n)) ∧
    (s.dev.chState n = 4 → becomes (.cmDownDone n) s ((s.dev.chRest n 0).chSettle n)) ∧
    (s.dev.chState n = 3 → (s.dev.pch n).ramping = true → (s.dev.pch n).up = true → becomes (.muteRampDone n) s (s.dev.modPch n (fun c => { c with due := none, ramping := false, gain := samplesIn s.dev.fs 5000 }))) ∧
    (s.dev.chState n = 3 → (s.dev.pch n).ramping = true → (s.dev.pch n).up = false → (s.dev.pch n).stop = true → becomes (.muteRampDone n) s (s.dev.chDown n)) ∧
    (s.dev.chState n = 3 → (s.dev.pch n).ramping = true → (s.dev.pch n).up = false → (s.dev.pch n).stop = false →
      becomes (.muteRampDone n) s (((s.dev.setCh n 2).modPch n (fun c => { c with due := none, ramping := false, gain := 0 })).chSettle n))) ∧
  (∀ (s : State) (die : Nat), die < 2 → becomes (.sampleLinkLoss die) s ({ s.dev with pwr := { s.dev.pwr with cut := setBit s.dev.pwr.cut die true } } : Dev).pwrSettle) ∧
  (∀ (a : Access) (v : Nat), writes (.modFreq a v) a 0x610000 v (fun _ => True) (fun d => (d.put 0x610000 v).raise 80)) ∧
  (∀ (a : Access) (n v : Nat), n < 8 → writes (.fullScaleV a n v) a (pk n 1) v (fun _ => True) (fun d => d.put (pk n 1) v)) ∧
  (∀ (s : State) (k : Nat), k < 4 → nthD 0 s.dev.pwr.recon k = 2 → s.dev.chSteady (2 * k) = true → s.dev.chSteady (2 * k + 1) = true →
    becomes (.bridgeReconfig k) s (({ s.dev with pwr := { s.dev.pwr with recon := modNth (fun _ => 0) s.dev.pwr.recon k } } : Dev).raise 80)) ∧
  (∀ (s : State) (k : Nat), k < 4 → nthD 0 s.dev.pwr.recon k = 1 → s.dev.chState (2 * k) = 0 → s.dev.chState (2 * k + 1) = 0 → s.dev.get (pk (2 * k) 0x0A) = 0 →
    let x := ({ s.dev with pwr := { s.dev.pwr with pairs := modNth (fun _ => false) s.dev.pwr.pairs k, recon := modNth (fun _ => 2) s.dev.pwr.recon k } } : Dev).pwrSettle
    x.chSteady (2 * k) = false → x.pwrGov (2 * k) = 2 * k → becomes (.bridgeReconfig k) s x) ∧
  (∀ (s : State) (n : Nat), n < 8 → (s.dev.pch n).soft = true → (s.dev.pch n).ramping = false → s.dev.chState n = 3 → (s.dev.pch n).stop = false →
    becomes (.softRestartDone n) s ((s.dev.modPch n (fun c => { c with soft := false })).raise 73))

/-- Faults of the power stage (R334 to R338, R343): a counted fault of a driven channel, the cycle limit, gate-drive supplies, PVDD_OV, a retry, CLEAR_LATCH, a die's temperature; a fault leaves the channel in RETRY_WAIT, or LATCHED at the eighth retry. Where the spec leaves a reading open, the one taken is the model's: assumption log, entry 53. -/
def Obligations.PowerFaults : Prop :=
  (∀ (s : State) (n : Nat), n < 8 → s.dev.chDriven n = true →
    becomes (.short n) s (s.dev.chFault n 0 true) ∧ becomes (.overcurrent n) s (s.dev.chFault n 1 true) ∧ becomes (.sense n) s (s.dev.chFault n 4 true) ∧
    (s.dev.chState (s.dev.pwrGov n) ≠ 3 → becomes (.legShort n) s (s.dev.chFault n 2 true)) ∧ (s.dev.get (pk (s.dev.pwrGov n) 5) ≠ 0 → becomes (.dc n) s (s.dev.chFault n 3 true)) ∧
    becomes (.currentLimit n) s ((s.dev.add64 (pk (s.dev.pwrGov n) 0x28) 1).modPch (s.dev.pwrGov n) (fun c => { c with cutAt := some s.dev.now }))) ∧
  (∀ (s : State) (n : Nat), s.dev.chDriven n = false → ∀ i ∈ [Instr.short n, .overcurrent n, .legShort n, .dc n, .sense n, .currentLimit n], becomes i s s.dev) ∧
  (∀ (d : Dev) (n i : Nat), n < 8 → n < d.pwr.chans.length → d.pwrGov n = n → d.chWanted n = true → i < 16 →
    (d.retries n < 8 → (d.chFault n i true).chState n = 6 ∧ ((d.chFault n i true).pch n).retryAt = some (d.now + d.get (pk n 4) * 1000000)) ∧
    (8 ≤ d.retries n → (d.chFault n i true).chState n = 7 ∧ (d.chFault n i true).get (pk n 0x24) = 1) ∧ (d.chFault n i true).get (pk n 0x22) = 2 ^ i ∧ ((d.chFault n i true).pch n).ramping = false) ∧
  (∀ (s : State) (u : Nat), u < 8 → s.dev.pwr.on = true → (s.dev.pch u).gate = false → s.dev.chDriven u = true → becomes (.gateDrive u) s ((s.dev.modPch u (fun c => { c with gate := true })).chFault u 5 false)) ∧
  (∀ (s : State) (p : Nat), p < 4 → s.dev.pwr.on = true → bit s.dev.bst.gates p = false →
    becomes (.gateDrive (8 + p)) s (({ s.dev with bst := { s.dev.bst with gates := setBit s.dev.bst.gates p true } } : Dev).boostFault 4).phaseReport) ∧
  (∀ (s : State) (u : Nat), u < 8 → (s.dev.pch u).gate = true → becomes (.gateDriveRecovery u) s ((s.dev.modPch u (fun c => { c with gate := false })).chSettle (s.dev.pwrGov u))) ∧
  (∀ (s : State) (p : Nat), p < 4 → bit s.dev.bst.gates p = true →
    becomes (.gateDriveRecovery (8 + p)) s ((({ s.dev with bst := { s.dev.bst with gates := setBit s.dev.bst.gates p false } } : Dev).phaseReport).raise 86)) ∧
  (∀ s : State, s.dev.pwr.on = true → s.dev.pwr.ov = false → s.dev.boostState = 0 → (∀ n < 8, s.dev.chDriven n = false ∧ s.dev.chState n ≠ 5) →
    becomes .pvddOv s (({ s.dev with pwr := { s.dev.pwr with ov := true } } : Dev).raise 77)) ∧
  (∀ s : State, s.dev.pwr.ov = true → s.dev.boostState ≠ 6 → becomes .pvddOvRecovery s ((({ s.dev with pwr := { s.dev.pwr with ov := false } } : Dev).raise 77).setBflag 5 false).pwrSettle) ∧
  (∀ s : State, s.dev.pwr.on = true → s.dev.pwr.ov = false → s.dev.boostState ≠ 0 →
    let y := ({ s.dev with pwr := { s.dev.pwr with ov := true } } : Dev).raise 77
    let x := y.pwrOwn.foldl (fun (d : Dev) n => d.chFaultIf n 7 false (d.chDriven n || d.chState n = 5)) y
    x.boostState ≠ 0 → x.boostState ≠ 7 → becomes .pvddOv s (((x.setBoost 6).boostFault 2).setBflag 5 (x.bst.vin ≤ 2900))) ∧
  (∀ (s : State) (n t : Nat), n < 8 → (s.dev.pch n).retryAt = some t → t ≤ s.dev.now → s.dev.chState n = 6 → s.dev.chWanted n = true → s.dev.mustHiz n = false →
    becomes (.retry n) s ((s.dev.chStart n true).modPch n (fun c => { c with retries := s.dev.now :: c.retries.filter (fun t => decide (s.dev.now < t + 60000000000)) }))) ∧
  (∀ (a : Access) (n : Nat), n < 8 → writes (.clearLatch a n 1) a (pk n 0x25) 1 (fun d => d.get (pk n 0x24) = 0) id) ∧
  (∀ (a : Access) (n : Nat), n < 8 → writes (.clearLatch a n 1) a (pk n 0x25) 1 (fun d => d.get (pk n 0x24) = 1)
    (fun d => let x := ((d.put (pk n 0x24) 0).modPch n (fun c => { c with retries := [] })).raise 74; (x.chRest n (if x.chWanted n then 5 else 0)).chSettle n)) ∧
  (∀ (s : State) (die : Nat) (t : Int), die < 2 → s.dev.pwr.on = true → t < 160000 → 140000 ≤ t → s.dev.bitOf (key 0x6105 die) 0 = true →
    becomes (.dieTemperature die t) s { s.dev with pwr := { s.dev.pwr with fdie := modNth (fun _ => (max 25000 (100000 - 3 * (t - 125000))).toNat) s.dev.pwr.fdie die } }) ∧
  (∀ (s : State) (die : Nat) (t : Int), die < 2 → s.dev.pwr.on = true → 160000 ≤ t → s.dev.bitOf (key 0x6105 die) 0 = true → s.dev.bitOf (key 0x6105 die) 1 = false →
    becomes (.dieTemperature die t) s (Dev.dieShut die { s.dev with pwr := { s.dev.pwr with fdie := modNth (fun _ => (max 25000 (100000 - 3 * (t - 125000))).toNat) s.dev.pwr.fdie die } }))

/-- The power limit and the pilots (R339 to R341, R344, R345, R361): the 0.1 ms step takes the measurements, the factor of the boost and the powers; an integrator rises by the power above the limit and never falls below 0; a gain falls only while the power exceeds the limit in force and never exceeds 1;
a pilot window stores its results or clears its VALID bit, and RE_CAPTURE takes RE as the reference. Where the spec leaves a reading open, the one taken is the model's: assumption log, entry 53. -/
def Obligations.PowerLimits : Prop :=
  (∀ (s : State) (powers : List Int) (vin pvdd iin : Nat), s.dev.pwr.on = true → vin < 65536 → pvdd < 65536 → iin < 65536 →
    let x := (((s.dev.put 0x621003 pvdd).put 0x621004 vin).put 0x621005 iin)
    let y : Dev := { x with bst := { x.bst with factor := (x.boostFactor vin).1 } }
    becomes (.powerLimitStep powers vin pvdd iin) s ((if y.bflag 1 = (x.boostFactor vin).2 then y else (y.setBflag 1 (x.boostFactor vin).2).raise 85).powerStep powers (x.boostFactor vin).1)) ∧
  (∀ (s : State) (powers : List Int) (vin pvdd iin : Nat), s.dev.pwr.on = false → becomes (.powerLimitStep powers vin pvdd iin) s s.dev) ∧
  (∀ (p : Int) (cont peak x : Nat) (c : PwrCh), c.g ≤ 1000000000 →
    ((limitStep p cont peak x c).e : Int) = max 0 ((c.e : Int) + p - cont) ∧ (limitStep p cont peak x c).lim = cont ∧ (limitStep p cont peak x c).g ≤ 1000000000 ∧
    (p ≤ min cont peak → c.g ≤ (limitStep p cont peak x c).g) ∧ ((max cont peak : Nat) < p → (limitStep p cont peak x c).g ≤ max 1 c.g)) ∧
  (∀ (s : State) (n mag : Nat) (phase : Int) (valid : Bool), n < 8 → s.dev.pwrGov n = n → s.dev.pwr.on = true → (valid = false ∨ s.dev.chState n ≠ 3 →
    becomes (.pilotResult n 0 valid mag phase) s (s.dev.putBit (zk n 4) 0 false) ∧ becomes (.pilotResult n 1 valid mag phase) s (s.dev.putBit (zk n 4) 1 false))) ∧
  (∀ (s : State) (n mag : Nat) (phase : Int), n < 8 → s.dev.pwrGov n = n → s.dev.pwr.on = true → s.dev.chState n = 3 → s.dev.bitOf 0x612000 (8 + n) = true → s.dev.get (zk n 5) = 0 → mag < 2 ^ 32 →
    becomes (.pilotResult n 1 true mag phase) s ((s.dev.put (zk n 2) mag).putBit (zk n 4) 1 true)) ∧
  (∀ (s : State) (n mag : Nat) (phase : Int), n < 8 → s.dev.pwrGov n = n → s.dev.pwr.on = true → s.dev.chState n = 3 → s.dev.bitOf 0x612000 n = true → 100 * s.dev.get 0x612100 < 47 * s.dev.fs → mag < 2 ^ 32 →
    gives (.pilotResult n 0 true mag phase) s (fun d => d.get (zk n 0) = mag ∧ d.getI 16 (zk n 1) = satS 16 phase ∧ d.bitOf (zk n 4) 0 = true ∧ d.get (zk n 2) = s.dev.get (zk n 2))) ∧
  (∀ (a : Access) (n : Nat), n < 8 → writes (.reCapture a n) a (zk n 8) 1 (fun _ => True) (fun d => d.put (zk n 5) (d.get (zk n 2))))

/-- The boost (R349 to R362): an envelope record stored, the 10 us step, RAIL_LOW, the precharge check, a short and its restart, a phase out of balance, and BOOST_CLEAR. Where the spec leaves a reading open, the one taken is the model's: assumption log, entry 54. -/
def Obligations.BoostSupply : Prop :=
  (∀ s : State, s.dev.fac.envQ = [] → becomes .envelopeRecord s s.dev) ∧
  (∀ (s : State) (n k b e : Nat) (rest : List (Nat × Nat × Nat × Nat)), s.dev.fac.envQ = (n, k, b, e) :: rest → n < 8 → s.dev.boostState ≠ 0 →
    let x := ({ s.dev with fac := { s.dev.fac with envQ := rest } } : Dev).prune
    let y : Dev := { x with bst := { x.bst with recs := modNth (fun l => if l.length ≥ 512 then recMerge e l else recInsert (k, k + b - 1, e) l) x.bst.recs n, await := x.bst.await.filter (fun m => m != n) } }
    (y.needOf n e ≤ y.bst.cmd + y.riseTo k → becomes .envelopeRecord s y) ∧
    (y.bst.cmd + y.riseTo k < y.needOf n e → y.bst.ev83 = none → becomes .envelopeRecord s (({ (y.inc 0x621100) with bst := { y.bst with ev83 := some y.now } } : Dev).raise 83))) ∧
  (∀ (s : State) (vin pvdd iin : Nat), s.dev.boostState < 2 ∨ 4 < s.dev.boostState → becomes (.boostCommand vin pvdd iin) s ({ s.dev with bst := { s.dev.bst with vin := vin, pvdd := pvdd, iin := iin } } : Dev).prune) ∧
  (∀ (s : State) (vin pvdd iin : Nat), s.dev.boostState = 3 ∨ s.dev.boostState = 4 → let x := ({ s.dev with bst := { s.dev.bst with vin := vin, pvdd := pvdd, iin := iin } } : Dev).prune
    gives (.boostCommand vin pvdd iin) s (fun d => d.bst.cmd = min (max x.cmdUp (if x.cmdHeld then x.bst.cmd else x.bst.cmd - x.get 0x620101 * 1000)) (x.bst.cmd + x.get 0x620100 * 1000) ∧ (d.boostState = 3 ∨ d.boostState = 4) ∧
      d.bst.vin = vin ∧ d.bst.pvdd = pvdd ∧ d.bst.iin = iin)) ∧
  (∀ s : State, s.dev.switching = true → s.dev.bflag 4 = false → becomes .railLow s ((((s.dev.inc 0x621101).setBflag 4 true)).raise 84)) ∧
  (∀ s : State, s.dev.switching = false ∨ s.dev.bflag 4 = true → becomes .railLow s s.dev) ∧
  (∀ (s : State) (pvdd vin : Nat), s.dev.boostState = 1 → vin ≤ pvdd + 300 → let x := ({ s.dev with bst := { s.dev.bst with pvdd := pvdd, vin := vin } } : Dev)
    ((x.setCmd x.railMin).bypassOk vin = true → becomes (.boostStart pvdd vin) s ((x.setCmd x.railMin).boostUp 3)) ∧
    ((x.setCmd x.railMin).bypassOk vin = false → becomes (.boostStart pvdd vin) s (((x.setCmd x.railMin).setCmd (min (x.setCmd x.railMin).railMin (pvdd * 10000))).setBoost 2))) ∧
  (∀ (s : State) (pvdd vin : Nat), s.dev.boostState = 1 → pvdd + 300 < vin → becomes (.boostStart pvdd vin) s ((({ s.dev with bst := { s.dev.bst with pvdd := pvdd, vin := vin, restartAt := some (s.dev.now + 100000000), shorts := s.dev.now :: s.dev.bst.shorts.filter (fun t => decide (s.dev.now < t + 10000000000)) } } : Dev).setBoost 6).boostFault 0)) ∧
  (∀ s : State, s.dev.switching = true → becomes .railShort s ((({ s.dev with bst := { s.dev.bst with restartAt := some (s.dev.now + 100000000), shorts := s.dev.now :: s.dev.bst.shorts.filter (fun t => decide (s.dev.now < t + 10000000000)) } } : Dev).setBoost 6).boostFault 0)) ∧
  (∀ (s : State) (t : Nat), s.dev.bst.restartAt = some t → t ≤ s.dev.now → s.dev.boostState = 6 →
    (4 ≤ s.dev.bst.shorts.length → becomes .railShortRestart s ((({ s.dev with bst := { s.dev.bst with restartAt := none } } : Dev).setBoost 7).raise 86)) ∧
    (s.dev.bst.shorts.length < 4 → s.dev.cause 1 = false → s.dev.cause 2 = false → becomes .railShortRestart s (({ s.dev with bst := { s.dev.bst with restartAt := none } } : Dev).setBoost 1))) ∧
  (∀ (s : State) (p : Nat), p < 4 → s.dev.switching = true → 2 ≤ bitsSet (fld (s.dev.get kBoostStatus) 9 6) → bit (fld (s.dev.get kBoostStatus) 9 6) p = true →
    becomes (.phaseImbalance p) s ((({ s.dev with bst := { s.dev.bst with disabled := setBit s.dev.bst.disabled p true } } : Dev).boostFault 1).raise 87).phaseReport) ∧
  (∀ (a : Access), writes (.boostClear a 1) a 0x621104 1 (fun d => d.pwr.on = true ∧ d.boostState = 7 ∧ d.pwr.ov = false ∧ d.bst.disabled = 0 ∧ d.cause 1 = false ∧ d.cause 2 = false)
    (fun d => ({ d with bst := { d.bst with restartAt := none } } : Dev).setBoost 1)) ∧
  (∀ (a : Access), writes (.boostClear a 0) a 0x621104 0 (fun _ => True) id) ∧
  (∀ (d : Dev) (st : Nat), d.boostState = st → d.setBoost st = d) ∧
  (∀ (d : Dev) (st : Nat), st < 8 → (d.setBoost st).boostState = st)

/-! Headphone and line, jack, auxiliary outputs, housekeeping converter -/

/-- Headphone and line outputs and the jack (R367 to R376): enables, the start and stop of Table 15-2, HP_RANGE, the volume's step, a fault and its retry; a switch that opens and closes again, an insertion, a removal, what an average current tells, and the buttons. Where the spec leaves a reading open, the one taken is the model's: assumption log, entry 55. -/
def Obligations.HeadphoneJack : Prop :=
  (∀ (a : Access) (v : Nat), writes (.hpEnable a v) a 0x450000 v (fun _ => True) (fun d => (d.put 0x450000 v).hpSettle)) ∧
  (∀ (a : Access) (v : Nat), writes (.loutEnable a v) a 0x451000 v (fun _ => True) (fun d => (d.put 0x451000 v).hpSettle)) ∧
  (∀ (d : Dev) (o : Nat), (d.outState o = 0 → d.outWanted o = true → d.outSettleOne o = d.outStart o false) ∧ (d.outState o = 0 → d.outWanted o = false → d.outSettleOne o = d) ∧
    (d.outState o = 2 → d.outWanted o = true → d.outSettleOne o = d) ∧ (d.outState o = 2 → d.outWanted o = false → d.outSettleOne o = (d.put (ok_ o 4) 3).modOut o (fun c => { c with since := d.now })) ∧ (d.outStart o false).outState o = 1) ∧
  (∀ (s : State) (o : Nat), o < 2 → s.dev.outState o = 1 → (s.dev.outCh o).retry = false → (s.dev.outCh o).since + (if o = 0 then 7000000 else 26000000) ≤ s.dev.now →
    becomes (.outputStartDone o) s ((s.dev.put (ok_ o 4) 2).modOut o (fun c => { c with gain := s.dev.ramp5, retry := false }))) ∧
  (∀ (s : State) (o : Nat), o < 2 → s.dev.outState o = 3 → (s.dev.outCh o).since + (if o = 0 then 6000000 else 26000000) ≤ s.dev.now →
    becomes (.outputStopDone o) s (((s.dev.put (ok_ o 4) 0).modOut o (fun c => { c with gain := 0 })).outSettleOne o)) ∧
  (∀ (a : Access) (v : Nat), writes (.hpRange a v) a 0x450001 v (fun d => d.get 0x450001 ≠ v ∧ d.outState 0 = 2) (fun d => (d.put 0x450001 v).modOut 0 (fun c => { c with stage := 1 }))) ∧
  (∀ s : State, becomes .volumeStep s s.dev.volStep) ∧
  (∀ (d : Dev) (o : Nat) (l r : Int), o < 2 → o < d.hp.outs.length → (d.outCh o).vols = [l, r] → ∃ x y, (d.volStep.outCh o).vols = [x, y] ∧
    (l < d.getI 16 (ok_ o 2) → x = l + 1) ∧ (d.getI 16 (ok_ o 2) < l → x = l - 1) ∧ (l = d.getI 16 (ok_ o 2) → x = l) ∧
    (r < d.getI 16 (ok_ o 3) → y = r + 1) ∧ (d.getI 16 (ok_ o 3) < r → y = r - 1) ∧ (r = d.getI 16 (ok_ o 3) → y = r)) ∧
  (∀ (s : State) (o : Nat), o < 2 → s.dev.outState o = 2 →
    let x := ((((s.dev.put (ok_ o 4) 4).putBit (ok_ o 5) 4 true).inc (ok_ o 6)).modOut o (fun c => { c with gain := 0, retry := false, retryAt := some (s.dev.now + 1000000000) })).raise 69
    becomes (.hpLineFault o) s ((x.bbMake 11 1 69 o (x.get (ok_ o 5) ||| 1) (x.get (ok_ o 6))).outSettleOne o)) ∧
  (∀ (s : State) (o t : Nat), o < 2 → (s.dev.outCh o).retryAt = some t → t ≤ s.dev.now → s.dev.outState o = 4 → becomes (.hpLineRetry o) s ((s.dev.putBit (ok_ o 5) 4 false).outStart o true)) ∧
  (∀ (s : State) (raw : Nat), raw < 4 → s.dev.sup.resetLow = false → s.dev.sup.vinDown = false → s.dev.jackOn = true →
    ((s.dev.put 0x452002 raw).jackAbsent = true → s.dev.get 0x452001 = 2 → s.dev.outState 0 = 2 →
      becomes (.jackMute raw) s (((s.dev.put 0x452002 raw).put 0x452001 3).modOut 0 (fun c => { c with jack := true }))) ∧
    ((s.dev.put 0x452002 raw).jackAbsent = false → s.dev.get 0x452001 = 3 →
      becomes (.presenceReturns raw) s (((s.dev.put 0x452002 raw).put 0x452001 2).modOut 0 (fun c => { c with jack := false }))) ∧
    (s.dev.jackIn = false → s.dev.bitOf 0x452000 5 = false → s.dev.mode ≠ 2 → s.dev.mode ≠ 3 →
      becomes .jackInsertion s (((((((s.dev.put 0x452002 (s.dev.get 0x452002 ||| s.dev.get 0x452000 % 4)).put 0x452001 2).inc 0x452005).raise 66).modOut 0 (fun c => { c with jack := false })).hpSettle))) ∧
    ((s.dev.put 0x452002 raw).jackAbsent = true → s.dev.get 0x452001 = 3 → s.dev.get 0x452003 = 0 → s.dev.hp.biasJack = false → s.dev.outState 0 = 0 → s.dev.mode ≠ 2 → s.dev.mode ≠ 3 →
      let x := ((((s.dev.put 0x452002 raw).put 0x452001 0).raise 66).put 0x452004 0)
      becomes (.jackRemoval raw) s ({ x with hp := { x.hp with ident := none } } : Dev).hpSettle)) ∧
  (∀ (s : State) (t ua : Nat), s.dev.hp.ident = some t → t + 30000000 ≤ s.dev.now → let x := ({ s.dev with hp := { s.dev.hp with ident := none } } : Dev)
    (s.dev.get 0x452100 ≤ ua → becomes (.jackIdentify ua) s (((x.put 0x452003 2).raise 67).jackOpen)) ∧
    (ua < s.dev.get 0x452100 → ua < s.dev.get 0x452103 → becomes (.jackIdentify ua) s (((x.put 0x452003 4).raise 67).jackOpen)) ∧
    (ua < s.dev.get 0x452100 → s.dev.get 0x452103 ≤ ua → becomes (.jackIdentify ua) s ((x.put 0x452003 3).raise 67))) ∧
  (∀ (s : State) (ua : Nat), s.dev.get 0x452003 = 3 → s.dev.hp.biasJack = true → s.dev.get 0x452004 = 0 →
    (s.dev.get 0x452100 ≤ ua → becomes (.button ua) s ((s.dev.put 0x452004 1).raise 68)) ∧
    (ua < s.dev.get 0x452100 → s.dev.get 0x452101 ≤ ua → becomes (.button ua) s ((s.dev.put 0x452004 2).raise 68)) ∧
    (ua < s.dev.get 0x452100 → ua < s.dev.get 0x452101 → s.dev.get 0x452102 ≤ ua → becomes (.button ua) s ((s.dev.put 0x452004 4).raise 68)) ∧
    (ua < s.dev.get 0x452100 → ua < s.dev.get 0x452101 → ua < s.dev.get 0x452102 → becomes (.button ua) s s.dev))

/-- Auxiliary outputs (R379 to R385): a RANGE write and the end of its 200 us, strobes by command and pin, the carrier period that applies held values, CLEAR_N, compliance lost and regained and the read that clears it, and the stored waveforms. Where the spec leaves a reading open, the one taken is the model's: assumption log, entry 56. -/
def Obligations.AuxOutputs : Prop :=
  (∀ (a : Access) (c v : Nat), c < 8 → writes (.range a c v) a (ak c 0) v (fun d => (d.auxCh c).fresh = false ∧ (d.auxCh c).pend = none ∧ (d.auxCh c).range = v) (fun d => d.put (ak c 0) v)) ∧
  (∀ (a : Access) (c v : Nat), c < 8 → writes (.range a c v) a (ak c 0) v (fun d => (d.auxCh c).fresh = true ∨ (d.auxCh c).pend ≠ none ∨ (d.auxCh c).range ≠ v)
    (fun d => ((d.put (ak c 0) v).modAux c (fun x => { x with fresh := false, pend := some (d.now + 200000), arm := none })).auxSettle)) ∧
  (∀ (a : Access) (v : Nat), v < 16 → writes (.loadCmd a v) a 0x460000 v (fun _ => True) (Dev.auxStrobes v)) ∧
  (∀ s : State, s.dev.sup.resetLow = false → s.dev.sup.vinDown = false → becomes (.loadPinEdge (s.dev.bitOf 0x460001 4)) s (s.dev.auxStrobes (s.dev.get 0x460001 % 16)) ∧ becomes (.loadPinEdge (!s.dev.bitOf 0x460001 4)) s s.dev) ∧
  (∀ (d : Dev) (g c : Nat), g < 4 → c < 8 → c < d.aux.chans.length → d.get (ak c 3) = g → d.auxRuns = true → d.aux.clearN = false → (d.auxCh c).fresh = false → (d.auxCh c).pend = none → ((d.auxStrobe g).auxCh c).arm = some d.now) ∧
  (∀ s : State, becomes .heldValuesApply s s.dev.heldApply) ∧
  (∀ (d : Dev) (c : Nat), c < 6 → c < d.aux.chans.length → d.get (ak c 2) = 0 → let x := (d.auxCopy c).auxCh c
    x.value = d.get (ak c 1) ∧ x.code = d.get (ak c 1) ∧ x.range = d.get (ak c 0) ∧ x.source = 0 ∧ x.pend = none ∧ x.arm = none ∧ x.dirty = false ∧ x.await = false) ∧
  (∀ (d : Dev), (∀ c < 8, d.auxDue c = false) → d.heldApply = d.auxSettle) ∧
  (∀ s : State, becomes .clearNFall s s.dev.clearFall ∧ (∀ c < 8, s.dev.clearFall.auxClear c = true) ∧ s.dev.clearFall.aux.clearN = true) ∧
  (∀ s : State, (s.dev.aux.clearN = true → becomes .clearNRise s s.dev.clearRise) ∧ (s.dev.aux.clearN = false → becomes .clearNRise s s.dev)) ∧
  (∀ (d : Dev) (c : Nat), c < 8 → c < d.aux.chans.length → d.aux.clearN = true → d.clearRise.aux.clearN = false ∧ (d.clearRise.auxCh c).await = true) ∧
  (∀ (s : State) (c : Nat), c < 8 → s.dev.ready 24 = true → s.dev.auxDriven c ≠ 0 → s.dev.bitOf (ak c 0x0A) 2 = false → s.dev.bitOf 0x460003 c = false →
    becomes (.complianceLoss c) s (((((s.dev.putBit (ak c 0x0A) 2 true).modAux c (fun x => { x with lostAt := some s.dev.now })).inc (ak c 0x0C)).putBit 0x460003 c true).raise 70)) ∧
  (∀ (s : State) (c : Nat), c < 8 → s.dev.bitOf (ak c 0x0A) 2 = true → becomes (.complianceClear c) s ((s.dev.putBit (ak c 0x0A) 2 false).modAux c (fun x => { x with lostAt := none }))) ∧
  (∀ a : Access, a.staged = false → readsNum (.compliance a) a 0x460003 (fun d => d.sup.coreOn = true) (fun d => d.get 0x460003) (fun d => d.put 0x460003 0)) ∧
  (∀ (s : State) (c t : Nat), c < 8 → s.dev.get (ak c 3) = 4 → (s.dev.auxCh c).pend = some t → t ≤ s.dev.now → s.dev.auxRuns = true → s.dev.aux.clearN = false → (s.dev.auxCh c).fresh = false →
    becomes (.rangePendingExpiry c) s (s.dev.auxCopy c).auxSettle) ∧
  (∀ (a : Access) (w v : Nat), w < 2 → writes (.waveSize a w v) a (wk w 0) v (fun _ => True) (fun d => (d.put (wk w 0) v).waveAlloc w v)) ∧
  (∀ (s : State) (a : Access) (w p : Nat) (b : List Byte), w < 2 → s.dev.takesBytes a (wk w 5) b → nthD none s.dev.aux.waves w = some p →
    exec (.waveData a w []) s = .next (s.run (fun _ d => ((((d.partDone a).store (p + 2 * d.get (wk w 4)) (slice 0 1024 b)).put (wk w 4) (d.get (wk w 4) + 512)).genUp (wk w 5)).ok a))) ∧
  (∀ (a : Access) (w : Nat), w < 2 → writes (.waveRestart a w) a (wk w 6) 1 (fun _ => True) (fun d => d.modAux (6 + w) (fun x => { x with restart := true }))) ∧
  (∀ (s : State) (w : Nat), w < 2 → (s.dev.auxCh (6 + w)).source = 2 → (s.dev.auxCh (6 + w)).play = true → (s.dev.auxCh (6 + w)).mode = 1 → (s.dev.auxCh (6 + w)).ended = true → s.dev.bitOf (ak (6 + w) 0x0A) 5 = false →
    becomes (.waveDone w) s (((s.dev.putBit (ak (6 + w) 0x0A) 5 true).modAux (6 + w) (fun x => { x with ended := true, wphi := 2 ^ 34 - 1 })).raise 71))

/-- The housekeeping converter (R391 to R401): SEQ_START by trigger, SEQ_STOP, a periodic trigger taken or skipped, a conversion of the sequence with its result word, of an urgent request and of the monitor, requests, a calibration and its end, and the two reads that clear. Where the spec leaves a reading open, the one taken is the model's: assumption log, entry 57. -/
def Obligations.HouseKeeping : Prop :=
  (∀ a : Access, writes (.seqStart a) a 0x630001 1 (fun d => d.get 0x631000 = 1 ∧ d.hka.pass = none ∧ d.hka.again = false ∧ d.hka.calAt = none) (fun d => (d.modHka (fun h => { h with pass := some 0, stop := false })).hkaNext)) ∧
  (∀ a : Access, writes (.seqStart a) a 0x630001 1 (fun d => d.get 0x631000 = 1 ∧ d.hka.pass ≠ none) (fun d => (d.inc 0x630004).raise 125)) ∧
  (∀ a : Access, writes (.seqStart a) a 0x630001 1 (fun d => d.get 0x631000 = 0) id) ∧
  (∀ (a : Access) (q : Nat), writes (.seqStop a) a 0x630002 1 (fun d => d.hka.conv = some (.seq q)) (fun d => d.modHka (fun h => { h with active := false, stop := true, again := false }))) ∧
  (∀ a : Access, writes (.seqStop a) a 0x630002 1 (fun d => d.hka.conv = none) (fun d => d.modHka (fun h => { h with active := false, pass := none, again := false }))) ∧
  (∀ s : State, s.dev.get 0x631000 = 3 → s.dev.hka.active = true → s.dev.hkaRuns = true → s.dev.time64 / (s.dev.get 0x631001 * 1000) ≠ s.dev.hka.trig →
    let x := s.dev.modHka (fun h => { h with trig := s.dev.time64 / (s.dev.get 0x631001 * 1000) })
    (s.dev.hka.pass = none → s.dev.hka.calAt = none → becomes .periodicTrigger s ((x.modHka (fun h => { h with pass := some 0, stop := false })).hkaNext)) ∧
    (s.dev.hka.pass ≠ none → becomes .periodicTrigger s ((x.inc 0x630004).raise 125))) ∧
  (∀ (s : State) (q raw input acq : Nat), raw < 65536 → s.dev.hkaRuns = true → s.dev.hka.conv = some (.seq q) → s.dev.entry q = (input, acq, 0) → s.dev.hka.void = false → s.dev.hka.done = 0 → s.dev.hka.sum = 0 → s.dev.hka.flags = 0 →
    s.dev.hka.out = false → s.dev.hka.stop = false → q + 1 < s.dev.get 0x631200 → input ≠ 23 →
    let x := (s.dev.modHka (fun h => { h with out := false })).modHka (fun h => { h with conv := none })
    let w := (s.dev.corrected input raw).1 + 2 ^ 18 * b2n (!s.dev.settles input acq) + 2 ^ 20 * b2n (s.dev.corrected input raw).2 + 2 ^ 21 + 2 ^ 24 * (s.dev.get 0x630003 % 256)
    becomes (.conversionDone raw false false) s ((((((x.put (key 0x6320 q) w).put (key 0x6321 q) (s.dev.stamp - 600)).window q (s.dev.corrected input raw).1)).modHka (fun h => { h with pass := some (q + 1) })).hkaNext)) ∧
  (∀ (s : State) (raw m : Nat), raw < 65536 → s.dev.hkaRuns = true → s.dev.hka.conv = some (.monitor m) → m < 4 → s.dev.hka.out = false →
    becomes (.conversionDone raw false false) s ((((s.dev.modHka (fun h => { h with out := false })).modHka (fun h => { h with conv := none })).put (key 0x6360 m) (s.dev.corrected (monInput m) raw).1).hkaNext)) ∧
  (∀ (s : State) (raw input acq : Nat), raw < 65536 → s.dev.hkaRuns = true → s.dev.hka.conv = some (.urgent input acq) → input ≠ 23 → s.dev.hka.out = false →
    let w := (s.dev.corrected input raw).1 + 2 ^ 18 * b2n (!s.dev.settles input acq) + 2 ^ 20 * b2n (s.dev.corrected input raw).2 + 2 ^ 21 + 2 ^ 24 * (s.dev.get 0x630003 % 256)
    becomes (.conversionDone raw false false) s ((((((s.dev.modHka (fun h => { h with out := false })).modHka (fun h => { h with conv := none })).put 0x635001 w).put 0x635002 (s.dev.stamp - 600)).raise 125).hkaNext)) ∧
  (∀ (s : State) (raw : Nat) (o u : Bool), s.dev.hka.conv = none ∨ s.dev.hkaRuns = false → becomes (.conversionDone raw o u) s s.dev) ∧
  (∀ s : State, s.dev.hkaRuns = true → (s.dev.time64 + 25000) / 50000 ≠ s.dev.hka.mon →
    becomes .monitorRequest s ((s.dev.modHka (fun h => { h with mon := (s.dev.time64 + 25000) / 50000, mons := h.mons ++ [h.cycle], cycle := (h.cycle + 1) % 8 })).hkaNext)) ∧
  (∀ (a : Access) (v q : Nat), v &&& 0xFF1F = v → writes (.urgent a v) a 0x635000 v (fun d => d.hka.conv = some (.seq q) ∧ d.hka.void = false ∧ d.hka.stop = false)
    (fun d => (((d.modHka (fun h => { h with urgent := some (fld v 4 0, fld v 15 8) })).inc 0x630005).modHka (fun h => { h with conv := none, stop := false })).hkaNext)) ∧
  (∀ (a : Access) (v : Nat), v &&& 0xFF1F = v → writes (.urgent a v) a 0x635000 v (fun d => d.hka.conv = none ∧ d.hka.calAt = none) (fun d => d.modHka (fun h => { h with conv := some (.urgent (fld v 4 0) (fld v 15 8)), urgent := none }))) ∧
  (∀ a : Access, writes (.calibrate a) a 0x634000 1 (fun d => d.hka.conv = none ∧ d.hka.urgent = none ∧ d.hka.mons = [])
    (fun d => (d.put 0x634005 1).modHka (fun h => { h with calWait := false, calAt := some d.now, again := h.pass.isSome, pass := none }))) ∧
  (∀ (s : State) (t : Nat) (o : Int) (g : Nat), s.dev.hka.calAt = some t → t + 3200000 ≤ s.dev.now → s.dev.hka.again = false →
    (-256 ≤ o → o ≤ 256 → 32113 ≤ g → g ≤ 33423 → becomes (.calibrationDone o g) s (((((((s.dev.putI 16 0x634001 o).put 0x634002 g).put 0x634003 s.dev.stamp).putI 16 0x634004 (roundDiv (s.dev.get 0x636005 : Nat) 25 - 500)).put 0x634005 2).modHka
      (fun h => { h with calAt := none, again := false })).raise 127).hkaNext) ∧
    (o < -256 ∨ 256 < o ∨ g < 32113 ∨ 33423 < g → becomes (.calibrationDone o g) s (((s.dev.put 0x634005 3).modHka (fun h => { h with calAt := none, again := false })).raise 127).hkaNext)) ∧
  (∀ (a : Access) (q : Nat), q < 32 → a.staged = false → readsNum (.result a q) a (key 0x6320 q) (fun d => d.sup.coreOn = true) (fun d => d.get (key 0x6320 q)) (fun d => d.putBit (key 0x6320 q) 21 false)) ∧
  (∀ a : Access, a.staged = false → readsNum (.windowStatus a) a 0x632300 (fun d => d.sup.coreOn = true) (fun d => d.get 0x632300) (fun d => d.put 0x632300 0)) ∧
  (∀ (d : Dev) (q x : Nat), (x < fld (d.get (key 0x6322 q)) 15 0 ∨ fld (d.get (key 0x6322 q)) 31 16 < x) → d.bitOf 0x632300 q = false → d.window q x = (d.putBit 0x632300 q true).raise 126)

/-! The twin and the Chord link -/

/-- Fencing and claims (R433 to R437, R440): FENCE_IN_N low makes this twin FENCED and unpaired with its lanes and leases gone and both links down, and high again lets it train; FENCE_RELEASE and AUTO_REJOIN release FENCE_OUT_N;
FORCE_ALONE and CLAIM_WAIT fence the partner and claim the shared identity, unless the claim is barred; heartbeats that stop do the same, for the SHADOW as a takeover. Where the spec leaves a reading open, the one taken is the model's: assumption log, entry 58. -/
def Obligations.Fencing : Prop :=
  (∀ s : State, s.dev.twin.fenceIn = true ∨ (s.dev.twin.fenceOut = true ∧ s.dev.twin.id = false ∧ s.dev.now ≤ s.dev.twin.fenceOutAt + 1200) → becomes .fenceIn s s.dev) ∧
  (∀ s : State, s.dev.twin.fenceIn = false → (s.dev.twin.fenceOut = true → s.dev.twin.id = true ∨ s.dev.twin.fenceOutAt + 1200 < s.dev.now) →
    let x := (((((s.dev.modTwin (fun t => { t with fenceIn := true, fenceOut := false, hand := none, failover := false, flags := 0 })).setTbit 4 true).setTbit 3 false).holdEnd false).setTbit 8 false |>.setTbit 0 false).setTbit 1 false
    let y := ((((((x.raise 115).twinRecord 115).setReady114 2 false).setTwin 6).put 0x700301 0).linkSet 0 0).linkSet 1 0
    (y.sup.coreOn = false → becomes .fenceIn s y) ∧ (y.sup.coreOn = true → becomes .fenceIn s (y.causeSet 6).outSettle)) ∧
  (∀ s : State, s.dev.twin.fenceIn = true →
    let x := (((((s.dev.modTwin (fun t => { t with fenceIn := false, barred := true })).setTbit 4 false).raise 115).causeClear 6).outSettle)
    (x.chordUp = true → becomes .fenceInRelease s (x.setTwin 1)) ∧ (x.chordUp = false → becomes .fenceInRelease s (x.setTwin 0))) ∧
  (∀ a : Access, writes (.fenceRelease a 1) a 0x700201 1 (fun d => d.twin.fenceOut = true) (fun d => ((d.modTwin (fun t => { t with fenceOut := false })).setTbit 3 false).raise 115)) ∧
  (∀ s : State, s.dev.get 0x700003 ≠ 0 → s.dev.twin.fenceOut = true → s.dev.twin.fenceOutAt + s.dev.get 0x700003 * 1000000000 ≤ s.dev.now →
    becomes .autoRejoin s (((s.dev.modTwin (fun t => { t with fenceOut := false })).setTbit 3 false).raise 115)) ∧
  (∀ a : Access, writes (.forceAlone a 1) a 0x700202 1 (fun _ => True) (fun d => ((d.modTwin (fun t => { t with barred := false })).fenceAssert.standAlone).claimed 5 2 500)) ∧
  (∀ s : State, s.dev.chordUp = true → s.dev.twinState = 1 ∨ s.dev.twinState = 2 → s.dev.twin.upAt + (s.dev.get 0x700004 + b2n s.dev.twin.id) * 1000000 ≤ s.dev.now →
    (s.dev.twin.barred = true → becomes .claimWait s (s.dev.setTwin 5)) ∧ (s.dev.twin.barred = false → becomes .claimWait s (s.dev.fenceAssert.standAlone.claimed 5 2 500))) ∧
  (∀ s : State, s.dev.twinState = 3 → s.dev.twin.fenceIn = false →
    (s.dev.twinRole = 2 → s.dev.twin.beatAt + 100000 ≤ s.dev.now → exec .heartbeatLoss s = .next (s.run (fun m d => (((d.raise 112).fenceAssert.standAlone).claimed 1 2 500).openProceed m))) ∧
    (s.dev.twinRole = 1 → s.dev.twin.beatAt + 300000 ≤ s.dev.now → exec .heartbeatLoss s = .next (s.run (fun m d => ((d.raise 112).fenceAssert.standAlone).openProceed m)))) ∧
  (∀ d : Dev, d.fenceAssert = (((((d.modTwin (fun t => { t with fenceOut := true, fenceOutAt := d.now })).setTbit 3 true).raise 115).twinRecord 115).raise 5)) ∧
  (∀ d : Dev, d.twinRole = 1 → bit d.twin.flags 2 = false → d.tbit 8 = false →
    d.standAlone.twinState = 4 ∧ d.standAlone.twinRole = 1 ∧ d.standAlone.tbit 6 = true ∧ d.standAlone.tbit 7 = true ∧ d.standAlone.tbit 2 = false ∧ d.standAlone.twin.hand = none) ∧
  (∀ (d : Dev) (m : List Host.Cell), d.sec.opening = none → d.openProceed m = d)

/-- The link (R427 to R430, R439): lanes, training and pairing; heartbeats sent and taken, with the endpoint lease of 200 us; samples sent and received, and boundaries without them. Where the spec leaves a reading open, the one taken is the model's: assumption log, entry 58. -/
def Obligations.ChordLink : Prop :=
  (∀ (s : State) (lane : Nat), lane < 2 → s.dev.chordUp = true → s.dev.tbit lane = true → becomes (.laneFault lane) s (((s.dev.setTbit lane false).inc 0x700405).raise 116)) ∧
  (∀ (s : State) (lane : Nat), lane < 2 → s.dev.chordUp = true → s.dev.tbit lane = false → becomes (.laneGood lane) s ((s.dev.setTbit lane true).raise 116)) ∧
  (∀ s : State, s.dev.chordUp = true → s.dev.twinState = 1 ∨ s.dev.twinState = 5 → becomes .chordTrained s (((s.dev.setTbit 0 true).setTbit 1 true).setTwin 2)) ∧
  (∀ s : State, s.dev.chordUp = true → s.dev.twinState = 4 → becomes .chordTrained s ((s.dev.setTbit 0 true).setTbit 1 true)) ∧
  (∀ (s : State) (model variant rev : Nat) (twin holds : Bool), s.dev.chordUp = true → s.dev.twinState = 2 →
    model ≠ s.dev.get 0x100000 ∨ variant ≠ s.dev.get 0x100100 ∨ rev ≠ s.dev.get 0x100200 ∨ twin = s.dev.twin.id →
    becomes (.hello model variant rev twin holds) s (((s.dev.setTbit 9 true).setTwin 7).raise 118)) ∧
  (∀ (s : State) (twin holds : Bool), s.dev.chordUp = true → s.dev.twinState = 2 → twin ≠ s.dev.twin.id →
    (s.dev.tbit 6 = true → becomes (.hello (s.dev.get 0x100000) (s.dev.get 0x100100) (s.dev.get 0x100200) twin holds) s ((s.dev.setTbit 9 false).rolePaired true)) ∧
    (s.dev.tbit 6 = false → holds = true → becomes (.hello (s.dev.get 0x100000) (s.dev.get 0x100100) (s.dev.get 0x100200) twin holds) s ((s.dev.setTbit 9 false).rolePaired false)) ∧
    (s.dev.tbit 6 = false → holds = false →
      becomes (.hello (s.dev.get 0x100000) (s.dev.get 0x100100) (s.dev.get 0x100200) twin holds) s ((s.dev.setTbit 9 false).rolePaired (decide (b2n s.dev.twin.id = s.dev.get 0x700001))))) ∧
  (∀ s : State, s.dev.chordUp = true → 2 ≤ s.dev.twinState → s.dev.twinState ≤ 4 → s.dev.beatBytes.length = 64 ∧
    becomes .heartbeatSend s (s.dev.modTwin (fun t => { t with wire := [2, 64, 0] ++ leBytes 2 t.sent ++ s.dev.beatBytes, sent := (t.sent + 1) % 65536 }))) ∧
  (∀ (s : State) (h : Heart), s.dev.chordUp = true → s.dev.twinState = 3 → s.dev.twinRole = 1 → bit h.flags 2 = false →
    becomes (.heartbeat h) s ((((s.dev.modTwin (fun t => { t with beatAt := s.dev.now, flags := h.flags })).put 0x700304 h.mode).alignWatch h.boundary).setReady114 2 (bit h.flags 4))) ∧
  (∀ (s : State) (h : Heart), s.dev.chordUp = true → s.dev.twinState = 3 → s.dev.twinRole = 2 → bit h.flags 0 = true → bit h.flags 1 = true → bit h.flags 2 = false → bit h.flags 3 = false → s.dev.ready 5 = false →
    let x := ((s.dev.modTwin (fun t => { t with beatAt := s.dev.now, flags := h.flags })).put 0x700304 h.mode).alignWatch h.boundary
    let y := h.starts.foldl (fun (a : Dev) (v : Nat × Nat × Nat × Nat) => a.modTalker v.1 (fun t => { t with report := some v.2 })) (x.modTwin (fun t => { t with endLease := s.dev.now + 200000 }))
    (y.retire h.launched).ready 5 = false → becomes (.heartbeat h) s ((y.retire h.launched).shadowCheck h.offset)) ∧
  (∀ (s : State) (n : Nat) (l : List (Int × Nat)), s.dev.chordUp = true → s.dev.twinState = 3 →
    becomes (.samples n l) s (s.dev.modTwin (fun t => { t with channels := l.length, frames := (n, l) :: t.frames.filter (fun f => f.1 != n && decide (s.dev.med.index ≤ f.1 + 2)) }))) ∧
  (∀ s : State, s.dev.chordUp = true → s.dev.twinState = 3 → s.dev.med.run = true →
    becomes .samplesSend s (s.dev.chordSend 3 (leBytes 8 s.dev.med.index ++ (upto (s.dev.get 0x700800)).flatMap (fun c => leBytes 4 (s.dev.sinkSample (0x80 + c)).word ++ leBytes 1 (s.dev.sinkSample (0x80 + c)).t)))) ∧
  (∀ s : State, s.dev.chordUp = true → s.dev.twinState = 3 → s.dev.twin.ev117 = none →
    becomes (.samplesMissing true) s (((s.dev.inc 0x700403).modTwin (fun t => { t with ev117 := some s.dev.now })).raise 117) ∧
    becomes (.samplesMissing false) s (((s.dev.inc 0x700404).modTwin (fun t => { t with ev117 := some s.dev.now })).raise 117)) ∧
  (∀ (s : State) (t : Nat) (crc : Bool), s.dev.chordUp = true → s.dev.twinState = 3 → s.dev.twin.ev117 = some t → s.dev.now < t + 1000000 →
    becomes (.samplesMissing crc) s (s.dev.inc (if crc then 0x700403 else 0x700404)))

/-- Mirrored writes, takeover triggers and the handover (R424, R425, R431, R437, R438): a WRITE frame and a transferred set wait for their boundary or act at once; REQUEST, GRANT, boundary S, DONE and its 50 us; LEAVE; SWITCHOVER;
the grandmaster lease; a record of the partner. Where the spec leaves a reading open, the one taken is the model's: assumption log, entries 18 and 58. -/
def Obligations.Handovers : Prop :=
  (∀ (s : State) (r : AccessRecord) (time : Nat), s.dev.takesMirror = true →
    (s.dev.med.run = true → time ≠ 0 → s.dev.stores = [] → becomes (.chordWrite r time) s
      (s.dev.modTwin (fun t => { t with mirror := t.mirror ++ [{ at_ := boundaryAt s.dev.fs time, key := key r.index r.sub, access := chordAccess r, own := false }] }))) ∧
    (s.dev.med.run = false ∨ time = 0 → exec (.chordWrite r time) s =
      .next (s.run (fun m d => d.mirrorAct m { at_ := boundaryAt s.dev.fs time, key := key r.index r.sub, access := chordAccess r, own := false })))) ∧
  (∀ (s : State) (l : List AccessRecord), s.dev.takesMirror = true → s.dev.med.run = true → s.dev.stores = [] →
    becomes (.mirrorData l) s (s.dev.modTwin (fun t => { t with mirror := t.mirror ++ s.dev.transfer (s.dev.med.index + 1) l }))) ∧
  (∀ (s : State) (r : AccessRecord) (l : List AccessRecord) (time : Nat), s.dev.takesMirror = false → s.dev.stores = [] → becomes (.chordWrite r time) s s.dev ∧ becomes (.mirrorData l) s s.dev) ∧
  (∀ (s : State) (r : List Byte), s.dev.chordUp = true → s.dev.twinState = 3 → becomes (.blackbox r) s (s.dev.bbCopy r)) ∧
  (∀ (s : State) (s0 cause : Nat), s.dev.chordUp = true → s.dev.twinState = 3 → s.dev.twin.hand = none →
    becomes (.handoverRequest s0 cause) s ((s.dev.modTwin (fun t => { t with hand := some { s := s0, cause := cause, granted := true } })).chordSend 6 (leBytes 1 2 ++ leBytes 8 s0))) ∧
  (∀ (s : State) (h : Hand), s.dev.chordUp = true → s.dev.twinState = 3 → s.dev.twin.hand = some h → becomes (.handoverGrant h.s) s (s.dev.modTwin (fun t => { t with hand := some { h with granted := true } }))) ∧
  (∀ (s : State) (s0 : Nat), s.dev.chordUp = true → s.dev.twinState = 3 → s.dev.twin.hand = none → s.dev.twin.failover = true →
    becomes (.handoverGrant s0) s (s.dev.modTwin (fun t => { t with hand := some { s := s0, cause := 2, granted := true } }))) ∧
  (∀ (s : State) (h : Hand), s.dev.twin.hand = some h → h.granted = true → h.passed = false → s.dev.twinState = 3 → h.s ≤ s.dev.med.index + 1 → s.dev.sec.opening = none → s.dev.stores = [] →
    (s.dev.twinRole = 1 → becomes .handoverBoundary s
      ((((((s.dev.put 0x700301 (if h.leaving then 0 else 2)).holdEnd false).setTbit 8 false).modTwin
        (fun t => { t with hand := none, failover := false, launchTo := h.s, launchFrom := if h.leaving then h.s + 2 ^ 62 else 0 })).chordSend 6 (leBytes 1 3 ++ leBytes 8 h.s)).setReady114 2 false)) ∧
    (s.dev.twinRole = 2 → bit s.dev.twin.flags 2 = false → (∀ n < 16, (s.dev.talker n).held = []) → gives .handoverBoundary s
      (fun d => d.twinRole = 1 ∧ d.tbit 6 = true ∧ d.tbit 7 = true ∧ d.tbit 2 = false ∧ d.twin.launchFrom = h.s ∧ d.twin.launchTo = 0 ∧ d.twin.hand = some { h with passed := true }))) ∧
  (∀ (s : State) (h : Hand), s.dev.twin.hand = some h → h.passed = true → s.dev.sec.opening = none → s.dev.stores = [] →
    becomes .handoverDone s ((s.dev.modTwin (fun t => { t with hand := none })).claimed h.cause 0 500)) ∧
  (∀ (s : State) (h : Hand), s.dev.twin.hand = some h → h.granted = true → s.dev.twinState = 3 → s.dev.twinRole = 2 → boundaryTime s.dev.fs h.s + 50000 ≤ s.dev.time64 →
    exec .handoverTimeout s = .next (s.run (fun m d => (d.fenceAssert.standAlone.claimed h.cause 2 500).openProceed m))) ∧
  (∀ s : State, s.dev.chordUp = true → s.dev.twinState = 3 → s.dev.sec.opening = none → s.dev.stores = [] →
    becomes .leave s (((((s.dev.put 0x700301 1).holdEnd true).modTwin (fun t => { t with hand := none, failover := false, flags := 0 })).setTbit 8 (s.dev.tbit 8)).setReady114 2 false |>.setTwin 4)) ∧
  (∀ a : Access, writes (.switchover a 1) a 0x700200 1 (fun d => d.switchBusy = false)
    (fun d => (d.modTwin (fun t => { t with hand := some { s := d.boundaryAhead 200000 d.sppMax, cause := 3 } })).chordSend 6 (leBytes 1 1 ++ leBytes 8 (d.boundaryAhead 200000 d.sppMax)))) ∧
  (∀ (s : State) (i : Nat), i < 3 → s.dev.twinState = 3 → s.dev.twinRole = 1 → s.dev.bitOf 0x700005 i = true → (i = 0 → s.dev.cause 0 = true ∨ s.dev.cause 5 = true) →
    (i = 1 → bit s.dev.twin.flags 5 = true ∧ s.dev.linkUp = false) → becomes (.failover i) s (s.dev.modTwin (fun t => { t with failover := true }))) ∧
  (∀ s : State, s.dev.twinState = 3 → bit s.dev.twin.flags 2 = true → s.dev.twin.gmLease ≤ s.dev.now → s.dev.get 0x222500 = 1 → s.dev.tbit 8 = false →
    becomes .gmLeaseExpiry s ((((s.dev.setTbit 8 true).becomeGm s.dev.pairIdent).raise 119).raise 5))

/-! Security, the debug port and the black box -/

/-- The lifecycle and the keys (R445 to R449, R453): provisioning draws a root secret, a failed health test refuses it with BUSY; DEPLOY; a key takes its slot with its digest and EV123, a secret one where nothing reads it, and ends the sessions opened with it;
KEY_REVOKE. A transition is counted, recorded and raises EV120; an erase clears every secret, or sets ERASE_FAILED. Where the spec leaves a reading open, the one taken is the model's: assumption log, entries 40 and 49. -/
def Obligations.Lifecycle : Prop :=
  (∀ a : Access, writes (.lifecycleProvision a true) a 0x710100 0x5AA50001 (fun d => d.sec.opening = none ∧ d.sec.trngFault = false ∧ d.stores = [])
    (fun d => let x := d.secretsGone
      ((({ x with free := x.free + 2, sec := { x.sec with root := some (Config.free x.free % 2 ^ 256), erased := false } } : Dev).putBlob 0x710400 (leBytes 64 (Config.free (x.free + 1)))).put (key 0x7114 12)
        (keyDigest (leBytes 32 (Config.free (x.free + 1))))).transition 1)) ∧
  (∀ (s : State) (a : Access), a.path = .spi → s.dev.pathUp .spi = true → s.dev.sup.capture = false → s.dev.stores = [] →
    firstError ((s.dev.modSec (fun q => { q with trngFault := true })).writeCodes (numAccess a 0x710100 0x5AA50001) 0x710100) = eBusy → becomes (.lifecycleProvision (numAccess a 0x710100 0x5AA50001) false) s
      { (s.dev.modSec (fun q => { q with trngFault := true })).logError 0x7101 0 eBusy 0 0xFF 0 with bus := { s.dev.bus with errNext := s.dev.bus.errNext + 1, keptSpi := some { status := eBusy }, outSpi := .reply { status := eBusy } } }) ∧
  (∀ a : Access, writes (.lifecycleDeploy a) a 0x710100 0x5AA50002 (fun d => d.sec.opening = none ∧ d.stores = []) (fun d => d.transition 2)) ∧
  (∀ (a : Access) (n : Nat) (b : List Byte), n ∈ [1, 2, 3, 4, 9] → writesBytes (.keyPublic a n) a (key 0x7111 n) b (fun d => d.sec.opening = none ∧ d.stores = []) (fun d => (d.putBlob (key 0x7111 n) b).keyStored n b)) ∧
  (∀ (a : Access) (n : Nat) (b : List Byte), n ∈ [5, 6, 7, 8, 10, 11] → writesBytes (.keySecret a n) a (key 0x7112 n) b (fun d => d.sec.opening = none ∧ d.stores = [])
    (fun d => ({ d with sec := { d.sec with secrets := assocPut n b d.sec.secrets }, st := { d.st with blob := assocDel (key 0x7112 n) d.st.blob } } : Dev).keyStored n b)) ∧
  (∀ (a : Access) (n : Nat), n ∈ [1, 2, 3, 4] → writes (.keyRevoke a n) a (key 0x7113 n) 1 (fun d => d.sec.opening = none ∧ d.stores = []) (fun d => (d.put (key 0x7110 n) 2).raise 123)) ∧
  (∀ (d : Dev) (n : Nat) (b : List Byte), (∀ y ∈ (d.keyStored n b).bus.sessions, y.keySlot ≠ n) ∧ (n < 256 → (d.keyStored n b).get (key 0x7110 n) = 1 ∧ (d.keyStored n b).get (key 0x7114 n) = keyDigest b)) ∧
  (∀ (d : Dev) (t : Nat), (t < 3 → d.transition t = ((((d.put kLifecycle t).inc 0x710500).raise 120).bbMake 12 0 120 t (min (d.get 0x710500 + 1) (2 ^ 32 - 1)) (d.get 0x712400))) ∧
    (3 ≤ t → (d.transition t).life = t ∧ (d.transition t).bus.sessions = [])) ∧
  (∀ (d : Dev) (t : Nat), (d.sec.eraseBad = true → d.erase t = (({ d with sec := { d.sec with pending := some t, failed := true } } : Dev).raise 121).bbMake 12 3 121 t (d.get 0x710500) (d.get 0x712400)) ∧
    (d.sec.eraseBad = false → (d.erase t).life = t ∧ (d.erase t).sec.root = none ∧ (d.erase t).sec.secrets = [] ∧ (d.erase t).sec.pending = none ∧ (d.erase t).sec.erased = true ∧ (d.erase t).sec.chal = none))

/-- Unlocking (R454 to R458): a request that needs a token makes a challenge of a nonce and a signature that nothing fixes; one that needs none starts its action; a token is put to verification, one that verifies starts the action of its level and one that fails is
counted, the eighth in succession beginning a lockout of 600 s. Where the spec leaves a reading open, the one taken is the model's: assumption log, entries 3 and 49. -/
def Obligations.Unlocking : Prop :=
  (∀ (d : Dev) (level : Nat), d.challenge level =
    ({ (({ d with free := d.free + 2 } : Dev).putBlob 0x712200 (leBytes 16 (Config.free d.free) ++ leBytes 8 (d.get 0x710300) ++ leBytes 1 level ++ leBytes 1 d.life ++ leBytes 4 (d.get 0x710500) ++ zeros 2)).putBlob 0x712700
        (if d.sec.root.isSome && !d.sec.failed then leBytes 64 (Config.free (d.free + 1)) else zeros 64) with
      sec := { d.sec with chal := some { level := level, at_ := d.now, life := d.life, count := d.get 0x710500 } } } : Dev)) ∧
  (∀ a : Access, writes (.unlockScan a) a 0x712100 1 (fun d => d.noToken 1 = false ∧ d.sec.opening = none ∧ d.stores = []) (fun d => d.challenge 1) ∧
    writes (.unlockFull a) a 0x712100 2 (fun d => d.noToken 2 = false ∧ d.sec.opening = none ∧ d.stores = []) (fun d => d.challenge 2) ∧
    writes (.unlockService a) a 0x712100 3 (fun d => d.life = 2 ∧ d.sec.opening = none ∧ d.stores = []) (fun d => d.challenge 3)) ∧
  (∀ (s : State) (a : Access) (erased : Bool), (s.dev.erasing erased).takesNum a 0x712100 4 → s.dev.life ≠ 0 → s.dev.sec.opening = none → s.dev.stores = [] → becomes (.unlockRetire a erased) s (((s.dev.erasing erased).challenge 4).ok a)) ∧
  (∀ (s : State) (a : Access) (erased : Bool), (s.dev.erasing erased).takesNum a 0x712100 4 → s.dev.life = 0 → s.dev.fac.checking = false → s.dev.sec.opening = none → s.dev.stores = [] →
    becomes (.unlockRetire a erased) s (((({ s.dev with sec := { s.dev.sec with eraseBad := !erased, chal := none } } : Dev).erase 4).ok a))) ∧
  (∀ (s : State) (a : Access) (level : Nat) (i : Instr), (level, i) ∈ [(1, Instr.unlockScan a), (2, .unlockFull a)] → s.dev.takesNum a 0x712100 level → s.dev.noToken level = true → s.dev.fac.checking = false → s.dev.twinState ≠ 3 →
    exec i s = .next (s.run (fun m d => ((({ d with sec := { d.sec with chal := none, opening := some level } } : Dev).enterService m level).ok a)))) ∧
  (∀ (d : Dev) (m : List Host.Cell) (level : Nat), ∃ x : Dev, d.enterService m level = x.outSettle.hpSettle.auxSettle ∧ x.sec.port = level ∧ x.sec.opening = none ∧ x.mode = 10 ∧ x.get kModeRequest = 10 ∧ x.get kSafeCause = 0) ∧
  (∀ (a : Access) (b : List Byte) (c : Chal), writesBytes (.token a) a 0x712300 b (fun d => d.sec.chal = some c ∧ d.sec.opening = none ∧ d.stores = [])
    (fun d => { d with st := { d.st with blob := assocDel 0x712300 d.st.blob }, sec := { d.sec with verify := some { path := some a.path, level := c.level, timely := d.now ≤ c.at_ + 60000000000 && c.life = d.life && c.count = d.get 0x710500 } } })) ∧
  (∀ (s : State) (t : Tok) (erased : Bool), s.dev.sec.verify = some t → t.timely = true → s.dev.keyValid 9 = true → s.dev.challenged = true → s.dev.fac.checking = false → s.dev.sec.opening = none →
    (3 ≤ t.level → s.dev.stores = [] → becomes (.tokenVerified true erased) s
      ((({ s.dev with sec := { s.dev.sec with eraseBad := !erased, verify := none, chal := none } } : Dev).put 0x712400 0).erase (if t.level = 3 then 3 else 4))) ∧
    (t.level < 3 → s.dev.twinState ≠ 3 → s.dev.life ≠ 2 → exec (.tokenVerified true erased) s = .next (s.run (fun m d =>
      ((({ d with sec := { d.sec with eraseBad := !erased, verify := none, chal := none, opening := some t.level } } : Dev).put 0x712400 0).enterService m t.level))))) ∧
  (∀ (s : State) (t : Tok) (p : Path) (sig erased : Bool), s.dev.sec.verify = some t → t.path = some p → sig = false ∨ t.timely = false → s.dev.sec.opening = none → s.dev.stores = [] → s.dev.get 0x712400 < 7 →
    becomes (.tokenVerified sig erased) s (((((({ s.dev with sec := { s.dev.sec with eraseBad := !erased, verify := none } } : Dev).put 0x712400 (s.dev.get 0x712400 + 1)).raise 121).bbMake 12 1 121 t.level (s.dev.get 0x710500)
      (s.dev.get 0x712400 + 1)).logError 0x7123 0 eRange (pathSource p).1 (pathSource p).2 0))) ∧
  (∀ (s : State) (t : Tok) (sig erased : Bool), s.dev.sec.verify = some t → t.path = none → sig = false ∨ t.timely = false → s.dev.sec.opening = none → s.dev.stores = [] → 7 ≤ s.dev.get 0x712400 →
    gives (.tokenVerified sig erased) s (fun d => d.get 0x712400 = 8 ∧ d.sec.lockEnd = some (s.dev.now + 600000000000) ∧ d.sec.verify = none)) ∧
  (∀ (s : State) (t : Nat), s.dev.sec.lockEnd = some t → t ≤ s.dev.now → becomes .lockoutEnd s ((s.dev.modSec (fun q => { q with lockEnd := none })).raise 121))

/-- The test access port (R459, R460): the chip's identity and one bit of BYPASS always, the boundary register only with the port open, an instruction that is not available acting as BYPASS; a level asked for and a token given over the port; the debug transactions of an open port, each within its reach
or an error that changes nothing; and with the Core domain off nothing at all. Where the spec leaves a reading open, the one taken is the model's: assumption log, entry 51. -/
def Obligations.TestPort : Prop :=
  (∀ (s : State) (pins level : Nat) (scan : Option Nat) (sig erased : Bool) (op : DbgOp), s.dev.sup.coreOn = false → s.dev.stores = [] →
    ∀ i ∈ [Instr.tapBypass, .tapIdcode, .tapSamplePreload pins scan, .tapExtest pins scan, .tapClamp, .tapHighz, .dbgChallenge level, .dbgUnlock sig erased, .dbgAccess op], becomes i s s.dev) ∧
  (∀ (s : State) (pins : Nat) (scan : Option Nat), s.dev.sup.coreOn = true →
    let base (ir : Nat) := s.dev.modTap (fun t => { t with ir := ir, out := 0, err := false, drive := 0 })
    becomes .tapBypass s (base 0xFF) ∧ becomes .tapIdcode s (s.dev.modTap (fun t => { t with ir := 1, out := 0x148166BF, err := false, drive := 0 })) ∧
    (s.dev.sec.port = 0 → becomes (.tapSamplePreload pins scan) s (base 2) ∧ becomes (.tapExtest pins scan) s (base 3) ∧ becomes .tapClamp s (base 4) ∧ becomes .tapHighz s (base 5)) ∧
    (0 < s.dev.sec.port → becomes .tapClamp s (s.dev.modTap (fun t => { t with ir := 4, out := 0, err := false, drive := 2 })) ∧ becomes .tapHighz s (s.dev.modTap (fun t => { t with ir := 5, out := 0, err := false, drive := 3 })) ∧
      (∀ v, becomes (.tapSamplePreload pins (some v)) s (s.dev.modTap (fun t => { t with ir := 2, out := pins, bsr := v, err := false, drive := 0 })) ∧
        becomes (.tapExtest pins (some v)) s (s.dev.modTap (fun t => { t with ir := 3, out := pins, bsr := v, err := false, drive := 1 }))))) ∧
  (∀ s : State, becomes .trstN s (s.dev.modTap (fun t => { t with ir := 1, drive := 0, out := 0, err := false }))) ∧
  (∀ (s : State) (level : Nat), s.dev.sup.coreOn = true → s.dev.stores = [] → s.dev.sec.opening = none →
    let x := s.dev.modTap (fun t => { t with ir := 0x10, out := 0, err := false, drive := 0 })
    (1 ≤ level → level ≤ 4 → s.dev.unlockCodes level = [] → s.dev.noToken level = false → becomes (.dbgChallenge level) s (x.challenge level).chalOut) ∧
    (s.dev.unlockCodes level ≠ [] → becomes (.dbgChallenge level) s (x.chalOut.modTap (fun t => { t with err := true })))) ∧
  (∀ (s : State) (c : Nat) (sig erased : Bool), s.dev.sup.coreOn = true → s.dev.stores = [] → firstError s.dev.tokenCodes = c → c ≠ eOk →
    becomes (.dbgUnlock sig erased) s (s.dev.modTap (fun t => { t with ir := 0x11, out := c, err := true, drive := 0 }))) ∧
  (∀ (s : State) (sig erased : Bool), s.dev.sup.coreOn = true → s.dev.stores = [] → s.dev.tokenCodes = [] → s.dev.sec.chal = none →
    gives (.dbgUnlock sig erased) s (fun d => d.sec.tap.err = true ∧ d.sec.tap.out = eRange ∧ d.sec.verify = none ∧ d.sec.port = s.dev.sec.port ∧ d.get 0x712400 = min 8 (s.dev.get 0x712400 + 1))) ∧
  (∀ (s : State) (op : DbgOp), s.dev.sup.coreOn = true → s.dev.sec.port ≠ 2 → s.dev.stores = [] → becomes (.dbgAccess op) s (s.dev.modTap (fun t => { t with ir := 0x12, out := 0, err := false, drive := 0 }))) ∧
  (∀ s : State, s.dev.sup.coreOn = true → s.dev.sec.port = 2 → s.dev.stores = [] →
    let x := s.dev.modTap (fun t => { t with ir := 0x12, out := 0, err := false, drive := 0 })
    (∀ a, a % 4 = 0 → a < 0x500000 → becomes (.dbgAccess (.readMem a)) s (x.dbgOut (memWord s.mem a))) ∧
    (∀ a v, a % 4 ≠ 0 ∨ 0x700000 ≤ a → becomes (.dbgAccess (.readMem a)) s x.dbgErr ∧ becomes (.dbgAccess (.writeMem a v)) s x.dbgErr) ∧
    (∀ a v, Memory.wf s.mem = true → a % 4 = 0 → a < 0x700000 → v < 2 ^ 32 → ∃ t, exec (.dbgAccess (.writeMem a v)) s = .next t ∧ t.pending = s.pending ∧ t.dev = x ∧ memWord t.mem a = v ∧ ∀ b, b < a ∨ a + 4 ≤ b → memRead t.mem b = memRead s.mem b) ∧
    (∀ e code a v, e < 8 → a % 4 = 0 → a < 131072 → (s.dev.eng e).active = none →
      becomes (.dbgAccess (.writeEngine e code a v)) s (x.modSec (fun q => { q with words := assocPut (engWord e code a) (v % 2 ^ 32) q.words })) ∧
      (assoc (engWord e code a) s.dev.sec.words = some v → becomes (.dbgAccess (.readEngine e code a)) s (x.dbgOut v)) ∧ (assoc (engWord e code a) s.dev.sec.words = none → becomes (.dbgAccess (.readEngine e code a)) s (x.dbgOut 0))) ∧
    (∀ e, e < 8 → becomes (.dbgAccess (.halt e)) s (x.modTap (fun t => { t with halted := setBit t.halted e true, steps := modNth (fun _ => 0) t.steps e })) ∧
      becomes (.dbgAccess (.resume e)) s (x.modTap (fun t => { t with halted := setBit t.halted e false, steps := modNth (fun _ => 0) t.steps e })) ∧
      (bit s.dev.sec.tap.halted e = true → becomes (.dbgAccess (.single e)) s (x.modTap (fun t => { t with steps := modNth (fun n => n + 1) t.steps e }))) ∧
      (bit s.dev.sec.tap.halted e = false → becomes (.dbgAccess (.single e)) s x.dbgErr)) ∧
    (∀ e act b t r n, e < 8 → s.dev.current e = some (act, b, t, r) →
      becomes (.dbgAccess (.readReg e 0 n)) s (x.dbgOut (ofInt 72 (r.ctx.sreg n))) ∧ ∀ v, becomes (.dbgAccess (.writeReg e 0 n v)) s (x.setRun e act { r with ctx := r.ctx.setS n (ofInt 32 v) }))) ∧
  (∀ (s : State) (e dst x y : Nat), bit s.dev.sec.tap.halted e = true → nthD 0 s.dev.sec.tap.steps e = 0 → becomes (.facetAdd e dst x y) s s.dev)

/-- The black box (R464 to R467): the record at the head of the queue is written, and sent to the partner of a pair; a read of BB_RECORD gives the record at BB_READ and moves on, or zeros at the count; BB_CLEAR empties it and makes a record of kind HOST. Where the spec leaves a reading open, the one taken is the model's: assumption log, entry 52. -/
def Obligations.BlackBox : Prop :=
  (∀ (s : State) (r : List Byte) (l : List (List Byte)), s.dev.bb.queue = r :: l → s.dev.twinState ≠ 3 → becomes .bbRecordWrite s (({ s.dev with bb := { s.dev.bb with queue := l } } : Dev).bbStore r)) ∧
  (∀ (s : State) (r : List Byte) (l : List (List Byte)), s.dev.bb.queue = r :: l → s.dev.twinState = 3 → becomes .bbRecordWrite s ((({ s.dev with bb := { s.dev.bb with queue := l } } : Dev).bbStore r).chordSend 5 r)) ∧
  (∀ s : State, s.dev.bb.queue = [] → becomes .bbRecordWrite s s.dev) ∧
  (∀ (d : Dev) (r : List Byte), assoc (d.get 0x720000) (d.bbStore r).bb.ring = some r ∧ (d.get 0x720000 < 2 ^ 32 - 1 → (d.bbStore r).get 0x720000 = d.get 0x720000 + 1)) ∧
  (∀ a : Access, readsBytes (.bbRecord a) a 0x720200 (fun d => d.get 0x720100 < d.get 0x720000 ∧ (d.bbAt (d.get 0x720100)).length ≤ a.offset + min a.length (pathSegment a.path)) (fun d => d.bbAt (d.get 0x720100)) (fun d => (d.put 0x720100 (d.get 0x720100 + 1)).genUp 0x720200)) ∧
  (∀ a : Access, readsBytes (.bbRecord a) a 0x720200 (fun d => d.get 0x720000 ≤ d.get 0x720100) (fun _ => zeros 32) id) ∧
  (∀ a : Access, writes (.bbClear a 1) a 0x720600 1 (fun d => d.bb.pinned = [])
    (fun d => (((((({ d with bb := { d.bb with ring := [], pinned := [], cleared := d.get 0x720000 } } : Dev).put 0x720300 (d.get 0x720000)).put 0x720500 0).put 0x720100 (max (d.get 0x720000) (d.get 0x720100))).genUp 0x720200).bbMake 13 0 0xFF 0
      (d.get 0x720000 - d.get 0x720300) 0)))

/-! Tessera memory, the tick and the media boundary -/

/-- The background tester and the pool-bank locks (R413 to R417, R32): a slot tests the region of the pass's order and the next is due, the last ends the pass with EV108; an error found is corrected or counted, and a region that fails is remapped to a spare or, with none left, sets MEM_FAULT; a disabled tester
does nothing. A session takes a lock for 50 us or frees it; a lease that runs out is revoked, counted and reported, and an engine that held it faults. Where the spec leaves a reading open, the one taken is the model's: assumption log, entry 63. -/
def Obligations.TesterAndLocks : Prop :=
  (∀ (s : State) (l1 l2 : List Nat) (b : Bool), s.dev.sup.coreOn = false ∨ s.dev.ready 20 = false ∨ s.dev.get 0x582000 ≠ 1 → becomes (.bgTestSlot l1 l2 b) s s.dev) ∧
  (∀ s : State, s.dev.sup.coreOn = true → s.dev.ready 20 = true → s.dev.get 0x582000 = 1 →
    (s.dev.get 0x582200 < 131071 →
      let n := s.dev.get 0x582200
      let b := (bgSlot n).1
      let r := (bgSlot n).2
      becomes (.bgTestSlot [] [] false) s (s.dev.put 0x582200 (n + 1)) ∧ becomes (.bgTestSlot [] [] true) s ((s.dev.regionFail b r).put 0x582200 (n + 1)) ∧
        ∀ j, j < 16 → becomes (.bgTestSlot [j] [] false) s ((s.dev.eccFix (regionWord b r j)).put 0x582200 (n + 1)) ∧ becomes (.bgTestSlot [] [j] false) s ((s.dev.eccBad (regionWord b r j)).put 0x582200 (n + 1))) ∧
    (s.dev.get 0x582200 = 131071 → becomes (.bgTestSlot [] [] false) s (((s.dev.put 0x582200 0).inc 0x582100).raise 108))) ∧
  (∀ (d : Dev) (b r : Nat), b < 20 →
    (d.get (key 0x5824 b) < 16 → (d.regionFail b r).tes.remap = d.tes.remap ++ [(b, r, d.get (key 0x5824 b))] ∧ (d.regionFail b r).get (key 0x5824 b) = d.get (key 0x5824 b) + 1) ∧
    (16 ≤ d.get (key 0x5824 b) → (d.regionFail b r).tes.remap = d.tes.remap ∧ (d.regionFail b r).bitOf 0x582500 0 = true)) ∧
  (∀ (a : Access) (k slot : Nat), a.path = .tdt slot → k < 16 → writes (.lockTake a k 1) a (key 0x5831 k) 1 (fun d => d.get (lockObj k) = 0xFF ∨ d.get (lockObj k) = 0x20 + slot)
    (fun d => ({ d with tes := { d.tes with lease := assocPut k (d.now + 50000) d.tes.lease, lost := d.tes.lost.filter (fun e => e != (0x20 + slot, k)) } } : Dev).put (lockObj k) (0x20 + slot))) ∧
  (∀ (a : Access) (k slot : Nat), a.path = .tdt slot → k < 16 → writes (.lockTake a k 0) a (key 0x5831 k) 0 (fun d => d.get (lockObj k) = 0x20 + slot) (fun d => d.lockFree k)) ∧
  (∀ (d : Dev) (k : Nat), k < 16 → (d.lockFree k).get (lockObj k) = 0xFF ∧ (d.lockFree k).get (key 0x5831 k) = 0) ∧
  (∀ (s : State) (k t : Nat), k < 16 → assoc k s.dev.tes.lease = some t → t ≤ s.dev.now →
    (0x20 ≤ s.dev.get (lockObj k) → s.dev.get (lockObj k) ≠ 0xFF →
      let x := (s.dev.lockFree k).inc 0x583200
      becomes (.lockRevoked k) s (((({ x with tes := { x.tes with lost := x.tes.lost ++ [(s.dev.get (lockObj k), k)] } } : Dev).bbMake 7 1 109 0 1 k).raise 109).raise 5)) ∧
    (s.dev.get (lockObj k) < 8 →
      becomes (.lockRevoked k) s ((((((s.dev.lockFree k).inc 0x583200).bbMake 7 1 109 (s.dev.get (lockObj k) + 1) 1 k).raise 109).raise 5).engineFault (s.dev.get (lockObj k)) 5)))

/-- The counter (R116): its three fields stay in their ranges, a tick adds the increment to the whole of them with the carry out of the nanoseconds field advancing the seconds, the increment is a number of 8.40 bits and 4.0 ns at the nominal rate, and TIME64 leaves the fraction out. -/
def Obligations.Counter : Prop :=
  (∀ (t : Tim) (inc : Nat), t.sec < 2 ^ 48 → t.ns < 10 ^ 9 → t.frac < 2 ^ 40 → inc < 2 ^ 48 →
    (t.add inc).sec < 2 ^ 48 ∧ (t.add inc).ns < 10 ^ 9 ∧ (t.add inc).frac < 2 ^ 40 ∧
    ((t.add inc).sec * 10 ^ 9 + (t.add inc).ns) * 2 ^ 40 + (t.add inc).frac = ((t.sec * 10 ^ 9 + t.ns) * 2 ^ 40 + t.frac + inc) % (2 ^ 48 * 10 ^ 9 * 2 ^ 40)) ∧
  (∀ d : Dev, d.increment < 2 ^ 48 ∧ (d.rate = 0 → d.increment = 4 * 2 ^ 40)) ∧
  (∀ d : Dev, d.time64 = d.tim.sec * 10 ^ 9 + d.tim.ns) ∧
  (∀ d : Dev, d.sup.coreOn = true → d.tim.lost = false →
    d.timeTick.tim.sec = (d.tim.add d.increment).sec ∧ d.timeTick.tim.ns = (d.tim.add d.increment).ns ∧ d.timeTick.tim.frac = (d.tim.add d.increment).frac) ∧
  (∀ (s : State) (n : Nat), let x := times (fun d => d.timeTick.netTick) n s.dev; x.med.run = true → exec (.tick n) s = .next (s.run (fun _ _ => x)))

/-- The tick, the media boundary and a Sync of the grandmaster (R15, R24, R274, R116, R431): a tick moves local time by 4 ns and the shapers of a switch that is ready, and with no strobe running what waits for a boundary acts; a boundary counts its index, makes the writes due, lets the fabric take what the boundary before left, the sources write and the
sinks take, in that order; with no strobe it does nothing; a Sync is counted, renews the lease for 1 s, and its frame is handed to the switch. Where the spec leaves a reading open, the one taken is the model's: assumption log, entries 50 and 63. -/
def Obligations.Boundaries : Prop :=
  (∀ (s : State) (n : Nat), let x := times (fun d => d.timeTick.netTick) n s.dev
    (x.med.run = false → exec (.tick n) s = .next (s.run (fun m _ => Dev.captureNow m x.ledgerDoClear))) ∧ (x.med.run = true → exec (.tick n) s = .next (s.run (fun _ _ => x)))) ∧
  (∀ d : Dev, d.timeTick.now = d.now + 4 ∧ (d.ready 9 = false → d.netTick = d) ∧ (d.ready 9 = true → d.netTick = (upto 3).foldl (fun (a : Dev) p => ((a.txKick p).shaperTick p 6).shaperTick p 5) d)) ∧
  (∀ (s : State) (inputs : List (Nat × Int)), s.dev.med.run = false → s.dev.stores = [] → becomes (.mediaSampleBoundary inputs) s s.dev) ∧
  (∀ (s : State) (inputs : List (Nat × Int)), s.dev.med.run = true → exec (.mediaSampleBoundary inputs) s = .next (s.run (fun m d =>
    let d0 := (({ d with med := { d.med with index := d.med.index + 1 } } : Dev).boundaryWrites m).sapMasters
    let x := d0.facOutputs d0.med.index
    let d1 := (((x.2.latFabric x.1).facInputs d0.med.index).boundarySources inputs m).latSinks.boundarySinks
    { d1 with med := { d1.med with invOnce := false } }.ledgerEdge))) ∧
  (∀ (d : Dev) (m : List Host.Cell), d.sup.capture = false → d.sup.ledgerClear = false → (∀ x ∈ d.twin.mirror, d.med.index < x.at_) → d.boundaryWrites m = d) ∧
  (∀ (d : Dev) (m : List Host.Cell) (x : Mirror), d.sup.capture = false → d.sup.ledgerClear = false → d.twin.mirror = [x] → x.at_ ≤ d.med.index →
    d.boundaryWrites m = ({ d with twin := { d.twin with mirror := [] } } : Dev).mirrorAct m x) ∧
  (∀ s : State, s.dev.serves = false → becomes .syncTransmit s s.dev) ∧
  (∀ s : State, s.dev.serves = true →
    let f : QFrame := { bytes := ({ s.dev with free := s.dev.free + 1 } : Dev).syncFrame (Config.free s.dev.free % 65536), cls := 7, ring := some 6, chain := [{ buf := 0, control := 0, port := 0, len := 0 }], rxAt := some s.dev.now }
    let x : Dev := { s.dev with free := s.dev.free + 1, twin := { s.dev.twin with syncs := (s.dev.twin.syncs + 1) % 2 ^ 32, gmLease := s.dev.now + 1000000000 } }
    (s.dev.switchOn = true → becomes .syncTransmit s (({ x with net := { x.net with handed := x.net.handed ++ [f] } } : Dev).add64 (key 0x3316 8) 1)) ∧ (s.dev.switchOn = false → becomes .syncTransmit s x))

/-! The block as a whole -/

/-- A step takes the command at the front of the queue and is exec of it with the queue's rest; an empty queue idles (the model's choice, assumption log 1); a word spells no command. -/
def Obligations.QueueStep : Prop :=
  (∀ (c : Instr) (s : State) (rest : List Instr), step { s with pending := c :: rest } = exec c { s with pending := rest }) ∧ (∀ s : State, s.pending = [] → step s = .next s) ∧
  (∀ (s : State) (n w : Nat), s.withFetchWord n w = s)

/-- Every command answers a next state and leaves the rest of the queue as it is, and a command that may not store leaves every byte of Tessera memory as it is. Where the spec leaves a reading open, the one taken is the model's: assumption log, entries 8 and 9. -/
def Obligations.CommandsComplete : Prop :=
  ∀ (i : Instr) (s : State), ∃ t, exec i s = .next t ∧ t.pending = s.pending ∧ (mayStore i = false → t.mem = s.mem ∧ t.dev.stores = s.dev.stores)

/-- Every step keeps the form of the state: memory is canonical, and no store waits. -/
def Obligations.StepKeepsForm : Prop :=
  ∀ s t : State, s.inv → step s = .next t → t.inv

/-- The state after reset has that form; no command waits, memory lists nothing and so reads 0 (R405), the part is in BRINGUP (R78), and no FENCE_OUT_N is asserted. Where the spec leaves a reading open, the one taken is the model's: assumption log, entries 5 and 6. -/
def Obligations.ResetForm : Prop :=
  State.reset.inv ∧ State.reset.pending = [] ∧ (∀ a, memRead State.reset.mem a = 0) ∧ State.reset.dev.mode = 1 ∧ State.reset.dev.twin.fenceOut = false

/-! Rules stated whole -/

/-- A request cut short (R480): it has no answer, is counted in `1410.00` and does nothing else, and the response kept before it is still what RESEND answers. -/
def Obligations.SpiCutShort : Prop :=
  ∀ (s : State), s.dev.pathUp .spi = true → ∃ t, exec .spiAborted s = .next t ∧ t = { s with dev := { s.dev.put 0x141000 (min (s.dev.get 0x141000 + 1) (2 ^ 32 - 1)) with bus := { s.dev.bus with outSpi := .none } } } ∧
    t.dev.get 0x141000 = min (s.dev.get 0x141000 + 1) (2 ^ 32 - 1) ∧
    ∀ r, s.dev.bus.keptSpi = some r → exec (.resend false) t = .next { t with dev := { t.dev with bus := { t.dev.bus with outSpi := .reply r } } }

/-- HOLD and STAGED (R45): a held write of a member is staged and commits nothing, the last member of its group too; HOLD makes no difference to an object outside every group; a READ with STAGED answers the staged value of a member; STAGED makes no difference to any other object. -/
def Obligations.HoldAndStaged : Prop :=
  (∀ (s : State) (a : Access) (index sub v : Nat) (o : Obj), a.path = .spi → a.hold = true → s.dev.stores = [] → sub < 256 → s.dev.takes a (key index sub) → s.dev.objAt (key index sub) = some o → o.acc = .st → o.ty.isBytes = false →
    (∃ c, s.dev.payload a o (key index sub) = (.num v, c)) → becomes (.write a index sub []) s
      { s.dev with st := { s.dev.st with staged := assocPut (key index sub) v s.dev.st.staged }, bus := { s.dev.bus with keptSpi := some { status := 0 }, outSpi := .reply { status := 0 } } }) ∧
  (∀ (s : State) (a : Access) (index sub : Nat) (hits : List (Nat × Nat)) (o : Obj), s.dev.takes a (key index (sub % 256)) → s.dev.objAt (key index (sub % 256)) = some o → o.acc ≠ .st →
    exec (.write { a with hold := true } index sub hits) s = exec (.write { a with hold := false } index sub hits) s) ∧
  (∀ (s : State) (a : Access) (index sub : Nat) (e1 e2 : List Nat) (o : Obj) (v : Nat), a.staged = true → s.dev.objAt (key index (sub % 256)) = some o → o.acc = .st → o.ty.isBytes = false →
    assoc (key index (sub % 256)) s.dev.st.staged = some v → s.dev.reads a (key index (sub % 256)) → a.path = .spi → gives (.read a index sub e1 e2) s (fun d => d.bus.outSpi = .reply { status := 0, data := leBytes o.ty.bytes v })) ∧
  (∀ (s : State) (a : Access) (index sub : Nat) (e1 e2 : List Nat), (∀ o, s.dev.objAt (key index (sub % 256)) = some o → o.acc ≠ .st) →
    exec (.read { a with staged := true } index sub e1 e2) s = exec (.read { a with staged := false } index sub e1 e2) s)

/-- The channels of PLAY-ECO (R331): with the mode at PLAY-ECO, a write of CH_ENABLE = 1 to a channel that is not enabled, by which more than 4 channels would be enabled, a bridged pair counting as two, is answered RANGE and changes nothing beside the error log and that answer; the refusal CHANNELS of a step to PLAY-ECO counts alike. -/
def Obligations.EcoChannels : Prop :=
  (∀ (s : State) (a : Access) (n : Nat), a.path = .spi → n < 8 → s.dev.pathUp .spi = true → s.dev.sup.capture = false → s.dev.pwrGov n = n → s.dev.effMode = 7 → s.dev.chEnabled n = false →
    4 < s.dev.chCount + (if s.dev.bridged n then 2 else 1) → (∀ c ∈ s.dev.writeCodes (numAccess a (pk n 0) 1) (pk n 0), c = eRange) →
    becomes (.chEnable a n 1) s ({ s.dev.logError (0x6000 + 16 * n) 0 eRange 0 0xFF 0 with bus := { s.dev.bus with errNext := s.dev.bus.errNext + 1, keptSpi := some { status := eRange }, outSpi := .reply { status := eRange } } })) ∧
  (∀ d : Dev, 4 < d.chCount → d.stepRefusal 7 = some 2) ∧
  (∀ (d : Dev) (k : Nat), k < 4 → d.bridged (2 * k) = true → d.chEnabled (2 * k + 1) = d.chEnabled (2 * k)) ∧ (∀ d : Dev, d.chCount = ((upto 8).filter (fun n => d.chEnabled n)).length)

/-- The corrections of a result (R393): a code passes the self-calibration and then its channel's correction, each the exact quotient to the nearest, an exact half either way, clamped to 0 to 65 535, and CLIPPED is set where either clamps. -/
def Obligations.Corrections : Prop :=
  (∀ (x o : Int) (g : Nat), 0 ≤ (correct x o g).1 ∧ (correct x o g).1 ≤ 65535 ∧
    ((correct x o g).2 = false → 2 * ((correct x o g).1 * 32768 - (x - o) * g).natAbs ≤ 32768) ∧
    ((correct x o g).2 = true → ((correct x o g).1 = 0 ∧ (x - o) * g < 0) ∨ ((correct x o g).1 = 65535 ∧ 65535 * 32768 < (x - o) * g))) ∧
  (∀ (d : Dev) (input raw : Nat),
    let x1 := correct raw (d.getI 16 0x634001) (d.get 0x634002)
    let x2 := correct x1.1 (d.getI 16 (key 0x6330 input)) (d.get (key 0x6331 input))
    d.corrected input raw = (x2.1.toNat, x1.2 || x2.2))
end

