-- ==== Sys2Proof/Laws/State.lean ====
section
/-! SUPPORT. One lemma for each field of the state and each of the shared updates: what the update leaves as it is. -/
namespace Sys2Proof.Machine

/-! A command's effect as a whole -/

@[simp] theorem State.run_pending (s : State) (f : List Host.Cell → Dev → Dev) : (s.run f).pending = s.pending := rfl
@[simp] theorem State.run_stores (s : State) (f : List Host.Cell → Dev → Dev) : (s.run f).dev.stores = [] := rfl
theorem State.run_mem (s : State) (f : List Host.Cell → Dev → Dev) : (s.run f).mem = memWriteAll (f s.mem s.dev).stores s.mem := rfl
theorem State.run_dev (s : State) (f : List Host.Cell → Dev → Dev) : (s.run f).dev = { f s.mem s.dev with stores := [] } := rfl
@[simp] theorem State.quiet_pending (s : State) (f : List Host.Cell → Dev → Dev) : (s.quiet f).pending = s.pending := rfl
@[simp] theorem State.quiet_mem (s : State) (f : List Host.Cell → Dev → Dev) : (s.quiet f).mem = s.mem := rfl
@[simp] theorem State.quiet_stores (s : State) (f : List Host.Cell → Dev → Dev) : (s.quiet f).dev.stores = s.dev.stores := rfl
theorem State.quiet_dev (s : State) (f : List Host.Cell → Dev → Dev) : (s.quiet f).dev = { f s.mem s.dev with stores := s.dev.stores } := rfl
@[simp] theorem State.act_pending (s : State) (f : Dev → Dev) : (s.act f).pending = s.pending := rfl
@[simp] theorem State.act_mem (s : State) (f : Dev → Dev) : (s.act f).mem = s.mem := rfl
@[simp] theorem State.act_stores (s : State) (f : Dev → Dev) : (s.act f).dev.stores = s.dev.stores := rfl
theorem State.act_dev (s : State) (f : Dev → Dev) : (s.act f).dev = { f s.dev with stores := s.dev.stores } := rfl

/-- A part whose stores are what they were is the part itself. -/
theorem Dev.same_stores (d e : Dev) (h : d.stores = e.stores) : ({ d with stores := e.stores } : Dev) = d := by cases d; simp_all

/-- A command that stores nothing changes the part alone. -/
theorem State.run_eq (s : State) (f : List Host.Cell → Dev → Dev) (h : (f s.mem s.dev).stores = []) : s.run f = { s with dev := { f s.mem s.dev with stores := [] } } := by
  simp [State.run, h, memWriteAll]

/-! Objects: every other field stays -/

@[simp] theorem Dev.put_now (k v : Nat) (d : Dev) : (Dev.put k v d).now = d.now := rfl
@[simp] theorem Dev.put_free (k v : Nat) (d : Dev) : (Dev.put k v d).free = d.free := rfl
@[simp] theorem Dev.put_bus (k v : Nat) (d : Dev) : (Dev.put k v d).bus = d.bus := rfl
@[simp] theorem Dev.put_sup (k v : Nat) (d : Dev) : (Dev.put k v d).sup = d.sup := rfl
@[simp] theorem Dev.put_evt (k v : Nat) (d : Dev) : (Dev.put k v d).evt = d.evt := rfl
@[simp] theorem Dev.put_loc (k v : Nat) (d : Dev) : (Dev.put k v d).loc = d.loc := rfl
@[simp] theorem Dev.put_tim (k v : Nat) (d : Dev) : (Dev.put k v d).tim = d.tim := rfl
@[simp] theorem Dev.put_bb (k v : Nat) (d : Dev) : (Dev.put k v d).bb = d.bb := rfl
@[simp] theorem Dev.put_clk (k v : Nat) (d : Dev) : (Dev.put k v d).clk = d.clk := rfl
@[simp] theorem Dev.put_med (k v : Nat) (d : Dev) : (Dev.put k v d).med = d.med := rfl
@[simp] theorem Dev.put_net (k v : Nat) (d : Dev) : (Dev.put k v d).net = d.net := rfl
@[simp] theorem Dev.put_lat (k v : Nat) (d : Dev) : (Dev.put k v d).lat = d.lat := rfl
@[simp] theorem Dev.put_str (k v : Nat) (d : Dev) : (Dev.put k v d).str = d.str := rfl
@[simp] theorem Dev.put_sap (k v : Nat) (d : Dev) : (Dev.put k v d).sap = d.sap := rfl
@[simp] theorem Dev.put_cap (k v : Nat) (d : Dev) : (Dev.put k v d).cap = d.cap := rfl
@[simp] theorem Dev.put_per (k v : Nat) (d : Dev) : (Dev.put k v d).per = d.per := rfl
@[simp] theorem Dev.put_tes (k v : Nat) (d : Dev) : (Dev.put k v d).tes = d.tes := rfl
@[simp] theorem Dev.put_fac (k v : Nat) (d : Dev) : (Dev.put k v d).fac = d.fac := rfl
@[simp] theorem Dev.put_pwr (k v : Nat) (d : Dev) : (Dev.put k v d).pwr = d.pwr := rfl
@[simp] theorem Dev.put_bst (k v : Nat) (d : Dev) : (Dev.put k v d).bst = d.bst := rfl
@[simp] theorem Dev.put_hp (k v : Nat) (d : Dev) : (Dev.put k v d).hp = d.hp := rfl
@[simp] theorem Dev.put_aux (k v : Nat) (d : Dev) : (Dev.put k v d).aux = d.aux := rfl
@[simp] theorem Dev.put_hka (k v : Nat) (d : Dev) : (Dev.put k v d).hka = d.hka := rfl
@[simp] theorem Dev.put_twin (k v : Nat) (d : Dev) : (Dev.put k v d).twin = d.twin := rfl
@[simp] theorem Dev.put_sec (k v : Nat) (d : Dev) : (Dev.put k v d).sec = d.sec := rfl
@[simp] theorem Dev.put_stores (k v : Nat) (d : Dev) : (Dev.put k v d).stores = d.stores := rfl
@[simp] theorem Dev.putI_now (w k : Nat) (i : Int) (d : Dev) : (Dev.putI w k i d).now = d.now := rfl
@[simp] theorem Dev.putI_free (w k : Nat) (i : Int) (d : Dev) : (Dev.putI w k i d).free = d.free := rfl
@[simp] theorem Dev.putI_bus (w k : Nat) (i : Int) (d : Dev) : (Dev.putI w k i d).bus = d.bus := rfl
@[simp] theorem Dev.putI_sup (w k : Nat) (i : Int) (d : Dev) : (Dev.putI w k i d).sup = d.sup := rfl
@[simp] theorem Dev.putI_evt (w k : Nat) (i : Int) (d : Dev) : (Dev.putI w k i d).evt = d.evt := rfl
@[simp] theorem Dev.putI_loc (w k : Nat) (i : Int) (d : Dev) : (Dev.putI w k i d).loc = d.loc := rfl
@[simp] theorem Dev.putI_tim (w k : Nat) (i : Int) (d : Dev) : (Dev.putI w k i d).tim = d.tim := rfl
@[simp] theorem Dev.putI_bb (w k : Nat) (i : Int) (d : Dev) : (Dev.putI w k i d).bb = d.bb := rfl
@[simp] theorem Dev.putI_clk (w k : Nat) (i : Int) (d : Dev) : (Dev.putI w k i d).clk = d.clk := rfl
@[simp] theorem Dev.putI_med (w k : Nat) (i : Int) (d : Dev) : (Dev.putI w k i d).med = d.med := rfl
@[simp] theorem Dev.putI_net (w k : Nat) (i : Int) (d : Dev) : (Dev.putI w k i d).net = d.net := rfl
@[simp] theorem Dev.putI_lat (w k : Nat) (i : Int) (d : Dev) : (Dev.putI w k i d).lat = d.lat := rfl
@[simp] theorem Dev.putI_str (w k : Nat) (i : Int) (d : Dev) : (Dev.putI w k i d).str = d.str := rfl
@[simp] theorem Dev.putI_sap (w k : Nat) (i : Int) (d : Dev) : (Dev.putI w k i d).sap = d.sap := rfl
@[simp] theorem Dev.putI_cap (w k : Nat) (i : Int) (d : Dev) : (Dev.putI w k i d).cap = d.cap := rfl
@[simp] theorem Dev.putI_per (w k : Nat) (i : Int) (d : Dev) : (Dev.putI w k i d).per = d.per := rfl
@[simp] theorem Dev.putI_tes (w k : Nat) (i : Int) (d : Dev) : (Dev.putI w k i d).tes = d.tes := rfl
@[simp] theorem Dev.putI_fac (w k : Nat) (i : Int) (d : Dev) : (Dev.putI w k i d).fac = d.fac := rfl
@[simp] theorem Dev.putI_pwr (w k : Nat) (i : Int) (d : Dev) : (Dev.putI w k i d).pwr = d.pwr := rfl
@[simp] theorem Dev.putI_bst (w k : Nat) (i : Int) (d : Dev) : (Dev.putI w k i d).bst = d.bst := rfl
@[simp] theorem Dev.putI_hp (w k : Nat) (i : Int) (d : Dev) : (Dev.putI w k i d).hp = d.hp := rfl
@[simp] theorem Dev.putI_aux (w k : Nat) (i : Int) (d : Dev) : (Dev.putI w k i d).aux = d.aux := rfl
@[simp] theorem Dev.putI_hka (w k : Nat) (i : Int) (d : Dev) : (Dev.putI w k i d).hka = d.hka := rfl
@[simp] theorem Dev.putI_twin (w k : Nat) (i : Int) (d : Dev) : (Dev.putI w k i d).twin = d.twin := rfl
@[simp] theorem Dev.putI_sec (w k : Nat) (i : Int) (d : Dev) : (Dev.putI w k i d).sec = d.sec := rfl
@[simp] theorem Dev.putI_stores (w k : Nat) (i : Int) (d : Dev) : (Dev.putI w k i d).stores = d.stores := rfl
@[simp] theorem Dev.bump_now (w k n : Nat) (d : Dev) : (Dev.bump w k n d).now = d.now := rfl
@[simp] theorem Dev.bump_free (w k n : Nat) (d : Dev) : (Dev.bump w k n d).free = d.free := rfl
@[simp] theorem Dev.bump_bus (w k n : Nat) (d : Dev) : (Dev.bump w k n d).bus = d.bus := rfl
@[simp] theorem Dev.bump_sup (w k n : Nat) (d : Dev) : (Dev.bump w k n d).sup = d.sup := rfl
@[simp] theorem Dev.bump_evt (w k n : Nat) (d : Dev) : (Dev.bump w k n d).evt = d.evt := rfl
@[simp] theorem Dev.bump_loc (w k n : Nat) (d : Dev) : (Dev.bump w k n d).loc = d.loc := rfl
@[simp] theorem Dev.bump_tim (w k n : Nat) (d : Dev) : (Dev.bump w k n d).tim = d.tim := rfl
@[simp] theorem Dev.bump_bb (w k n : Nat) (d : Dev) : (Dev.bump w k n d).bb = d.bb := rfl
@[simp] theorem Dev.bump_clk (w k n : Nat) (d : Dev) : (Dev.bump w k n d).clk = d.clk := rfl
@[simp] theorem Dev.bump_med (w k n : Nat) (d : Dev) : (Dev.bump w k n d).med = d.med := rfl
@[simp] theorem Dev.bump_net (w k n : Nat) (d : Dev) : (Dev.bump w k n d).net = d.net := rfl
@[simp] theorem Dev.bump_lat (w k n : Nat) (d : Dev) : (Dev.bump w k n d).lat = d.lat := rfl
@[simp] theorem Dev.bump_str (w k n : Nat) (d : Dev) : (Dev.bump w k n d).str = d.str := rfl
@[simp] theorem Dev.bump_sap (w k n : Nat) (d : Dev) : (Dev.bump w k n d).sap = d.sap := rfl
@[simp] theorem Dev.bump_cap (w k n : Nat) (d : Dev) : (Dev.bump w k n d).cap = d.cap := rfl
@[simp] theorem Dev.bump_per (w k n : Nat) (d : Dev) : (Dev.bump w k n d).per = d.per := rfl
@[simp] theorem Dev.bump_tes (w k n : Nat) (d : Dev) : (Dev.bump w k n d).tes = d.tes := rfl
@[simp] theorem Dev.bump_fac (w k n : Nat) (d : Dev) : (Dev.bump w k n d).fac = d.fac := rfl
@[simp] theorem Dev.bump_pwr (w k n : Nat) (d : Dev) : (Dev.bump w k n d).pwr = d.pwr := rfl
@[simp] theorem Dev.bump_bst (w k n : Nat) (d : Dev) : (Dev.bump w k n d).bst = d.bst := rfl
@[simp] theorem Dev.bump_hp (w k n : Nat) (d : Dev) : (Dev.bump w k n d).hp = d.hp := rfl
@[simp] theorem Dev.bump_aux (w k n : Nat) (d : Dev) : (Dev.bump w k n d).aux = d.aux := rfl
@[simp] theorem Dev.bump_hka (w k n : Nat) (d : Dev) : (Dev.bump w k n d).hka = d.hka := rfl
@[simp] theorem Dev.bump_twin (w k n : Nat) (d : Dev) : (Dev.bump w k n d).twin = d.twin := rfl
@[simp] theorem Dev.bump_sec (w k n : Nat) (d : Dev) : (Dev.bump w k n d).sec = d.sec := rfl
@[simp] theorem Dev.bump_stores (w k n : Nat) (d : Dev) : (Dev.bump w k n d).stores = d.stores := rfl
@[simp] theorem Dev.inc_now (k : Nat) (d : Dev) : (Dev.inc k d).now = d.now := rfl
@[simp] theorem Dev.inc_free (k : Nat) (d : Dev) : (Dev.inc k d).free = d.free := rfl
@[simp] theorem Dev.inc_bus (k : Nat) (d : Dev) : (Dev.inc k d).bus = d.bus := rfl
@[simp] theorem Dev.inc_sup (k : Nat) (d : Dev) : (Dev.inc k d).sup = d.sup := rfl
@[simp] theorem Dev.inc_evt (k : Nat) (d : Dev) : (Dev.inc k d).evt = d.evt := rfl
@[simp] theorem Dev.inc_loc (k : Nat) (d : Dev) : (Dev.inc k d).loc = d.loc := rfl
@[simp] theorem Dev.inc_tim (k : Nat) (d : Dev) : (Dev.inc k d).tim = d.tim := rfl
@[simp] theorem Dev.inc_bb (k : Nat) (d : Dev) : (Dev.inc k d).bb = d.bb := rfl
@[simp] theorem Dev.inc_clk (k : Nat) (d : Dev) : (Dev.inc k d).clk = d.clk := rfl
@[simp] theorem Dev.inc_med (k : Nat) (d : Dev) : (Dev.inc k d).med = d.med := rfl
@[simp] theorem Dev.inc_net (k : Nat) (d : Dev) : (Dev.inc k d).net = d.net := rfl
@[simp] theorem Dev.inc_lat (k : Nat) (d : Dev) : (Dev.inc k d).lat = d.lat := rfl
@[simp] theorem Dev.inc_str (k : Nat) (d : Dev) : (Dev.inc k d).str = d.str := rfl
@[simp] theorem Dev.inc_sap (k : Nat) (d : Dev) : (Dev.inc k d).sap = d.sap := rfl
@[simp] theorem Dev.inc_cap (k : Nat) (d : Dev) : (Dev.inc k d).cap = d.cap := rfl
@[simp] theorem Dev.inc_per (k : Nat) (d : Dev) : (Dev.inc k d).per = d.per := rfl
@[simp] theorem Dev.inc_tes (k : Nat) (d : Dev) : (Dev.inc k d).tes = d.tes := rfl
@[simp] theorem Dev.inc_fac (k : Nat) (d : Dev) : (Dev.inc k d).fac = d.fac := rfl
@[simp] theorem Dev.inc_pwr (k : Nat) (d : Dev) : (Dev.inc k d).pwr = d.pwr := rfl
@[simp] theorem Dev.inc_bst (k : Nat) (d : Dev) : (Dev.inc k d).bst = d.bst := rfl
@[simp] theorem Dev.inc_hp (k : Nat) (d : Dev) : (Dev.inc k d).hp = d.hp := rfl
@[simp] theorem Dev.inc_aux (k : Nat) (d : Dev) : (Dev.inc k d).aux = d.aux := rfl
@[simp] theorem Dev.inc_hka (k : Nat) (d : Dev) : (Dev.inc k d).hka = d.hka := rfl
@[simp] theorem Dev.inc_twin (k : Nat) (d : Dev) : (Dev.inc k d).twin = d.twin := rfl
@[simp] theorem Dev.inc_sec (k : Nat) (d : Dev) : (Dev.inc k d).sec = d.sec := rfl
@[simp] theorem Dev.inc_stores (k : Nat) (d : Dev) : (Dev.inc k d).stores = d.stores := rfl
@[simp] theorem Dev.add64_now (k n : Nat) (d : Dev) : (Dev.add64 k n d).now = d.now := rfl
@[simp] theorem Dev.add64_free (k n : Nat) (d : Dev) : (Dev.add64 k n d).free = d.free := rfl
@[simp] theorem Dev.add64_bus (k n : Nat) (d : Dev) : (Dev.add64 k n d).bus = d.bus := rfl
@[simp] theorem Dev.add64_sup (k n : Nat) (d : Dev) : (Dev.add64 k n d).sup = d.sup := rfl
@[simp] theorem Dev.add64_evt (k n : Nat) (d : Dev) : (Dev.add64 k n d).evt = d.evt := rfl
@[simp] theorem Dev.add64_loc (k n : Nat) (d : Dev) : (Dev.add64 k n d).loc = d.loc := rfl
@[simp] theorem Dev.add64_tim (k n : Nat) (d : Dev) : (Dev.add64 k n d).tim = d.tim := rfl
@[simp] theorem Dev.add64_bb (k n : Nat) (d : Dev) : (Dev.add64 k n d).bb = d.bb := rfl
@[simp] theorem Dev.add64_clk (k n : Nat) (d : Dev) : (Dev.add64 k n d).clk = d.clk := rfl
@[simp] theorem Dev.add64_med (k n : Nat) (d : Dev) : (Dev.add64 k n d).med = d.med := rfl
@[simp] theorem Dev.add64_net (k n : Nat) (d : Dev) : (Dev.add64 k n d).net = d.net := rfl
@[simp] theorem Dev.add64_lat (k n : Nat) (d : Dev) : (Dev.add64 k n d).lat = d.lat := rfl
@[simp] theorem Dev.add64_str (k n : Nat) (d : Dev) : (Dev.add64 k n d).str = d.str := rfl
@[simp] theorem Dev.add64_sap (k n : Nat) (d : Dev) : (Dev.add64 k n d).sap = d.sap := rfl
@[simp] theorem Dev.add64_cap (k n : Nat) (d : Dev) : (Dev.add64 k n d).cap = d.cap := rfl
@[simp] theorem Dev.add64_per (k n : Nat) (d : Dev) : (Dev.add64 k n d).per = d.per := rfl
@[simp] theorem Dev.add64_tes (k n : Nat) (d : Dev) : (Dev.add64 k n d).tes = d.tes := rfl
@[simp] theorem Dev.add64_fac (k n : Nat) (d : Dev) : (Dev.add64 k n d).fac = d.fac := rfl
@[simp] theorem Dev.add64_pwr (k n : Nat) (d : Dev) : (Dev.add64 k n d).pwr = d.pwr := rfl
@[simp] theorem Dev.add64_bst (k n : Nat) (d : Dev) : (Dev.add64 k n d).bst = d.bst := rfl
@[simp] theorem Dev.add64_hp (k n : Nat) (d : Dev) : (Dev.add64 k n d).hp = d.hp := rfl
@[simp] theorem Dev.add64_aux (k n : Nat) (d : Dev) : (Dev.add64 k n d).aux = d.aux := rfl
@[simp] theorem Dev.add64_hka (k n : Nat) (d : Dev) : (Dev.add64 k n d).hka = d.hka := rfl
@[simp] theorem Dev.add64_twin (k n : Nat) (d : Dev) : (Dev.add64 k n d).twin = d.twin := rfl
@[simp] theorem Dev.add64_sec (k n : Nat) (d : Dev) : (Dev.add64 k n d).sec = d.sec := rfl
@[simp] theorem Dev.add64_stores (k n : Nat) (d : Dev) : (Dev.add64 k n d).stores = d.stores := rfl
@[simp] theorem Dev.putBit_now (k i : Nat) (b : Bool) (d : Dev) : (Dev.putBit k i b d).now = d.now := rfl
@[simp] theorem Dev.putBit_free (k i : Nat) (b : Bool) (d : Dev) : (Dev.putBit k i b d).free = d.free := rfl
@[simp] theorem Dev.putBit_bus (k i : Nat) (b : Bool) (d : Dev) : (Dev.putBit k i b d).bus = d.bus := rfl
@[simp] theorem Dev.putBit_sup (k i : Nat) (b : Bool) (d : Dev) : (Dev.putBit k i b d).sup = d.sup := rfl
@[simp] theorem Dev.putBit_evt (k i : Nat) (b : Bool) (d : Dev) : (Dev.putBit k i b d).evt = d.evt := rfl
@[simp] theorem Dev.putBit_loc (k i : Nat) (b : Bool) (d : Dev) : (Dev.putBit k i b d).loc = d.loc := rfl
@[simp] theorem Dev.putBit_tim (k i : Nat) (b : Bool) (d : Dev) : (Dev.putBit k i b d).tim = d.tim := rfl
@[simp] theorem Dev.putBit_bb (k i : Nat) (b : Bool) (d : Dev) : (Dev.putBit k i b d).bb = d.bb := rfl
@[simp] theorem Dev.putBit_clk (k i : Nat) (b : Bool) (d : Dev) : (Dev.putBit k i b d).clk = d.clk := rfl
@[simp] theorem Dev.putBit_med (k i : Nat) (b : Bool) (d : Dev) : (Dev.putBit k i b d).med = d.med := rfl
@[simp] theorem Dev.putBit_net (k i : Nat) (b : Bool) (d : Dev) : (Dev.putBit k i b d).net = d.net := rfl
@[simp] theorem Dev.putBit_lat (k i : Nat) (b : Bool) (d : Dev) : (Dev.putBit k i b d).lat = d.lat := rfl
@[simp] theorem Dev.putBit_str (k i : Nat) (b : Bool) (d : Dev) : (Dev.putBit k i b d).str = d.str := rfl
@[simp] theorem Dev.putBit_sap (k i : Nat) (b : Bool) (d : Dev) : (Dev.putBit k i b d).sap = d.sap := rfl
@[simp] theorem Dev.putBit_cap (k i : Nat) (b : Bool) (d : Dev) : (Dev.putBit k i b d).cap = d.cap := rfl
@[simp] theorem Dev.putBit_per (k i : Nat) (b : Bool) (d : Dev) : (Dev.putBit k i b d).per = d.per := rfl
@[simp] theorem Dev.putBit_tes (k i : Nat) (b : Bool) (d : Dev) : (Dev.putBit k i b d).tes = d.tes := rfl
@[simp] theorem Dev.putBit_fac (k i : Nat) (b : Bool) (d : Dev) : (Dev.putBit k i b d).fac = d.fac := rfl
@[simp] theorem Dev.putBit_pwr (k i : Nat) (b : Bool) (d : Dev) : (Dev.putBit k i b d).pwr = d.pwr := rfl
@[simp] theorem Dev.putBit_bst (k i : Nat) (b : Bool) (d : Dev) : (Dev.putBit k i b d).bst = d.bst := rfl
@[simp] theorem Dev.putBit_hp (k i : Nat) (b : Bool) (d : Dev) : (Dev.putBit k i b d).hp = d.hp := rfl
@[simp] theorem Dev.putBit_aux (k i : Nat) (b : Bool) (d : Dev) : (Dev.putBit k i b d).aux = d.aux := rfl
@[simp] theorem Dev.putBit_hka (k i : Nat) (b : Bool) (d : Dev) : (Dev.putBit k i b d).hka = d.hka := rfl
@[simp] theorem Dev.putBit_twin (k i : Nat) (b : Bool) (d : Dev) : (Dev.putBit k i b d).twin = d.twin := rfl
@[simp] theorem Dev.putBit_sec (k i : Nat) (b : Bool) (d : Dev) : (Dev.putBit k i b d).sec = d.sec := rfl
@[simp] theorem Dev.putBit_stores (k i : Nat) (b : Bool) (d : Dev) : (Dev.putBit k i b d).stores = d.stores := rfl
@[simp] theorem Dev.putFld_now (k hi lo v : Nat) (d : Dev) : (Dev.putFld k hi lo v d).now = d.now := rfl
@[simp] theorem Dev.putFld_free (k hi lo v : Nat) (d : Dev) : (Dev.putFld k hi lo v d).free = d.free := rfl
@[simp] theorem Dev.putFld_bus (k hi lo v : Nat) (d : Dev) : (Dev.putFld k hi lo v d).bus = d.bus := rfl
@[simp] theorem Dev.putFld_sup (k hi lo v : Nat) (d : Dev) : (Dev.putFld k hi lo v d).sup = d.sup := rfl
@[simp] theorem Dev.putFld_evt (k hi lo v : Nat) (d : Dev) : (Dev.putFld k hi lo v d).evt = d.evt := rfl
@[simp] theorem Dev.putFld_loc (k hi lo v : Nat) (d : Dev) : (Dev.putFld k hi lo v d).loc = d.loc := rfl
@[simp] theorem Dev.putFld_tim (k hi lo v : Nat) (d : Dev) : (Dev.putFld k hi lo v d).tim = d.tim := rfl
@[simp] theorem Dev.putFld_bb (k hi lo v : Nat) (d : Dev) : (Dev.putFld k hi lo v d).bb = d.bb := rfl
@[simp] theorem Dev.putFld_clk (k hi lo v : Nat) (d : Dev) : (Dev.putFld k hi lo v d).clk = d.clk := rfl
@[simp] theorem Dev.putFld_med (k hi lo v : Nat) (d : Dev) : (Dev.putFld k hi lo v d).med = d.med := rfl
@[simp] theorem Dev.putFld_net (k hi lo v : Nat) (d : Dev) : (Dev.putFld k hi lo v d).net = d.net := rfl
@[simp] theorem Dev.putFld_lat (k hi lo v : Nat) (d : Dev) : (Dev.putFld k hi lo v d).lat = d.lat := rfl
@[simp] theorem Dev.putFld_str (k hi lo v : Nat) (d : Dev) : (Dev.putFld k hi lo v d).str = d.str := rfl
@[simp] theorem Dev.putFld_sap (k hi lo v : Nat) (d : Dev) : (Dev.putFld k hi lo v d).sap = d.sap := rfl
@[simp] theorem Dev.putFld_cap (k hi lo v : Nat) (d : Dev) : (Dev.putFld k hi lo v d).cap = d.cap := rfl
@[simp] theorem Dev.putFld_per (k hi lo v : Nat) (d : Dev) : (Dev.putFld k hi lo v d).per = d.per := rfl
@[simp] theorem Dev.putFld_tes (k hi lo v : Nat) (d : Dev) : (Dev.putFld k hi lo v d).tes = d.tes := rfl
@[simp] theorem Dev.putFld_fac (k hi lo v : Nat) (d : Dev) : (Dev.putFld k hi lo v d).fac = d.fac := rfl
@[simp] theorem Dev.putFld_pwr (k hi lo v : Nat) (d : Dev) : (Dev.putFld k hi lo v d).pwr = d.pwr := rfl
@[simp] theorem Dev.putFld_bst (k hi lo v : Nat) (d : Dev) : (Dev.putFld k hi lo v d).bst = d.bst := rfl
@[simp] theorem Dev.putFld_hp (k hi lo v : Nat) (d : Dev) : (Dev.putFld k hi lo v d).hp = d.hp := rfl
@[simp] theorem Dev.putFld_aux (k hi lo v : Nat) (d : Dev) : (Dev.putFld k hi lo v d).aux = d.aux := rfl
@[simp] theorem Dev.putFld_hka (k hi lo v : Nat) (d : Dev) : (Dev.putFld k hi lo v d).hka = d.hka := rfl
@[simp] theorem Dev.putFld_twin (k hi lo v : Nat) (d : Dev) : (Dev.putFld k hi lo v d).twin = d.twin := rfl
@[simp] theorem Dev.putFld_sec (k hi lo v : Nat) (d : Dev) : (Dev.putFld k hi lo v d).sec = d.sec := rfl
@[simp] theorem Dev.putFld_stores (k hi lo v : Nat) (d : Dev) : (Dev.putFld k hi lo v d).stores = d.stores := rfl
@[simp] theorem Dev.putBlob_now (k : Nat) (b : List Byte) (d : Dev) : (Dev.putBlob k b d).now = d.now := rfl
@[simp] theorem Dev.putBlob_free (k : Nat) (b : List Byte) (d : Dev) : (Dev.putBlob k b d).free = d.free := rfl
@[simp] theorem Dev.putBlob_bus (k : Nat) (b : List Byte) (d : Dev) : (Dev.putBlob k b d).bus = d.bus := rfl
@[simp] theorem Dev.putBlob_sup (k : Nat) (b : List Byte) (d : Dev) : (Dev.putBlob k b d).sup = d.sup := rfl
@[simp] theorem Dev.putBlob_evt (k : Nat) (b : List Byte) (d : Dev) : (Dev.putBlob k b d).evt = d.evt := rfl
@[simp] theorem Dev.putBlob_loc (k : Nat) (b : List Byte) (d : Dev) : (Dev.putBlob k b d).loc = d.loc := rfl
@[simp] theorem Dev.putBlob_tim (k : Nat) (b : List Byte) (d : Dev) : (Dev.putBlob k b d).tim = d.tim := rfl
@[simp] theorem Dev.putBlob_bb (k : Nat) (b : List Byte) (d : Dev) : (Dev.putBlob k b d).bb = d.bb := rfl
@[simp] theorem Dev.putBlob_clk (k : Nat) (b : List Byte) (d : Dev) : (Dev.putBlob k b d).clk = d.clk := rfl
@[simp] theorem Dev.putBlob_med (k : Nat) (b : List Byte) (d : Dev) : (Dev.putBlob k b d).med = d.med := rfl
@[simp] theorem Dev.putBlob_net (k : Nat) (b : List Byte) (d : Dev) : (Dev.putBlob k b d).net = d.net := rfl
@[simp] theorem Dev.putBlob_lat (k : Nat) (b : List Byte) (d : Dev) : (Dev.putBlob k b d).lat = d.lat := rfl
@[simp] theorem Dev.putBlob_str (k : Nat) (b : List Byte) (d : Dev) : (Dev.putBlob k b d).str = d.str := rfl
@[simp] theorem Dev.putBlob_sap (k : Nat) (b : List Byte) (d : Dev) : (Dev.putBlob k b d).sap = d.sap := rfl
@[simp] theorem Dev.putBlob_cap (k : Nat) (b : List Byte) (d : Dev) : (Dev.putBlob k b d).cap = d.cap := rfl
@[simp] theorem Dev.putBlob_per (k : Nat) (b : List Byte) (d : Dev) : (Dev.putBlob k b d).per = d.per := rfl
@[simp] theorem Dev.putBlob_tes (k : Nat) (b : List Byte) (d : Dev) : (Dev.putBlob k b d).tes = d.tes := rfl
@[simp] theorem Dev.putBlob_fac (k : Nat) (b : List Byte) (d : Dev) : (Dev.putBlob k b d).fac = d.fac := rfl
@[simp] theorem Dev.putBlob_pwr (k : Nat) (b : List Byte) (d : Dev) : (Dev.putBlob k b d).pwr = d.pwr := rfl
@[simp] theorem Dev.putBlob_bst (k : Nat) (b : List Byte) (d : Dev) : (Dev.putBlob k b d).bst = d.bst := rfl
@[simp] theorem Dev.putBlob_hp (k : Nat) (b : List Byte) (d : Dev) : (Dev.putBlob k b d).hp = d.hp := rfl
@[simp] theorem Dev.putBlob_aux (k : Nat) (b : List Byte) (d : Dev) : (Dev.putBlob k b d).aux = d.aux := rfl
@[simp] theorem Dev.putBlob_hka (k : Nat) (b : List Byte) (d : Dev) : (Dev.putBlob k b d).hka = d.hka := rfl
@[simp] theorem Dev.putBlob_twin (k : Nat) (b : List Byte) (d : Dev) : (Dev.putBlob k b d).twin = d.twin := rfl
@[simp] theorem Dev.putBlob_sec (k : Nat) (b : List Byte) (d : Dev) : (Dev.putBlob k b d).sec = d.sec := rfl
@[simp] theorem Dev.putBlob_stores (k : Nat) (b : List Byte) (d : Dev) : (Dev.putBlob k b d).stores = d.stores := rfl
@[simp] theorem Dev.genUp_now (k : Nat) (d : Dev) : (Dev.genUp k d).now = d.now := rfl
@[simp] theorem Dev.genUp_free (k : Nat) (d : Dev) : (Dev.genUp k d).free = d.free := rfl
@[simp] theorem Dev.genUp_bus (k : Nat) (d : Dev) : (Dev.genUp k d).bus = d.bus := rfl
@[simp] theorem Dev.genUp_sup (k : Nat) (d : Dev) : (Dev.genUp k d).sup = d.sup := rfl
@[simp] theorem Dev.genUp_evt (k : Nat) (d : Dev) : (Dev.genUp k d).evt = d.evt := rfl
@[simp] theorem Dev.genUp_loc (k : Nat) (d : Dev) : (Dev.genUp k d).loc = d.loc := rfl
@[simp] theorem Dev.genUp_tim (k : Nat) (d : Dev) : (Dev.genUp k d).tim = d.tim := rfl
@[simp] theorem Dev.genUp_bb (k : Nat) (d : Dev) : (Dev.genUp k d).bb = d.bb := rfl
@[simp] theorem Dev.genUp_clk (k : Nat) (d : Dev) : (Dev.genUp k d).clk = d.clk := rfl
@[simp] theorem Dev.genUp_med (k : Nat) (d : Dev) : (Dev.genUp k d).med = d.med := rfl
@[simp] theorem Dev.genUp_net (k : Nat) (d : Dev) : (Dev.genUp k d).net = d.net := rfl
@[simp] theorem Dev.genUp_lat (k : Nat) (d : Dev) : (Dev.genUp k d).lat = d.lat := rfl
@[simp] theorem Dev.genUp_str (k : Nat) (d : Dev) : (Dev.genUp k d).str = d.str := rfl
@[simp] theorem Dev.genUp_sap (k : Nat) (d : Dev) : (Dev.genUp k d).sap = d.sap := rfl
@[simp] theorem Dev.genUp_cap (k : Nat) (d : Dev) : (Dev.genUp k d).cap = d.cap := rfl
@[simp] theorem Dev.genUp_per (k : Nat) (d : Dev) : (Dev.genUp k d).per = d.per := rfl
@[simp] theorem Dev.genUp_tes (k : Nat) (d : Dev) : (Dev.genUp k d).tes = d.tes := rfl
@[simp] theorem Dev.genUp_fac (k : Nat) (d : Dev) : (Dev.genUp k d).fac = d.fac := rfl
@[simp] theorem Dev.genUp_pwr (k : Nat) (d : Dev) : (Dev.genUp k d).pwr = d.pwr := rfl
@[simp] theorem Dev.genUp_bst (k : Nat) (d : Dev) : (Dev.genUp k d).bst = d.bst := rfl
@[simp] theorem Dev.genUp_hp (k : Nat) (d : Dev) : (Dev.genUp k d).hp = d.hp := rfl
@[simp] theorem Dev.genUp_aux (k : Nat) (d : Dev) : (Dev.genUp k d).aux = d.aux := rfl
@[simp] theorem Dev.genUp_hka (k : Nat) (d : Dev) : (Dev.genUp k d).hka = d.hka := rfl
@[simp] theorem Dev.genUp_twin (k : Nat) (d : Dev) : (Dev.genUp k d).twin = d.twin := rfl
@[simp] theorem Dev.genUp_sec (k : Nat) (d : Dev) : (Dev.genUp k d).sec = d.sec := rfl
@[simp] theorem Dev.genUp_stores (k : Nat) (d : Dev) : (Dev.genUp k d).stores = d.stores := rfl

/-! Free values: every other field stays -/

@[simp] theorem Dev.fresh_st (d : Dev) : (d.fresh).2.st = d.st := rfl
@[simp] theorem Dev.fresh_now (d : Dev) : (d.fresh).2.now = d.now := rfl
@[simp] theorem Dev.fresh_bus (d : Dev) : (d.fresh).2.bus = d.bus := rfl
@[simp] theorem Dev.fresh_sup (d : Dev) : (d.fresh).2.sup = d.sup := rfl
@[simp] theorem Dev.fresh_evt (d : Dev) : (d.fresh).2.evt = d.evt := rfl
@[simp] theorem Dev.fresh_loc (d : Dev) : (d.fresh).2.loc = d.loc := rfl
@[simp] theorem Dev.fresh_tim (d : Dev) : (d.fresh).2.tim = d.tim := rfl
@[simp] theorem Dev.fresh_bb (d : Dev) : (d.fresh).2.bb = d.bb := rfl
@[simp] theorem Dev.fresh_clk (d : Dev) : (d.fresh).2.clk = d.clk := rfl
@[simp] theorem Dev.fresh_med (d : Dev) : (d.fresh).2.med = d.med := rfl
@[simp] theorem Dev.fresh_net (d : Dev) : (d.fresh).2.net = d.net := rfl
@[simp] theorem Dev.fresh_lat (d : Dev) : (d.fresh).2.lat = d.lat := rfl
@[simp] theorem Dev.fresh_str (d : Dev) : (d.fresh).2.str = d.str := rfl
@[simp] theorem Dev.fresh_sap (d : Dev) : (d.fresh).2.sap = d.sap := rfl
@[simp] theorem Dev.fresh_cap (d : Dev) : (d.fresh).2.cap = d.cap := rfl
@[simp] theorem Dev.fresh_per (d : Dev) : (d.fresh).2.per = d.per := rfl
@[simp] theorem Dev.fresh_tes (d : Dev) : (d.fresh).2.tes = d.tes := rfl
@[simp] theorem Dev.fresh_fac (d : Dev) : (d.fresh).2.fac = d.fac := rfl
@[simp] theorem Dev.fresh_pwr (d : Dev) : (d.fresh).2.pwr = d.pwr := rfl
@[simp] theorem Dev.fresh_bst (d : Dev) : (d.fresh).2.bst = d.bst := rfl
@[simp] theorem Dev.fresh_hp (d : Dev) : (d.fresh).2.hp = d.hp := rfl
@[simp] theorem Dev.fresh_aux (d : Dev) : (d.fresh).2.aux = d.aux := rfl
@[simp] theorem Dev.fresh_hka (d : Dev) : (d.fresh).2.hka = d.hka := rfl
@[simp] theorem Dev.fresh_twin (d : Dev) : (d.fresh).2.twin = d.twin := rfl
@[simp] theorem Dev.fresh_sec (d : Dev) : (d.fresh).2.sec = d.sec := rfl
@[simp] theorem Dev.fresh_stores (d : Dev) : (d.fresh).2.stores = d.stores := rfl

/-! Conditions -/

@[simp] theorem Dev.when_true (f : Dev → Dev) (d : Dev) : Dev.when true f d = f d := rfl
@[simp] theorem Dev.when_false (f : Dev → Dev) (d : Dev) : Dev.when false f d = d := rfl
@[simp] theorem Dev.does_nil (d : Dev) : d.does [] = d := rfl
@[simp] theorem Dev.does_cons (d : Dev) (f : Dev → Dev) (l : List (Dev → Dev)) : d.does (f :: l) = (f d).does l := rfl

end Sys2Proof.Machine
end

