-- ==== Sys2Proof/Laws/Objects.lean ====
section
/-! SUPPORT. The laws of the object store: what is put is got, other objects stay, bits and fields of an object, and the bytes of BLOBs. -/
namespace Sys2Proof.Machine

theorem assoc_assocPut_same {β : Type} (k : Nat) (v : β) (l : List (Nat × β)) : assoc k (assocPut k v l) = some v := by
  induction l with
  | nil => simp [assocPut, assoc]
  | cons e t ih =>
    obtain ⟨j, w⟩ := e
    unfold assocPut
    split
    · simp [assoc]
    · split
      · simp [assoc]
      · simp [assoc, *]

theorem assoc_assocPut_other {β : Type} (j k : Nat) (v : β) (l : List (Nat × β)) (h : j ≠ k) : assoc j (assocPut k v l) = assoc j l := by
  induction l with
  | nil => simp [assocPut, assoc, Ne.symm h]
  | cons e t ih =>
    obtain ⟨i, w⟩ := e
    unfold assocPut
    split
    · simp [assoc, Ne.symm h]
    · split
      · subst i; simp [assoc, Ne.symm h]
      · simp [assoc, ih]

@[simp] theorem Dev.get_put_same (k v : Nat) (d : Dev) : (d.put k v).get k = v := by simp [Dev.get, Dev.put, assoc_assocPut_same]

/-- The default of an object follows from the store alone, and of that from 1103.00 alone. -/
theorem Dev.dflt_eq (k : Nat) (d e : Dev) (h : assoc kBootMode e.st.obj = assoc kBootMode d.st.obj) : e.dflt k = d.dflt k := by simp [Dev.dflt, h]

theorem Dev.get_eq (k : Nat) (d e : Dev) (h : assoc k e.st.obj = assoc k d.st.obj) (hb : assoc kBootMode e.st.obj = assoc kBootMode d.st.obj) : e.get k = d.get k := by
  simp only [Dev.get, h, Dev.dflt_eq k d e hb]

/-- An object other than the one put keeps its value; 1100.00 too, unless 1103.00 is put, which gives its default. -/
theorem Dev.get_put_other (j k v : Nat) (d : Dev) (h : j ≠ k) (hb : j ≠ kModeRequest ∨ k ≠ kBootMode) : (d.put k v).get j = d.get j := by
  have h1 : assoc j (d.put k v).st.obj = assoc j d.st.obj := assoc_assocPut_other j k v _ h
  rcases hb with hb | hb
  · simp [Dev.get, h1, Dev.dflt, hb]
  · exact Dev.get_eq _ _ _ h1 (assoc_assocPut_other _ _ _ _ (Ne.symm hb))

/-- Two puts of one object: the second stands. -/
theorem assocPut_assocPut {β : Type} (k : Nat) (v w : β) (l : List (Nat × β)) : assocPut k w (assocPut k v l) = assocPut k w l := by
  induction l with
  | nil => simp [assocPut]
  | cons e t ih =>
    obtain ⟨j, x⟩ := e
    by_cases h1 : k < j
    · simp [assocPut, h1]
    · by_cases h2 : j = k
      · simp [assocPut, h2]
      · simp [assocPut, h1, h2, ih]

@[simp] theorem Dev.put_put (k v w : Nat) (d : Dev) : (d.put k v).put k w = d.put k w := by simp [Dev.put, assocPut_assocPut]

@[simp] theorem Dev.get_with_stores (d : Dev) (l : List Host.Cell) (k : Nat) : ({ d with stores := l } : Dev).get k = d.get k := rfl

end Sys2Proof.Machine
end

