-- ==== Sys2Proof/Laws/Events.lean ====
section
/-! SUPPORT. What raising an event can change (R471 to R475): its counter, flags, pins and entries, the queue of actions, and what is held; nothing else of the part. -/
namespace Sys2Proof.Machine

/-- A fold keeps what each of its steps keeps. -/
theorem foldl_keeps {α β : Type} (P : Dev → β) (f : Dev → α → Dev) (h : ∀ d a, P (f d a) = P d) (l : List α) (d : Dev) : P (l.foldl f d) = P d := by
  induction l generalizing d with
  | nil => rfl
  | cons a t ih => simp only [List.foldl_cons, ih, h]

/-- The part but for the object store and the event fabric. -/
def Dev.rest (d : Dev) : Dev := { d with st := {}, evt := {} }

theorem Dev.rest_put (k v : Nat) (d : Dev) : (d.put k v).rest = d.rest := rfl
theorem Dev.rest_irqSettle (d : Dev) : d.irqSettle.rest = d.rest := by unfold Dev.irqSettle; apply foldl_keeps Dev.rest; intro d n; rfl
theorem Dev.rest_pulseOn (n : Nat) (d : Dev) : (d.pulseOn n).rest = d.rest := by unfold Dev.pulseOn; split <;> rfl
theorem Dev.rest_countEvent (e : Nat) (d : Dev) : (d.countEvent e).rest = d.rest := by unfold Dev.countEvent; dsimp only; split <;> rfl
theorem Dev.rest_route (e : Nat) (d : Dev) : (d.route e).rest = d.rest := by
  unfold Dev.route
  rw [Dev.rest_irqSettle, foldl_keeps Dev.rest]
  · rfl
  · intro d a; split
    · exact Dev.rest_pulseOn _ _
    · rfl
theorem Dev.rest_raiseQuiet (e : Nat) (d : Dev) : (d.raiseQuiet e).rest = d.rest := by
  unfold Dev.raiseQuiet; dsimp only; split
  · rw [Dev.rest_route, Dev.rest_countEvent]
  · exact Dev.rest_countEvent e d
theorem Dev.rest_offer (q : QAct) (d : Dev) : (d.offer q).rest = d.rest := by
  unfold Dev.offer; split
  · rfl
  · rw [Dev.rest_raiseQuiet]; rfl
theorem Dev.rest_e2aOnce (k : Nat) (d : Dev) : (d.e2aOnce k).rest = d.rest := by unfold Dev.e2aOnce; dsimp only; split <;> rfl
theorem Dev.rest_trigger (e : Nat) (d : Dev) : (d.trigger e).rest = d.rest :=
  by unfold Dev.trigger; exact foldl_keeps Dev.rest _ (fun d q => by rw [Dev.rest_e2aOnce, Dev.rest_offer]) _ _
theorem Dev.rest_raise (e : Nat) (d : Dev) : (d.raise e).rest = d.rest := by
  unfold Dev.raise; dsimp only; split
  · rw [Dev.rest_trigger, Dev.rest_route, Dev.rest_countEvent]
  · exact Dev.rest_countEvent e d
theorem Dev.rest_setReady (on off : Nat) (d : Dev) : (d.setReady on off).rest = d.rest := by
  unfold Dev.setReady; dsimp only; split
  · rfl
  · rw [Dev.rest_raise]; rfl
theorem Dev.rest_taint (i : Nat) (d : Dev) : (d.taint i).rest = d.rest := by
  unfold Dev.taint; split
  · rfl
  · rw [Dev.rest_raise]; rfl

@[simp] theorem Dev.raise_now (e : Nat) (d : Dev) : (Dev.raise e d).now = d.now := by have h := congrArg Dev.now (Dev.rest_raise e d); exact h
@[simp] theorem Dev.raise_free (e : Nat) (d : Dev) : (Dev.raise e d).free = d.free := by have h := congrArg Dev.free (Dev.rest_raise e d); exact h
@[simp] theorem Dev.raise_bus (e : Nat) (d : Dev) : (Dev.raise e d).bus = d.bus := by have h := congrArg Dev.bus (Dev.rest_raise e d); exact h
@[simp] theorem Dev.raise_sup (e : Nat) (d : Dev) : (Dev.raise e d).sup = d.sup := by have h := congrArg Dev.sup (Dev.rest_raise e d); exact h
@[simp] theorem Dev.raise_loc (e : Nat) (d : Dev) : (Dev.raise e d).loc = d.loc := by have h := congrArg Dev.loc (Dev.rest_raise e d); exact h
@[simp] theorem Dev.raise_tim (e : Nat) (d : Dev) : (Dev.raise e d).tim = d.tim := by have h := congrArg Dev.tim (Dev.rest_raise e d); exact h
@[simp] theorem Dev.raise_bb (e : Nat) (d : Dev) : (Dev.raise e d).bb = d.bb := by have h := congrArg Dev.bb (Dev.rest_raise e d); exact h
@[simp] theorem Dev.raise_clk (e : Nat) (d : Dev) : (Dev.raise e d).clk = d.clk := by have h := congrArg Dev.clk (Dev.rest_raise e d); exact h
@[simp] theorem Dev.raise_med (e : Nat) (d : Dev) : (Dev.raise e d).med = d.med := by have h := congrArg Dev.med (Dev.rest_raise e d); exact h
@[simp] theorem Dev.raise_net (e : Nat) (d : Dev) : (Dev.raise e d).net = d.net := by have h := congrArg Dev.net (Dev.rest_raise e d); exact h
@[simp] theorem Dev.raise_lat (e : Nat) (d : Dev) : (Dev.raise e d).lat = d.lat := by have h := congrArg Dev.lat (Dev.rest_raise e d); exact h
@[simp] theorem Dev.raise_str (e : Nat) (d : Dev) : (Dev.raise e d).str = d.str := by have h := congrArg Dev.str (Dev.rest_raise e d); exact h
@[simp] theorem Dev.raise_sap (e : Nat) (d : Dev) : (Dev.raise e d).sap = d.sap := by have h := congrArg Dev.sap (Dev.rest_raise e d); exact h
@[simp] theorem Dev.raise_cap (e : Nat) (d : Dev) : (Dev.raise e d).cap = d.cap := by have h := congrArg Dev.cap (Dev.rest_raise e d); exact h
@[simp] theorem Dev.raise_per (e : Nat) (d : Dev) : (Dev.raise e d).per = d.per := by have h := congrArg Dev.per (Dev.rest_raise e d); exact h
@[simp] theorem Dev.raise_tes (e : Nat) (d : Dev) : (Dev.raise e d).tes = d.tes := by have h := congrArg Dev.tes (Dev.rest_raise e d); exact h
@[simp] theorem Dev.raise_fac (e : Nat) (d : Dev) : (Dev.raise e d).fac = d.fac := by have h := congrArg Dev.fac (Dev.rest_raise e d); exact h
@[simp] theorem Dev.raise_pwr (e : Nat) (d : Dev) : (Dev.raise e d).pwr = d.pwr := by have h := congrArg Dev.pwr (Dev.rest_raise e d); exact h
@[simp] theorem Dev.raise_bst (e : Nat) (d : Dev) : (Dev.raise e d).bst = d.bst := by have h := congrArg Dev.bst (Dev.rest_raise e d); exact h
@[simp] theorem Dev.raise_hp (e : Nat) (d : Dev) : (Dev.raise e d).hp = d.hp := by have h := congrArg Dev.hp (Dev.rest_raise e d); exact h
@[simp] theorem Dev.raise_aux (e : Nat) (d : Dev) : (Dev.raise e d).aux = d.aux := by have h := congrArg Dev.aux (Dev.rest_raise e d); exact h
@[simp] theorem Dev.raise_hka (e : Nat) (d : Dev) : (Dev.raise e d).hka = d.hka := by have h := congrArg Dev.hka (Dev.rest_raise e d); exact h
@[simp] theorem Dev.raise_twin (e : Nat) (d : Dev) : (Dev.raise e d).twin = d.twin := by have h := congrArg Dev.twin (Dev.rest_raise e d); exact h
@[simp] theorem Dev.raise_sec (e : Nat) (d : Dev) : (Dev.raise e d).sec = d.sec := by have h := congrArg Dev.sec (Dev.rest_raise e d); exact h
@[simp] theorem Dev.raise_stores (e : Nat) (d : Dev) : (Dev.raise e d).stores = d.stores := by have h := congrArg Dev.stores (Dev.rest_raise e d); exact h

@[simp] theorem Dev.raiseQuiet_now (e : Nat) (d : Dev) : (Dev.raiseQuiet e d).now = d.now := by have h := congrArg Dev.now (Dev.rest_raiseQuiet e d); exact h
@[simp] theorem Dev.raiseQuiet_free (e : Nat) (d : Dev) : (Dev.raiseQuiet e d).free = d.free := by have h := congrArg Dev.free (Dev.rest_raiseQuiet e d); exact h
@[simp] theorem Dev.raiseQuiet_bus (e : Nat) (d : Dev) : (Dev.raiseQuiet e d).bus = d.bus := by have h := congrArg Dev.bus (Dev.rest_raiseQuiet e d); exact h
@[simp] theorem Dev.raiseQuiet_sup (e : Nat) (d : Dev) : (Dev.raiseQuiet e d).sup = d.sup := by have h := congrArg Dev.sup (Dev.rest_raiseQuiet e d); exact h
@[simp] theorem Dev.raiseQuiet_loc (e : Nat) (d : Dev) : (Dev.raiseQuiet e d).loc = d.loc := by have h := congrArg Dev.loc (Dev.rest_raiseQuiet e d); exact h
@[simp] theorem Dev.raiseQuiet_tim (e : Nat) (d : Dev) : (Dev.raiseQuiet e d).tim = d.tim := by have h := congrArg Dev.tim (Dev.rest_raiseQuiet e d); exact h
@[simp] theorem Dev.raiseQuiet_bb (e : Nat) (d : Dev) : (Dev.raiseQuiet e d).bb = d.bb := by have h := congrArg Dev.bb (Dev.rest_raiseQuiet e d); exact h
@[simp] theorem Dev.raiseQuiet_clk (e : Nat) (d : Dev) : (Dev.raiseQuiet e d).clk = d.clk := by have h := congrArg Dev.clk (Dev.rest_raiseQuiet e d); exact h
@[simp] theorem Dev.raiseQuiet_med (e : Nat) (d : Dev) : (Dev.raiseQuiet e d).med = d.med := by have h := congrArg Dev.med (Dev.rest_raiseQuiet e d); exact h
@[simp] theorem Dev.raiseQuiet_net (e : Nat) (d : Dev) : (Dev.raiseQuiet e d).net = d.net := by have h := congrArg Dev.net (Dev.rest_raiseQuiet e d); exact h
@[simp] theorem Dev.raiseQuiet_lat (e : Nat) (d : Dev) : (Dev.raiseQuiet e d).lat = d.lat := by have h := congrArg Dev.lat (Dev.rest_raiseQuiet e d); exact h
@[simp] theorem Dev.raiseQuiet_str (e : Nat) (d : Dev) : (Dev.raiseQuiet e d).str = d.str := by have h := congrArg Dev.str (Dev.rest_raiseQuiet e d); exact h
@[simp] theorem Dev.raiseQuiet_sap (e : Nat) (d : Dev) : (Dev.raiseQuiet e d).sap = d.sap := by have h := congrArg Dev.sap (Dev.rest_raiseQuiet e d); exact h
@[simp] theorem Dev.raiseQuiet_cap (e : Nat) (d : Dev) : (Dev.raiseQuiet e d).cap = d.cap := by have h := congrArg Dev.cap (Dev.rest_raiseQuiet e d); exact h
@[simp] theorem Dev.raiseQuiet_per (e : Nat) (d : Dev) : (Dev.raiseQuiet e d).per = d.per := by have h := congrArg Dev.per (Dev.rest_raiseQuiet e d); exact h
@[simp] theorem Dev.raiseQuiet_tes (e : Nat) (d : Dev) : (Dev.raiseQuiet e d).tes = d.tes := by have h := congrArg Dev.tes (Dev.rest_raiseQuiet e d); exact h
@[simp] theorem Dev.raiseQuiet_fac (e : Nat) (d : Dev) : (Dev.raiseQuiet e d).fac = d.fac := by have h := congrArg Dev.fac (Dev.rest_raiseQuiet e d); exact h
@[simp] theorem Dev.raiseQuiet_pwr (e : Nat) (d : Dev) : (Dev.raiseQuiet e d).pwr = d.pwr := by have h := congrArg Dev.pwr (Dev.rest_raiseQuiet e d); exact h
@[simp] theorem Dev.raiseQuiet_bst (e : Nat) (d : Dev) : (Dev.raiseQuiet e d).bst = d.bst := by have h := congrArg Dev.bst (Dev.rest_raiseQuiet e d); exact h
@[simp] theorem Dev.raiseQuiet_hp (e : Nat) (d : Dev) : (Dev.raiseQuiet e d).hp = d.hp := by have h := congrArg Dev.hp (Dev.rest_raiseQuiet e d); exact h
@[simp] theorem Dev.raiseQuiet_aux (e : Nat) (d : Dev) : (Dev.raiseQuiet e d).aux = d.aux := by have h := congrArg Dev.aux (Dev.rest_raiseQuiet e d); exact h
@[simp] theorem Dev.raiseQuiet_hka (e : Nat) (d : Dev) : (Dev.raiseQuiet e d).hka = d.hka := by have h := congrArg Dev.hka (Dev.rest_raiseQuiet e d); exact h
@[simp] theorem Dev.raiseQuiet_twin (e : Nat) (d : Dev) : (Dev.raiseQuiet e d).twin = d.twin := by have h := congrArg Dev.twin (Dev.rest_raiseQuiet e d); exact h
@[simp] theorem Dev.raiseQuiet_sec (e : Nat) (d : Dev) : (Dev.raiseQuiet e d).sec = d.sec := by have h := congrArg Dev.sec (Dev.rest_raiseQuiet e d); exact h
@[simp] theorem Dev.raiseQuiet_stores (e : Nat) (d : Dev) : (Dev.raiseQuiet e d).stores = d.stores := by have h := congrArg Dev.stores (Dev.rest_raiseQuiet e d); exact h

@[simp] theorem Dev.setReady_now (on off : Nat) (d : Dev) : (Dev.setReady on off d).now = d.now := by have h := congrArg Dev.now (Dev.rest_setReady on off d); exact h
@[simp] theorem Dev.setReady_free (on off : Nat) (d : Dev) : (Dev.setReady on off d).free = d.free := by have h := congrArg Dev.free (Dev.rest_setReady on off d); exact h
@[simp] theorem Dev.setReady_bus (on off : Nat) (d : Dev) : (Dev.setReady on off d).bus = d.bus := by have h := congrArg Dev.bus (Dev.rest_setReady on off d); exact h
@[simp] theorem Dev.setReady_sup (on off : Nat) (d : Dev) : (Dev.setReady on off d).sup = d.sup := by have h := congrArg Dev.sup (Dev.rest_setReady on off d); exact h
@[simp] theorem Dev.setReady_loc (on off : Nat) (d : Dev) : (Dev.setReady on off d).loc = d.loc := by have h := congrArg Dev.loc (Dev.rest_setReady on off d); exact h
@[simp] theorem Dev.setReady_tim (on off : Nat) (d : Dev) : (Dev.setReady on off d).tim = d.tim := by have h := congrArg Dev.tim (Dev.rest_setReady on off d); exact h
@[simp] theorem Dev.setReady_bb (on off : Nat) (d : Dev) : (Dev.setReady on off d).bb = d.bb := by have h := congrArg Dev.bb (Dev.rest_setReady on off d); exact h
@[simp] theorem Dev.setReady_clk (on off : Nat) (d : Dev) : (Dev.setReady on off d).clk = d.clk := by have h := congrArg Dev.clk (Dev.rest_setReady on off d); exact h
@[simp] theorem Dev.setReady_med (on off : Nat) (d : Dev) : (Dev.setReady on off d).med = d.med := by have h := congrArg Dev.med (Dev.rest_setReady on off d); exact h
@[simp] theorem Dev.setReady_net (on off : Nat) (d : Dev) : (Dev.setReady on off d).net = d.net := by have h := congrArg Dev.net (Dev.rest_setReady on off d); exact h
@[simp] theorem Dev.setReady_lat (on off : Nat) (d : Dev) : (Dev.setReady on off d).lat = d.lat := by have h := congrArg Dev.lat (Dev.rest_setReady on off d); exact h
@[simp] theorem Dev.setReady_str (on off : Nat) (d : Dev) : (Dev.setReady on off d).str = d.str := by have h := congrArg Dev.str (Dev.rest_setReady on off d); exact h
@[simp] theorem Dev.setReady_sap (on off : Nat) (d : Dev) : (Dev.setReady on off d).sap = d.sap := by have h := congrArg Dev.sap (Dev.rest_setReady on off d); exact h
@[simp] theorem Dev.setReady_cap (on off : Nat) (d : Dev) : (Dev.setReady on off d).cap = d.cap := by have h := congrArg Dev.cap (Dev.rest_setReady on off d); exact h
@[simp] theorem Dev.setReady_per (on off : Nat) (d : Dev) : (Dev.setReady on off d).per = d.per := by have h := congrArg Dev.per (Dev.rest_setReady on off d); exact h
@[simp] theorem Dev.setReady_tes (on off : Nat) (d : Dev) : (Dev.setReady on off d).tes = d.tes := by have h := congrArg Dev.tes (Dev.rest_setReady on off d); exact h
@[simp] theorem Dev.setReady_fac (on off : Nat) (d : Dev) : (Dev.setReady on off d).fac = d.fac := by have h := congrArg Dev.fac (Dev.rest_setReady on off d); exact h
@[simp] theorem Dev.setReady_pwr (on off : Nat) (d : Dev) : (Dev.setReady on off d).pwr = d.pwr := by have h := congrArg Dev.pwr (Dev.rest_setReady on off d); exact h
@[simp] theorem Dev.setReady_bst (on off : Nat) (d : Dev) : (Dev.setReady on off d).bst = d.bst := by have h := congrArg Dev.bst (Dev.rest_setReady on off d); exact h
@[simp] theorem Dev.setReady_hp (on off : Nat) (d : Dev) : (Dev.setReady on off d).hp = d.hp := by have h := congrArg Dev.hp (Dev.rest_setReady on off d); exact h
@[simp] theorem Dev.setReady_aux (on off : Nat) (d : Dev) : (Dev.setReady on off d).aux = d.aux := by have h := congrArg Dev.aux (Dev.rest_setReady on off d); exact h
@[simp] theorem Dev.setReady_hka (on off : Nat) (d : Dev) : (Dev.setReady on off d).hka = d.hka := by have h := congrArg Dev.hka (Dev.rest_setReady on off d); exact h
@[simp] theorem Dev.setReady_twin (on off : Nat) (d : Dev) : (Dev.setReady on off d).twin = d.twin := by have h := congrArg Dev.twin (Dev.rest_setReady on off d); exact h
@[simp] theorem Dev.setReady_sec (on off : Nat) (d : Dev) : (Dev.setReady on off d).sec = d.sec := by have h := congrArg Dev.sec (Dev.rest_setReady on off d); exact h
@[simp] theorem Dev.setReady_stores (on off : Nat) (d : Dev) : (Dev.setReady on off d).stores = d.stores := by have h := congrArg Dev.stores (Dev.rest_setReady on off d); exact h

@[simp] theorem Dev.taint_now (i : Nat) (d : Dev) : (Dev.taint i d).now = d.now := by have h := congrArg Dev.now (Dev.rest_taint i d); exact h
@[simp] theorem Dev.taint_free (i : Nat) (d : Dev) : (Dev.taint i d).free = d.free := by have h := congrArg Dev.free (Dev.rest_taint i d); exact h
@[simp] theorem Dev.taint_bus (i : Nat) (d : Dev) : (Dev.taint i d).bus = d.bus := by have h := congrArg Dev.bus (Dev.rest_taint i d); exact h
@[simp] theorem Dev.taint_sup (i : Nat) (d : Dev) : (Dev.taint i d).sup = d.sup := by have h := congrArg Dev.sup (Dev.rest_taint i d); exact h
@[simp] theorem Dev.taint_loc (i : Nat) (d : Dev) : (Dev.taint i d).loc = d.loc := by have h := congrArg Dev.loc (Dev.rest_taint i d); exact h
@[simp] theorem Dev.taint_tim (i : Nat) (d : Dev) : (Dev.taint i d).tim = d.tim := by have h := congrArg Dev.tim (Dev.rest_taint i d); exact h
@[simp] theorem Dev.taint_bb (i : Nat) (d : Dev) : (Dev.taint i d).bb = d.bb := by have h := congrArg Dev.bb (Dev.rest_taint i d); exact h
@[simp] theorem Dev.taint_clk (i : Nat) (d : Dev) : (Dev.taint i d).clk = d.clk := by have h := congrArg Dev.clk (Dev.rest_taint i d); exact h
@[simp] theorem Dev.taint_med (i : Nat) (d : Dev) : (Dev.taint i d).med = d.med := by have h := congrArg Dev.med (Dev.rest_taint i d); exact h
@[simp] theorem Dev.taint_net (i : Nat) (d : Dev) : (Dev.taint i d).net = d.net := by have h := congrArg Dev.net (Dev.rest_taint i d); exact h
@[simp] theorem Dev.taint_lat (i : Nat) (d : Dev) : (Dev.taint i d).lat = d.lat := by have h := congrArg Dev.lat (Dev.rest_taint i d); exact h
@[simp] theorem Dev.taint_str (i : Nat) (d : Dev) : (Dev.taint i d).str = d.str := by have h := congrArg Dev.str (Dev.rest_taint i d); exact h
@[simp] theorem Dev.taint_sap (i : Nat) (d : Dev) : (Dev.taint i d).sap = d.sap := by have h := congrArg Dev.sap (Dev.rest_taint i d); exact h
@[simp] theorem Dev.taint_cap (i : Nat) (d : Dev) : (Dev.taint i d).cap = d.cap := by have h := congrArg Dev.cap (Dev.rest_taint i d); exact h
@[simp] theorem Dev.taint_per (i : Nat) (d : Dev) : (Dev.taint i d).per = d.per := by have h := congrArg Dev.per (Dev.rest_taint i d); exact h
@[simp] theorem Dev.taint_tes (i : Nat) (d : Dev) : (Dev.taint i d).tes = d.tes := by have h := congrArg Dev.tes (Dev.rest_taint i d); exact h
@[simp] theorem Dev.taint_fac (i : Nat) (d : Dev) : (Dev.taint i d).fac = d.fac := by have h := congrArg Dev.fac (Dev.rest_taint i d); exact h
@[simp] theorem Dev.taint_pwr (i : Nat) (d : Dev) : (Dev.taint i d).pwr = d.pwr := by have h := congrArg Dev.pwr (Dev.rest_taint i d); exact h
@[simp] theorem Dev.taint_bst (i : Nat) (d : Dev) : (Dev.taint i d).bst = d.bst := by have h := congrArg Dev.bst (Dev.rest_taint i d); exact h
@[simp] theorem Dev.taint_hp (i : Nat) (d : Dev) : (Dev.taint i d).hp = d.hp := by have h := congrArg Dev.hp (Dev.rest_taint i d); exact h
@[simp] theorem Dev.taint_aux (i : Nat) (d : Dev) : (Dev.taint i d).aux = d.aux := by have h := congrArg Dev.aux (Dev.rest_taint i d); exact h
@[simp] theorem Dev.taint_hka (i : Nat) (d : Dev) : (Dev.taint i d).hka = d.hka := by have h := congrArg Dev.hka (Dev.rest_taint i d); exact h
@[simp] theorem Dev.taint_twin (i : Nat) (d : Dev) : (Dev.taint i d).twin = d.twin := by have h := congrArg Dev.twin (Dev.rest_taint i d); exact h
@[simp] theorem Dev.taint_sec (i : Nat) (d : Dev) : (Dev.taint i d).sec = d.sec := by have h := congrArg Dev.sec (Dev.rest_taint i d); exact h
@[simp] theorem Dev.taint_stores (i : Nat) (d : Dev) : (Dev.taint i d).stores = d.stores := by have h := congrArg Dev.stores (Dev.rest_taint i d); exact h

@[simp] theorem Dev.irqSettle_now (d : Dev) : d.irqSettle.now = d.now := by have h := congrArg Dev.now (Dev.rest_irqSettle d); exact h
@[simp] theorem Dev.irqSettle_free (d : Dev) : d.irqSettle.free = d.free := by have h := congrArg Dev.free (Dev.rest_irqSettle d); exact h
@[simp] theorem Dev.irqSettle_bus (d : Dev) : d.irqSettle.bus = d.bus := by have h := congrArg Dev.bus (Dev.rest_irqSettle d); exact h
@[simp] theorem Dev.irqSettle_sup (d : Dev) : d.irqSettle.sup = d.sup := by have h := congrArg Dev.sup (Dev.rest_irqSettle d); exact h
@[simp] theorem Dev.irqSettle_loc (d : Dev) : d.irqSettle.loc = d.loc := by have h := congrArg Dev.loc (Dev.rest_irqSettle d); exact h
@[simp] theorem Dev.irqSettle_tim (d : Dev) : d.irqSettle.tim = d.tim := by have h := congrArg Dev.tim (Dev.rest_irqSettle d); exact h
@[simp] theorem Dev.irqSettle_bb (d : Dev) : d.irqSettle.bb = d.bb := by have h := congrArg Dev.bb (Dev.rest_irqSettle d); exact h
@[simp] theorem Dev.irqSettle_clk (d : Dev) : d.irqSettle.clk = d.clk := by have h := congrArg Dev.clk (Dev.rest_irqSettle d); exact h
@[simp] theorem Dev.irqSettle_med (d : Dev) : d.irqSettle.med = d.med := by have h := congrArg Dev.med (Dev.rest_irqSettle d); exact h
@[simp] theorem Dev.irqSettle_net (d : Dev) : d.irqSettle.net = d.net := by have h := congrArg Dev.net (Dev.rest_irqSettle d); exact h
@[simp] theorem Dev.irqSettle_lat (d : Dev) : d.irqSettle.lat = d.lat := by have h := congrArg Dev.lat (Dev.rest_irqSettle d); exact h
@[simp] theorem Dev.irqSettle_str (d : Dev) : d.irqSettle.str = d.str := by have h := congrArg Dev.str (Dev.rest_irqSettle d); exact h
@[simp] theorem Dev.irqSettle_sap (d : Dev) : d.irqSettle.sap = d.sap := by have h := congrArg Dev.sap (Dev.rest_irqSettle d); exact h
@[simp] theorem Dev.irqSettle_cap (d : Dev) : d.irqSettle.cap = d.cap := by have h := congrArg Dev.cap (Dev.rest_irqSettle d); exact h
@[simp] theorem Dev.irqSettle_per (d : Dev) : d.irqSettle.per = d.per := by have h := congrArg Dev.per (Dev.rest_irqSettle d); exact h
@[simp] theorem Dev.irqSettle_tes (d : Dev) : d.irqSettle.tes = d.tes := by have h := congrArg Dev.tes (Dev.rest_irqSettle d); exact h
@[simp] theorem Dev.irqSettle_fac (d : Dev) : d.irqSettle.fac = d.fac := by have h := congrArg Dev.fac (Dev.rest_irqSettle d); exact h
@[simp] theorem Dev.irqSettle_pwr (d : Dev) : d.irqSettle.pwr = d.pwr := by have h := congrArg Dev.pwr (Dev.rest_irqSettle d); exact h
@[simp] theorem Dev.irqSettle_bst (d : Dev) : d.irqSettle.bst = d.bst := by have h := congrArg Dev.bst (Dev.rest_irqSettle d); exact h
@[simp] theorem Dev.irqSettle_hp (d : Dev) : d.irqSettle.hp = d.hp := by have h := congrArg Dev.hp (Dev.rest_irqSettle d); exact h
@[simp] theorem Dev.irqSettle_aux (d : Dev) : d.irqSettle.aux = d.aux := by have h := congrArg Dev.aux (Dev.rest_irqSettle d); exact h
@[simp] theorem Dev.irqSettle_hka (d : Dev) : d.irqSettle.hka = d.hka := by have h := congrArg Dev.hka (Dev.rest_irqSettle d); exact h
@[simp] theorem Dev.irqSettle_twin (d : Dev) : d.irqSettle.twin = d.twin := by have h := congrArg Dev.twin (Dev.rest_irqSettle d); exact h
@[simp] theorem Dev.irqSettle_sec (d : Dev) : d.irqSettle.sec = d.sec := by have h := congrArg Dev.sec (Dev.rest_irqSettle d); exact h
@[simp] theorem Dev.irqSettle_stores (d : Dev) : d.irqSettle.stores = d.stores := by have h := congrArg Dev.stores (Dev.rest_irqSettle d); exact h

/-! The objects an event changes -/

/-- The objects of the event fabric (1300h to 1341h). -/
def fabricKey (k : Nat) : Prop := 0x130000 ≤ k ∧ k < 0x134200

/-- The value stored of an object outside the fabric stays. -/
def Dev.keepsObj (d e : Dev) : Prop := ∀ k, ¬ fabricKey k → assoc k e.st.obj = assoc k d.st.obj

theorem Dev.keepsObj_refl (d : Dev) : d.keepsObj d := fun _ _ => rfl
theorem Dev.keepsObj_trans {a b c : Dev} (h : a.keepsObj b) (g : b.keepsObj c) : a.keepsObj c := fun k hk => (g k hk).trans (h k hk)
theorem Dev.keepsObj_put (k v : Nat) (d : Dev) (h : fabricKey k) : d.keepsObj (d.put k v) :=
  fun j hj => assoc_assocPut_other j k v _ (fun e => hj (e ▸ h))
theorem foldl_keepsObj {α : Type} (f : Dev → α → Dev) (h : ∀ (d : Dev) (a : α), d.keepsObj (f d a)) (l : List α) (d : Dev) : d.keepsObj (l.foldl f d) := by
  induction l generalizing d with
  | nil => exact d.keepsObj_refl
  | cons a t ih => exact Dev.keepsObj_trans (h d a) (ih _)

theorem Dev.keepsObj_st (d e : Dev) (h : e.st.obj = d.st.obj) : d.keepsObj e := fun k _ => by rw [h]

theorem Dev.keepsObj_irqSettle (d : Dev) : d.keepsObj d.irqSettle := by
  have h : ∀ n ∈ upto 4, n < 4 := fun n hn => by simpa [upto] using hn
  unfold Dev.irqSettle
  revert h
  generalize upto 4 = l
  intro h
  induction l generalizing d with
  | nil => exact d.keepsObj_refl
  | cons a t ih =>
    refine Dev.keepsObj_trans (Dev.keepsObj_put _ _ _ ?_) (ih _ (fun n hn => h n (List.mem_cons_of_mem _ hn)))
    have := h a (List.mem_cons_self ..)
    simp only [fabricKey, key]; omega

theorem Dev.keepsObj_pulseOn (n : Nat) (d : Dev) : d.keepsObj (d.pulseOn n) := by
  unfold Dev.pulseOn; split
  · exact Dev.keepsObj_st _ _ rfl
  · exact d.keepsObj_refl

theorem Dev.keepsObj_countEvent (e : Nat) (d : Dev) (he : e < 128) : d.keepsObj (d.countEvent e) := by
  unfold Dev.countEvent; dsimp only; split
  · exact Dev.keepsObj_put _ _ _ (by simp only [fabricKey, key]; omega)
  · exact Dev.keepsObj_put _ _ _ (by simp only [fabricKey, key]; omega)

theorem Dev.keepsObj_route (e : Nat) (d : Dev) (he : e < 128) : d.keepsObj (d.route e) := by
  unfold Dev.route
  refine Dev.keepsObj_trans (Dev.keepsObj_put _ _ _ (by simp only [fabricKey, key]; omega)) (Dev.keepsObj_trans (foldl_keepsObj _ ?_ _ _) (Dev.keepsObj_irqSettle _))
  intro d n; split
  · exact Dev.keepsObj_pulseOn _ _
  · exact d.keepsObj_refl

theorem Dev.keepsObj_raiseQuiet (e : Nat) (d : Dev) (he : e < 128) : d.keepsObj (d.raiseQuiet e) := by
  unfold Dev.raiseQuiet; dsimp only; split
  · exact Dev.keepsObj_trans (Dev.keepsObj_countEvent e d he) (Dev.keepsObj_route e _ he)
  · exact Dev.keepsObj_trans (Dev.keepsObj_countEvent e d he) (Dev.keepsObj_st _ _ rfl)

theorem Dev.keepsObj_offer (q : QAct) (d : Dev) : d.keepsObj (d.offer q) := by
  unfold Dev.offer; split
  · exact Dev.keepsObj_st _ _ rfl
  · exact Dev.keepsObj_trans (Dev.keepsObj_put _ _ _ (by simp only [fabricKey]; omega)) (Dev.keepsObj_raiseQuiet 30 _ (by omega))

theorem Dev.keepsObj_e2aOnce (k : Nat) (d : Dev) : d.keepsObj (d.e2aOnce k) := by
  unfold Dev.e2aOnce; dsimp only; split
  · exact Dev.keepsObj_st _ _ rfl
  · exact d.keepsObj_refl

theorem Dev.keepsObj_raise (e : Nat) (d : Dev) (he : e < 128) : d.keepsObj (d.raise e) := by
  unfold Dev.raise; dsimp only; split
  · refine Dev.keepsObj_trans (Dev.keepsObj_countEvent e d he) (Dev.keepsObj_trans (Dev.keepsObj_route e _ he) ?_)
    unfold Dev.trigger
    exact foldl_keepsObj _ (fun d q => Dev.keepsObj_trans (Dev.keepsObj_offer q d) (Dev.keepsObj_e2aOnce _ _)) _ _
  · exact Dev.keepsObj_trans (Dev.keepsObj_countEvent e d he) (Dev.keepsObj_st _ _ rfl)

/-- An event leaves every object outside 1300h to 1341h as it is. -/
theorem Dev.get_raise (e k : Nat) (d : Dev) (he : e < 128) (hk : ¬ fabricKey k) : (d.raise e).get k = d.get k :=
  Dev.get_eq _ _ _ (Dev.keepsObj_raise e d he k hk) (Dev.keepsObj_raise e d he _ (by simp [fabricKey, kBootMode]))

theorem Dev.get_irqSettle (k : Nat) (d : Dev) (hk : ¬ fabricKey k) : d.irqSettle.get k = d.get k :=
  Dev.get_eq _ _ _ (Dev.keepsObj_irqSettle d k hk) (Dev.keepsObj_irqSettle d _ (by simp [fabricKey, kBootMode]))

end Sys2Proof.Machine
end

