-- ==== Sys2Proof/Laws/Memory.lean ====
section
/-! SUPPORT. The laws of Tessera memory: what is written is read, other bytes stay, and every write keeps the canonical form. -/
namespace Sys2Proof.Machine

/-- A list in canonical form whose first address, if it has one, lies above `a`. -/
def Memory.above (a : Nat) : List Host.Cell → Prop
  | [] => True
  | (b, _) :: _ => a < b

theorem Memory.wf_cons (a : Nat) (b : Byte) (t : List Host.Cell) :
    Memory.wf ((a, b) :: t) = true ↔ b ≠ memUnlisted ∧ Memory.above a t ∧ Memory.wf t = true := by
  cases t with
  | nil => simp [Memory.wf, Memory.above]
  | cons c t => obtain ⟨c, d⟩ := c; simp [Memory.wf, Memory.above, and_assoc]

theorem memWrite_above (a k : Nat) (v : Byte) (h : a < k) (m : List Host.Cell) (hm : Memory.above a m) (hw : Memory.wf m = true) :
    Memory.above a (memWrite k v m) := by
  cases m with
  | nil => unfold memWrite; split <;> simp_all [Memory.above]
  | cons c t =>
    obtain ⟨c, d⟩ := c
    have hc := (Memory.wf_cons c d t).1 hw
    unfold memWrite
    split
    · split <;> simp_all [Memory.above]
    · split
      · split
        · cases t with
          | nil => trivial
          | cons e t => obtain ⟨e, f⟩ := e; simp only [Memory.above] at *; omega
        · simp_all [Memory.above]
      · simpa [Memory.above] using hm

theorem memWrite_wf (k : Nat) (v : Byte) (m : List Host.Cell) (hw : Memory.wf m = true) : Memory.wf (memWrite k v m) = true := by
  induction m with
  | nil => unfold memWrite; split <;> simp_all [Memory.wf]
  | cons c t ih =>
    obtain ⟨c, d⟩ := c
    have hc := (Memory.wf_cons c d t).1 hw
    unfold memWrite
    split
    · split
      · exact hw
      · rw [Memory.wf_cons]; exact ⟨‹_›, by simpa [Memory.above] using ‹k < c›, hw⟩
    · split
      · split
        · exact hc.2.2
        · subst c; rw [Memory.wf_cons]; exact ⟨‹_›, hc.2.1, hc.2.2⟩
      · rw [Memory.wf_cons]; exact ⟨hc.1, memWrite_above c k v (by omega) t hc.2.1 hc.2.2, ih hc.2.2⟩

theorem memWriteAll_wf (l m : List Host.Cell) (hw : Memory.wf m = true) : Memory.wf (memWriteAll l m) = true := by
  induction l generalizing m with
  | nil => exact hw
  | cons c t ih => exact ih _ (memWrite_wf _ _ _ hw)

/-- Addresses below those listed read as unlisted. -/
theorem memRead_above (a k : Nat) (m : List Host.Cell) (hm : Memory.above a m) (hw : Memory.wf m = true) (h : k ≤ a) : memRead m k = memUnlisted := by
  induction m generalizing a with
  | nil => rfl
  | cons c t ih =>
    obtain ⟨c, d⟩ := c
    have hc := (Memory.wf_cons c d t).1 hw
    simp only [Memory.above] at hm
    simp only [memRead]
    rw [if_neg (by omega)]
    exact ih c hc.2.1 hc.2.2 (by omega)

theorem memRead_memWrite_same (k : Nat) (v : Byte) (m : List Host.Cell) (hw : Memory.wf m = true) : memRead (memWrite k v m) k = v := by
  induction m with
  | nil => unfold memWrite; split <;> simp_all [memRead]
  | cons c t ih =>
    obtain ⟨c, d⟩ := c
    have hc := (Memory.wf_cons c d t).1 hw
    unfold memWrite
    split
    · split
      · simp only [memRead]
        rw [if_neg (by omega), memRead_above c k t hc.2.1 hc.2.2 (by omega)]; simp_all
      · simp [memRead]
    · split
      · split
        · subst c; rw [memRead_above k k t hc.2.1 hc.2.2 (Nat.le_refl _)]; simp_all
        · simp [memRead]
      · simp only [memRead]; rw [if_neg ‹_›]; exact ih hc.2.2

theorem memRead_memWrite_other (k j : Nat) (v : Byte) (m : List Host.Cell) (h : j ≠ k) : memRead (memWrite k v m) j = memRead m j := by
  induction m with
  | nil => unfold memWrite; split <;> simp_all [memRead, Ne.symm h]
  | cons c t ih =>
    obtain ⟨c, d⟩ := c
    unfold memWrite
    split
    · split
      · rfl
      · simp [memRead, Ne.symm h]
    · split
      · split <;> simp_all [memRead, Ne.symm h]
      · simp only [memRead]; split
        · rfl
        · exact ih

/-- A byte outside a list of stores reads as before. -/
theorem memRead_memWriteAll_other (l m : List Host.Cell) (j : Nat) (h : ∀ c ∈ l, c.1 ≠ j) : memRead (memWriteAll l m) j = memRead m j := by
  induction l generalizing m with
  | nil => rfl
  | cons c t ih =>
    rw [memWriteAll, ih _ (fun x hx => h x (List.mem_cons_of_mem _ hx))]
    exact memRead_memWrite_other _ _ _ _ (Ne.symm (h c (List.mem_cons_self ..)))

@[simp] theorem memWriteAll_nil (m : List Host.Cell) : memWriteAll [] m = m := rfl

end Sys2Proof.Machine
end

