-- ==== Sys2Proof/Laws/Records.lean ====
section
/-! SUPPORT. What the error log, the black box and the SAFE causes can change of the part (R44, R464, R74). -/
namespace Sys2Proof.Machine

/-- The part but for the object store, the event fabric and the black box. -/
def Dev.restBb (d : Dev) : Dev := { d with st := {}, evt := {}, bb := {} }

theorem Dev.restBb_of_rest {d e : Dev} (h : e.rest = d.rest) : e.restBb = d.restBb := by have := congrArg Dev.restBb h; exact this
theorem Dev.restBb_put (k v : Nat) (d : Dev) : (d.put k v).restBb = d.restBb := rfl
theorem Dev.restBb_genUp (k : Nat) (d : Dev) : (d.genUp k).restBb = d.restBb := rfl
theorem Dev.restBb_raise (e : Nat) (d : Dev) : (d.raise e).restBb = d.restBb := Dev.restBb_of_rest (Dev.rest_raise e d)
theorem Dev.restBb_ite (c : Prop) [Decidable c] (a b : Dev) : (if c then a else b).restBb = if c then a.restBb else b.restBb := by split <;> rfl
theorem Dev.restBb_bb (d : Dev) (b : Bb) : ({ d with bb := b } : Dev).restBb = d.restBb := rfl

theorem Dev.restBb_bbStore (r : List Byte) (d : Dev) : (d.bbStore r).restBb = d.restBb := by
  unfold Dev.bbStore
  simp only [Dev.restBb_ite, Dev.restBb_put, Dev.restBb_genUp, Dev.restBb_raise, Dev.restBb_bb, ite_self]

theorem Dev.restBb_bbMake (kind severity code unit c0 c1 : Nat) (d : Dev) : (d.bbMake kind severity code unit c0 c1).restBb = d.restBb := by
  unfold Dev.bbMake Dev.inc Dev.bump
  simp only [Dev.restBb_ite, Dev.restBb_put, Dev.restBb_raise, Dev.restBb_bb, Dev.restBb_bbStore, ite_self]

@[simp] theorem Dev.bbMake_now (kind severity code unit c0 c1 : Nat) (d : Dev) : (Dev.bbMake kind severity code unit c0 c1 d).now = d.now := by
  have h := congrArg Dev.now (Dev.restBb_bbMake kind severity code unit c0 c1 d); exact h
@[simp] theorem Dev.bbMake_free (kind severity code unit c0 c1 : Nat) (d : Dev) : (Dev.bbMake kind severity code unit c0 c1 d).free = d.free := by
  have h := congrArg Dev.free (Dev.restBb_bbMake kind severity code unit c0 c1 d); exact h
@[simp] theorem Dev.bbMake_bus (kind severity code unit c0 c1 : Nat) (d : Dev) : (Dev.bbMake kind severity code unit c0 c1 d).bus = d.bus := by
  have h := congrArg Dev.bus (Dev.restBb_bbMake kind severity code unit c0 c1 d); exact h
@[simp] theorem Dev.bbMake_sup (kind severity code unit c0 c1 : Nat) (d : Dev) : (Dev.bbMake kind severity code unit c0 c1 d).sup = d.sup := by
  have h := congrArg Dev.sup (Dev.restBb_bbMake kind severity code unit c0 c1 d); exact h
@[simp] theorem Dev.bbMake_loc (kind severity code unit c0 c1 : Nat) (d : Dev) : (Dev.bbMake kind severity code unit c0 c1 d).loc = d.loc := by
  have h := congrArg Dev.loc (Dev.restBb_bbMake kind severity code unit c0 c1 d); exact h
@[simp] theorem Dev.bbMake_tim (kind severity code unit c0 c1 : Nat) (d : Dev) : (Dev.bbMake kind severity code unit c0 c1 d).tim = d.tim := by
  have h := congrArg Dev.tim (Dev.restBb_bbMake kind severity code unit c0 c1 d); exact h
@[simp] theorem Dev.bbMake_clk (kind severity code unit c0 c1 : Nat) (d : Dev) : (Dev.bbMake kind severity code unit c0 c1 d).clk = d.clk := by
  have h := congrArg Dev.clk (Dev.restBb_bbMake kind severity code unit c0 c1 d); exact h
@[simp] theorem Dev.bbMake_med (kind severity code unit c0 c1 : Nat) (d : Dev) : (Dev.bbMake kind severity code unit c0 c1 d).med = d.med := by
  have h := congrArg Dev.med (Dev.restBb_bbMake kind severity code unit c0 c1 d); exact h
@[simp] theorem Dev.bbMake_net (kind severity code unit c0 c1 : Nat) (d : Dev) : (Dev.bbMake kind severity code unit c0 c1 d).net = d.net := by
  have h := congrArg Dev.net (Dev.restBb_bbMake kind severity code unit c0 c1 d); exact h
@[simp] theorem Dev.bbMake_lat (kind severity code unit c0 c1 : Nat) (d : Dev) : (Dev.bbMake kind severity code unit c0 c1 d).lat = d.lat := by
  have h := congrArg Dev.lat (Dev.restBb_bbMake kind severity code unit c0 c1 d); exact h
@[simp] theorem Dev.bbMake_str (kind severity code unit c0 c1 : Nat) (d : Dev) : (Dev.bbMake kind severity code unit c0 c1 d).str = d.str := by
  have h := congrArg Dev.str (Dev.restBb_bbMake kind severity code unit c0 c1 d); exact h
@[simp] theorem Dev.bbMake_sap (kind severity code unit c0 c1 : Nat) (d : Dev) : (Dev.bbMake kind severity code unit c0 c1 d).sap = d.sap := by
  have h := congrArg Dev.sap (Dev.restBb_bbMake kind severity code unit c0 c1 d); exact h
@[simp] theorem Dev.bbMake_cap (kind severity code unit c0 c1 : Nat) (d : Dev) : (Dev.bbMake kind severity code unit c0 c1 d).cap = d.cap := by
  have h := congrArg Dev.cap (Dev.restBb_bbMake kind severity code unit c0 c1 d); exact h
@[simp] theorem Dev.bbMake_per (kind severity code unit c0 c1 : Nat) (d : Dev) : (Dev.bbMake kind severity code unit c0 c1 d).per = d.per := by
  have h := congrArg Dev.per (Dev.restBb_bbMake kind severity code unit c0 c1 d); exact h
@[simp] theorem Dev.bbMake_tes (kind severity code unit c0 c1 : Nat) (d : Dev) : (Dev.bbMake kind severity code unit c0 c1 d).tes = d.tes := by
  have h := congrArg Dev.tes (Dev.restBb_bbMake kind severity code unit c0 c1 d); exact h
@[simp] theorem Dev.bbMake_fac (kind severity code unit c0 c1 : Nat) (d : Dev) : (Dev.bbMake kind severity code unit c0 c1 d).fac = d.fac := by
  have h := congrArg Dev.fac (Dev.restBb_bbMake kind severity code unit c0 c1 d); exact h
@[simp] theorem Dev.bbMake_pwr (kind severity code unit c0 c1 : Nat) (d : Dev) : (Dev.bbMake kind severity code unit c0 c1 d).pwr = d.pwr := by
  have h := congrArg Dev.pwr (Dev.restBb_bbMake kind severity code unit c0 c1 d); exact h
@[simp] theorem Dev.bbMake_bst (kind severity code unit c0 c1 : Nat) (d : Dev) : (Dev.bbMake kind severity code unit c0 c1 d).bst = d.bst := by
  have h := congrArg Dev.bst (Dev.restBb_bbMake kind severity code unit c0 c1 d); exact h
@[simp] theorem Dev.bbMake_hp (kind severity code unit c0 c1 : Nat) (d : Dev) : (Dev.bbMake kind severity code unit c0 c1 d).hp = d.hp := by
  have h := congrArg Dev.hp (Dev.restBb_bbMake kind severity code unit c0 c1 d); exact h
@[simp] theorem Dev.bbMake_aux (kind severity code unit c0 c1 : Nat) (d : Dev) : (Dev.bbMake kind severity code unit c0 c1 d).aux = d.aux := by
  have h := congrArg Dev.aux (Dev.restBb_bbMake kind severity code unit c0 c1 d); exact h
@[simp] theorem Dev.bbMake_hka (kind severity code unit c0 c1 : Nat) (d : Dev) : (Dev.bbMake kind severity code unit c0 c1 d).hka = d.hka := by
  have h := congrArg Dev.hka (Dev.restBb_bbMake kind severity code unit c0 c1 d); exact h
@[simp] theorem Dev.bbMake_twin (kind severity code unit c0 c1 : Nat) (d : Dev) : (Dev.bbMake kind severity code unit c0 c1 d).twin = d.twin := by
  have h := congrArg Dev.twin (Dev.restBb_bbMake kind severity code unit c0 c1 d); exact h
@[simp] theorem Dev.bbMake_sec (kind severity code unit c0 c1 : Nat) (d : Dev) : (Dev.bbMake kind severity code unit c0 c1 d).sec = d.sec := by
  have h := congrArg Dev.sec (Dev.restBb_bbMake kind severity code unit c0 c1 d); exact h
@[simp] theorem Dev.bbMake_stores (kind severity code unit c0 c1 : Nat) (d : Dev) : (Dev.bbMake kind severity code unit c0 c1 d).stores = d.stores := by
  have h := congrArg Dev.stores (Dev.restBb_bbMake kind severity code unit c0 c1 d); exact h

/-! The objects a record changes: those of the black box (7200h to 7207h), beside the event fabric's -/

/-- The objects of the black box. -/
def bbKey (k : Nat) : Prop := 0x720000 ≤ k ∧ k < 0x720800

/-- The value stored of an object outside the fabric and the black box stays. -/
def Dev.keepsBb (d e : Dev) : Prop := ∀ k, ¬ fabricKey k → ¬ bbKey k → assoc k e.st.obj = assoc k d.st.obj

theorem Dev.keepsBb_of {d e : Dev} (h : d.keepsObj e) : d.keepsBb e := fun k hk _ => h k hk
theorem Dev.keepsBb_refl (d : Dev) : d.keepsBb d := fun _ _ _ => rfl
theorem Dev.keepsBb_trans {a b c : Dev} (h : a.keepsBb b) (g : b.keepsBb c) : a.keepsBb c := fun k h1 h2 => (g k h1 h2).trans (h k h1 h2)
theorem Dev.keepsBb_put {k v : Nat} {d : Dev} (h : bbKey k) : d.keepsBb (d.put k v) := fun j _ hj => assoc_assocPut_other j k v _ (fun e => hj (e ▸ h))
theorem Dev.keepsBb_st {d e : Dev} (h : e.st.obj = d.st.obj) : d.keepsBb e := fun k _ _ => by rw [h]
theorem Dev.keepsBb_ite {c : Prop} [Decidable c] {a b d : Dev} (h : d.keepsBb a) (g : d.keepsBb b) : d.keepsBb (if c then a else b) := by split <;> assumption

theorem Dev.keepsBb_bbStore (r : List Byte) (d : Dev) : d.keepsBb (d.bbStore r) := by
  unfold Dev.bbStore
  extract_lets n t sev d1 d2 old d3 d4 d5
  have h1 : d.keepsBb d2 := Dev.keepsBb_st rfl
  have h2 : d.keepsBb old := Dev.keepsBb_trans h1 (Dev.keepsBb_put (by simp [bbKey]))
  have h3 : d.keepsBb d4 := Dev.keepsBb_trans h2 (Dev.keepsBb_put (by simp [bbKey]))
  have h4 : d.keepsBb d5 := by
    refine Dev.keepsBb_trans h3 ?_
    simp only [d5]
    refine Dev.keepsBb_ite (Dev.keepsBb_trans (Dev.keepsBb_put (k := 0x720100) (v := d3) (by simp [bbKey])) (Dev.keepsBb_st rfl)) (Dev.keepsBb_ite (Dev.keepsBb_st rfl) (Dev.keepsBb_refl _))
  clear_value d5
  have h5 : ∀ (c : Prop) [Decidable c] (b : Bb) (n : Nat) (k : Nat → Nat), d.keepsBb (if c then ((({ d5 with bb := b } : Dev).put 0x720500 n).genUp (k n)) else d5) := by
    intro c _ b n k
    have hb : bbKey 0x720500 := by simp [bbKey]
    refine Dev.keepsBb_ite (fun j h1 h2 => ?_) h4
    rw [show ((({ d5 with bb := b } : Dev).put 0x720500 n).genUp (k n)).st.obj = assocPut 0x720500 n d5.st.obj from rfl, assoc_assocPut_other j _ _ _ (fun e => h2 (by rw [e]; exact hb))]
    exact h4 j h1 h2
  refine Dev.keepsBb_ite (Dev.keepsBb_trans ?_ (Dev.keepsBb_of (Dev.keepsObj_raise 122 _ (by omega)))) ?_
  · exact h5 _ _ _ (fun n => key 0x7204 (n - 1))
  · exact h5 _ _ _ (fun n => key 0x7204 (n - 1))

theorem Dev.keepsBb_bbMake (kind severity code unit c0 c1 : Nat) (d : Dev) : d.keepsBb (d.bbMake kind severity code unit c0 c1) := by
  unfold Dev.bbMake
  extract_lets r
  split
  · exact Dev.keepsBb_bbStore r d
  · split
    · exact Dev.keepsBb_st rfl
    · have hb : bbKey 0x720700 := by simp [bbKey]
      exact Dev.keepsBb_trans (Dev.keepsBb_put hb) (Dev.keepsBb_of (Dev.keepsObj_raise 122 _ (by omega)))

/-- A record leaves every object outside the fabric and the black box as it is. -/
theorem Dev.get_bbMake (kind severity code unit c0 c1 k : Nat) (d : Dev) (h1 : ¬ fabricKey k) (h2 : ¬ bbKey k) : (d.bbMake kind severity code unit c0 c1).get k = d.get k :=
  Dev.get_eq _ _ _ (Dev.keepsBb_bbMake kind severity code unit c0 c1 d k h1 h2) (Dev.keepsBb_bbMake kind severity code unit c0 c1 d _ (by simp [fabricKey, kBootMode]) (by simp [bbKey, kBootMode]))

end Sys2Proof.Machine
end

