-- ==== Sys2Proof/Laws/Writes.lean ====
section
/-! SUPPORT. What a WRITE request that nothing refuses does (R41, R53): its object takes the value, what that starts runs, and the answer is OK. -/
namespace Sys2Proof.Machine

/-- The object of a row of the maps. -/
def Obj.ofRow (r : ObjRow) (k : Nat) : Obj := { ty := r.ty, acc := r.acc, ret := r.ret, rng := r.rng, size := r.size, grp := r.group k, bind := none }

theorem Dev.objAt_row {d : Dev} {k : Nat} {r : ObjRow} (hr : objRow k = some r) (hn : d.objAt k ≠ none) : d.objAt k = some (Obj.ofRow r k) := by
  unfold Dev.objAt at hn ⊢
  dsimp only at hn ⊢
  rw [hr] at hn ⊢
  split
  · simp_all
  · split
    · simp_all
    · rfl

theorem Dev.takes_obj {d : Dev} {a : Access} {k : Nat} (h : d.takes a k) : d.objAt k ≠ none := by
  intro hn
  have := h.2.2.1
  simp [Dev.writeCodes, Dev.plainCodes, hn] at this

theorem firstError_nil : firstError [] = eOk := rfl

/-- A number written to an object that is not staged. -/
theorem Dev.hostWriteAt_num {d : Dev} {m : List Host.Cell} {hits : List (Nat × Nat)} {a : Access} {k : Nat} {r : ObjRow}
    (h : d.takes a k) (hr : objRow k = some r) (hs : r.acc ≠ .st) (h1 : r.ty ≠ .blob) (h2 : r.ty ≠ .str) :
    d.hostWriteAt m hits a k =
      (d.takeNow m a.path (Obj.ofRow r k) k ((Obj.ofRow r k).norm (leNat a.data)) []).answer a.path { status := eOk } := by
  have ho := Dev.objAt_row hr (Dev.takes_obj h)
  obtain ⟨hp, hc, hw, hm⟩ := h
  have hb : (Obj.ofRow r k).ty = r.ty := rfl
  have ha : (Obj.ofRow r k).acc = r.acc := rfl
  unfold Dev.hostWriteAt
  rw [if_pos hp, hc]
  simp only [Dev.writeObj, ho, hw, firstError_nil, Dev.payload, hb, h1, h2, hm, Dev.accept, ha, hs]
  simp

/-- The bytes of a row of a number are the number. -/
theorem leNat_leBytes (n v : Nat) (h : v < 256 ^ n) : leNat (leBytes n v) = v := by
  induction n generalizing v with
  | zero => simp_all [leBytes, leNat]
  | succ n ih =>
    have h2 : v / 256 < 256 ^ n := by rw [Nat.div_lt_iff_lt_mul (by decide)]; simpa [Nat.pow_succ] using h
    simp only [leBytes, leNat, ih _ h2, BitVec.toNat_ofNat]
    omega

/-- A row that writes a number to an object of its own. -/
theorem Dev.hostSet_num {d : Dev} {m : List Host.Cell} {a : Access} {k v : Nat} {r : ObjRow}
    (h : d.takesNum a k v) (hr : objRow k = some r) (hs : r.acc ≠ .st) (h1 : r.ty ≠ .blob) (h2 : r.ty ≠ .str) :
    Dev.hostSet a k v m d =
      (d.takeNow m a.path (Obj.ofRow r k) k ((Obj.ofRow r k).norm v) []).answer a.path { status := eOk } := by
  have := Dev.hostWriteAt_num (m := m) (hits := []) h.1 hr hs h1 h2
  rw [show (numAccess a k v).path = a.path from rfl, show (numAccess a k v).data = leBytes (keyBytes k) v from rfl, leNat_leBytes _ _ h.2] at this
  exact this

theorem Dev.userPut_row {d : Dev} {k v : Nat} {r : ObjRow} (hr : objRow k = some r) : d.userPut k v = d.put k v := by
  simp [Dev.userPut, hr]

/-- A BLOB whose last segment is written, to an object that is not staged, and that meets no collision. -/
theorem Dev.hostWriteAt_blob {d : Dev} {m : List Host.Cell} {a : Access} {k : Nat} {b : List Byte} {r : ObjRow}
    (h : d.takesBytes a k b) (hr : objRow k = some r) (hs : r.acc ≠ .st) :
    d.hostWriteAt m [] a k = ((d.partDone a).takeNow m a.path (Obj.ofRow r k) k 0 b).ok a := by
  obtain ⟨ht, o, c, ho, hb, hpay⟩ := h
  have ho' := Dev.objAt_row hr (Dev.takes_obj ht)
  obtain ⟨hp, hc, hw, hm⟩ := ht
  have he : o = Obj.ofRow r k := by rw [ho] at ho'; exact Option.some.inj ho'
  subst he
  have ha : (Obj.ofRow r k).acc = r.acc := rfl
  have hm' : ((d.partDone a).mirrors && mirroredKey k) = false := hm
  have hwh : d.waveHits k [] = [] := by
    unfold Dev.waveHits; dsimp only; split
    · split <;> rfl
    · rfl
  have hm2 : ((d.partDone a).mirrors && mirroredKey k) = false := hm
  unfold Dev.hostWriteAt
  rw [if_pos hp, hc]
  simp only [Dev.writeObj, ho, hw, firstError_nil, hpay, hwh, List.foldl_nil, List.any_nil, hb, Dev.ok]
  simp only [Dev.partDone] at hm2 ⊢
  simp [hm2, Dev.accept, ha, hs]

/-- What a READ of a number gives. -/
theorem Dev.hostReadAt_num {d : Dev} {m : List Host.Cell} {e1 e2 : List Nat} {a : Access} {k : Nat} {r : ObjRow}
    (h : d.reads a k) (hr : objRow k = some r) (h1 : r.ty ≠ .blob) (h2 : r.ty ≠ .str) :
    d.hostReadAt m e1 e2 a k =
      ((d.ledgerLatch k).touch k).answer a.path { status := eOk, data := leBytes r.ty.bytes ((d.ledgerLatch k).numValue a.staged (Obj.ofRow r k) k) } := by
  obtain ⟨hp, o, ho, hc⟩ := h
  have ho' := Dev.objAt_row (d := d) hr (by simp [ho])
  have he : o = Obj.ofRow r k := by rw [ho] at ho'; exact Option.some.inj ho'
  subst he
  have hb : (Obj.ofRow r k).ty = r.ty := rfl
  have hbytes : r.ty.isBytes = false := by revert h1 h2; cases r.ty <;> simp [Ty.isBytes]
  unfold Dev.hostReadAt
  rw [if_pos hp]
  simp [Dev.readObj, ho, hc, firstError_nil, hb, hbytes]

/-- What a READ of a BLOB gives. -/
theorem Dev.hostReadAt_blob {d : Dev} {m : List Host.Cell} {e1 e2 : List Nat} {a : Access} {k : Nat} {r : ObjRow}
    (h : d.reads a k) (hr : objRow k = some r) (hb : r.ty = .blob) :
    d.hostReadAt m e1 e2 a k =
      (d.byteValue m e1 e2 a.staged (Obj.ofRow r k) k a.offset (min a.length (pathSegment a.path))).2.answer a.path
        { status := eOk, gen := d.genOf k, data := (d.byteValue m e1 e2 a.staged (Obj.ofRow r k) k a.offset (min a.length (pathSegment a.path))).1 } := by
  obtain ⟨hp, o, ho, hc⟩ := h
  have ho' := Dev.objAt_row (d := d) hr (by simp [ho])
  have he : o = Obj.ofRow r k := by rw [ho] at ho'; exact Option.some.inj ho'
  subst he
  have hty : (Obj.ofRow r k).ty = .blob := hb
  unfold Dev.hostReadAt
  rw [if_pos hp]
  simp [Dev.readObj, ho, hc, firstError_nil, hty, Ty.isBytes]

end Sys2Proof.Machine
end

