-- ==== Sys2Proof/Tests/Slice0.lean ====
section
/-! SUPPORT. The model's own tests: well-formedness at its boundaries, single commands against the spec's figures, and a state and operands that meet the hypotheses of each statement. -/
namespace Sys2Proof.Tests

open Machine

set_option maxRecDepth 20000

/-! Well-formedness: the largest operands are taken, one more is refused -/

def aOk : Access := { path := .tdt 7, offset := 4294967295, length := 65535, data := [] }
def aBad : Access := { path := .tdt 8 }
def rOk : AccessRecord := { op := 255, flags := 255, index := 65535, sub := 255, length := 65535, offset := 4294967295 }
def rBad : AccessRecord := { rOk with sub := 256 }
def hOk : Heart := { role := 255, flags := 255, mode := 255, launched := [65535] }
def hBad : Heart := { hOk with flags := 256 }
def vOk : Verdict := { sig := true, gcm := true, plain := [], flow := none, wcet := [], dma := [] }

theorem test_wf_access : ([aOk, { aOk with path := .spi }].all Access.wf && [aBad, { aOk with offset := 4294967296 }, { aOk with length := 65536 }, { aOk with data := zeros 1025 }].all (fun a => !a.wf)) = true := by decide
theorem test_wf_record : (rOk.wf && [{ rOk with op := 256 }, { rOk with flags := 256 }, { rOk with index := 65536 }, rBad, { rOk with length := 65536 }, { rOk with offset := 4294967296 }, { rOk with data := zeros 1401 }].all (fun r => !r.wf)) = true := by decide
theorem test_wf_refs : ([MemRef.loc 262143, .gen 3, .inp 31 63, .out 31 63].all MemRef.wf && [MemRef.loc 262144, .gen 4, .inp 32 0, .inp 0 64, .out 32 0, .out 0 64].all (fun m => !m.wf)
  && [SDest.reg 31, .gen 3 3].all SDest.wf && [SDest.reg 32, .gen 4 0, .gen 0 4].all (fun d => !d.wf)) = true := by decide
theorem test_wf_debug : ([DbgOp.readMem 4294967295, .writeMem 0 4294967295, .readEngine 7 true 262143, .writeEngine 7 false 262143 4294967295, .halt 7, .single 7, .resume 7, .readReg 7 4 0, .writeReg 7 4 0 0, .readObj 65535 255 true 4294967295 65535, .writeObj 65535 255 true 4294967295 []].all DbgOp.wf
  && [DbgOp.readMem 4294967296, .writeMem 4294967296 0, .writeMem 0 4294967296, .readEngine 8 true 0, .readEngine 0 true 262144, .writeEngine 8 true 0 0, .writeEngine 0 true 262144 0, .writeEngine 0 true 0 4294967296, .halt 8, .single 8, .resume 8, .readReg 8 0 0, .readReg 0 5 0,
    .writeReg 8 0 0 0, .writeReg 0 5 0 0, .readObj 65536 0 false 0 0, .readObj 0 256 false 0 0, .readObj 0 0 false 4294967296 0, .readObj 0 0 false 0 65536, .writeObj 65536 0 false 0 [], .writeObj 0 256 false 0 [], .writeObj 0 0 false 4294967296 [], .writeObj 0 0 false 0 (zeros 1025)].all (fun d => !d.wf)) = true := by decide
theorem test_wf_heart : (hOk.wf && [{ hOk with role := 256 }, hBad, { hOk with mode := 256 }, { hOk with epoch := 4294967296 }, { hOk with time := 18446744073709551616 }, { hOk with boundary := 4294967296 }, { hOk with safe := 65536 }, { hOk with ready := 4294967296 },
  { hOk with launched := List.replicate 17 0 }, { hOk with launched := [65536] }, { hOk with syncs := 4294967296 }].all (fun h => !h.wf)) = true := by decide
theorem test_wf_sample : (sampleWf (2147483647, 15) && sampleWf (-2147483648, 0) && !sampleWf (2147483648, 0) && !sampleWf (-2147483649, 0) && !sampleWf (0, 16)) = true := by decide

theorem test_wf_takes0 : [
  .read aOk 65535 255 [] [], .write aOk 65535 255 [], .resend false, .nop false, .undefinedOp false, .badCrcRequest false, .spiAborted, .i2cTimeout, .i2cShortTransfer, .discover, .announce, .tdtOpen 255 false (zeros 16),
  .tdtClose 4294967295 false 4294967295 65535, .request 4294967295 false 4294967295 65535 [], .keepalive 4294967295 false 65535 4294967295, .bulkRead 4294967295 false 4294967295 65535 65535 255 65535 255 false,
  .sessionTimeout 7, .writeLock aOk 4294967295, .lockBreak aOk, .writeLockLeaseExpiry, .commitNow aOk 255, .commitSchedule aOk 255 18446744073709551615, .discard aOk 255, .check aOk 255, .scheduledCommit 255,
  .ledgerClear aOk, .ledgerRead aOk 65535 255, .modeRequest aOk 255, .modeStepComplete, .safeReturn, .hostWdtPeriod aOk 4294967295, .hostWdtKick aOk, .hostWdtExpiry, .por false, .bor, .pinReset, .resetNRelease,
  .supervisorWatchdogExpiry, .lockstepMismatch, .coreSupply, .softReset aOk 255, .softResetCoreRestart, .domainReset aOk 255, .domainResetDone 255, .coreRelease false, .railTimeout, .snapshotStore aOk, .snapshotStoreDone,
  .wake 65535, .wakeTimerExpiry, .vinWarn, .vinUndervoltage, .vinOvervoltage, .vinRecovery false, .supplyOutOfRange, .vdd33Loss, .vddioLoss 1 false, .inputMonitorFault false false 281474976710655, .spllLoss, .spllRelock].all Instr.wellFormed = true := by decide
theorem test_wf_takes1 : [
  .mpllLock none, .acquisitionAttemptFail, .bandFault, .bandFaultRetry, .mpllLockLoss, .holdoverReturn, .holdover2s, .slewComplete, .steeringSourceLost, .steeringSourceValid, .fallbackTaken, .fallbackRelease,
  .bandScan aOk, .bandScanComplete [], .timeNow aOk, .sync 0 4294967295, .slewProfileEnd, .announceMessage false 18446744073709551615 65535 2, .announceReceiptTimeout false, .syncTimeout, .epochStep, .strobeReload,
  .timeSet aOk 18446744073709551615, .ppsOutEdge, .ppsOutFall, .timeCapEdge false 7, .ppsDisciplineLoss, .capEntry aOk, .entry aOk 255, .locusClear aOk, .locusWrite false, .locusCommit, .locusLoad false,
  .locusGateSwap false, .locusImageSwap false, .locusMode false, .locusGpio false, .locusEvent false, .e2aEntry aOk 63, .evClear aOk 3 4294967295, .irqMask aOk 3 3 4294967295, .irqConfig aOk 3 4294967295, .irqPulseEnd 3,
  .irqGapEnd 3, .gpioFunc aOk 15 4294967295, .gpioOut aOk 65535, .gpioEdge 15 false, .gpioEdgeClear aOk 65535, .gpioAction aOk 15, .linkA 3 false false false, .linkB 3, .aAdvertise aOk 4294967295, .bMode aOk 2 4294967295,
  .magicPacket [], .frameReceived 2 [] false 18446744073709551615 16777215, .frameTransmitted 2, .addrFlush aOk 1, .addressAgeing, .pause 65535, .pauseQuantumEnd].all Instr.wellFormed = true := by decide
theorem test_wf_takes2 : [
  .pauseWatchdogTrip, .pauseWdHoldoffEnd, .gateListStart 2, .gateEntryChange 2, .post aOk 3, .reap aOk 3, .ringEnable aOk 3 4294967295, .launch 4, .tsRecord aOk 3, .aStatus aOk, .tsEnable aOk 15 4294967295,
  .talkerStart 15, .talkerPacketComplete 15, .resolveRetry 15 (some 281474976710655), .resolveRefresh 15 (some 281474976710655), .lsEnable aOk 15 4294967295, .listenerPacket 15 999 [], .lostPacket 15, .streamStop 15,
  .lsStatus aOk 15, .lsLevelMin aOk 15, .sapEnable aOk 3 4294967295, .frameStart 3 1099511627775 4294967295 [4294967295], .sapStop 3, .testSlipEnable aOk 3 4294967295, .testSlip aOk 3 4294967295,
  .asrcEnable aOk 1 4294967295, .asrcLock 1, .chEnableCapture aOk 3 4294967295, .inputSel aOk 3 4294967295, .pgaGain aOk 3 4294967295, .finalStage aOk 13 4294967295, .windHpf aOk 13 4294967295, .delay aOk 13 4294967295,
  .biasEnable aOk 1 4294967295, .biasVoltage aOk 1 4294967295, .captureValid 13, .biasShort 1, .biasRetry 1 false, .biasOpen 1 false, .pdmStuck 3 false, .captureOvr 13 false, .ovrStatus aOk, .crystalLoss, .crystalReturn,
  .historyBlock {}, .listenMicStuck 7 false, .histBlock aOk, .histReadSeq aOk 4294967295, .enrolSlot aOk 127, .enrolErase aOk 126, .enrolCancel aOk, .enrolTimeout, .enrolStoreDone 7 [], .template aOk 7,
  .wakeOutClear aOk 4294967295, .wakeOutPulseEnd, .muxSelection aOk 10 255 4294967295, .rampSwitchSample 10 255, .rampEnd 10 255].all Instr.wellFormed = true := by decide
theorem test_wf_takes3 : [
  .sinkDest aOk 255 4294967295, .vtxGain aOk 63 95 4294967295, .sinkPolicy aOk 511 4294967295, .start aOk 7, .stop aOk 7, .swap aOk 7, .discardStandby aOk 7, .unload aOk 7, .clearFault aOk 7, .swapSet aOk 4294967295,
  .swapBoundary, .engineStartPoint 7, .taskRelease 7 15 false, .overrun 7 15 false, .engineFault 7 6, .autoRecover 7, .ecoClockChange, .facetAdd 7 31 31 31, .facetSub 7 31 31 31, .facetAnd 7 31 31 31, .facetOr 7 31 31 31,
  .facetXor 7 31 31 31, .facetShl 7 31 31 31, .facetShr 7 31 31 31, .facetMul 7 31 31 31, .facetMin 7 31 31 31, .facetMax 7 31 31 31, .facetCmp 7 31 31, .facetMov 7 (.reg 0) 31, .facetLi 7 (.reg 0) 4294967295,
  .facetVmac 7 7 15 15, .facetVmsu 7 7 15 15, .facetVmul 7 7 15 15, .facetVadd 7 15 15 15, .facetVsub 7 15 15 15, .facetVabs 7 15 15, .facetVmax 7 15 15 15, .facetVshr 7 15 15 4294967295, .facetVext 7 15 7,
  .facetFmac 7 15 15 15, .facetFmul 7 15 15 15, .facetFadd 7 15 15 15, .facetFsub 7 15 15 15, .facetFmax 7 15 15 15, .facetFabs 7 15 15, .facetFcvt 7 15 15 false, .facetFrcp 7 15 15, .facetFrsq 7 15 15,
  .facetFlog2 7 15 15, .facetFexp2 7 15 15, .facetLd 7 31 (.loc 0), .facetSt 7 31 (.loc 0), .facetVld 7 15 (.loc 0), .facetVst 7 15 (.loc 0), .facetLoop 7 31 8191, .facetBrf 7 7 8191, .facetCall 7 8191, .facetRet 7,
  .facetHalt 7 4294967295, .facetTagrd 7 31 31].all Instr.wellFormed = true := by decide
theorem test_wf_takes4 : [
  .facetTagset 7 31 63 64 15, .facetTagclr 7 31 63 64 15, .facetUvrd 7 31 255, .facetUvwr 7 31 255, .facetDmard 7 255 16777215 262143 65536, .facetDmawr 7 255 16777215 262143 65536, .facetDmawait 7 [] [] [],
  .facetLock 7 31 15, .facetUnlock 7 15, .facetBiq 7 [], .facetConv 7 [], .facetFft 7 [], .facetIfft 7 [], .facetEnv 7 [], .facetComp 7 [], .facetLim 7 [], .facetRamp 7 262143 4294967295 4294967295 65536 false,
  .facetXfade 7 262143 262143 262143 65536 65536 false, .facetDly 7 262143 255 262144, .facetTlu 7 [], .facetEnvx 7 262143 [255], .facetPilot 7 262143 7, .facetSignal 7 65535, .loadStart aOk, .loadChunk aOk,
  .loadFinish aOk, .loadResult vOk none, .loaderOwnerTimeout, .bootErase aOk 7, .chEnable aOk 7 4294967295, .commonModeRampDone 7, .muteRampDone 7, .cmDownDone 7, .sampleLinkLoss 1, .modFreq aOk 4294967295,
  .fullScaleV aOk 7 4294967295, .bridgeReconfig 3, .currentLimit 7, .short 7, .overcurrent 7, .legShort 7, .dc 7, .sense 7, .gateDrive 11, .gateDriveRecovery 11, .pvddOv, .pvddOvRecovery, .retry 7,
  .clearLatch aOk 7 4294967295, .softRestartDone 7, .powerLimitStep [] 65535 65535 65535, .dieTemperature 1 0, .pilotResult 7 1 false 4294967295 0, .reCapture aOk 7, .envelopeRecord, .boostCommand 65535 65535 65535,
  .railLow, .boostStart 65535 65535, .railShort, .railShortRestart].all Instr.wellFormed = true := by decide
theorem test_wf_takes5 : [
  .phaseImbalance 3, .boostClear aOk 4294967295, .hpEnable aOk 4294967295, .loutEnable aOk 4294967295, .outputStartDone 1, .outputStopDone 1, .hpRange aOk 4294967295, .volumeStep, .hpLineFault 1, .hpLineRetry 1,
  .jackMute 3, .jackInsertion, .jackRemoval 3, .jackIdentify 65535, .button 65535, .range aOk 7 4294967295, .loadCmd aOk 255, .loadPinEdge false, .heldValuesApply, .clearNFall, .clearNRise, .complianceLoss 7,
  .compliance aOk, .waveSize aOk 1 65535, .waveData aOk 1 [], .waveRestart aOk 1, .waveDone 1, .seqStart aOk, .seqStop aOk, .periodicTrigger, .conversionDone 65535 false false, .monitorRequest, .urgent aOk 4294967295,
  .calibrate aOk, .calibrationDone 0 65535, .result aOk 255, .windowStatus aOk, .bgTestSlot [] [] false, .lockTake aOk 15 4294967295, .lockRevoked 15, .fenceIn, .fenceInRelease, .heartbeatSend, .heartbeat hOk,
  .heartbeatLoss, .samples 18446744073709551615 [(2147483647, 15)], .samplesSend, .samplesMissing false, .hello 4294967295 65535 65535 false false, .chordWrite rOk 18446744073709551615, .blackbox (zeros 32),
  .handoverRequest 18446744073709551615 255, .handoverGrant 18446744073709551615, .handoverDone, .handoverBoundary, .handoverTimeout, .leave, .mirrorData [], .laneFault 1, .laneGood 1].all Instr.wellFormed = true := by decide
theorem test_wf_takes6 : [
  .chordTrained, .gmLeaseExpiry, .switchover aOk 4294967295, .failover 7, .fenceRelease aOk 4294967295, .autoRejoin, .forceAlone aOk 4294967295, .claimWait, .lifecycleProvision aOk false, .lifecycleDeploy aOk,
  .keyPublic aOk 255, .keySecret aOk 255, .keyRevoke aOk 255, .unlockScan aOk, .unlockFull aOk, .unlockService aOk, .unlockRetire aOk false, .token aOk, .tokenVerified false false, .lockoutEnd, .tapBypass, .tapIdcode,
  .tapSamplePreload 18446744073709551615 none, .tapExtest 18446744073709551615 none, .tapClamp, .tapHighz, .dbgChallenge 255, .dbgUnlock false false, .dbgAccess (.halt 0), .trstN, .bbRecordWrite, .bbRecord aOk,
  .bbClear aOk 4294967295, .tick 4294967295, .mediaSampleBoundary [], .syncTransmit, .inputMonitorReturn false 281474976710655, .vdd33Recovery, .vddioReturn 1, .presenceReturns 3, .rangePendingExpiry 7,
  .complianceClear 7].all Instr.wellFormed = true := by decide
theorem test_wf_refuses0 : [
  .read aBad 65535 255 [] [], .read aOk 65536 255 [] [], .read aOk 65535 256 [] [], .write aBad 65535 255 [], .write aOk 65536 255 [], .write aOk 65535 256 [], .tdtOpen 256 false (zeros 16), .tdtOpen 255 false (zeros 17),
  .tdtClose 4294967296 false 4294967295 65535, .tdtClose 4294967295 false 4294967296 65535, .tdtClose 4294967295 false 4294967295 65536, .request 4294967296 false 4294967295 65535 [],
  .request 4294967295 false 4294967296 65535 [], .request 4294967295 false 4294967295 65536 [], .request 4294967295 false 4294967295 65535 (List.replicate 33 rOk), .request 4294967295 false 4294967295 65535 [rBad],
  .keepalive 4294967296 false 65535 4294967295, .keepalive 4294967295 false 65536 4294967295, .keepalive 4294967295 false 65535 4294967296, .bulkRead 4294967296 false 4294967295 65535 65535 255 65535 255 false,
  .bulkRead 4294967295 false 4294967296 65535 65535 255 65535 255 false, .bulkRead 4294967295 false 4294967295 65536 65535 255 65535 255 false, .bulkRead 4294967295 false 4294967295 65535 65536 255 65535 255 false,
  .bulkRead 4294967295 false 4294967295 65535 65535 256 65535 255 false, .bulkRead 4294967295 false 4294967295 65535 65535 255 65536 255 false, .bulkRead 4294967295 false 4294967295 65535 65535 255 65535 256 false,
  .sessionTimeout 8, .writeLock aBad 4294967295, .writeLock aOk 4294967296, .lockBreak aBad, .commitNow aBad 255, .commitNow aOk 256, .commitSchedule aBad 255 18446744073709551615,
  .commitSchedule aOk 256 18446744073709551615, .commitSchedule aOk 255 18446744073709551616, .discard aBad 255, .discard aOk 256, .check aBad 255, .check aOk 256, .scheduledCommit 256, .ledgerClear aBad,
  .ledgerRead aBad 65535 255, .ledgerRead aOk 65536 255, .ledgerRead aOk 65535 256, .modeRequest aBad 255, .modeRequest aOk 256, .hostWdtPeriod aBad 4294967295, .hostWdtPeriod aOk 4294967296, .hostWdtKick aBad,
  .softReset aBad 255, .softReset aOk 256, .domainReset aBad 255, .domainReset aOk 256, .domainResetDone 256, .snapshotStore aBad, .wake 65536, .vddioLoss 2 false, .inputMonitorFault false false 281474976710656,
  .bandScan aBad, .bandScanComplete (List.replicate 65 (0, 0))].all (fun i => !Instr.wellFormed i) = true := by decide
theorem test_wf_refuses1 : [
  .timeNow aBad, .sync 0 4294967296, .announceMessage false 18446744073709551616 65535 2, .announceMessage false 18446744073709551615 65536 2, .announceMessage false 18446744073709551615 65535 3,
  .timeSet aBad 18446744073709551615, .timeSet aOk 18446744073709551616, .timeCapEdge false 8, .capEntry aBad, .entry aBad 255, .entry aOk 256, .locusClear aBad, .e2aEntry aBad 63, .e2aEntry aOk 64,
  .evClear aBad 3 4294967295, .evClear aOk 4 4294967295, .evClear aOk 3 4294967296, .irqMask aBad 3 3 4294967295, .irqMask aOk 4 3 4294967295, .irqMask aOk 3 4 4294967295, .irqMask aOk 3 3 4294967296,
  .irqConfig aBad 3 4294967295, .irqConfig aOk 4 4294967295, .irqConfig aOk 3 4294967296, .irqPulseEnd 4, .irqGapEnd 4, .gpioFunc aBad 15 4294967295, .gpioFunc aOk 16 4294967295, .gpioFunc aOk 15 4294967296,
  .gpioOut aBad 65535, .gpioOut aOk 65536, .gpioEdge 16 false, .gpioEdgeClear aBad 65535, .gpioEdgeClear aOk 65536, .gpioAction aBad 15, .gpioAction aOk 16, .linkA 4 false false false, .linkB 4,
  .aAdvertise aBad 4294967295, .aAdvertise aOk 4294967296, .bMode aBad 2 4294967295, .bMode aOk 3 4294967295, .bMode aOk 2 4294967296, .frameReceived 3 [] false 18446744073709551615 16777215,
  .frameReceived 2 [] false 18446744073709551616 16777215, .frameReceived 2 [] false 18446744073709551615 16777216, .frameTransmitted 3, .addrFlush aBad 1, .addrFlush aOk 2, .pause 65536, .gateListStart 3,
  .gateEntryChange 3, .post aBad 3, .post aOk 4, .reap aBad 3, .reap aOk 4, .ringEnable aBad 3 4294967295, .ringEnable aOk 4 4294967295, .ringEnable aOk 3 4294967296, .launch 5].all (fun i => !Instr.wellFormed i) = true := by decide
theorem test_wf_refuses2 : [
  .tsRecord aBad 3, .tsRecord aOk 4, .aStatus aBad, .tsEnable aBad 15 4294967295, .tsEnable aOk 16 4294967295, .tsEnable aOk 15 4294967296, .talkerStart 16, .talkerPacketComplete 16,
  .resolveRetry 16 (some 281474976710655), .resolveRetry 15 (some 281474976710656), .resolveRefresh 16 (some 281474976710655), .resolveRefresh 15 (some 281474976710656), .lsEnable aBad 15 4294967295,
  .lsEnable aOk 16 4294967295, .lsEnable aOk 15 4294967296, .listenerPacket 16 999 [], .listenerPacket 15 1000 [], .lostPacket 16, .streamStop 16, .lsStatus aBad 15, .lsStatus aOk 16, .lsLevelMin aBad 15,
  .lsLevelMin aOk 16, .sapEnable aBad 3 4294967295, .sapEnable aOk 4 4294967295, .sapEnable aOk 3 4294967296, .frameStart 4 1099511627775 4294967295 [4294967295], .frameStart 3 1099511627776 4294967295 [4294967295],
  .frameStart 3 1099511627775 4294967296 [4294967295], .frameStart 3 1099511627775 4294967295 [4294967296], .sapStop 4, .testSlipEnable aBad 3 4294967295, .testSlipEnable aOk 4 4294967295,
  .testSlipEnable aOk 3 4294967296, .testSlip aBad 3 4294967295, .testSlip aOk 4 4294967295, .testSlip aOk 3 4294967296, .asrcEnable aBad 1 4294967295, .asrcEnable aOk 2 4294967295, .asrcEnable aOk 1 4294967296,
  .asrcLock 2, .chEnableCapture aBad 3 4294967295, .chEnableCapture aOk 4 4294967295, .chEnableCapture aOk 3 4294967296, .inputSel aBad 3 4294967295, .inputSel aOk 4 4294967295, .inputSel aOk 3 4294967296,
  .pgaGain aBad 3 4294967295, .pgaGain aOk 4 4294967295, .pgaGain aOk 3 4294967296, .finalStage aBad 13 4294967295, .finalStage aOk 14 4294967295, .finalStage aOk 13 4294967296, .windHpf aBad 13 4294967295,
  .windHpf aOk 14 4294967295, .windHpf aOk 13 4294967296, .delay aBad 13 4294967295, .delay aOk 14 4294967295, .delay aOk 13 4294967296, .biasEnable aBad 1 4294967295].all (fun i => !Instr.wellFormed i) = true := by decide
theorem test_wf_refuses3 : [
  .biasEnable aOk 2 4294967295, .biasEnable aOk 1 4294967296, .biasVoltage aBad 1 4294967295, .biasVoltage aOk 2 4294967295, .biasVoltage aOk 1 4294967296, .captureValid 14, .biasShort 2, .biasRetry 2 false,
  .biasOpen 2 false, .pdmStuck 4 false, .captureOvr 14 false, .ovrStatus aBad, .listenMicStuck 8 false, .histBlock aBad, .histReadSeq aBad 4294967295, .histReadSeq aOk 4294967296, .enrolSlot aBad 127, .enrolSlot aOk 128,
  .enrolErase aBad 126, .enrolErase aOk 127, .enrolCancel aBad, .enrolStoreDone 8 [], .template aBad 7, .template aOk 8, .wakeOutClear aBad 4294967295, .wakeOutClear aOk 4294967296, .muxSelection aBad 10 255 4294967295,
  .muxSelection aOk 11 255 4294967295, .muxSelection aOk 10 256 4294967295, .muxSelection aOk 10 255 4294967296, .rampSwitchSample 11 255, .rampSwitchSample 10 256, .rampEnd 11 255, .rampEnd 10 256,
  .sinkDest aBad 255 4294967295, .sinkDest aOk 256 4294967295, .sinkDest aOk 255 4294967296, .vtxGain aBad 63 95 4294967295, .vtxGain aOk 64 95 4294967295, .vtxGain aOk 63 96 4294967295, .vtxGain aOk 63 95 4294967296,
  .sinkPolicy aBad 511 4294967295, .sinkPolicy aOk 512 4294967295, .sinkPolicy aOk 511 4294967296, .start aBad 7, .start aOk 8, .stop aBad 7, .stop aOk 8, .swap aBad 7, .swap aOk 8, .discardStandby aBad 7,
  .discardStandby aOk 8, .unload aBad 7, .unload aOk 8, .clearFault aBad 7, .clearFault aOk 8, .swapSet aBad 4294967295, .swapSet aOk 4294967296, .engineStartPoint 8, .taskRelease 8 15 false].all (fun i => !Instr.wellFormed i) = true := by decide
theorem test_wf_refuses4 : [
  .taskRelease 7 16 false, .overrun 8 15 false, .overrun 7 16 false, .engineFault 8 6, .engineFault 7 7, .autoRecover 8, .facetAdd 8 31 31 31, .facetAdd 7 32 31 31, .facetAdd 7 31 32 31, .facetAdd 7 31 31 32,
  .facetSub 8 31 31 31, .facetSub 7 32 31 31, .facetSub 7 31 32 31, .facetSub 7 31 31 32, .facetAnd 8 31 31 31, .facetAnd 7 32 31 31, .facetAnd 7 31 32 31, .facetAnd 7 31 31 32, .facetOr 8 31 31 31, .facetOr 7 32 31 31,
  .facetOr 7 31 32 31, .facetOr 7 31 31 32, .facetXor 8 31 31 31, .facetXor 7 32 31 31, .facetXor 7 31 32 31, .facetXor 7 31 31 32, .facetShl 8 31 31 31, .facetShl 7 32 31 31, .facetShl 7 31 32 31, .facetShl 7 31 31 32,
  .facetShr 8 31 31 31, .facetShr 7 32 31 31, .facetShr 7 31 32 31, .facetShr 7 31 31 32, .facetMul 8 31 31 31, .facetMul 7 32 31 31, .facetMul 7 31 32 31, .facetMul 7 31 31 32, .facetMin 8 31 31 31, .facetMin 7 32 31 31,
  .facetMin 7 31 32 31, .facetMin 7 31 31 32, .facetMax 8 31 31 31, .facetMax 7 32 31 31, .facetMax 7 31 32 31, .facetMax 7 31 31 32, .facetCmp 8 31 31, .facetCmp 7 32 31, .facetCmp 7 31 32, .facetMov 8 (.reg 0) 31,
  .facetMov 7 (.gen 0 4) 31, .facetMov 7 (.reg 0) 32, .facetLi 8 (.reg 0) 4294967295, .facetLi 7 (.gen 0 4) 4294967295, .facetLi 7 (.reg 0) 4294967296, .facetVmac 8 7 15 15, .facetVmac 7 8 15 15, .facetVmac 7 7 16 15,
  .facetVmac 7 7 15 16, .facetVmsu 8 7 15 15].all (fun i => !Instr.wellFormed i) = true := by decide
theorem test_wf_refuses5 : [
  .facetVmsu 7 8 15 15, .facetVmsu 7 7 16 15, .facetVmsu 7 7 15 16, .facetVmul 8 7 15 15, .facetVmul 7 8 15 15, .facetVmul 7 7 16 15, .facetVmul 7 7 15 16, .facetVadd 8 15 15 15, .facetVadd 7 16 15 15,
  .facetVadd 7 15 16 15, .facetVadd 7 15 15 16, .facetVsub 8 15 15 15, .facetVsub 7 16 15 15, .facetVsub 7 15 16 15, .facetVsub 7 15 15 16, .facetVabs 8 15 15, .facetVabs 7 16 15, .facetVabs 7 15 16,
  .facetVmax 8 15 15 15, .facetVmax 7 16 15 15, .facetVmax 7 15 16 15, .facetVmax 7 15 15 16, .facetVshr 8 15 15 4294967295, .facetVshr 7 16 15 4294967295, .facetVshr 7 15 16 4294967295, .facetVshr 7 15 15 4294967296,
  .facetVext 8 15 7, .facetVext 7 16 7, .facetVext 7 15 8, .facetFmac 8 15 15 15, .facetFmac 7 16 15 15, .facetFmac 7 15 16 15, .facetFmac 7 15 15 16, .facetFmul 8 15 15 15, .facetFmul 7 16 15 15, .facetFmul 7 15 16 15,
  .facetFmul 7 15 15 16, .facetFadd 8 15 15 15, .facetFadd 7 16 15 15, .facetFadd 7 15 16 15, .facetFadd 7 15 15 16, .facetFsub 8 15 15 15, .facetFsub 7 16 15 15, .facetFsub 7 15 16 15, .facetFsub 7 15 15 16,
  .facetFmax 8 15 15 15, .facetFmax 7 16 15 15, .facetFmax 7 15 16 15, .facetFmax 7 15 15 16, .facetFabs 8 15 15, .facetFabs 7 16 15, .facetFabs 7 15 16, .facetFcvt 8 15 15 false, .facetFcvt 7 16 15 false,
  .facetFcvt 7 15 16 false, .facetFrcp 8 15 15, .facetFrcp 7 16 15, .facetFrcp 7 15 16, .facetFrsq 8 15 15, .facetFrsq 7 16 15].all (fun i => !Instr.wellFormed i) = true := by decide
theorem test_wf_refuses6 : [
  .facetFrsq 7 15 16, .facetFlog2 8 15 15, .facetFlog2 7 16 15, .facetFlog2 7 15 16, .facetFexp2 8 15 15, .facetFexp2 7 16 15, .facetFexp2 7 15 16, .facetLd 8 31 (.loc 0), .facetLd 7 32 (.loc 0), .facetLd 7 31 (.gen 4),
  .facetSt 8 31 (.loc 0), .facetSt 7 32 (.loc 0), .facetSt 7 31 (.gen 4), .facetVld 8 15 (.loc 0), .facetVld 7 16 (.loc 0), .facetVld 7 15 (.gen 4), .facetVst 8 15 (.loc 0), .facetVst 7 16 (.loc 0),
  .facetVst 7 15 (.gen 4), .facetLoop 8 31 8191, .facetLoop 7 32 8191, .facetLoop 7 31 8192, .facetBrf 8 7 8191, .facetBrf 7 8 8191, .facetBrf 7 7 8192, .facetCall 8 8191, .facetCall 7 8192, .facetRet 8,
  .facetHalt 8 4294967295, .facetHalt 7 4294967296, .facetTagrd 8 31 31, .facetTagrd 7 32 31, .facetTagrd 7 31 32, .facetTagset 8 31 63 64 15, .facetTagset 7 32 63 64 15, .facetTagset 7 31 64 64 15,
  .facetTagset 7 31 63 65 15, .facetTagset 7 31 63 64 16, .facetTagclr 8 31 63 64 15, .facetTagclr 7 32 63 64 15, .facetTagclr 7 31 64 64 15, .facetTagclr 7 31 63 65 15, .facetTagclr 7 31 63 64 16, .facetUvrd 8 31 255,
  .facetUvrd 7 32 255, .facetUvrd 7 31 256, .facetUvwr 8 31 255, .facetUvwr 7 32 255, .facetUvwr 7 31 256, .facetDmard 8 255 16777215 262143 65536, .facetDmard 7 256 16777215 262143 65536,
  .facetDmard 7 255 16777216 262143 65536, .facetDmard 7 255 16777215 262144 65536, .facetDmard 7 255 16777215 262143 65537, .facetDmawr 8 255 16777215 262143 65536, .facetDmawr 7 256 16777215 262143 65536,
  .facetDmawr 7 255 16777216 262143 65536, .facetDmawr 7 255 16777215 262144 65536, .facetDmawr 7 255 16777215 262143 65537, .facetDmawait 8 [] [] []].all (fun i => !Instr.wellFormed i) = true := by decide
theorem test_wf_refuses7 : [
  .facetLock 8 31 15, .facetLock 7 32 15, .facetLock 7 31 16, .facetUnlock 8 15, .facetUnlock 7 16, .facetBiq 8 [], .facetConv 8 [], .facetFft 8 [], .facetIfft 8 [], .facetEnv 8 [], .facetComp 8 [], .facetLim 8 [],
  .facetRamp 8 262143 4294967295 4294967295 65536 false, .facetRamp 7 262144 4294967295 4294967295 65536 false, .facetRamp 7 262143 4294967296 4294967295 65536 false, .facetRamp 7 262143 4294967295 4294967296 65536 false,
  .facetRamp 7 262143 4294967295 4294967295 65537 false, .facetXfade 8 262143 262143 262143 65536 65536 false, .facetXfade 7 262144 262143 262143 65536 65536 false, .facetXfade 7 262143 262144 262143 65536 65536 false,
  .facetXfade 7 262143 262143 262144 65536 65536 false, .facetXfade 7 262143 262143 262143 65537 65536 false, .facetXfade 7 262143 262143 262143 65536 65537 false, .facetDly 8 262143 255 262144,
  .facetDly 7 262144 255 262144, .facetDly 7 262143 256 262144, .facetDly 7 262143 255 262145, .facetTlu 8 [], .facetEnvx 8 262143 [255], .facetEnvx 7 262144 [255], .facetEnvx 7 262143 [256], .facetPilot 8 262143 7,
  .facetPilot 7 262144 7, .facetPilot 7 262143 8, .facetSignal 8 65535, .facetSignal 7 65536, .loadStart aBad, .loadChunk aBad, .loadFinish aBad, .bootErase aBad 7, .bootErase aOk 8, .chEnable aBad 7 4294967295,
  .chEnable aOk 8 4294967295, .chEnable aOk 7 4294967296, .commonModeRampDone 8, .muteRampDone 8, .cmDownDone 8, .sampleLinkLoss 2, .modFreq aBad 4294967295, .modFreq aOk 4294967296, .fullScaleV aBad 7 4294967295,
  .fullScaleV aOk 8 4294967295, .fullScaleV aOk 7 4294967296, .bridgeReconfig 4, .currentLimit 8, .short 8, .overcurrent 8, .legShort 8, .dc 8, .sense 8].all (fun i => !Instr.wellFormed i) = true := by decide
theorem test_wf_refuses8 : [
  .gateDrive 12, .gateDriveRecovery 12, .retry 8, .clearLatch aBad 7 4294967295, .clearLatch aOk 8 4294967295, .clearLatch aOk 7 4294967296, .softRestartDone 8, .powerLimitStep (List.replicate 9 0) 65535 65535 65535,
  .powerLimitStep [] 65536 65535 65535, .powerLimitStep [] 65535 65536 65535, .powerLimitStep [] 65535 65535 65536, .dieTemperature 2 0, .pilotResult 8 1 false 4294967295 0, .pilotResult 7 2 false 4294967295 0,
  .pilotResult 7 1 false 4294967296 0, .reCapture aBad 7, .reCapture aOk 8, .boostCommand 65536 65535 65535, .boostCommand 65535 65536 65535, .boostCommand 65535 65535 65536, .boostStart 65536 65535,
  .boostStart 65535 65536, .phaseImbalance 4, .boostClear aBad 4294967295, .boostClear aOk 4294967296, .hpEnable aBad 4294967295, .hpEnable aOk 4294967296, .loutEnable aBad 4294967295, .loutEnable aOk 4294967296,
  .outputStartDone 2, .outputStopDone 2, .hpRange aBad 4294967295, .hpRange aOk 4294967296, .hpLineFault 2, .hpLineRetry 2, .jackMute 4, .jackRemoval 4, .jackIdentify 65536, .button 65536, .range aBad 7 4294967295,
  .range aOk 8 4294967295, .range aOk 7 4294967296, .loadCmd aBad 255, .loadCmd aOk 256, .complianceLoss 8, .compliance aBad, .waveSize aBad 1 65535, .waveSize aOk 2 65535, .waveSize aOk 1 65536, .waveData aBad 1 [],
  .waveData aOk 2 [], .waveRestart aBad 1, .waveRestart aOk 2, .waveDone 2, .seqStart aBad, .seqStop aBad, .conversionDone 65536 false false, .urgent aBad 4294967295, .urgent aOk 4294967296, .calibrate aBad].all (fun i => !Instr.wellFormed i) = true := by decide
theorem test_wf_refuses9 : [
  .calibrationDone 0 65536, .result aBad 255, .result aOk 256, .windowStatus aBad, .lockTake aBad 15 4294967295, .lockTake aOk 16 4294967295, .lockTake aOk 15 4294967296, .lockRevoked 16, .heartbeat hBad,
  .samples 18446744073709551616 [(2147483647, 15)], .samples 18446744073709551615 (List.replicate 129 (0, 0)), .samples 18446744073709551615 [(0, 16)], .hello 4294967296 65535 65535 false false,
  .hello 4294967295 65536 65535 false false, .hello 4294967295 65535 65536 false false, .chordWrite rBad 18446744073709551615, .chordWrite rOk 18446744073709551616, .blackbox (zeros 33),
  .handoverRequest 18446744073709551616 255, .handoverRequest 18446744073709551615 256, .handoverGrant 18446744073709551616, .mirrorData (List.replicate 33 rOk), .mirrorData [rBad], .laneFault 2, .laneGood 2,
  .switchover aBad 4294967295, .switchover aOk 4294967296, .failover 8, .fenceRelease aBad 4294967295, .fenceRelease aOk 4294967296, .forceAlone aBad 4294967295, .forceAlone aOk 4294967296, .lifecycleProvision aBad false,
  .lifecycleDeploy aBad, .keyPublic aBad 255, .keyPublic aOk 256, .keySecret aBad 255, .keySecret aOk 256, .keyRevoke aBad 255, .keyRevoke aOk 256, .unlockScan aBad, .unlockFull aBad, .unlockService aBad,
  .unlockRetire aBad false, .token aBad, .tapSamplePreload 18446744073709551616 none, .tapExtest 18446744073709551616 none, .dbgChallenge 256, .dbgAccess (.halt 8), .bbRecord aBad, .bbClear aBad 4294967295,
  .bbClear aOk 4294967296, .tick 4294967296, .inputMonitorReturn false 281474976710656, .vddioReturn 2, .presenceReturns 4, .rangePendingExpiry 8, .complianceClear 8].all (fun i => !Instr.wellFormed i) = true := by decide
theorem test_wf_refuses_long : ∀ b : List Byte, b.length = 65537 → Instr.wellFormed (.magicPacket b) = false ∧ Instr.wellFormed (.frameReceived 2 b false 18446744073709551615 16777215) = false ∧ Instr.wellFormed (.listenerPacket 15 999 b) = false := by
  intro b h; simp [Instr.wellFormed, h]

set_option Elab.async false
set_option linter.unusedVariables false

/-! States and operands that meet the hypotheses of the statements -/

/-- A part in READY with every function ready, both supplies up and power applied 1000 s ago. -/
def base : Dev :=
  { Dev.reset with
    st := { obj := [(0x110000, 5), (0x110100, 5), (0x111000, 0x1FFFFFFF)] }
    evt := {}
    now := 1000000000000
    sup := { Dev.reset.sup with coreOn := true, vcore := true, vdd33 := true }
    med := { Dev.reset.med with run := true, index := 48000 }
    clk := { Dev.reset.clk with run := true, xtal := true }
    tim := { Dev.reset.tim with sec := 1000 } }

/-- That part with values of objects set, and then changed. -/
def st (l : List (Nat × Nat)) (f : Dev → Dev := id) : State := { State.reset with dev := f (l.foldl (fun d x => d.put x.1 x.2) base) }

/-- Requests of the host over SPI, and of the session in slot 7. -/
def spi : Access := { path := .spi }
def tdt : Access := { path := .tdt 7 }

theorem num {d : Dev} {a : Access} {k v : Nat}
    (h : (d.pathUp a.path = true ∧ d.sup.capture = false ∧ d.writeCodes (numAccess a k v) k = [] ∧ (d.mirrors && mirroredKey k) = false) ∧ v < 256 ^ keyBytes k) : d.takesNum a k v := h
theorem tk {d : Dev} {a : Access} {k : Nat} (h : d.pathUp a.path = true ∧ d.sup.capture = false ∧ d.writeCodes a k = [] ∧ (d.mirrors && mirroredKey k) = false) : d.takes a k := h
theorem byt {d : Dev} {a : Access} {k : Nat} {b : List Byte}
    (h : (d.pathUp a.path = true ∧ d.sup.capture = false ∧ d.writeCodes a k = [] ∧ (d.mirrors && mirroredKey k) = false)
      ∧ ((d.objAt k).any (fun o => decide (o.ty = .blob ∧ (d.payload a o k).1 = .bytes b))) = true) : d.takesBytes a k b := by
  obtain ⟨o, ho, h2⟩ := Option.any_eq_true .. |>.mp h.2
  have h3 := of_decide_eq_true h2
  exact ⟨h.1, o, _, ho, h3.1, Prod.ext h3.2 rfl⟩
theorem rd {d : Dev} {a : Access} {k : Nat} (h : d.pathUp a.path = true ∧ ((d.objAt k).any (fun o => (d.readCodes a o k).isEmpty)) = true) : d.reads a k := by
  obtain ⟨o, ho, h2⟩ := Option.any_eq_true .. |>.mp h.2
  exact ⟨h.1, o, ho, List.isEmpty_iff.mp h2⟩
theorem rn {d : Dev} {e : Nat} {act : Bool} {b : Bank} {t : ImgTask} {r : TaskRun} (h : d.current e = some (act, b, t, r) ∧ bit d.sec.tap.halted e = false) : d.running e act b t r := h

/-- A task of engine 7 with every operand at its bound: port 31 in and out, a block of 64, a loop of at most 3 turns, a bound number and a bound 64-bit number, memory of the pool. -/
def tsk : ImgTask := { num := 15, block := 64, entry := 0, ins := 2 ^ 31, outs := 2 ^ 31 }
def img : Image :=
  { id := 1, version := 1, wide := false, rates := 63, keyId := 0, enc := false, size := 148, tasks := [tsk], loops := [(5, 3)], envs := [(0, 0, 0)], ports := [{ port := 31, task := 15, srcs := 0, delay := 0 }],
    allocs := [{ name := 1, size := 1048576, place := 2, inherit_ := false, zero := false, align := 64, loc := false, addr := 0x500000 }],
    binds := [{ obj := 0x800000, ty := 3, acc := 0, grp := 0, ret := 0, user := false, lo := 0, hi := 0, dflt := 0, var := 0 }, { obj := 0x800001, ty := 4, acc := 1, grp := 0, ret := 0, user := false, lo := 0, hi := 0, dflt := 0, var := 8 }] }
def bk (r : TaskRun) : Bank := { img := img, tasks := [r] }
def run7 (c : Ctx) : TaskRun := { num := 15, rel := some 47936, ctx := c, snap := [(0, 7), (1, 2 ^ 63)], vals := [(31 * 64 + 63, 1)] }
def eng7 (f : Eng → Eng) (l : List (Nat × Nat) := [(0x540701, 2)]) : State := st l (fun d => { d with fac := { d.fac with engs := modNth f d.fac.engs 7 } })
def on7 (r : TaskRun) : State := eng7 (fun x => { x with active := some (bk r) })

theorem okIs {α β : Type} [DecidableEq β] {e : Except α β} {v : β} (h : (match e with | .ok x => decide (x = v) | .error _ => false) = true) : e = .ok v := by
  cases e with
  | ok x => exact congrArg _ (of_decide_eq_true h)
  | error x => cases h
theorem errIs {α β : Type} [DecidableEq α] {e : Except α β} {v : α} (h : (match e with | .error x => decide (x = v) | .ok _ => false) = true) : e = .error v := by
  cases e with
  | error x => exact congrArg _ (of_decide_eq_true h)
  | ok x => cases h

/-- A well-formed image of one task, 148 bytes, and what its checks find. -/
def image : List Byte :=
  leBytes 4 0x46435449 ++ leBytes 2 1 ++ zeros 2 ++ leBytes 4 7 ++ leBytes 4 1 ++ leBytes 4 0x4816 ++ zeros 2 ++ leBytes 2 63 ++ leBytes 4 148 ++ leBytes 4 20 ++ zeros 32 ++ leBytes 2 1 ++ leBytes 2 16 ++ leBytes 1 0 ++ leBytes 1 16 ++ zeros 14 ++ zeros 64
def verdict : Verdict := { sig := true, gcm := true, plain := [], flow := none, wcet := [], dma := [] }
def read1 : Image := { id := 7, version := 1, wide := false, rates := 63, keyId := 0, enc := false, size := 148, tasks := [{ num := 0, block := 16, entry := 0, ins := 0, outs := 0 }] }

/-! Single rules against the spec's own figures -/

/-- R11's worked example: 250 µs are 12 samples at 48 kHz, 24 at 96 kHz and 12 at 44.1 kHz. -/
theorem test_samples_in : (samplesIn 48000 250, samplesIn 96000 250, samplesIn 44100 250) = (12, 24, 12) := by decide
/-- The worked example after R155: 100 000 and 50 000 kb/s, frames of 318 and 1522 bytes, 1000 Mb/s. -/
theorem test_shaper_limits : shaperLimits 100000 50000 318 1522 1000000 = (1217, -2289, 803, -11567) ∧ shaperFits 100000 50000 1000000 = true := by decide
/-- R173 and Table 7-3: 48 samples of 24 bits leave room for 10 channels, 12 samples of 24 bits for 40, 6 of 16 bits for 64. -/
theorem test_max_channels : (maxChannels 48 3, maxChannels 12 3, maxChannels 6 2) = (10, 40, 64) := by decide
/-- The worked example after R101: N = 62 and FRAC = 3 928 005 290 set fVCO to 3 145 728 kHz. -/
theorem test_vco : (vcoWord 62 3928005290 * 50000 + 2 ^ 31) / 2 ^ 32 = 3145728 := by decide
/-- The worked example of chapter 14: 12.0 V and 30 A with the default limits give a factor of 0.81. -/
theorem test_boost_factor : (base.boostFactor 1200).1 = 81000 := by decide +kernel
/-- Table 2-5: of several codes the one that stands first in the Precedence column is reported. -/
theorem test_precedence : (firstError [eBusy, eRange, eLocked], firstError [eNotReady, ePrivilege], firstError []) = (eLocked, ePrivilege, 0) := by decide
/-- The test vector "abc" of FIPS 180-4, of which chapter 19 takes SHA-256: its first and last words. -/
theorem test_sha256_abc : (beNat ((sha256 [0x61, 0x62, 0x63]).take 4), beNat ((sha256 [0x61, 0x62, 0x63]).drop 28)) = (0xBA7816BF, 0xF20015AD) := by decide +kernel
/-- R12 and R41: a read of an index that holds no object is answered NO_OBJECT, 1. -/
theorem test_read_no_object : (match exec (.read spi 0x9999 0 [] []) (st []) with | .next t => t.dev.bus.outSpi == .reply { status := 1 } | _ => false) = true := by decide +kernel
/-- Table 2-11: a write to an object that only reads is answered ACCESS, 4. -/
theorem test_write_read_only : (match exec (.write { path := .spi, length := 4, data := zeros 4 } 0x1000 0 []) (st []) with | .next t => t.dev.bus.outSpi == .reply { status := 4 } | _ => false) = true := by decide +kernel
/-- R459: IDCODE shifts out 0x148166BF. -/
theorem test_idcode : (match exec .tapIdcode (st []) with | .next t => t.dev.sec.tap.out | _ => 0) = 0x148166BF := by decide +kernel

/-! Witnesses -/

/-- Met by these: the hypotheses of BusAnswers, clause by clause. -/
theorem test_w_BusAnswers :
  (∃ (s : State) (r : Reply), s.dev.pathUp .spi = true ∧ s.dev.bus.keptSpi = some r) ∧
  (∃ (s : State), s.dev.pathUp .spi = true ∧ s.dev.bus.keptSpi = none) ∧
  (∃ (s : State) (r : Reply), s.dev.pathUp .i2c = true ∧ s.dev.bus.keptI2c = some r) ∧
  (∃ (s : State), s.dev.pathUp .i2c = true) :=
  ⟨⟨st [] (fun d => { d with bus := { d.bus with keptSpi := some { status := 7 } } }), { status := 7 }, by decide +kernel⟩,
   ⟨st [], by decide +kernel⟩,
   ⟨st [] (fun d => { d with bus := { d.bus with keptI2c := some { status := 7 } } }), { status := 7 }, by decide +kernel⟩,
   ⟨st [], by decide +kernel⟩⟩

/-- Met by these: the hypotheses of ReadWrite, clause by clause. -/
theorem test_w_ReadWrite :
  (∃ (s : State) (a : Access) (index sub : Nat) (e1 e2 : List Nat) (o : Obj), a.path = .spi ∧ s.dev.pathUp .spi = true ∧ s.dev.objAt (key index (sub % 256)) = some o ∧ s.dev.readCodes a o (key index (sub % 256)) = [] ∧ o.ty.isBytes = false) ∧
  (∃ (s : State) (a : Access) (v : Nat) (hits : List (Nat × Nat)) (node : Nat), s.dev.takesNum a (0x521000 + node) v ∧ a.path = .spi ∧ node < 256 ∧ s.dev.stores = []) ∧
  (∃ (s : State) (a : Access) (index sub c : Nat) (hits : List (Nat × Nat)), a.path = .spi ∧ s.dev.pathUp .spi = true ∧ s.dev.sup.capture = false ∧ s.dev.stores = [] ∧ sub < 256 ∧ index ≠ 0x1200 ∧ firstError (s.dev.writeCodes a (key index sub)) = c ∧ c ≠ 0) :=
  ⟨⟨st [], spi, 0x1000, 256, [], [], { ty := .u32, acc := .ro, ret := .p, rng := .any, size := 4, grp := 0, bind := none }, by decide +kernel⟩,
   ⟨st [], spi, 6, [], 255, num (by decide +kernel), by decide +kernel⟩,
   ⟨st [], spi, 0x9999, 255, 1, [], by decide +kernel⟩⟩

/-- Met by these: the hypotheses of Sessions, clause by clause. -/
theorem test_w_Sessions :
  (∃ (s : State) (keySel n : Nat) (nonce : List Byte), s.dev.tdtUp = true ∧ (s.dev.life = 1 ∨ s.dev.life = 2) ∧ (keySel = 1 ∨ keySel = 2) ∧ s.dev.keyValid (12 - keySel) = true ∧ (s.dev.sec.opens.filter (fun t => s.dev.now < t + 1000000000)).length < 16 ∧ (upto 8).find? (fun n => (s.dev.session n).isNone) = some n) ∧
  (∃ (s : State) (x : Session) (seq len : Nat), s.dev.tdtUp = true ∧ s.dev.sessionById x.id = some x ∧ len ≤ 1400 ∧ seq = x.lastSeq + 1 ∧ seq < 0xFFFFFFFF ∧ s.dev.sup.capture = false ∧ s.dev.stores = []) ∧
  (∃ (s : State) (x : Session) (len : Nat) (l : List AccessRecord), s.dev.tdtUp = true ∧ s.dev.sessionById x.id = some x ∧ len ≤ 1400 ∧ s.dev.stores = []) ∧
  (∃ (s : State) (x : Session) (len counter : Nat), s.dev.tdtUp = true ∧ s.dev.sessionById x.id = some x ∧ len ≤ 1400 ∧ x.alive < counter) ∧
  (∃ (s : State) (x : Session) (len : Nat), s.dev.tdtUp = true ∧ s.dev.sessionById x.id = some x ∧ len ≤ 1400) ∧
  (∃ (s : State) (x : Session) (slot : Nat), s.dev.session slot = some x ∧ x.seen + 60000000000 ≤ s.dev.now) ∧
  (∃ (s : State), s.dev.tdtUp = true ∧ s.dev.get 0x123200 = 1 ∧ (s.dev.bus.announced.filter (fun t => s.dev.now < t + 1000000000)).length + s.dev.bus.announces.length < 10) ∧
  (∃ (s : State) (t : Nat) (l : List Nat), s.dev.bus.announces = t :: l) ∧
  (∃ (s : State) (x : Session) (len i1 s1 i2 s2 : Nat) (staged : Bool), s.dev.tdtUp = true ∧ s.dev.sessionById x.id = some x ∧ len ≤ 1400 ∧ x.lastSeq + 1 < 0xFFFFFFFF ∧ (s.dev.objectsIn (key i1 (s1 % 256)) (key i2 (s2 % 256))) = []) ∧
  (∃ (s : State) (x : Session) (len i1 s1 i2 s2 : Nat) (staged : Bool), s.dev.tdtUp = true ∧ s.dev.sessionById x.id = some x ∧ len ≤ 1400 ∧ x.bulk = 63) :=
  ⟨⟨st [(0x710000, 2), (0x71100B, 1)], 1, 0, [], by decide +kernel⟩,
   ⟨st [] (fun d => { d with bus := { d.bus with sessions := [{ slot := 7, id := 9, priv := 1, keySlot := 11, nonces := [], lastSeq := 65535, cached := [1], bulk := 63, alive := 4, seen := 0 }] } }), { slot := 7, id := 9, priv := 1, keySlot := 11, nonces := [], lastSeq := 65535, cached := [1], bulk := 63, alive := 4, seen := 0 }, 65536, 1400, by decide +kernel⟩,
   ⟨st [] (fun d => { d with bus := { d.bus with sessions := [{ slot := 7, id := 9, priv := 1, keySlot := 11, nonces := [], lastSeq := 65535, cached := [1], bulk := 63, alive := 4, seen := 0 }] } }), { slot := 7, id := 9, priv := 1, keySlot := 11, nonces := [], lastSeq := 65535, cached := [1], bulk := 63, alive := 4, seen := 0 }, 1400, [], by decide +kernel⟩,
   ⟨st [] (fun d => { d with bus := { d.bus with sessions := [{ slot := 7, id := 9, priv := 1, keySlot := 11, nonces := [], lastSeq := 65535, cached := [1], bulk := 63, alive := 4, seen := 0 }] } }), { slot := 7, id := 9, priv := 1, keySlot := 11, nonces := [], lastSeq := 65535, cached := [1], bulk := 63, alive := 4, seen := 0 }, 1400, 5, by decide +kernel⟩,
   ⟨st [] (fun d => { d with bus := { d.bus with sessions := [{ slot := 7, id := 9, priv := 1, keySlot := 11, nonces := [], lastSeq := 65535, cached := [1], bulk := 63, alive := 4, seen := 0 }] } }), { slot := 7, id := 9, priv := 1, keySlot := 11, nonces := [], lastSeq := 65535, cached := [1], bulk := 63, alive := 4, seen := 0 }, 1400, by decide +kernel⟩,
   ⟨st [] (fun d => { d with bus := { d.bus with sessions := [{ slot := 7, id := 9, priv := 1, keySlot := 11, nonces := [], lastSeq := 65535, cached := [1], bulk := 63, alive := 4, seen := 0 }] } }), { slot := 7, id := 9, priv := 1, keySlot := 11, nonces := [], lastSeq := 65535, cached := [1], bulk := 63, alive := 4, seen := 0 }, 7, by decide +kernel⟩,
   ⟨st [(0x123200, 1)] (fun d => { d with bus := { d.bus with announces := List.replicate 9 0 } }), by decide +kernel⟩,
   ⟨st [] (fun d => { d with bus := { d.bus with announces := [0] } }), 0, [], by decide +kernel⟩,
   ⟨st [] (fun d => { d with bus := { d.bus with sessions := [{ slot := 7, id := 9, priv := 1, keySlot := 11, nonces := [], lastSeq := 65535, cached := [1], bulk := 63, alive := 4, seen := 0 }] } }), { slot := 7, id := 9, priv := 1, keySlot := 11, nonces := [], lastSeq := 65535, cached := [1], bulk := 63, alive := 4, seen := 0 }, 1400, 0x9998, 0, 0x9999, 255, true, by decide +kernel⟩,
   ⟨st [] (fun d => { d with bus := { d.bus with sessions := [{ slot := 7, id := 9, priv := 1, keySlot := 11, nonces := [], lastSeq := 65535, cached := [1], bulk := 63, alive := 4, seen := 0 }] } }), { slot := 7, id := 9, priv := 1, keySlot := 11, nonces := [], lastSeq := 65535, cached := [1], bulk := 63, alive := 4, seen := 0 }, 1400, 0, 0, 65535, 255, true, by decide +kernel⟩⟩

/-- Met by these: the hypotheses of LockAndLedgers, clause by clause. -/
theorem test_w_LockAndLedgers :
  (∃ (s : State) (a : Access) (slot : Nat), s.dev.takesNum a 0x124000 1 ∧ a.path = .tdt slot) ∧
  (∃ (s : State) (a : Access) (slot t : Nat), s.dev.takesNum a 0x124000 0 ∧ a.path = .tdt slot ∧ s.dev.bus.lock = some (slot, t)) ∧
  (∃ (s : State) (a : Access) (x : Nat × Nat), s.dev.takesNum a 0x124100 1 ∧ s.dev.bus.lock = some x) ∧
  (∃ (s : State) (h t : Nat), s.dev.bus.lock = some (h, t) ∧ t ≤ s.dev.now) ∧
  (∃ (s : State) (a : Access), s.dev.takesNum a 0x115000 1) ∧
  (∃ (a : Access) (index sub n : Nat) (kind : LedgerKind) (s : State), s.dev.reads a (key index (sub % 256)) ∧ ledgerOf (key index (sub % 256)) = some (kind, key index (sub % 256), n)) :=
  ⟨⟨st [] (fun d => { d with bus := { d.bus with sessions := [{ slot := 7, id := 9, priv := 2, keySlot := 11, nonces := [], lastSeq := 65535, cached := [1], bulk := 63, alive := 4, seen := 0 }] } }), tdt, 7, num (by decide +kernel), by decide +kernel⟩,
   ⟨st [] (fun d => { d with bus := { d.bus with sessions := [{ slot := 7, id := 9, priv := 2, keySlot := 11, nonces := [], lastSeq := 65535, cached := [1], bulk := 63, alive := 4, seen := 0 }], lock := some (7, base.now + 1) } }), tdt, 7, base.now + 1, num (by decide +kernel), by decide +kernel⟩,
   ⟨st [] (fun d => { d with bus := { d.bus with sessions := [{ slot := 7, id := 9, priv := 1, keySlot := 11, nonces := [], lastSeq := 65535, cached := [1], bulk := 63, alive := 4, seen := 0 }], lock := some (7, 0) } }), spi, (7, 0), num (by decide +kernel), by decide +kernel⟩,
   ⟨st [] (fun d => { d with bus := { d.bus with lock := some (7, base.now) } }), 7, base.now, by decide +kernel⟩,
   ⟨st [], spi, num (by decide +kernel)⟩,
   ⟨spi, 0x350F, 0x20, 5, .sample, st [], rd (by decide +kernel), by decide +kernel⟩⟩

/-- Met by these: the hypotheses of Commits, clause by clause. -/
theorem test_w_Commits :
  (∃ (s : State) (a : Access) (g : Nat), s.dev.takesNum a (0x120000 + g) 0 ∧ g < 256 ∧ s.dev.groupFails g = none) ∧
  (∃ (s : State) (a : Access) (g k v : Nat) (r : ObjRow), s.dev.takesNum a (0x120000 + g) 0 ∧ g < 256 ∧ (g < 0x20 ∨ 0x30 ≤ g) ∧ objRow k = some r ∧ s.dev.groupFails g = none ∧ s.dev.stagedOf g = [(k, v)] ∧ s.dev.stagedBlobOf g = []) ∧
  (∃ (s : State) (a : Access) (g time ee : Nat), s.dev.takesNum a (0x120000 + g) time ∧ g < 256 ∧ time ≠ 0 ∧ s.dev.commitEntry g = none ∧ s.dev.freeSlot = some ee) ∧
  (∃ (s : State) (a : Access) (g : Nat), s.dev.takesNum a (0x120300 + g) 1 ∧ g < 256 ∧ s.dev.commitEntry g = none) ∧
  (∃ (s : State) (a : Access) (g : Nat), s.dev.takesNum a (0x120400 + g) 1 ∧ g < 256) ∧
  (∃ (s : State) (e : LEntry), s.dev.firstDue true = some e ∧ e.action = 2 ∧ s.dev.groupHere e.target = true ∧ s.dev.groupFails e.target = none) ∧
  (∃ (s : State) (a : Access) (g r : Nat), a.path = .spi ∧ g < 256 ∧ s.dev.pathUp .spi = true ∧ s.dev.sup.capture = false ∧ firstError (s.dev.writeCodes (numAccess a (0x120000 + g) 0) (0x120000 + g)) = 7 ∧ s.dev.groupFails g = some r) ∧
  (∃ (s : State) (e : LEntry) (r : Nat), s.dev.firstDue true = some e ∧ e.action = 2 ∧ s.dev.groupHere e.target = true ∧ s.dev.groupFails e.target = some r) :=
  ⟨⟨st [], spi, 80, num (by decide +kernel), by decide +kernel⟩,
   ⟨st [] (fun d => { d with st := { d.st with staged := [(0x222100, 127)] } }), spi, 3, 0x222100, 127, .mk 0x2221 1 1 0x0 1 .u8 .st 0 .n 0x3 0 (.nat [(0, 127)]), num (by decide +kernel), by decide +kernel⟩,
   ⟨st [], spi, 80, base.time64 + 1000000000, 0, num (by decide +kernel), by decide +kernel⟩,
   ⟨st [], spi, 80, num (by decide +kernel), by decide +kernel⟩,
   ⟨st [], spi, 80, num (by decide +kernel), by decide +kernel⟩,
   ⟨st [] (fun d => { d with loc := { d.loc with table := [{ slot := 255, time := 0, action := 2, flags := 0, tag := 0, target := 80, value := 0, period := 0, epochReq := 0, order := 0 }] } }), { slot := 255, time := 0, action := 2, flags := 0, tag := 0, target := 80, value := 0, period := 0, epochReq := 0, order := 0 }, by decide +kernel⟩,
   ⟨st [], spi, 1, 0, by decide +kernel⟩,
   ⟨st [] (fun d => { d with loc := { d.loc with table := [{ slot := 255, time := 0, action := 2, flags := 0, tag := 0, target := 2, value := 0, period := 0, epochReq := 0, order := 0 }] } }), { slot := 255, time := 0, action := 2, flags := 0, tag := 0, target := 2, value := 0, period := 0, epochReq := 0, order := 0 }, 0, by decide +kernel⟩⟩

/-- Met by these: the hypotheses of ModeChange, clause by clause. -/
theorem test_w_ModeChange :
  (∃ (s : State) (a : Access) (v : Nat), s.dev.takesNum a 0x110000 v ∧ s.dev.mode = v ∧ s.dev.inStep = false ∧ 2 ≤ v ∧ v ≤ 8) ∧
  (∃ (s : State) (a : Access) (v : Nat), s.dev.takesNum a 0x110000 v ∧ s.dev.mode = 1) ∧
  (∃ (s : State) (a : Access), s.dev.takesNum a 0x110000 6 ∧ s.dev.mode = 5 ∧ s.dev.inStep = false ∧ s.dev.twin.fenceIn = false) ∧
  (∃ (s : State) (a : Access), s.dev.takesNum a 0x110000 9 ∧ s.dev.mode = 5 ∧ s.dev.inStep = false) ∧
  (∃ (s : State), s.dev.mode = 5 ∧ s.dev.inStep = true ∧ fld (s.dev.get 0x110200) 7 4 = 6 ∧ s.dev.get 0x110400 = 0) ∧
  (∃ (s : State) (t : Nat), s.dev.sup.causesClear = some t ∧ t + 1000000000 ≤ s.dev.now ∧ s.dev.mode = 9 ∧ s.dev.get 0x110400 = 0 ∧ s.dev.get 0x110500 = 1) ∧
  (∃ (m : _) (t : _), (2 ≤ m ∧ m ≤ 8 ∨ m = 11) ∧ (2 ≤ t ∧ t ≤ 8 ∨ t = 11) ∧ m ≠ t) :=
  ⟨⟨st [(0x110100, 8)], spi, 8, num (by decide +kernel), by decide +kernel⟩,
   ⟨st [(0x110100, 1)], spi, 8, num (by decide +kernel), by decide +kernel⟩,
   ⟨st [], spi, num (by decide +kernel), by decide +kernel⟩,
   ⟨st [], spi, num (by decide +kernel), by decide +kernel⟩,
   ⟨st [(0x110200, 0x61)], by decide +kernel⟩,
   ⟨st [(0x110100, 9), (0x110500, 1)] (fun d => { d with sup := { d.sup with causesClear := some (base.now - 1000000000) } }), base.now - 1000000000, by decide +kernel⟩,
   ⟨2, 11, by decide +kernel⟩⟩

/-- Met by these: the hypotheses of ResetsAndWatchdog, clause by clause. -/
theorem test_w_ResetsAndWatchdog :
  (∃ (s : State) (twin : Bool), s.dev.sup.vinDown = false) ∧
  (∃ (s : State) (twin : Bool), s.dev.sup.vinDown = true) ∧
  (∃ (s : State), s.dev.sup.resetLow = false ∧ s.dev.sup.vinDown = false) ∧
  (∃ (s : State), s.dev.sup.resetLow = true ∧ s.dev.sup.vinDown = false) ∧
  (∃ (s : State) (a : Access) (v : Nat), s.dev.takesNum a 0x112100 v) ∧
  (∃ (s : State) (v : Nat), s.dev.sup.soft = some v ∧ s.dev.leavePends = false ∧ s.dev.pwrOff = true) ∧
  (∃ (s : State) (a : Access) (n : Nat), s.dev.takesNum a 0x112200 n) ∧
  (∃ (s : State), s.dev.stores = [] ∧ s.dev.sup.restarts = [5] ∧ s.dev.sup.coreOn = true) ∧
  (∃ (s : State) (a : Access) (v : Nat), s.dev.takesNum a 0x112500 v ∧ v ≠ 0) ∧
  (∃ (s : State) (a : Access), s.dev.takesNum a 0x112500 0 ∧ s.dev.bitOf 0x110400 7 = false) ∧
  (∃ (s : State) (a : Access), s.dev.takesNum a 0x112600 1 ∧ s.dev.get 0x112500 ≠ 0) ∧
  (∃ (s : State) (t : Nat), s.dev.sup.wdtAt = some t ∧ t ≤ s.dev.now ∧ s.dev.get 0x112700 = 0) ∧
  (∃ (s : State) (t : Nat), s.dev.sup.wdtAt = some t ∧ t ≤ s.dev.now ∧ s.dev.get 0x112700 = 1) :=
  ⟨⟨st [], true, by decide +kernel⟩,
   ⟨st [] (fun d => { d with sup := { d.sup with vinDown := true } }), true, by decide +kernel⟩,
   ⟨st [], by decide +kernel⟩,
   ⟨st [] (fun d => { d with sup := { d.sup with resetLow := true } }), by decide +kernel⟩,
   ⟨st [], spi, 7, num (by decide +kernel)⟩,
   ⟨st [] (fun d => { d with sup := { d.sup with soft := some 4 } }), 4, by decide +kernel⟩,
   ⟨st [], spi, 17, num (by decide +kernel)⟩,
   ⟨st [] (fun d => { d with sup := { d.sup with restarts := [5] } }), by decide +kernel⟩,
   ⟨st [], spi, 60000, num (by decide +kernel), by decide +kernel⟩,
   ⟨st [], spi, num (by decide +kernel), by decide +kernel⟩,
   ⟨st [(0x112500, 65535)], spi, num (by decide +kernel), by decide +kernel⟩,
   ⟨st [] (fun d => { d with sup := { d.sup with wdtAt := some base.now } }), base.now, by decide +kernel⟩,
   ⟨st [(0x112700, 1)] (fun d => { d with sup := { d.sup with wdtAt := some base.now } }), base.now, by decide +kernel⟩⟩

/-- Met by these: the hypotheses of BringUpAndPor, clause by clause. -/
theorem test_w_BringUpAndPor :
  (∃ (s : State) (erased : Bool), s.dev.stores = [] ∧ s.dev.sup.coreOn = false ∧ s.dev.sup.resetLow = false ∧ s.dev.sup.vinDown = false ∧ s.dev.mode = 1) ∧
  (∃ (s : State) (t : Nat), s.dev.sup.railAt = some t ∧ t + 100000000 ≤ s.dev.now ∧ s.dev.mode = 3 ∧ s.dev.inStep = true ∧ s.dev.sup.coreOn = false) ∧
  (∃ (s : State) (twin : Bool) (t : State), s.dev.sup.resetLow = false ∧ s.dev.sup.vinDown = false ∧ exec (.por twin) s = .next t) :=
  ⟨⟨State.reset, true, by decide +kernel⟩,
   ⟨st [(0x110100, 3), (0x110200, 1)] (fun d => { d with sup := { d.sup with coreOn := false, railAt := some (base.now - 100000000) } }), base.now - 100000000, by decide +kernel⟩,
   ⟨st [], true, _ ,  rfl, rfl, rfl⟩⟩

/-- Met by these: the hypotheses of SnapshotWakeSupplies, clause by clause. -/
theorem test_w_SnapshotWakeSupplies :
  (∃ (s : State) (a : Access), s.dev.takesNum a 0x113100 1) ∧
  (∃ (s : State), s.dev.sup.storing = some 1) ∧
  (∃ (s : State) (sources : Nat), s.dev.mode = 3 ∧ s.dev.inStep = false ∧ sources &&& s.dev.get 0x114000 &&& 0x3E ≠ 0) ∧
  (∃ (s : State) (t : Nat), s.dev.sup.wakeAt = some t ∧ t ≤ s.dev.now ∧ s.dev.mode = 3 ∧ s.dev.inStep = false ∧ s.dev.bitOf 0x114000 4 = true) ∧
  (∃ (s : State), s.dev.ready 0 = true) ∧
  (∃ (s : State), s.dev.ready 0 = false) ∧
  (∃ (s : State), s.dev.alive = true ∧ s.dev.bitOf 0x115200 2 = false) ∧
  (∃ (s : State), s.dev.sup.vddio0 = true ∧ s.dev.alive = true) :=
  ⟨⟨st [], spi, num (by decide +kernel)⟩,
   ⟨st [] (fun d => { d with sup := { d.sup with storing := some 1 } }), by decide +kernel⟩,
   ⟨st [(0x110100, 3), (0x114000, 32)], 32, by decide +kernel⟩,
   ⟨st [(0x110100, 3), (0x114000, 16)] (fun d => { d with sup := { d.sup with wakeAt := some base.now } }), base.now, by decide +kernel⟩,
   ⟨st [], by decide +kernel⟩,
   ⟨st [(0x111000, 0)], by decide +kernel⟩,
   ⟨st [], by decide +kernel⟩,
   ⟨st [], by decide +kernel⟩⟩

/-- Met by these: the hypotheses of SystemClock, clause by clause. -/
theorem test_w_SystemClock :
  (∃ (s : State) (present : Bool) (f : Nat), s.dev.get 0x200300 = 0) ∧
  (∃ (s : State) (f : Nat), s.dev.clk.waitRef = false) ∧
  (∃ (s : State), s.dev.ready 3 = true) ∧
  (∃ (s : State), s.dev.ready 3 = false ∧ s.dev.sup.coreOn = true ∧ s.dev.sup.vdd33 = true ∧ s.dev.clk.waitRef = false ∧ s.dev.clk.relockOn = 0 ∧ s.dev.clk.xtal = true ∧ s.dev.ready 20 = true ∧ s.dev.clk.run = true) ∧
  (∃ (s : State), s.dev.sup.coreOn = true ∧ s.dev.sup.vdd33 = false) :=
  ⟨⟨st [], true, 12288000000, by decide +kernel⟩,
   ⟨st [], 12288000000, by decide +kernel⟩,
   ⟨st [], by decide +kernel⟩,
   ⟨st [(0x111000, 0x100000)], by decide +kernel⟩,
   ⟨st [] (fun d => { d with sup := { d.sup with vdd33 := false } }), by decide +kernel⟩⟩

/-- Met by these: the hypotheses of Acquisition, clause by clause. -/
theorem test_w_Acquisition :
  (∃ (s : State) (t : Nat), s.dev.stores = [] ∧ s.dev.clk.acq = some t ∧ s.dev.clk.scan = false ∧ s.dev.ready 3 = true ∧ s.dev.clk.run = true) ∧
  (∃ (s : State) (t b lo hi : Nat), s.dev.stores = [] ∧ s.dev.clk.acq = some t ∧ s.dev.clk.adjacent = true ∧ s.dev.clk.scan = false ∧ s.dev.ready 3 = true ∧ s.dev.clk.run = true) ∧
  (∃ (s : State) (t : Nat), s.dev.clk.acq = some t ∧ s.dev.clk.scan = false ∧ s.dev.ready 3 = true ∧ s.dev.clk.run = false ∧ s.dev.mode = 4 ∧ s.dev.inStep = true ∧ fld (s.dev.get 0x110200) 7 4 = 5) ∧
  (∃ (s : State) (t : Nat), s.dev.clk.acq = some t ∧ s.dev.clk.adjacent = false ∧ t + 400000 ≤ s.dev.now) ∧
  (∃ (s : State) (t : Nat), s.dev.stores = [] ∧ s.dev.clk.acq = some t ∧ s.dev.clk.adjacent = true ∧ t + 1200000 ≤ s.dev.now ∧ s.dev.bitOf 0x211100 4 = false ∧ s.dev.clk.run = true) ∧
  (∃ (s : State) (t : Nat), s.dev.clk.retryAt = some t ∧ t ≤ s.dev.now ∧ s.dev.ready 3 = true) ∧
  (∃ (s : State) (a : Access), s.dev.takesNum a 0x213000 1) ∧
  (∃ (s : State) (bands : List (Nat × Nat)), s.dev.ready 3 = true ∧ s.dev.clk.scan = true ∧ s.dev.clk.waitCommit = false ∧ s.dev.clk.run = true) :=
  ⟨⟨st [] (fun d => { d with clk := { d.clk with acq := some 0 } }), 0, by decide +kernel⟩,
   ⟨st [] (fun d => { d with clk := { d.clk with acq := some 0, adjacent := true } }), 0, 255, 0, 0, by decide +kernel⟩,
   ⟨st [(0x110100, 4), (0x110200, 0x51)] (fun d => { d with clk := { d.clk with acq := some 0, run := false } }), 0, by decide +kernel⟩,
   ⟨st [] (fun d => { d with clk := { d.clk with acq := some (base.now - 400000) } }), base.now - 400000, by decide +kernel⟩,
   ⟨st [] (fun d => { d with clk := { d.clk with acq := some (base.now - 1200000), adjacent := true } }), base.now - 1200000, by decide +kernel⟩,
   ⟨st [] (fun d => { d with clk := { d.clk with retryAt := some base.now } }), base.now, by decide +kernel⟩,
   ⟨st [(0x110100, 4)] (fun d => { d with clk := { d.clk with run := true } }), spi, num (by decide +kernel)⟩,
   ⟨st [] (fun d => { d with clk := { d.clk with scan := true } }), [], by decide +kernel⟩⟩

/-- Met by these: the hypotheses of HoldoverSteering, clause by clause. -/
theorem test_w_HoldoverSteering :
  (∃ (s : State), s.dev.clk.run = true ∧ s.dev.clk.acq = none ∧ s.dev.clk.retryAt = none ∧ s.dev.clk.scan = false ∧ s.dev.ready 3 = true) ∧
  (∃ (s : State) (t : Nat), s.dev.clk.hldAt = some t ∧ s.dev.clk.held = false ∧ s.dev.ready 3 = true) ∧
  (∃ (s : State) (t : Nat), s.dev.clk.hldAt = some t ∧ s.dev.clk.hld2s = false ∧ t + 2000000000 ≤ s.dev.now) ∧
  (∃ (s : State), s.dev.clk.slewing = true ∧ s.dev.clk.acq = none ∧ s.dev.clk.retryAt = none ∧ s.dev.ready 3 = true) ∧
  (∃ (s : State), s.dev.clk.run = true ∧ s.dev.bitOf 0x211100 5 = false ∧ s.dev.bitOf 0x211100 2 = true ∧ s.dev.steerValid = false) ∧
  (∃ (s : State), s.dev.clk.run = true ∧ s.dev.bitOf 0x211100 5 = false ∧ s.dev.bitOf 0x211100 2 = false ∧ s.dev.steerValid = true) ∧
  (∃ (s : State) (t : Nat), s.dev.clk.lostAt = some t ∧ s.dev.clk.srcLost = true ∧ s.dev.get 0x211200 ≠ 0 ∧ s.dev.bitOf 0x211100 5 = false ∧ t + s.dev.get 0x211300 * 1000000 ≤ s.dev.now) ∧
  (∃ (s : State) (t : Nat), s.dev.clk.primaryAt = some t ∧ s.dev.bitOf 0x211100 5 = true ∧ s.dev.primaryValid = true ∧ t + 1000000000 ≤ s.dev.now) :=
  ⟨⟨st [], by decide +kernel⟩,
   ⟨st [] (fun d => { d with clk := { d.clk with hldAt := some 0 } }), 0, by decide +kernel⟩,
   ⟨st [] (fun d => { d with clk := { d.clk with hldAt := some (base.now - 2000000000) } }), base.now - 2000000000, by decide +kernel⟩,
   ⟨st [] (fun d => { d with clk := { d.clk with slewing := true } }), by decide +kernel⟩,
   ⟨st [(0x210500, 2), (0x211100, 4)], by decide +kernel⟩,
   ⟨st [], by decide +kernel⟩,
   ⟨st [(0x211200, 2), (0x211300, 100)] (fun d => { d with clk := { d.clk with lostAt := some (base.now - 100000000), srcLost := true } }), base.now - 100000000, by decide +kernel⟩,
   ⟨st [(0x211100, 32)] (fun d => { d with clk := { d.clk with primaryAt := some (base.now - 1000000000) } }), base.now - 1000000000, by decide +kernel⟩⟩

/-- Met by these: the hypotheses of TimeStates, clause by clause. -/
theorem test_w_TimeStates :
  (∃ (s : State) (off : Int) (delay : Nat), s.dev.timeReady = true ∧ s.dev.get 0x222000 ≠ 0 ∧ s.dev.twinRole ≠ 2 ∧ s.dev.get 0x220500 = 3 ∧ s.dev.tim.fresh = false ∧ off.natAbs ≤ 1000) ∧
  (∃ (s : State) (off x y : Int) (delay : Nat), s.dev.timeReady = true ∧ s.dev.get 0x222000 ≠ 0 ∧ s.dev.twinRole ≠ 2 ∧ s.dev.get 0x220500 = 2 ∧ s.dev.tim.meas = [x, y]) ∧
  (∃ (s : State), s.dev.get 0x220500 = 5 ∧ s.dev.tim.remain = 0 ∧ s.dev.tim.slew = 0) ∧
  (∃ (s : State) (gm steps port : Nat), s.dev.timeReady = true ∧ s.dev.twinRole ≠ 2 ∧ s.dev.get 0x222000 ≠ 0 ∧ s.dev.get 0x220500 = 0 ∧ s.dev.get 0x223200 ≠ gm) ∧
  (∃ (s : State) (gm steps port : Nat), s.dev.timeReady = true ∧ s.dev.twinRole = 0 ∧ s.dev.twinState ≠ 3 ∧ s.dev.get 0x222000 ≠ 0 ∧ s.dev.get 0x222500 = 1 ∧ s.dev.get 0x220500 = 0) ∧
  (∃ (s : State) (t : Nat), s.dev.tim.announceAt = some t ∧ t ≤ s.dev.now ∧ s.dev.get 0x223100 ≠ 0 ∧ s.dev.get 0x220500 = 0) ∧
  (∃ (s : State) (t : Nat), s.dev.tim.lastSync = some t ∧ t + s.dev.syncIntervals 3 ≤ s.dev.now ∧ s.dev.get 0x220500 = 3) :=
  ⟨⟨st [(0x222000, 1), (0x220500, 3)] (fun d => { d with tim := { d.tim with fresh := false } }), -1000, 0, by decide +kernel⟩,
   ⟨st [(0x222000, 1), (0x220500, 2)] (fun d => { d with tim := { d.tim with meas := [1, 2] } }), -5, 1, 2, 0, by decide +kernel⟩,
   ⟨st [(0x220500, 5)] (fun d => { d with tim := { d.tim with remain := 0, slew := 0 } }), by decide +kernel⟩,
   ⟨st [(0x222000, 4)], 7, 255, 1, by decide +kernel⟩,
   ⟨st [(0x222000, 4), (0x222500, 1)], 7, 255, 1, by decide +kernel⟩,
   ⟨st [(0x223100, 2)] (fun d => { d with tim := { d.tim with announceAt := some base.now } }), base.now, by decide +kernel⟩,
   ⟨st [(0x222000, 1), (0x220500, 3)] (fun d => { d with tim := { d.tim with lastSync := some 0 } }), 0, by decide +kernel⟩⟩

/-- Met by these: the hypotheses of TimeSteps, clause by clause. -/
theorem test_w_TimeSteps :
  (∃ (s : State) (a : Access), s.dev.reads a 0x220000 ∧ a.staged = false ∧ s.dev.sup.coreOn = true) ∧
  (∃ (s : State) (a : Access) (v : Nat), s.dev.takesNum a 0x221000 v ∧ s.dev.tim.step = none ∧ s.dev.audioRuns = false) ∧
  (∃ (s : State) (a : Access) (v : Nat), s.dev.takesNum a 0x221000 v ∧ s.dev.tim.step = none ∧ s.dev.audioRuns = true) ∧
  (∃ (s : State) (t v : Nat), s.dev.tim.step = some (t, .value v) ∧ t ≤ s.dev.now ∧ s.dev.med.run = false ∧ s.dev.ready 12 = false ∧ v / 1000000000 < 2 ^ 48) ∧
  (∃ (s : State) (t : Nat), s.dev.tim.reload = some t ∧ t ≤ s.dev.now ∧ s.dev.med.run = false) ∧
  (∃ (s : State) (n m r : Nat), s.dev.timeReady = true ∧ s.dev.ppsNominal = some n ∧ s.dev.tim.ppsNom = some m ∧ m < n ∧ s.dev.tim.ppsRise = some r ∧ s.dev.ppsPeriod ≤ 2 * (s.dev.now - r) ∧ s.dev.tim.pps = false) ∧
  (∃ (s : State) (t : Nat), s.dev.tim.ppsFall = some t ∧ t ≤ s.dev.now) ∧
  (∃ (s : State) (back : Nat), s.dev.timeReady = true ∧ s.dev.get 0x225000 = 1 ∧ s.dev.tim.caps ≠ [] ∧ s.dev.tim.caps.length < 16) ∧
  (∃ (s : State) (back : Nat), s.dev.timeReady = true ∧ s.dev.get 0x225000 = 2 ∧ s.dev.tim.caps.length = 16) ∧
  (∃ (s : State) (t : Nat), s.dev.tim.ppsSeen = some t ∧ s.dev.get 0x220500 = 7 ∧ t + 3000000000 ≤ s.dev.now) ∧
  (∃ (s : State) (a : Access) (c : CapRec) (l : List CapRec), s.dev.reads a 0x225200 ∧ a.staged = false ∧ a.offset = 0 ∧ 16 ≤ a.length ∧ s.dev.sup.coreOn = true ∧ s.dev.tim.caps = c :: l) :=
  ⟨⟨st [], spi, rd (by decide +kernel), by decide +kernel⟩,
   ⟨st [(0x110100, 3)], spi, 281474976710655, num (by decide +kernel), by decide +kernel⟩,
   ⟨st [], spi, 281474976710655, num (by decide +kernel), by decide +kernel⟩,
   ⟨st [(0x111000, 32)] (fun d => { d with med := { d.med with run := false }, tim := { d.tim with step := some (base.now, .value 5000000000) } }), base.now, 5000000000, by decide +kernel⟩,
   ⟨st [] (fun d => { d with med := { d.med with run := false }, tim := { d.tim with reload := some base.now } }), base.now, by decide +kernel⟩,
   ⟨st [(0x226000, 1)] (fun d => { d with tim := { d.tim with ppsNom := some 0, ppsRise := some 0 } }), 1000000000000, 0, 0, by decide +kernel⟩,
   ⟨st [] (fun d => { d with tim := { d.tim with ppsFall := some base.now } }), base.now, by decide +kernel⟩,
   ⟨st [(0x225000, 1)] (fun d => { d with tim := { d.tim with caps := List.replicate 15 { time := 0, epoch := 0, rising := true } } }), 3, by decide +kernel⟩,
   ⟨st [(0x225000, 2)] (fun d => { d with tim := { d.tim with caps := List.replicate 16 { time := 0, epoch := 0, rising := true } } }), 3, by decide +kernel⟩,
   ⟨st [(0x220500, 7)] (fun d => { d with tim := { d.tim with ppsSeen := some (base.now - 3000000000) } }), base.now - 3000000000, by decide +kernel⟩,
   ⟨st [] (fun d => { d with tim := { d.tim with caps := [{ time := 1, epoch := 2, rising := true }] } }), { path := .spi, length := 16 }, { time := 1, epoch := 2, rising := true }, [], rd (by decide +kernel), by decide +kernel⟩⟩

/-- Met by these: the hypotheses of Locus, clause by clause. -/
theorem test_w_Locus :
  (∃ (s : State) (a : Access) (ee : Nat) (b : List Byte), s.dev.takesBytes a (0x231000 + ee) b ∧ ee < 256 ∧ (locusOf ee b).action ≠ 0) ∧
  (∃ (s : State) (a : Access) (ee : Nat) (b : List Byte) (e : LEntry), s.dev.takesBytes a (0x231000 + ee) b ∧ ee < 256 ∧ (locusOf ee b).action = 0 ∧ s.dev.locusSlot ee = some e) ∧
  (∃ (s : State) (a : Access), s.dev.takesNum a 0x230200 1) ∧
  (∃ (d : Dev), (d.loc.table.map (·.slot)).Nodup) ∧
  (∃ (e : LEntry) (l : List LEntry), l.Pairwise (fun x y => x.time ≤ y.time)) ∧
  (∃ (s : State) (e : LEntry) (d : Dev), s.dev.stores = [] ∧ s.dev.firstDue true = some e ∧ e.action = 1 ∧ s.dev.writeObj s.mem [] { path := .locus, hold := bit e.flags 3, data := leBytes (e.target % 256 % 256) e.value } (e.target / 256) = (0, d) ∧ d.stores = []) ∧
  (∃ (s : State) (e : LEntry), s.dev.firstDue true = some e ∧ e.action = 2 ∧ s.dev.groupHere e.target = true ∧ s.dev.groupFails e.target = none) ∧
  (∃ (s : State) (e : LEntry), s.dev.firstDue false = some e ∧ e.action = 3) ∧
  (∃ (s : State) (e : LEntry), s.dev.firstDue false = some e ∧ e.action = 4) ∧
  (∃ (s : State) (e : LEntry) (d : Dev), s.dev.firstDue true = some e ∧ e.action = 5 ∧ s.dev.swapAction (e.target % 256) (key 0x2310 e.slot) = (d, 0)) ∧
  (∃ (s : State) (e : LEntry) (d : Dev), s.dev.firstDue true = some e ∧ e.action = 6 ∧ s.dev.writeObj s.mem [] { path := .locus, data := leBytes 1 (e.target % 256) } 0x110000 = (0, d)) ∧
  (∃ (s : State) (e : LEntry), s.dev.firstDue false = some e ∧ e.action = 7 ∧ s.dev.gpioFunc (fld e.target 3 0) = 3 ∧ bit e.target 9 = false) ∧
  (∃ (s : State) (e : LEntry), s.dev.firstDue false = some e ∧ e.action = 8) ∧
  (∃ (s : State) (q : QAct) (l : List QAct), s.dev.evt.queue = q :: l ∧ q.action = 8) :=
  ⟨⟨st [(0x14000F, 3)], { path := .spi, length := (leBytes 8 (base.time64 + 1000000000) ++ leBytes 1 7 ++ zeros 3 ++ leBytes 4 (15) ++ leBytes 8 (0) ++ zeros 16).length, data := (leBytes 8 (base.time64 + 1000000000) ++ leBytes 1 7 ++ zeros 3 ++ leBytes 4 (15) ++ leBytes 8 (0) ++ zeros 16) }, 255, (leBytes 8 (base.time64 + 1000000000) ++ leBytes 1 7 ++ zeros 3 ++ leBytes 4 (15) ++ leBytes 8 (0) ++ zeros 16), byt (by decide +kernel), by decide +kernel⟩,
   ⟨st [] (fun d => { d with loc := { d.loc with table := [{ slot := 255, time := 0, action := 8, flags := 0, tag := 0, target := 0, value := 0, period := 0, epochReq := 0, order := 0 }] } }), { path := .spi, length := (leBytes 8 (base.time64 + 1000000000) ++ leBytes 1 0 ++ zeros 3 ++ leBytes 4 (0) ++ leBytes 8 (0) ++ zeros 16).length, data := (leBytes 8 (base.time64 + 1000000000) ++ leBytes 1 0 ++ zeros 3 ++ leBytes 4 (0) ++ leBytes 8 (0) ++ zeros 16) }, 255, (leBytes 8 (base.time64 + 1000000000) ++ leBytes 1 0 ++ zeros 3 ++ leBytes 4 (0) ++ leBytes 8 (0) ++ zeros 16), { slot := 255, time := 0, action := 8, flags := 0, tag := 0, target := 0, value := 0, period := 0, epochReq := 0, order := 0 }, byt (by decide +kernel), by decide +kernel⟩,
   ⟨st [], spi, num (by decide +kernel)⟩,
   ⟨base, by decide +kernel⟩,
   ⟨{ slot := 255, time := 0, action := 8, flags := 0, tag := 0, target := 0, value := 0, period := 0, epochReq := 0, order := 0 }, [], by decide +kernel⟩,
   ⟨st [] (fun d => { d with loc := { d.loc with table := [{ slot := 255, time := 0, action := 1, flags := 0, tag := 0, target := 0x50210002, value := 3, period := 0, epochReq := 0, order := 0 }] } }), { slot := 255, time := 0, action := 1, flags := 0, tag := 0, target := 0x50210002, value := 3, period := 0, epochReq := 0, order := 0 }, ((st [] (fun d => { d with loc := { d.loc with table := [{ slot := 255, time := 0, action := 1, flags := 0, tag := 0, target := 0x50210002, value := 3, period := 0, epochReq := 0, order := 0 }] } })).dev.writeObj [] [] { path := .locus, hold := false, data := leBytes 2 3 } 0x502100).2, by decide +kernel⟩,
   ⟨st [] (fun d => { d with loc := { d.loc with table := [{ slot := 255, time := 0, action := 2, flags := 0, tag := 0, target := 80, value := 0, period := 0, epochReq := 0, order := 0 }] } }), { slot := 255, time := 0, action := 2, flags := 0, tag := 0, target := 80, value := 0, period := 0, epochReq := 0, order := 0 }, by decide +kernel⟩,
   ⟨st [] (fun d => { d with loc := { d.loc with table := [{ slot := 255, time := 0, action := 3, flags := 0, tag := 0, target := 15, value := 0, period := 0, epochReq := 0, order := 0 }] } }), { slot := 255, time := 0, action := 3, flags := 0, tag := 0, target := 15, value := 0, period := 0, epochReq := 0, order := 0 }, by decide +kernel⟩,
   ⟨st [] (fun d => { d with loc := { d.loc with table := [{ slot := 255, time := 0, action := 4, flags := 0, tag := 0, target := 3, value := 0, period := 0, epochReq := 0, order := 0 }] } }), { slot := 255, time := 0, action := 4, flags := 0, tag := 0, target := 3, value := 0, period := 0, epochReq := 0, order := 0 }, by decide +kernel⟩,
   ⟨st [] (fun d => { d with loc := { d.loc with table := [{ slot := 255, time := 0, action := 5, flags := 0, tag := 0, target := 0, value := 0, period := 0, epochReq := 0, order := 0 }] } }), { slot := 255, time := 0, action := 5, flags := 0, tag := 0, target := 0, value := 0, period := 0, epochReq := 0, order := 0 }, (st [] (fun d => { d with loc := { d.loc with table := [{ slot := 255, time := 0, action := 5, flags := 0, tag := 0, target := 0, value := 0, period := 0, epochReq := 0, order := 0 }] } })).dev, by decide +kernel⟩,
   ⟨st [] (fun d => { d with loc := { d.loc with table := [{ slot := 255, time := 0, action := 6, flags := 0, tag := 0, target := 6, value := 0, period := 0, epochReq := 0, order := 0 }] } }), { slot := 255, time := 0, action := 6, flags := 0, tag := 0, target := 6, value := 0, period := 0, epochReq := 0, order := 0 }, ((st [] (fun d => { d with loc := { d.loc with table := [{ slot := 255, time := 0, action := 6, flags := 0, tag := 0, target := 6, value := 0, period := 0, epochReq := 0, order := 0 }] } })).dev.writeObj [] [] { path := .locus, data := leBytes 1 6 } 0x110000).2, by decide +kernel⟩,
   ⟨st [(0x14000F, 3)] (fun d => { d with loc := { d.loc with table := [{ slot := 255, time := 0, action := 7, flags := 0, tag := 0, target := 0x10F, value := 0, period := 0, epochReq := 0, order := 0 }] } }), { slot := 255, time := 0, action := 7, flags := 0, tag := 0, target := 0x10F, value := 0, period := 0, epochReq := 0, order := 0 }, by decide +kernel⟩,
   ⟨st [] (fun d => { d with loc := { d.loc with table := [{ slot := 255, time := 0, action := 8, flags := 0, tag := 0, target := 0, value := 0, period := 0, epochReq := 0, order := 0 }] } }), { slot := 255, time := 0, action := 8, flags := 0, tag := 0, target := 0, value := 0, period := 0, epochReq := 0, order := 0 }, by decide +kernel⟩,
   ⟨st [] (fun d => { d with evt := { d.evt with queue := [{ src := 0, action := 8, hold := false, target := 0, value := 0, tag := 65535, at_ := 0 }] } }), { src := 0, action := 8, hold := false, target := 0, value := 0, tag := 65535, at_ := 0 }, [], by decide +kernel⟩⟩

/-- Met by these: the hypotheses of EventsAndGpio, clause by clause. -/
theorem test_w_EventsAndGpio :
  (∃ (s : State) (a : Access) (ee : Nat) (b : List Byte), s.dev.takesBytes a (0x134000 + ee) b ∧ ee < 64) ∧
  (∃ (s : State) (a : Access) (k mask : Nat), s.dev.takesNum a (0x130300 + k) mask ∧ k < 4) ∧
  (∃ (s : State) (a : Access) (n k mask : Nat), s.dev.takesNum a (0x131000 + 256 * n + k) mask ∧ n < 4 ∧ k < 4) ∧
  (∃ (s : State) (a : Access) (n : Nat), s.dev.takesNum a (0x131400 + n) 1 ∧ n < 4 ∧ s.dev.get (0x131400 + n) = 0) ∧
  (∃ (s : State) (a : Access) (n : Nat), s.dev.takesNum a (0x131400 + n) 0 ∧ n < 4 ∧ s.dev.get (0x131400 + n) = 1) ∧
  (∃ (s : State) (n : Nat), n < 4 ∧ (nthD {} s.dev.evt.pulses n).phase = 1 ∧ (nthD {} s.dev.evt.pulses n).endAt ≤ s.dev.now) ∧
  (∃ (s : State) (n : Nat), n < 4 ∧ (nthD {} s.dev.evt.pulses n).phase = 2 ∧ (nthD {} s.dev.evt.pulses n).endAt ≤ s.dev.now) ∧
  (∃ (s : State) (a : Access) (g v : Nat), s.dev.takesNum a (0x140000 + g) v ∧ g < 16 ∧ s.dev.get (0x140000 + g) ≠ v) ∧
  (∃ (s : State) (a : Access) (v : Nat), s.dev.takesNum a 0x140300 v) ∧
  (∃ (s : State) (g : Nat) (level : Bool), g < 16 ∧ s.dev.sup.vddio0 = true ∧ s.dev.gpioFunc g = 1 ∧ bit s.dev.evt.gpioKnown g = false) ∧
  (∃ (s : State) (g : Nat), 8 ≤ g ∧ g < 16 ∧ s.dev.sup.vddio0 = true ∧ s.dev.gpioFunc g = 1 ∧ bit s.dev.evt.gpioKnown g = true ∧ s.dev.bitOf 0x140200 g = false ∧ bit (fld (s.dev.get (key 0x1401 g)) 4 3) 0 = true ∧ s.dev.ready 28 = false) ∧
  (∃ (s : State) (a : Access) (mask : Nat), s.dev.takesNum a 0x140500 mask) ∧
  (∃ (s : State) (a : Access) (g : Nat) (b : List Byte), s.dev.takesBytes a (0x140700 + g) b ∧ g < 16) :=
  ⟨⟨st [], { path := .spi, length := (leBytes 2 (5 + 256 * 8) ++ leBytes 2 7 ++ zeros 20).length, data := (leBytes 2 (5 + 256 * 8) ++ leBytes 2 7 ++ zeros 20) }, 63, (leBytes 2 (5 + 256 * 8) ++ leBytes 2 7 ++ zeros 20), byt (by decide +kernel), by decide +kernel⟩,
   ⟨st [], spi, 3, 4294967295, num (by decide +kernel), by decide +kernel⟩,
   ⟨st [], spi, 3, 3, 4294967295, num (by decide +kernel), by decide +kernel⟩,
   ⟨st [], spi, 3, num (by decide +kernel), by decide +kernel⟩,
   ⟨st [(0x131403, 1)], spi, 3, num (by decide +kernel), by decide +kernel⟩,
   ⟨st [] (fun d => { d with evt := { d.evt with pulses := List.replicate 4 { phase := 1, endAt := base.now } } }), 3, by decide +kernel⟩,
   ⟨st [] (fun d => { d with evt := { d.evt with pulses := List.replicate 4 { phase := 2, endAt := base.now } } }), 3, by decide +kernel⟩,
   ⟨st [], spi, 15, 3, num (by decide +kernel), by decide +kernel⟩,
   ⟨st [], spi, 65535, num (by decide +kernel)⟩,
   ⟨st [(0x14000F, 1)], 15, true, by decide +kernel⟩,
   ⟨st [(0x111000, 0), (0x14000F, 1), (0x14010F, 24)] (fun d => { d with evt := { d.evt with gpioKnown := 65535 } }), 15, by decide +kernel⟩,
   ⟨st [], spi, 65535, num (by decide +kernel)⟩,
   ⟨st [], { path := .spi, length := (leBytes 2 (5 + 256 * 8) ++ leBytes 2 7 ++ zeros 20).length, data := (leBytes 2 (5 + 256 * 8) ++ leBytes 2 7 ++ zeros 20) }, 15, (leBytes 2 (5 + 256 * 8) ++ leBytes 2 7 ++ zeros 20), byt (by decide +kernel), by decide +kernel⟩⟩

/-- Met by these: the hypotheses of EventOccurs, clause by clause. -/
theorem test_w_EventOccurs :
  (∃ (d : Dev) (e : Nat), e < 128 ∧ d.ready 28 = true ∧ (d.e2aFor e) = [] ∧ d.get (key 0x1300 e) < 0xFFFFFFFF) ∧
  (∃ (d : Dev) (e : Nat), e < 128 ∧ d.ready 28 = true ∧ (d.e2aFor e) = [] ∧ d.get (key 0x1300 e) = 0xFFFFFFFF) ∧
  (∃ (d : Dev) (e : Nat) (k : _), e < 128 ∧ d.ready 28 = true ∧ (d.e2aFor e) = [] ∧ k / 256 ∉ [0x1300, 0x1301, 0x1302, 0x1317]) ∧
  (∃ (d : Dev) (e : Nat), e < 128 ∧ d.ready 28 = false ∧ d.get (key 0x1300 e) < 0xFFFFFFFF) :=
  ⟨⟨base, 127, by decide +kernel⟩,
   ⟨(st [(0x13007F, 0xFFFFFFFF)]).dev, 127, by decide +kernel⟩,
   ⟨base, 127, 0x1303FF, by decide +kernel⟩,
   ⟨(st [(0x111000, 0), (0x13007F, 0xFFFFFFFE)]).dev, 127, by decide +kernel⟩⟩

/-- Met by these: the hypotheses of Links, clause by clause. -/
theorem test_w_Links :
  (∃ (s : State) (code : Nat) (mdix master eee : Bool), s.dev.linkACan code = true) ∧
  (∃ (s : State) (code : Nat), s.dev.linkBFits code = true) ∧
  (∃ (s : State) (a : Access) (v : Nat), s.dev.takesNum a 0x300100 v) ∧
  (∃ (s : State) (a : Access) (n v : Nat), s.dev.takesNum a (0x310000 + 256 * n) v ∧ n < 2) ∧
  (∃ (s : State) (a : Access) (v : Nat), s.dev.takesNum a 0x310200 v) ∧
  (∃ (s : State) (b : List Byte), s.dev.wolA = true ∧ s.dev.linkOf 0 ≠ 0 ∧ s.dev.magic b = true) ∧
  (∃ (s : State) (a : Access), s.dev.reads a 0x300300 ∧ a.staged = false ∧ s.dev.sup.coreOn = true) ∧
  (∃ (d : Dev) (code : Nat), d.get 0x300200 ≠ code) :=
  ⟨⟨st [(0x310000, 1), (0x300000, 1)], 3, true, true, true, by decide +kernel⟩,
   ⟨st [(0x310000, 1)], 3, by decide +kernel⟩,
   ⟨st [], spi, 7, num (by decide +kernel)⟩,
   ⟨st [], spi, 1, 3, num (by decide +kernel), by decide +kernel⟩,
   ⟨st [], spi, 3, num (by decide +kernel)⟩,
   ⟨st [(0x110100, 3), (0x300000, 1), (0x300400, 1), (0x114000, 32), (0x300200, 2), (0x330000, 0x020304050607)], (beBytes 6 0x020304050607 ++ zeros 6 ++ List.replicate 6 0xFF ++ (List.replicate 16 (beBytes 6 0x020304050607)).flatten), by decide +kernel⟩,
   ⟨st [], spi, rd (by decide +kernel), by decide +kernel⟩,
   ⟨base, 3, by decide +kernel⟩⟩

/-- Met by these: the hypotheses of SwitchAndGates, clause by clause. -/
theorem test_w_SwitchAndGates :
  (∃ (s : State) (p age full : Nat) (b : List Byte), s.dev.switchOn = true ∧ p < 2 ∧ s.dev.linkOf p ≠ 0 ∧ bit (s.dev.port p).bad 3 = true) ∧
  (∃ (s : State) (age full : Nat) (b : List Byte), s.dev.switchOn = true ∧ s.dev.linkOf 0 ≠ 0 ∧ 60 ≤ b.length ∧ b.length ≤ 1996 ∧ etherType (untag b).2 = 0x8808 ∧ beAt 14 2 (untag b).2 = 1) ∧
  (∃ (s : State) (p age full e : Nat) (b : List Byte), s.dev.switchOn = true ∧ p < 2 ∧ s.dev.linkOf p ≠ 0 ∧ 60 ≤ b.length ∧ b.length ≤ 1996 ∧ (untag b).1 = none ∧ etherType b ≠ 0x8808 ∧ s.dev.ptpStops b = false ∧ s.dev.vlan (s.dev.get (key 0x3202 p)) = some e ∧ bit (vlanMembers e) p = true) ∧
  (∃ (s : State) (age full e : Nat) (b : List Byte) (ok : Bool) (f : QFrame) (l : List QFrame), s.dev.switchOn = true ∧ s.dev.net.handed = f :: l ∧ (untag f.bytes).1 = none ∧ s.dev.vlan (s.dev.get 0x320202) = some e ∧ bit (vlanMembers e) 2 = true) ∧
  (∃ (s : State) (t0 l0 e : Nat) (f : QFrame), (s.dev.port 0).tx = some (f, t0, l0, e) ∧ e ≤ s.dev.now ∧ (untag f.bytes).1 = none ∧ f.rxAt = none ∧ f.tsReq = false ∧ f.ring = none ∧ f.talker = none) ∧
  (∃ (s : State) (a : Access), s.dev.takesNum a 0x320500 1) ∧
  (∃ (s : State) (q : Nat), s.dev.ready 8 = true ∧ s.dev.get 0x310300 ≠ 0 ∧ s.dev.get 0x310400 ≠ 0 ∧ s.dev.net.pauseOff = none ∧ s.dev.net.pauseEnd = none ∧ q ≠ 0) ∧
  (∃ (s : State) (t : Nat), s.dev.net.pauseEnd = some t ∧ t ≤ s.dev.now) ∧
  (∃ (s : State) (t e : Nat), s.dev.net.pausedAt = some t ∧ s.dev.net.pauseEnd = some e ∧ t + s.dev.get 0x310600 * 1000000 ≤ s.dev.now ∧ s.dev.now ≤ e) ∧
  (∃ (s : State) (t : Nat), s.dev.net.pauseOff = some t ∧ t ≤ s.dev.now) ∧
  (∃ (s : State) (p c x : Nat) (g : GList), (s.dev.port p).pend = some (g, c) ∧ s.dev.gateStartAt g c = some x ∧ x ≤ s.dev.time64) ∧
  (∃ (s : State) (p : Nat), (s.dev.port p).oper.enable = true ∧ (s.dev.port p).nextAt ≤ s.dev.time64 ∧ (s.dev.port p).entry + 1 < (s.dev.port p).oper.entries.length) :=
  ⟨⟨st [(0x320100, 0x80007001), (0x320200, 1), (0x320201, 1), (0x320202, 1), (0x300200, 3), (0x310300, 3)] (fun d => { d with net := { d.net with ports := modNth (fun n => { n with bad := 8 }) d.net.ports 1 } }), 1, 0, 255, zeros 60, by decide +kernel⟩,
   ⟨st [(0x320100, 0x80007001), (0x320200, 1), (0x320201, 1), (0x320202, 1), (0x300200, 3), (0x310300, 3)], 0, 255, (zeros 12 ++ [0x88, 0x08, 0, 1] ++ zeros 44), by decide +kernel⟩,
   ⟨st [(0x320100, 0x80007001), (0x320200, 1), (0x320201, 1), (0x320202, 1), (0x300200, 3), (0x310300, 3)], 1, 0, 255, 0x80007001, zeros 1996, by decide +kernel⟩,
   ⟨st [(0x320100, 0x80007001), (0x320200, 1), (0x320201, 1), (0x320202, 1), (0x300200, 3), (0x310300, 3)] (fun d => { d with net := { d.net with handed := [{ bytes := zeros 60, cls := 0 }] } }), 0, 255, 0x80007001, [], true, { bytes := zeros 60, cls := 0 }, [], by decide +kernel⟩,
   ⟨st [] (fun d => { d with net := { d.net with ports := modNth (fun n => { n with tx := some ({ bytes := zeros 60, cls := 0 }, 0, 0, base.now) }) d.net.ports 0 } }), 0, 0, base.now, { bytes := zeros 60, cls := 0 }, by decide +kernel⟩,
   ⟨st [], spi, num (by decide +kernel)⟩,
   ⟨st [(0x310300, 1), (0x310400, 1)], 65535, by decide +kernel⟩,
   ⟨st [] (fun d => { d with net := { d.net with pauseEnd := some base.now } }), base.now, by decide +kernel⟩,
   ⟨st [(0x310600, 10)] (fun d => { d with net := { d.net with pausedAt := some (base.now - 10000000), pauseEnd := some base.now } }), base.now - 10000000, base.now, by decide +kernel⟩,
   ⟨st [] (fun d => { d with net := { d.net with pauseOff := some base.now } }), base.now, by decide +kernel⟩,
   ⟨st [] (fun d => { d with net := { d.net with ports := modNth (fun n => { n with pend := some ({ base := 5000 }, 0) }) d.net.ports 2 } }), 2, 0, 5000, { base := 5000 }, by decide +kernel⟩,
   ⟨st [] (fun d => { d with net := { d.net with ports := modNth (fun n => { n with oper := { enable := true, entries := [(255, 1), (1, 1)] } }) d.net.ports 2 } }), 2, by decide +kernel⟩⟩

/-- Met by these: the hypotheses of RingsLaunch, clause by clause. -/
theorem test_w_RingsLaunch :
  (∃ (s : State) (a : Access) (r : Nat) (b : List Byte), s.dev.takesBytes a (0x333000 + r) b ∧ 2 ≤ r ∧ r < 4) ∧
  (∃ (s : State) (a : Access) (r : Nat) (b : List Byte), s.dev.takesBytes a (0x333000 + r) b ∧ r < 2) ∧
  (∃ (s : State) (a : Access) (r : Nat) (x : Desc) (l : List Desc), s.dev.reads a (0x333100 + r) ∧ r < 4 ∧ a.staged = false ∧ a.offset = 0 ∧ 24 ≤ a.length ∧ s.dev.sup.coreOn = true ∧ (s.dev.ring r).reap = x :: l ∧ l.length < s.dev.get (key (0x3310 + r) 0)) ∧
  (∃ (s : State) (a : Access) (r : Nat), s.dev.takesNum a (0x331001 + 256 * r) 0 ∧ r < 4) ∧
  (∃ (s : State) (a : Access) (r : Nat), s.dev.takesNum a (0x331001 + 256 * r) 1 ∧ r < 4) ∧
  (∃ (s : State) (t : Nat) (f : QFrame) (l : List QFrame), s.dev.net.media = f :: l ∧ f.launch = some t ∧ t ≤ s.dev.time64 ∧ s.dev.time64 ≤ t + s.dev.get (key 0x3314 4) ∧ s.dev.mayStart (f.port - 1) f = true) ∧
  (∃ (s : State) (a : Access) (q : Nat) (x : TsRec) (l : List TsRec), s.dev.reads a (0x335000 + q) ∧ q < 4 ∧ a.staged = false ∧ a.offset = 0 ∧ 16 ≤ a.length ∧ s.dev.sup.coreOn = true ∧ nthD [] s.dev.net.ts q = x :: l) :=
  ⟨⟨st [], { path := .spi, offset := 0, length := (leBytes 1 7 ++ leBytes 1 63 ++ leBytes 2 0 ++ leBytes 4 64 ++ zeros 16).length, data := (leBytes 1 7 ++ leBytes 1 63 ++ leBytes 2 0 ++ leBytes 4 64 ++ zeros 16) }, 3, (leBytes 1 7 ++ leBytes 1 63 ++ leBytes 2 0 ++ leBytes 4 64 ++ zeros 16), byt (by decide +kernel), by decide +kernel⟩,
   ⟨st [], { path := .spi, offset := 0, length := (leBytes 1 7 ++ leBytes 1 63 ++ leBytes 2 0 ++ leBytes 4 64 ++ zeros 16).length, data := (leBytes 1 7 ++ leBytes 1 63 ++ leBytes 2 0 ++ leBytes 4 64 ++ zeros 16) }, 1, (leBytes 1 7 ++ leBytes 1 63 ++ leBytes 2 0 ++ leBytes 4 64 ++ zeros 16), byt (by decide +kernel), by decide +kernel⟩,
   ⟨st [(0x331300, 1)] (fun d => { d with net := { d.net with rings := modNth (fun r => { r with reap := [{ buf := 1, control := 0, port := 1, len := 64 }] }) d.net.rings 3 } }), { path := .spi, length := 24 }, 3, { buf := 1, control := 0, port := 1, len := 64 }, [], rd (by decide +kernel), by decide +kernel⟩,
   ⟨st [], spi, 3, num (by decide +kernel), by decide +kernel⟩,
   ⟨st [], spi, 3, num (by decide +kernel), by decide +kernel⟩,
   ⟨st [(0x310300, 3), (0x331404, 1000)] (fun d => { d with net := { d.net with media := [{ bytes := zeros 60, cls := 6, port := 2, launch := some 999999999000 }] } }), 999999999000, { bytes := zeros 60, cls := 6, port := 2, launch := some 999999999000 }, [], by decide +kernel⟩,
   ⟨st [] (fun d => { d with net := { d.net with ts := [[], [], [], [{ time := 1, epoch := 2, ref := 3, kind := 4 }]] } }), { path := .spi, length := 16 }, 3, { time := 1, epoch := 2, ref := 3, kind := 4 }, [], rd (by decide +kernel), by decide +kernel⟩⟩

/-- Met by these: the hypotheses of Talkers, clause by clause. -/
theorem test_w_Talkers :
  (∃ (s : State) (a : Access) (n : Nat), s.dev.takesNum a (0x340000 + 256 * n) 1 ∧ n < 16 ∧ (s.dev.talker n).run = false) ∧
  (∃ (s : State) (a : Access) (n : Nat), s.dev.takesNum a (0x340000 + 256 * n) 0 ∧ n < 16 ∧ (s.dev.talker n).run = false) ∧
  (∃ (s : State) (n : Nat), n < 16 ∧ s.dev.streamsOn = true ∧ s.dev.med.run = true ∧ s.dev.get (kTs n 0) = 1 ∧ (s.dev.talker n).run = false ∧ s.dev.tsSet n = true ∧ (s.dev.tsMac n).isSome = true ∧ s.dev.tim.step = none ∧ s.dev.tim.reload = none ∧ s.dev.tsSpp n ≠ 0 ∧ s.dev.med.index % s.dev.tsSpp n = 0) ∧
  (∃ (s : State) (n : Nat), n < 16 ∧ n < s.dev.str.tx.length ∧ (s.dev.talker n).run = true ∧ (s.dev.talker n).stop = false ∧ s.dev.tsSpp n ≠ 0 ∧ (s.dev.talker n).frames.length = s.dev.tsSpp n ∧ (s.dev.talker n).start + s.dev.tsSpp n ≤ s.dev.med.index ∧ s.dev.get 0x700301 = 0 ∧ s.dev.twin.launchFrom ≤ (s.dev.talker n).start ∧ s.dev.get (kTs n 0x11) ≠ 0) ∧
  (∃ (s : State) (n mac : Nat), n < 16 ∧ s.dev.bitOf (kTs n 0x28) 1 = true ∧ (s.dev.talker n).tryAt ≤ s.dev.now) ∧
  (∃ (s : State) (n : Nat), n < 16 ∧ s.dev.bitOf (kTs n 0x28) 1 = true ∧ (s.dev.talker n).tryAt ≤ s.dev.now ∧ (s.dev.talker n).fails = 2) ∧
  (∃ (s : State) (n old mac : Nat), n < 16 ∧ (s.dev.talker n).mac = some old ∧ (s.dev.talker n).refreshAt ≤ s.dev.now) :=
  ⟨⟨st [(0x340F01, 3), (0x340F02, 1), (0x340F08, 0x91E0F0000001), (0x340F40, 0)], spi, 15, num (by decide +kernel), by decide +kernel⟩,
   ⟨st [], spi, 15, num (by decide +kernel), by decide +kernel⟩,
   ⟨st [(0x340F00, 1), (0x340F01, 3), (0x340F02, 1), (0x340F08, 0x91E0F0000001), (0x340F40, 0)], 15, by decide +kernel⟩,
   ⟨st [(0x340F00, 1), (0x340F01, 3), (0x340F02, 1), (0x340F08, 0x91E0F0000001), (0x340F40, 0)] (fun d => { d with str := { d.str with tx := modNth (fun t => { t with run := true, stop := false, start := 0, frames := List.replicate 48 [] }) d.str.tx 15 } }), 15, by decide +kernel⟩,
   ⟨st [(0x340F28, 2)] (fun d => { d with str := { d.str with tx := modNth (fun t => { t with tryAt := base.now }) d.str.tx 15 } }), 15, 1, by decide +kernel⟩,
   ⟨st [(0x340F28, 2)] (fun d => { d with str := { d.str with tx := modNth (fun t => { t with tryAt := base.now, fails := 2 }) d.str.tx 15 } }), 15, by decide +kernel⟩,
   ⟨st [] (fun d => { d with str := { d.str with tx := modNth (fun t => { t with mac := some 1, refreshAt := base.now }) d.str.tx 15 } }), 15, 1, 2, by decide +kernel⟩⟩

/-- Met by these: the hypotheses of Listeners, clause by clause. -/
theorem test_w_Listeners :
  (∃ (s : State) (a : Access) (n : Nat), s.dev.takesNum a (0x350000 + 256 * n) 1 ∧ n < 16 ∧ s.dev.get (kLs n 0x28) = 0 ∧ s.dev.streamsOn = true ∧ s.dev.lsSet n = true ∧ s.dev.lsGroup n = 0) ∧
  (∃ (s : State) (a : Access) (n : Nat), s.dev.takesNum a (0x350000 + 256 * n) 0 ∧ n < 16) ∧
  (∃ (s : State) (n frac : Nat) (b : List Byte) (p : PktIn), n < 16 ∧ s.dev.streamsOn = true ∧ s.dev.lsOn n = true ∧ s.dev.lsDest n (untag b).2 = true ∧ s.dev.lsFilter n (untag b).2 = true ∧ s.dev.get (kLs n 1) < 3 ∧ s.dev.rtpRead n (untag b).2 = some p ∧ p.pay.length = s.dev.lsSpp n * s.dev.get (kLs n 2) * fmtWidth (s.dev.get (kLs n 1)) ∧ (s.dev.listener n).sender = some (p.src, p.id)) ∧
  (∃ (d : Dev) (n frac : Nat) (p : PktIn), n < d.str.rx.length ∧ (p.seq, p.ts) ∈ (d.listener n).recent) ∧
  (∃ (s : State) (n m : Nat), n < 16 ∧ s.dev.streamsOn = true ∧ (s.dev.listener n).missed = m + 1) ∧
  (∃ (s : State) (n t : Nat), n < 16 ∧ s.dev.streamsOn = true ∧ (s.dev.listener n).heard = some t ∧ 2 ≤ s.dev.get (kLs n 0x28) ∧ t + 4 * s.dev.lsPacketNs n ≤ s.dev.now) ∧
  (∃ (s : State) (a : Access) (n : Nat), s.dev.reads a (0x350029 + 256 * n) ∧ n < 16 ∧ a.staged = false ∧ s.dev.sup.coreOn = true) ∧
  (∃ (s : State) (a : Access) (n : Nat), s.dev.reads a (0x35002C + 256 * n) ∧ n < 16 ∧ a.staged = false ∧ s.dev.sup.coreOn = true) :=
  ⟨⟨st [(0x350F01, 0), (0x350F02, 1), (0x350F03, 0), (0x350F05, 0xEF000001), (0x350F40, 0), (0x350F05, 0)], spi, 15, num (by decide +kernel), by decide +kernel⟩,
   ⟨st [], spi, 15, num (by decide +kernel), by decide +kernel⟩,
   ⟨st [(0x350F00, 1), (0x350F28, 3), (0x350F01, 0), (0x350F02, 1), (0x350F03, 0), (0x350F05, 0xEF000001), (0x350F40, 0)] (fun d => { d with str := { d.str with rx := modNth (fun t => { t with sender := some (0x0A000002, 3) }) d.str.rx 15 } }), 15, 255, [0, 0, 0, 0, 0, 0, 0, 0, 0, 0, 0, 0, 8, 0, 0x45, 0, 0, 52, 0, 0, 0x40, 0, 255, 17, 0, 0, 10, 0, 0, 2, 0xEF, 0, 0, 1, 0, 0, 0x13, 0x8C, 0, 32, 0, 0, 0x80, 0x62, 0, 1, 0, 0, 0, 2, 0, 0, 0, 3, 0, 0, 0, 0, 0, 0, 0, 0, 0, 0, 0, 0], { src := 0x0A000002, id := 3, seq := 1, bits := 16, ts := 2, tags := 0, pay := zeros 12 }, by decide +kernel⟩,
   ⟨(st [(0x350F01, 0), (0x350F02, 1), (0x350F03, 0), (0x350F05, 0xEF000001), (0x350F40, 0)] (fun d => { d with str := { d.str with rx := modNth (fun t => { t with recent := [(1, 2)] }) d.str.rx 15 } })).dev, 15, 255, { src := 0x0A000002, id := 3, seq := 1, bits := 16, ts := 2, tags := 0, pay := zeros 12 }, by decide +kernel⟩,
   ⟨st [] (fun d => { d with str := { d.str with rx := modNth (fun t => { t with missed := 1 }) d.str.rx 15 } }), 15, 0, by decide +kernel⟩,
   ⟨st [(0x350F28, 2)] (fun d => { d with str := { d.str with rx := modNth (fun t => { t with heard := some 0 }) d.str.rx 15 } }), 15, 0, by decide +kernel⟩,
   ⟨st [], spi, 15, rd (by decide +kernel), by decide +kernel⟩,
   ⟨st [], spi, 15, rd (by decide +kernel), by decide +kernel⟩⟩

/-- Met by these: the hypotheses of SerialAudio, clause by clause. -/
theorem test_w_SerialAudio :
  (∃ (s : State) (a : Access) (p v : Nat), s.dev.takesNum a (0x400000 + 4096 * p) v ∧ p < 4 ∧ v &&& 3 ≠ 0 ∧ s.dev.sapState p = 0 ∧ s.dev.sapOn = true ∧ s.dev.sapSet p = true) ∧
  (∃ (s : State) (a : Access) (p : Nat), s.dev.takesNum a (0x400000 + 4096 * p) 0 ∧ p < 4) ∧
  (∃ (s : State) (p period bclks : Nat) (slots : List Nat), p < 4 ∧ s.dev.sapOn = true ∧ s.dev.sapState p = 2 ∧ s.dev.get (kSap p 5) = 0) ∧
  (∃ (s : State) (p period bclks : Nat) (slots : List Nat), p < 4 ∧ s.dev.sapOn = true ∧ s.dev.sapState p = 1 ∧ s.dev.get (kSap p 5) = 0) ∧
  (∃ (s : State) (p period bclks : Nat) (slots : List Nat), p < 4 ∧ s.dev.sapOn = true ∧ s.dev.sapState p = 3 ∧ s.dev.get (kSap p 5) = 0) ∧
  (∃ (s : State) (p : Nat), p < 4 ∧ s.dev.get (kSap p 5) = 0 ∧ s.dev.sapState p = 2 ∧ (s.dev.sapPort p).edge = none) ∧
  (∃ (s : State) (a : Access) (p : Nat), s.dev.takesNum a (0x40000C + 4096 * p) 1 ∧ p < 4) ∧
  (∃ (s : State) (a : Access) (p : Nat), s.dev.takesNum a (0x40000C + 4096 * p) 0 ∧ p < 4) ∧
  (∃ (s : State) (a : Access) (p v : Nat), s.dev.takesNum a (0x40000D + 4096 * p) v ∧ p < 4) ∧
  (∃ (s : State) (a : Access) (g v : Nat), s.dev.takesNum a (0x410000 + 4096 * g) v ∧ g < 2) ∧
  (∃ (s : State) (g : Nat), g < 2 ∧ s.dev.asrcRuns g = true ∧ s.dev.get (kAsrcSt g 8) = 2) :=
  ⟨⟨st [], spi, 3, 3, num (by decide +kernel), by decide +kernel⟩,
   ⟨st [], spi, 3, num (by decide +kernel), by decide +kernel⟩,
   ⟨st [(0x403304, 2)], 3, 20833, 64, [], by decide +kernel⟩,
   ⟨st [(0x403304, 1)], 3, 20833, 64, [], by decide +kernel⟩,
   ⟨st [(0x403304, 3)], 3, 20833, 64, [], by decide +kernel⟩,
   ⟨st [(0x403304, 2)], 3, by decide +kernel⟩,
   ⟨st [(0x110100, 8)], spi, 3, num (by decide +kernel), by decide +kernel⟩,
   ⟨st [], spi, 3, num (by decide +kernel), by decide +kernel⟩,
   ⟨st [(0x110100, 8), (0x40300C, 1)], spi, 3, 65520, num (by decide +kernel), by decide +kernel⟩,
   ⟨st [], spi, 1, 1, num (by decide +kernel), by decide +kernel⟩,
   ⟨st [(0x411000, 1), (0x411001, 1), (0x401006, 1), (0x411002, 1), (0x411108, 2)], 1, by decide +kernel⟩⟩

/-- Met by these: the hypotheses of CaptureChanges, clause by clause. -/
theorem test_w_CaptureChanges :
  (∃ (s : State) (a : Access) (c : Nat), s.dev.takesNum a (0x420000 + 256 * c) 1 ∧ c < 14 ∧ analogCh c = true ∧ s.dev.get (0x420000 + 256 * c) = 0) ∧
  (∃ (s : State) (a : Access) (c : Nat), s.dev.takesNum a (0x420000 + 256 * c) 0 ∧ c < 14 ∧ analogCh c = true ∧ s.dev.get (0x420000 + 256 * c) = 1) ∧
  (∃ (s : State) (a : Access) (c v : Nat), s.dev.takesNum a (0x420001 + 256 * c) v ∧ c < 14 ∧ analogCh c = true ∧ c ≠ 3 ∧ s.dev.get (0x420001 + 256 * c) ≠ v) ∧
  (∃ (s : State) (a : Access) (v : Nat), s.dev.takesNum a 0x420301 v ∧ s.dev.get 0x420301 ≠ v) ∧
  (∃ (s : State) (a : Access) (c v : Nat), s.dev.takesNum a (0x420002 + 256 * c) v ∧ c < 14 ∧ analogCh c = true ∧ s.dev.get (0x420002 + 256 * c) ≠ v) ∧
  (∃ (s : State) (a : Access) (c v : Nat), s.dev.takesNum a (0x430000 + 256 * c) v ∧ c < 14 ∧ s.dev.get (0x430000 + 256 * c) ≠ v) ∧
  (∃ (s : State) (a : Access) (c v : Nat), s.dev.takesNum a (0x430001 + 256 * c) v ∧ c < 14 ∧ s.dev.get (0x430001 + 256 * c) ≠ v) ∧
  (∃ (s : State) (a : Access) (c v : Nat), s.dev.takesNum a (0x430002 + 256 * c) v ∧ c < 14) ∧
  (∃ (s : State) (c : Nat), c < 14 ∧ s.dev.capState c = 1 ∧ (s.dev.capCh c).left = 0) ∧
  (∃ (s : State) (c : Nat) (hi : Bool), c < 14 ∧ s.dev.capRuns = true ∧ s.dev.capOn c = true ∧ (s.dev.capCh c).excess = none ∧ analogCh c = true ∧ s.dev.bitOf 0x422000 c = true) ∧
  (∃ (s : State) (a : Access), s.dev.reads a 0x422000 ∧ a.staged = false ∧ s.dev.sup.coreOn = true) ∧
  (∃ (d : Dev) (c n : Nat) (j : _), c < d.cap.chans.length ∧ j ≠ c) :=
  ⟨⟨st [], spi, 3, num (by decide +kernel), by decide +kernel⟩,
   ⟨st [(0x420300, 1)], spi, 3, num (by decide +kernel), by decide +kernel⟩,
   ⟨st [], spi, 2, 1, num (by decide +kernel), by decide +kernel⟩,
   ⟨st [], spi, 1, num (by decide +kernel), by decide +kernel⟩,
   ⟨st [], spi, 3, 1, num (by decide +kernel), by decide +kernel⟩,
   ⟨st [], spi, 13, 1, num (by decide +kernel), by decide +kernel⟩,
   ⟨st [], spi, 13, 1, num (by decide +kernel), by decide +kernel⟩,
   ⟨st [], spi, 13, 1023, num (by decide +kernel), by decide +kernel⟩,
   ⟨st [(0x420300, 1)] (fun d => { d with cap := { d.cap with chans := modNth (fun c => { c with settling := true, left := 0 }) d.cap.chans 3 } }), 3, by decide +kernel⟩,
   ⟨st [(0x420300, 1), (0x422000, 8)], 3, true, by decide +kernel⟩,
   ⟨st [], spi, rd (by decide +kernel), by decide +kernel⟩,
   ⟨base, 13, 64, 12, by decide +kernel⟩⟩

/-- Met by these: the hypotheses of BiasPdm, clause by clause. -/
theorem test_w_BiasPdm :
  (∃ (s : State) (a : Access) (k : Nat), s.dev.takesNum a (0x421000 + 256 * k) 1 ∧ k < 2 ∧ s.dev.get (0x421000 + 256 * k) = 0 ∧ (k = 1 → s.dev.hp.biasJack = false)) ∧
  (∃ (s : State) (a : Access) (k : Nat), s.dev.takesNum a (0x421000 + 256 * k) 0 ∧ k < 2 ∧ s.dev.get (0x421000 + 256 * k) = 1 ∧ (k = 1 → s.dev.hp.biasJack = false)) ∧
  (∃ (s : State) (a : Access) (v : Nat), s.dev.takesNum a 0x421100 v ∧ s.dev.hp.biasJack = true) ∧
  (∃ (s : State) (a : Access) (k v : Nat), s.dev.takesNum a (0x421001 + 256 * k) v ∧ k < 2 ∧ s.dev.get (0x421001 + 256 * k) ≠ v ∧ s.dev.biasBit k 0 = true) ∧
  (∃ (s : State) (k : Nat), k < 2 ∧ s.dev.ready 15 = true ∧ s.dev.biasBit k 0 = true ∧ s.dev.biasBit k 4 = false) ∧
  (∃ (s : State) (k t : Nat), k < 2 ∧ nthD none s.dev.cap.retry k = some t ∧ t ≤ s.dev.now ∧ s.dev.biasBit k 3 = true) ∧
  (∃ (s : State) (k : Nat) (o : Bool), k < 2 ∧ s.dev.ready 15 = true ∧ s.dev.biasBit k 0 = true ∧ s.dev.biasBit k 2 ≠ o) ∧
  (∃ (s : State) (line : Nat), line < 4 ∧ s.dev.capRuns = true ∧ s.dev.pdmRuns (s.dev.lineClk line) = true ∧ bit s.dev.cap.chEn (2 * line) = true ∧ bit s.dev.cap.chEn (2 * line + 1) = false ∧ s.dev.bitOf 0x423100 (2 * line) = false) :=
  ⟨⟨st [], spi, 1, num (by decide +kernel), by decide +kernel⟩,
   ⟨st [(0x421100, 1)], spi, 1, num (by decide +kernel), by decide +kernel⟩,
   ⟨st [] (fun d => { d with hp := { d.hp with biasJack := true } }), spi, 1, num (by decide +kernel), by decide +kernel⟩,
   ⟨st [(0x421102, 1)], spi, 1, 28, num (by decide +kernel), by decide +kernel⟩,
   ⟨st [(0x421102, 1)], 1, by decide +kernel⟩,
   ⟨st [(0x421102, 8)] (fun d => { d with cap := { d.cap with retry := [none, some base.now] } }), 1, base.now, by decide +kernel⟩,
   ⟨st [(0x421102, 1)], 1, true, by decide +kernel⟩,
   ⟨st [(0x423000, 3)] (fun d => { d with cap := { d.cap with chEn := 64 } }), 3, by decide +kernel⟩⟩

/-- Met by these: the hypotheses of PerimeterHistory, clause by clause. -/
theorem test_w_PerimeterHistory :
  (∃ (s : State), s.dev.per.xtal = true ∧ s.dev.per.on = true ∧ s.dev.per.media = false) ∧
  (∃ (s : State), s.dev.per.xtal = false ∧ s.dev.per.on = true ∧ s.dev.per.media = false) ∧
  (∃ (s : State) (x : HistIn), s.dev.per.on = true ∧ s.dev.per.media = true ∧ s.dev.mode = 5 ∧ s.dev.get 0x441000 = 0 ∧ x.utter = none ∧ s.dev.per.setPend = false ∧ s.dev.per.avail = s.dev.per.aec ∧ s.dev.per.wakeReq = none) ∧
  (∃ (s : State) (m : Nat), m < 8 ∧ bit s.dev.listenMics m = true ∧ s.dev.pdmRuns (s.dev.lineClk (m / 2)) = true ∧ s.dev.bitOf 0x442600 m = false) ∧
  (∃ (s : State) (a : Access), s.dev.reads a 0x445200 ∧ a.staged = false ∧ a.offset = 0 ∧ (s.dev.sup.coreOn = true) ∧ s.dev.histBytes.length ≤ min a.length (pathSegment a.path) ∧ s.dev.per.ring.any (fun b => b.seq == s.dev.get 0x445100) = true) ∧
  (∃ (s : State) (a : Access) (v : Nat), s.dev.takesNum a 0x445100 v ∧ s.dev.get 0x445100 ≠ v) :=
  ⟨⟨st [] (fun d => { d with per := { d.per with on := true } }), by decide +kernel⟩,
   ⟨st [] (fun d => { d with per := { d.per with on := true, xtal := false } }), by decide +kernel⟩,
   ⟨st [] (fun d => { d with per := { d.per with on := true, media := true } }), {}, by decide +kernel⟩,
   ⟨st [(0x440000, 128)] (fun d => { d with per := { d.per with on := true, use := [(0x440000, 128)] } }), 7, by decide +kernel⟩,
   ⟨st [(0x445100, 5)] (fun d => { d with per := { d.per with ring := [{ seq := 5, bytes := zeros 256 }] } }), { path := .spi, length := 256 }, rd (by decide +kernel), by decide +kernel⟩,
   ⟨st [(0x445000, 4294967295)], spi, 4294967295, num (by decide +kernel), by decide +kernel⟩⟩

/-- Met by these: the hypotheses of EnrolWakeOut, clause by clause. -/
theorem test_w_EnrolWakeOut :
  (∃ (s : State) (a : Access) (p : Nat), s.dev.takesNum a 0x444000 p ∧ p < 8 ∧ s.dev.per.part = none) ∧
  (∃ (s : State) (a : Access) (p : Nat), s.dev.takesNum a 0x444000 (0x80 + p) ∧ p < 8 ∧ s.dev.per.part = none) ∧
  (∃ (s : State) (a : Access) (p t : Nat), s.dev.takesNum a 0x444000 0xFF ∧ s.dev.per.enrol = some (p, t)) ∧
  (∃ (s : State) (p t : Nat), s.dev.per.enrol = some (p, t) ∧ t + 10000000000 ≤ s.dev.now) ∧
  (∃ (s : State) (p t : Nat) (b : List Byte), s.dev.per.enrol = some (p, t) ∧ 3 ≤ fld (s.dev.get 0x444100) 3 0) ∧
  (∃ (s : State) (a : Access), s.dev.takesNum a 0x446100 1) ∧
  (∃ (s : State) (t : Nat), s.dev.per.wakeEnd = some t ∧ t ≤ s.dev.now) :=
  ⟨⟨st [], spi, 7, num (by decide +kernel), by decide +kernel⟩,
   ⟨st [], spi, 7, num (by decide +kernel), by decide +kernel⟩,
   ⟨st [] (fun d => { d with per := { d.per with enrol := some (7, 0) } }), spi, 7, 0, num (by decide +kernel), by decide +kernel⟩,
   ⟨st [] (fun d => { d with per := { d.per with enrol := some (7, base.now - 10000000000) } }), 7, base.now - 10000000000, by decide +kernel⟩,
   ⟨st [(0x444100, 3)] (fun d => { d with per := { d.per with enrol := some (7, 0) } }), 7, 0, [], by decide +kernel⟩,
   ⟨st [], spi, num (by decide +kernel)⟩,
   ⟨st [] (fun d => { d with per := { d.per with wakeEnd := some base.now } }), base.now, by decide +kernel⟩⟩

/-- Met by these: the hypotheses of Lattice, clause by clause. -/
theorem test_w_Lattice :
  (∃ (s : State) (a : Access) (x v : Nat), s.dev.takesNum a (0x501000 + x) v ∧ x < 256 ∧ s.dev.bitOf (attrOf (0x501000 + x)) 0 = false) ∧
  (∃ (s : State) (a : Access) (x v : Nat), s.dev.takesNum a (0x502000 + x) v ∧ x < 256 ∧ s.dev.bitOf (attrOf (0x502000 + x)) 0 = true ∧ assoc (0x502000 + x) s.dev.lat.fades = none ∧ s.dev.get (0x502000 + x) ≠ v) ∧
  (∃ (s : State) (x : Nat) (f : Fade), x < 256 ∧ assoc (0x501000 + x) s.dev.lat.fades = some f ∧ f.out = true ∧ f.g = 0) ∧
  (∃ (s : State) (x : Nat) (f : Fade), x < 256 ∧ assoc (0x501000 + x) s.dev.lat.fades = some f ∧ f.out = false ∧ s.dev.fadeLen ≤ f.g + 1) ∧
  (∃ (s : State) (a : Access) (x v : Nat), s.dev.takesNum a (0x502100 + x) v ∧ x < 256) ∧
  (∃ (s : State) (a : Access) (o i v : Nat), s.dev.takesNum a (0x510000 + 256 * o + i) v ∧ o < 64 ∧ i < 96 ∧ s.dev.get (0x505000 + o) = 0) ∧
  (∃ (s : State) (a : Access) (node v : Nat), s.dev.takesNum a (0x521000 + node) v ∧ node < 512) :=
  ⟨⟨st [], spi, 255, 1, num (by decide +kernel), by decide +kernel⟩,
   ⟨st [(attrOf 0x502000, 1)], spi, 0, 1, num (by decide +kernel), by decide +kernel⟩,
   ⟨st [] (fun d => { d with lat := { d.lat with fades := [(0x5010FF, { out := true, old := 0, new := 1, g := 0 })] } }), 255, { out := true, old := 0, new := 1, g := 0 }, by decide +kernel⟩,
   ⟨st [] (fun d => { d with lat := { d.lat with fades := [(0x5010FF, { out := false, old := 0, new := 1, g := 65535 })] } }), 255, { out := false, old := 0, new := 1, g := 65535 }, by decide +kernel⟩,
   ⟨st [], spi, 255, 1, num (by decide +kernel), by decide +kernel⟩,
   ⟨st [], spi, 63, 95, 1, num (by decide +kernel), by decide +kernel⟩,
   ⟨st [], spi, 349, 6, num (by decide +kernel), by decide +kernel⟩⟩

/-- Met by these: the hypotheses of EngineControl, clause by clause. -/
theorem test_w_EngineControl :
  (∃ (s : State) (a : Access) (e : Nat) (b : Bank), s.dev.takesNum a (0x540000 + 256 * e) 1 ∧ e < 8 ∧ (s.dev.eng e).active = some b) ∧
  (∃ (s : State) (a : Access) (e : Nat) (b : Bank), s.dev.takesNum a (0x540000 + 256 * e) 2 ∧ e < 8 ∧ (s.dev.eng e).active = some b) ∧
  (∃ (s : State) (a : Access) (e : Nat), s.dev.takesNum a (0x540000 + 256 * e) 3 ∧ e < 8) ∧
  (∃ (s : State) (a : Access) (e : Nat), s.dev.takesNum a (0x540000 + 256 * e) 4 ∧ e < 8) ∧
  (∃ (s : State) (a : Access) (e : Nat), s.dev.takesNum a (0x540000 + 256 * e) 5 ∧ e < 8) ∧
  (∃ (s : State) (a : Access) (e : Nat), s.dev.takesNum a (0x540000 + 256 * e) 6 ∧ e < 8 ∧ s.dev.stores = [] ∧ s.dev.get (key (0x5400 + e) 8) ≠ 1) ∧
  (∃ (s : State) (a : Access) (v : Nat), s.dev.takesNum a 0x542000 v ∧ v < 256 ∧ v ≠ 0) ∧
  (∃ (s : State) (e n : Nat) (b : Bank), e < 8 ∧ (s.dev.eng e).startAt = some n ∧ (s.dev.eng e).active = some b ∧ n ≤ s.dev.med.index + 1 ∧ s.dev.med.run = true ∧ s.dev.engState e = 1) ∧
  (∃ (d : Dev) (e : Nat) (x y : Bank), e < d.fac.engs.length ∧ e < 8 ∧ (d.eng e).active = some x ∧ (d.eng e).standby = some y) ∧
  (∃ (d : Dev), (∀ e < 8, ∀ n, (d.eng e).swapAt = some n → d.med.index + 1 < n)) :=
  ⟨⟨eng7 (fun x => { x with active := some (bk (run7 {})) }) [(0x540701, 1)], spi, 7, bk (run7 {}), num (by decide +kernel), by decide +kernel⟩,
   ⟨eng7 (fun x => { x with active := some (bk (run7 {})) }), spi, 7, bk (run7 {}), num (by decide +kernel), by decide +kernel⟩,
   ⟨eng7 (fun x => { x with active := some (bk (run7 {})), standby := some (bk (run7 {})) }), spi, 7, num (by decide +kernel), by decide +kernel⟩,
   ⟨eng7 (fun x => { x with active := some (bk (run7 {})), standby := some (bk (run7 {})) }), spi, 7, num (by decide +kernel), by decide +kernel⟩,
   ⟨eng7 (fun x => { x with active := some (bk (run7 {})) }) [(0x540701, 1)], spi, 7, num (by decide +kernel), by decide +kernel⟩,
   ⟨eng7 (fun x => { x with active := some (bk (run7 {})) }) [(0x540701, 3)], spi, 7, num (by decide +kernel), by decide +kernel⟩,
   ⟨eng7 (fun x => { x with active := some (bk (run7 {})), standby := some (bk (run7 {})) }), spi, 128, num (by decide +kernel), by decide +kernel⟩,
   ⟨eng7 (fun x => { x with active := some (bk (run7 {})), startAt := some 48001 }) [(0x540701, 1)], 7, 48001, bk (run7 {}), by decide +kernel⟩,
   ⟨(eng7 (fun x => { x with active := some (bk (run7 {})), standby := some (bk (run7 {})) })).dev, 7, bk (run7 {}), bk (run7 {}), by decide +kernel⟩,
   ⟨base ,  by intro e he n h; rw [(by decide +kernel : ∀ e < 8, (base.eng e).swapAt = none) e he] at h; cases h⟩⟩

/-- Met by these: the hypotheses of Releases, clause by clause. -/
theorem test_w_Releases :
  (∃ (s : State) (e t n : Nat) (b : Bank) (k : ImgTask), e < 8 ∧ (s.dev.eng e).active = some b ∧ b.task t = some k ∧ n = s.dev.med.index / k.block * k.block ∧ b.since + k.block ≤ n ∧ s.dev.engState e = 2 ∧ (b.run t).seen ≠ some n ∧ (b.run t).rel = none) ∧
  (∃ (s : State) (e t n : Nat) (b : Bank) (k : ImgTask), (e < 8 ∧ (s.dev.eng e).active = some b ∧ b.task t = some k ∧ (b.run t).rel = some n ∧ n + k.block ≤ s.dev.med.index + 1 ∧ s.dev.engState e = 2 ∧ let r := b.run t; let x := (((s.dev.setRun e true { r with rel := none, excess := r.excess + 1, vals := [], sets := [], clrs := [], envs := [], publ := [] }).envEnd b k { r with envs := [] } n).inc (key (0x5400 + e) 6)).locksFree e; (x.eng e).ev98 = none ∧ r.excess + 1 < 8 ∧ True)) ∧
  (∃ (s : State) (e t n : Nat) (b : Bank) (k : ImgTask), (e < 8 ∧ (s.dev.eng e).active = some b ∧ b.task t = some k ∧ (b.run t).rel = some n ∧ n + k.block ≤ s.dev.med.index + 1 ∧ s.dev.engState e = 2 ∧ let r := b.run t; let x := (((s.dev.setRun e true { r with rel := none, excess := r.excess + 1, vals := [], sets := [], clrs := [], envs := [], publ := [] }).envEnd b k { r with envs := [] } n).inc (key (0x5400 + e) 6)).locksFree e; (x.eng e).ev98 = none ∧ 8 ≤ r.excess + 1 ∧ ((x.modEng e (fun y => { y with ev98 := some x.now })).raise 98).bitOf 0x200400 4 = false ∧ True)) ∧
  (∃ (s : State) (e c : Nat) (act : Bool) (b : Bank) (t : ImgTask) (r : TaskRun), e < 8 ∧ c < 7 ∧ s.dev.current e = some (act, b, t, r)) ∧
  (∃ (d : Dev) (e c a t : Nat) (sb : Bool), e < 8 ∧ e < d.fac.engs.length ∧ d.engState e = 2 ∧ c < 16 ∧ a < 65536 ∧ t < 16) ∧
  (∃ (s : State) (e t : Nat), e < 8 ∧ (s.dev.eng e).recoverAt = some t ∧ t ≤ s.dev.now ∧ s.dev.engState e = 3) ∧
  (∃ (d : Dev) (e n : Nat) (v : Bool), e < 8 ∧ (d.eng e).clkAt = some (n, v) ∧ n ≤ d.med.index + 1) ∧
  (∃ (d : Dev) (e n : Nat) (v : Bool), e < 8 ∧ (d.eng e).clkAt = some (n, v) ∧ d.med.index + 1 < n ∧ d.med.run = true) ∧
  (∃ (s : State) (e cycles : Nat) (act : Bool) (b : Bank) (t : ImgTask) (r : TaskRun), s.dev.running e act b t r ∧ r.ctx.dma = [] ∧ s.dev.stores = []) ∧
  (∃ (d : Dev) (e cycles n : Nat) (b : Bank) (t : ImgTask) (r : TaskRun), d.current e = some (true, b, t, r) ∧ r.rel = some n ∧ d.med.index < n + t.block) :=
  ⟨⟨eng7 (fun x => { x with active := some (bk { run7 {} with rel := none }) }), 7, 15, 48000, bk { run7 {} with rel := none }, tsk, by decide +kernel⟩,
   ⟨on7 (run7 {}), 7, 15, 47936, bk (run7 {}), tsk, by decide +kernel⟩,
   ⟨on7 { run7 {} with excess := 7 }, 7, 15, 47936, bk { run7 {} with excess := 7 }, tsk, by decide +kernel⟩,
   ⟨on7 (run7 {}), 7, 6, true, bk (run7 {}), tsk, run7 {}, by decide +kernel⟩,
   ⟨(on7 (run7 {})).dev, 7, 15, 65535, 15, true, by decide +kernel⟩,
   ⟨eng7 (fun x => { x with recoverAt := some base.now }) [(0x540701, 3)], 7, base.now, by decide +kernel⟩,
   ⟨(eng7 (fun x => { x with clkAt := some (48001, true) })).dev, 7, 48001, true, by decide +kernel⟩,
   ⟨(eng7 (fun x => { x with clkAt := some (48002, true) })).dev, 7, 48002, true, by decide +kernel⟩,
   ⟨on7 (run7 {}), 7, 100, true, bk (run7 {}), tsk, run7 {}, rn (by decide +kernel), by decide +kernel⟩,
   ⟨(on7 { run7 {} with rel := some 48000 }).dev, 7, 100, 48000, bk { run7 {} with rel := some 48000 }, tsk, { run7 {} with rel := some 48000 }, by decide +kernel⟩⟩

/-- Met by these: the hypotheses of ScalarOps, clause by clause. -/
theorem test_w_ScalarOps :
  (∃ (s : State) (act : Bool) (b : Bank) (t : ImgTask) (r : TaskRun) (e x y dst : Nat), s.dev.running e act b t r) ∧
  (∃ (s : State) (act : Bool) (b : Bank) (t : ImgTask) (r : TaskRun) (e g f x : Nat), s.dev.running e act b t r) ∧
  (∃ (c : Ctx) (g v : Nat) (q : Nat × Nat × Nat × Nat), c.gen[g]? = some q) ∧
  (∃ (s : State) (e dst x y : Nat), s.dev.current e = none) :=
  ⟨⟨on7 (run7 {}), true, bk (run7 {}), tsk, run7 {}, 7, 31, 31, 31, rn (by decide +kernel)⟩,
   ⟨on7 (run7 {}), true, bk (run7 {}), tsk, run7 {}, 7, 3, 3, 31, rn (by decide +kernel)⟩,
   ⟨{}, 3, 4294967295, (0, 0, 0, 0), by decide +kernel⟩,
   ⟨st [], 7, 31, 31, 31, by decide +kernel⟩⟩

/-- Met by these: the hypotheses of VectorOps, clause by clause. -/
theorem test_w_VectorOps :
  ∃ (s : State) (act : Bool) (b : Bank) (t : ImgTask) (r : TaskRun) (e dst x y : Nat), s.dev.running e act b t r :=
  ⟨on7 (run7 {}), true, bk (run7 {}), tsk, run7 {}, 7, 15, 15, 15, rn (by decide +kernel)⟩

/-- Met by these: the hypotheses of MemoryOps, clause by clause. -/
theorem test_w_MemoryOps :
  (∃ (s : State) (e : Nat) (act : Bool) (b : Bank) (t : ImgTask) (r : TaskRun) (x : Nat) (m : MemRef) (w : _), s.dev.running e act b t r ∧ r.ctx.addr m 0 = some w ∧ b.inLocal w 4 = true) ∧
  (∃ (s : State) (e : Nat) (act : Bool) (b : Bank) (t : ImgTask) (r : TaskRun) (x : Nat) (m : MemRef) (w : _), s.dev.running e act b t r ∧ r.ctx.addr m 0 = some w ∧ b.inLocal w 4 = false) ∧
  (∃ (s : State) (e : Nat) (act : Bool) (b : Bank) (t : ImgTask) (r : TaskRun) (x : Nat) (m : MemRef) (w0 : _) (w1 : _) (w2 : _) (w3 : _) (v0 : _) (v1 : _) (v2 : _) (v3 : _), s.dev.running e act b t r ∧ r.ctx.addr m 0 = some w0 ∧ r.ctx.addr m 1 = some w1 ∧ r.ctx.addr m 2 = some w2 ∧ r.ctx.addr m 3 = some w3 ∧ b.inLocal w0 4 = true ∧ b.inLocal w1 4 = true ∧ b.inLocal w2 4 = true ∧ b.inLocal w3 4 = true ∧ r.ctx.vreg x = [v0, v1, v2, v3]) ∧
  (∃ (s : State) (e : Nat) (act : Bool) (b : Bank) (t : ImgTask) (r : TaskRun) (x p k n : Nat), s.dev.running e act b t r ∧ bit t.ins p = true ∧ k < t.block ∧ r.rel = some n) ∧
  (∃ (s : State) (e : Nat) (act : Bool) (b : Bank) (t : ImgTask) (r : TaskRun) (x p k n : Nat) (v : _), s.dev.running e act b t r ∧ bit t.outs p = true ∧ k < t.block ∧ assoc (p * 64 + k) r.vals = some v) ∧
  (∃ (s : State) (e : Nat) (act : Bool) (b : Bank) (t : ImgTask) (r : TaskRun) (x p k n : Nat), s.dev.running e act b t r ∧ bit t.ins p = false) ∧
  (∃ (s : State) (e : Nat) (act : Bool) (b : Bank) (t : ImgTask) (r : TaskRun) (x p k n : Nat), s.dev.running e act b t r ∧ bit t.outs p = false) ∧
  (∃ (s : State) (e : Nat) (act : Bool) (b : Bank) (t : ImgTask) (r : TaskRun) (x last : Nat) (most : _), s.dev.running e act b t r ∧ r.ctx.loops.length < 4 ∧ r.ctx.pc < last ∧ assoc r.ctx.pc b.img.loops = some most ∧ r.ctx.sreg x ≤ most ∧ 0 < r.ctx.sreg x) ∧
  (∃ (s : State) (e : Nat) (act : Bool) (b : Bank) (t : ImgTask) (r : TaskRun) (x last : Nat) (most : _), s.dev.running e act b t r ∧ r.ctx.loops.length < 4 ∧ r.ctx.pc < last ∧ assoc r.ctx.pc b.img.loops = some most ∧ most < r.ctx.sreg x ∧ 0 < most) ∧
  (∃ (s : State) (e : Nat) (act : Bool) (b : Bank) (t : ImgTask) (r : TaskRun) (x last : Nat), s.dev.running e act b t r ∧ r.ctx.loops.length < 4 ∧ r.ctx.pc < last ∧ r.ctx.sreg x = 0) ∧
  (∃ (s : State) (e : Nat) (act : Bool) (b : Bank) (t : ImgTask) (r : TaskRun) (x mask target : Nat), s.dev.running e act b t r ∧ 4 ≤ r.ctx.loops.length) ∧
  (∃ (s : State) (e : Nat) (act : Bool) (b : Bank) (t : ImgTask) (r : TaskRun) (x mask target : Nat), s.dev.running e act b t r ∧ r.ctx.pc < target ∧ bit mask r.ctx.cmp = true) ∧
  (∃ (s : State) (e : Nat) (act : Bool) (b : Bank) (t : ImgTask) (r : TaskRun) (x mask target : Nat), s.dev.running e act b t r ∧ r.ctx.pc < target ∧ bit mask r.ctx.cmp = false) ∧
  (∃ (s : State) (e : Nat) (act : Bool) (b : Bank) (t : ImgTask) (r : TaskRun) (x mask target : Nat), s.dev.running e act b t r ∧ target ≤ r.ctx.pc) ∧
  (∃ (s : State) (e : Nat) (act : Bool) (b : Bank) (t : ImgTask) (r : TaskRun) (x mask target : Nat), s.dev.running e act b t r ∧ r.ctx.calls.length < 8) ∧
  (∃ (s : State) (e : Nat) (act : Bool) (b : Bank) (t : ImgTask) (r : TaskRun) (x mask target : Nat), s.dev.running e act b t r ∧ 8 ≤ r.ctx.calls.length) ∧
  (∃ (s : State) (e : Nat) (act : Bool) (b : Bank) (t : ImgTask) (r : TaskRun) (x mask target : Nat) (p : _) (l : _), s.dev.running e act b t r ∧ r.ctx.calls = p :: l) ∧
  (∃ (s : State) (e : Nat) (act : Bool) (b : Bank) (t : ImgTask) (r : TaskRun) (x mask target : Nat), s.dev.running e act b t r ∧ r.ctx.calls = []) ∧
  (∃ (c : Ctx) (f l n : Nat) (t : List (Nat × Nat × Nat)), c.loops = (f, l, n) :: t ∧ c.pc ≠ l) ∧
  (∃ (c : Ctx) (f l n : Nat) (t : List (Nat × Nat × Nat)), c.loops = (f, l, n) :: t ∧ c.pc = l ∧ 1 < n) :=
  ⟨⟨on7 (run7 {}), 7, true, bk (run7 {}), tsk, run7 {}, 31, .loc 131068, 131068, rn (by decide +kernel), by decide +kernel⟩,
   ⟨on7 (run7 {}), 7, true, bk (run7 {}), tsk, run7 {}, 31, .loc 131069, 131069, rn (by decide +kernel), by decide +kernel⟩,
   ⟨on7 (run7 { gen := [(131056, 16, 4, 12), (131056, 16, 4, 12), (131056, 16, 4, 12), (131056, 16, 4, 12)] }), 7, true, bk (run7 { gen := [(131056, 16, 4, 12), (131056, 16, 4, 12), (131056, 16, 4, 12), (131056, 16, 4, 12)] }), tsk, run7 { gen := [(131056, 16, 4, 12), (131056, 16, 4, 12), (131056, 16, 4, 12), (131056, 16, 4, 12)] }, 15, .gen 3, 131068, 131056, 131060, 131064, 0, 0, 0, 0, rn (by decide +kernel), by decide +kernel⟩,
   ⟨on7 (run7 {}), 7, true, bk (run7 {}), tsk, run7 {}, 31, 31, 63, 47936, rn (by decide +kernel), by decide +kernel⟩,
   ⟨on7 (run7 {}), 7, true, bk (run7 {}), tsk, run7 {}, 31, 31, 63, 47936, 1, rn (by decide +kernel), by decide +kernel⟩,
   ⟨on7 (run7 {}), 7, true, bk (run7 {}), tsk, run7 {}, 31, 30, 63, 47936, rn (by decide +kernel), by decide +kernel⟩,
   ⟨on7 (run7 {}), 7, true, bk (run7 {}), tsk, run7 {}, 31, 30, 63, 47936, rn (by decide +kernel), by decide +kernel⟩,
   ⟨on7 (run7 { pc := 5, s := List.replicate 32 3, loops := List.replicate 3 (1, 2, 3) }), 7, true, bk (run7 { pc := 5, s := List.replicate 32 3, loops := List.replicate 3 (1, 2, 3) }), tsk, run7 { pc := 5, s := List.replicate 32 3, loops := List.replicate 3 (1, 2, 3) }, 31, 6, 3, rn (by decide +kernel), by decide +kernel⟩,
   ⟨on7 (run7 { pc := 5, s := List.replicate 32 4 }), 7, true, bk (run7 { pc := 5, s := List.replicate 32 4 }), tsk, run7 { pc := 5, s := List.replicate 32 4 }, 31, 6, 3, rn (by decide +kernel), by decide +kernel⟩,
   ⟨on7 (run7 { pc := 5 }), 7, true, bk (run7 { pc := 5 }), tsk, run7 { pc := 5 }, 31, 6, rn (by decide +kernel), by decide +kernel⟩,
   ⟨on7 (run7 { loops := List.replicate 4 (1, 2, 3) }), 7, true, bk (run7 { loops := List.replicate 4 (1, 2, 3) }), tsk, run7 { loops := List.replicate 4 (1, 2, 3) }, 31, 0, 9, rn (by decide +kernel), by decide +kernel⟩,
   ⟨on7 (run7 { cmp := 2 }), 7, true, bk (run7 { cmp := 2 }), tsk, run7 { cmp := 2 }, 31, 4, 1, rn (by decide +kernel), by decide +kernel⟩,
   ⟨on7 (run7 { cmp := 2 }), 7, true, bk (run7 { cmp := 2 }), tsk, run7 { cmp := 2 }, 31, 3, 1, rn (by decide +kernel), by decide +kernel⟩,
   ⟨on7 (run7 { pc := 5 }), 7, true, bk (run7 { pc := 5 }), tsk, run7 { pc := 5 }, 31, 7, 5, rn (by decide +kernel), by decide +kernel⟩,
   ⟨on7 (run7 { calls := List.replicate 7 0 }), 7, true, bk (run7 { calls := List.replicate 7 0 }), tsk, run7 { calls := List.replicate 7 0 }, 0, 0, 0, rn (by decide +kernel), by decide +kernel⟩,
   ⟨on7 (run7 { calls := List.replicate 8 0 }), 7, true, bk (run7 { calls := List.replicate 8 0 }), tsk, run7 { calls := List.replicate 8 0 }, 0, 0, 0, rn (by decide +kernel), by decide +kernel⟩,
   ⟨on7 (run7 { calls := [3] }), 7, true, bk (run7 { calls := [3] }), tsk, run7 { calls := [3] }, 0, 0, 0, 3, [], rn (by decide +kernel), by decide +kernel⟩,
   ⟨on7 (run7 {}), 7, true, bk (run7 {}), tsk, run7 {}, 0, 0, 0, rn (by decide +kernel), by decide +kernel⟩,
   ⟨{ loops := [(1, 5, 2)] }, 1, 5, 2, [], by decide +kernel⟩,
   ⟨{ pc := 5, loops := [(1, 5, 2)] }, 1, 5, 2, [], by decide +kernel⟩⟩

/-- Met by these: the hypotheses of SharedOps, clause by clause. -/
theorem test_w_SharedOps :
  (∃ (s : State) (e : Nat) (act : Bool) (b : Bank) (t : ImgTask) (r : TaskRun) (x p first count bits n : Nat), s.dev.running e act b t r ∧ bit t.ins p = true ∧ r.rel = some n ∧ t.block ≤ 32) ∧
  (∃ (s : State) (e : Nat) (act : Bool) (b : Bank) (t : ImgTask) (r : TaskRun) (x p first count bits n : Nat), s.dev.running e act b t r ∧ bit t.ins p = false) ∧
  (∃ (s : State) (e : Nat) (act : Bool) (b : Bank) (t : ImgTask) (r : TaskRun) (x p first count bits n : Nat), s.dev.running e act b t r ∧ bit t.outs p = true ∧ first < t.block ∧ r.sets = [] ∧ bits < 16) ∧
  (∃ (s : State) (e : Nat) (act : Bool) (b : Bank) (t : ImgTask) (r : TaskRun) (x p first count bits n : Nat), s.dev.running e act b t r ∧ bit t.outs p = true ∧ first < t.block ∧ r.clrs = [] ∧ bits < 4) ∧
  (∃ (s : State) (e : Nat) (act : Bool) (b : Bank) (t : ImgTask) (r : TaskRun) (x p first count bits n : Nat), s.dev.running e act b t r ∧ bit t.outs p = false) ∧
  (∃ (s : State) (e : Nat) (act : Bool) (b : Bank) (t : ImgTask) (r : TaskRun) (x p first count bits n : Nat) (y : _) (v : _), s.dev.running e act b t r ∧ b.img.binds[p]? = some y ∧ assoc p r.snap = some v ∧ typeBytes y.ty ≠ 8) ∧
  (∃ (s : State) (e : Nat) (act : Bool) (b : Bank) (t : ImgTask) (r : TaskRun) (x p first count bits n : Nat) (y : _) (v : _), s.dev.running e act b t r ∧ b.img.binds[p]? = some y ∧ assoc p r.snap = some v ∧ typeBytes y.ty = 8) ∧
  (∃ (s : State) (e : Nat) (act : Bool) (b : Bank) (t : ImgTask) (r : TaskRun) (x p first count bits n : Nat) (y : _), s.dev.running e act b t r ∧ b.img.binds[p]? = some y ∧ y.acc = 0 ∧ y.ty ≠ 14 ∧ typeBytes y.ty ≠ 8) ∧
  (∃ (s : State) (e : Nat) (act : Bool) (b : Bank) (t : ImgTask) (r : TaskRun) (x p first count bits n : Nat) (y : _), s.dev.running e act b t r ∧ b.img.binds[p]? = some y ∧ y.acc ≠ 0) ∧
  (∃ (s : State) (e : Nat) (act : Bool) (b : Bank) (t : ImgTask) (r : TaskRun) (k off loc words : Nat) (al : ImgAlloc), s.dev.running e act b t r ∧ b.img.allocs[k]? = some al ∧ off + 4 * words ≤ al.size ∧ b.inLocal loc (4 * words) = true) ∧
  (∃ (s : State) (e : Nat) (act : Bool) (b : Bank) (t : ImgTask) (r : TaskRun) (k off loc words : Nat) (al : ImgAlloc), s.dev.running e act b t r ∧ b.img.allocs[k]? = some al ∧ al.size < off + 4 * words) ∧
  (∃ (d : Dev) (e : Nat) (m : List Host.Cell) (act : Bool) (b : Bank) (t : ImgTask) (r : TaskRun) (k off loc words : Nat) (al : ImgAlloc), d.running e act b t r ∧ d.stores = [] ∧ d.tes.bad = [] ∧ b.img.allocs[k]? = some al ∧ al.loc = false) ∧
  (∃ (m : List Host.Cell) (d : Dev) (a w : Nat), d.stores = [] ∧ d.wordBad a = false ∧ d.wordBad (a + 4) = false ∧ d.portBWins a = true) ∧
  (∃ (m : List Host.Cell) (d : Dev) (a w : Nat), d.stores = [] ∧ d.wordBad a = false ∧ d.wordBad (a + 4) = false ∧ d.portBWins a = false) ∧
  (∃ (e k dst : Nat) (s : State) (act : Bool) (b : Bank) (t : ImgTask) (r : TaskRun), s.dev.running e act b t r ∧ k < 16 ∧ (s.dev.get (lockObj k) = 0xFF ∨ s.dev.get (lockObj k) = e)) ∧
  (∃ (e k dst : Nat) (s : State) (act : Bool) (b : Bank) (t : ImgTask) (r : TaskRun), s.dev.running e act b t r ∧ k < 16 ∧ s.dev.get (lockObj k) ≠ 0xFF ∧ s.dev.get (lockObj k) ≠ e) ∧
  (∃ (e k dst : Nat) (s : State) (act : Bool) (b : Bank) (t : ImgTask) (r : TaskRun), s.dev.running e act b t r ∧ k < 16 ∧ s.dev.get (lockObj k) = e) ∧
  (∃ (e k dst : Nat) (d : Dev), k < 16 ∧ d.get (lockObj k) = 0xFF) ∧
  (∃ (s : State) (e : Nat) (act : Bool) (b : Bank) (t : ImgTask) (r : TaskRun) (w n : Nat), s.dev.running e act b t r ∧ b.inLocal w (4 * n) = true) ∧
  (∃ (s : State) (e : Nat) (act : Bool) (b : Bank) (t : ImgTask) (r : TaskRun) (w n : Nat), s.dev.running e act b t r ∧ b.inLocal w (4 * n) = false) ∧
  (∃ (s : State) (e : Nat) (act : Bool) (b : Bank) (t : ImgTask) (r : TaskRun) (buf x y g target left pos len code : Nat), s.dev.running e act b t r ∧ b.inLocal buf (4 * t.block) = true ∧ t.block ≤ r.ctx.sreg left) ∧
  (∃ (s : State) (e : Nat) (act : Bool) (b : Bank) (t : ImgTask) (r : TaskRun) (buf x y g target left pos len code : Nat), s.dev.running e act b t r ∧ b.inLocal buf (4 * t.block) = true ∧ r.ctx.sreg left = 0) ∧
  (∃ (s : State) (e : Nat) (act : Bool) (b : Bank) (t : ImgTask) (r : TaskRun) (buf x y g target left pos len code : Nat), s.dev.running e act b t r ∧ b.inLocal buf (4 * t.block) = true ∧ b.inLocal x (4 * t.block) = true ∧ b.inLocal y (4 * t.block) = true ∧ r.ctx.sreg len ≤ r.ctx.sreg pos) ∧
  (∃ (s : State) (e : Nat) (act : Bool) (b : Bank) (t : ImgTask) (r : TaskRun) (buf x y g target left pos len code : Nat), s.dev.running e act b t r ∧ b.inLocal buf (4 * t.block) = true ∧ b.inLocal x (4 * t.block) = true ∧ b.inLocal y (4 * t.block) = true ∧ r.ctx.sreg pos + t.block < r.ctx.sreg len) ∧
  (∃ (s : State) (e : Nat) (act : Bool) (b : Bank) (t : ImgTask) (r : TaskRun) (buf x y g target left pos len code : Nat), s.dev.running e act b t r ∧ b.inLocal buf (4 * t.block) = true ∧ b.img.envs.length = 1) ∧
  (∃ (s : State) (e : Nat) (act : Bool) (b : Bank) (t : ImgTask) (r : TaskRun) (buf x y g target left pos len code : Nat), s.dev.running e act b t r ∧ b.inLocal buf (4 * t.block) = true ∧ s.dev.pilotsOn x = false) ∧
  (∃ (s : State) (e : Nat) (act : Bool) (b : Bank) (t : ImgTask) (r : TaskRun) (buf x y g target left pos len code : Nat), s.dev.running e act b t r ∧ b.inLocal buf (4 * t.block) = true ∧ s.dev.pilotsOn x = true) ∧
  (∃ (s : State) (e buf k len : Nat) (act : Bool) (b : Bank) (t : ImgTask) (r : TaskRun) (al : ImgAlloc), s.dev.running e act b t r ∧ s.dev.stores = [] ∧ b.img.allocs[k]? = some al ∧ al.loc = false ∧ 0 < len ∧ len ≤ 262144 ∧ 4 * len ≤ al.size ∧ b.inLocal buf (4 * t.block) = true ∧ t.block ≤ len ∧ s.dev.tes.bad = []) :=
  ⟨⟨eng7 (fun x => { x with active := some ({ img := { img with tasks := [{ tsk with block := 32 }] }, tasks := [run7 {}] } : Bank) }), 7, true, ({ img := { img with tasks := [{ tsk with block := 32 }] }, tasks := [run7 {}] } : Bank), { tsk with block := 32 }, run7 {}, 15, 31, 0, 0, 0, 47936, rn (by decide +kernel), by decide +kernel⟩,
   ⟨on7 (run7 {}), 7, true, bk (run7 {}), tsk, run7 {}, 15, 30, 0, 0, 0, 0, rn (by decide +kernel), by decide +kernel⟩,
   ⟨on7 (run7 {}), 7, true, bk (run7 {}), tsk, run7 {}, 0, 31, 63, 0, 15, 0, rn (by decide +kernel), by decide +kernel⟩,
   ⟨on7 (run7 {}), 7, true, bk (run7 {}), tsk, run7 {}, 0, 31, 63, 0, 3, 0, rn (by decide +kernel), by decide +kernel⟩,
   ⟨on7 (run7 {}), 7, true, bk (run7 {}), tsk, run7 {}, 0, 30, 63, 0, 3, 0, rn (by decide +kernel), by decide +kernel⟩,
   ⟨on7 (run7 {}), 7, true, bk (run7 {}), tsk, run7 {}, 31, 0, 0, 0, 0, 0, { obj := 0x800000, ty := 3, acc := 0, grp := 0, ret := 0, user := false, lo := 0, hi := 0, dflt := 0, var := 0 }, 7, rn (by decide +kernel), by decide +kernel⟩,
   ⟨on7 (run7 {}), 7, true, bk (run7 {}), tsk, run7 {}, 30, 1, 0, 0, 0, 0, { obj := 0x800001, ty := 4, acc := 1, grp := 0, ret := 0, user := false, lo := 0, hi := 0, dflt := 0, var := 8 }, 2 ^ 63, rn (by decide +kernel), by decide +kernel⟩,
   ⟨on7 (run7 {}), 7, true, bk (run7 {}), tsk, run7 {}, 31, 0, 0, 0, 0, 0, { obj := 0x800000, ty := 3, acc := 0, grp := 0, ret := 0, user := false, lo := 0, hi := 0, dflt := 0, var := 0 }, rn (by decide +kernel), by decide +kernel⟩,
   ⟨on7 (run7 {}), 7, true, bk (run7 {}), tsk, run7 {}, 31, 1, 0, 0, 0, 0, { obj := 0x800001, ty := 4, acc := 1, grp := 0, ret := 0, user := false, lo := 0, hi := 0, dflt := 0, var := 8 }, rn (by decide +kernel), by decide +kernel⟩,
   ⟨on7 (run7 {}), 7, true, bk (run7 {}), tsk, run7 {}, 0, 1048572, 131068, 1, { name := 1, size := 1048576, place := 2, inherit_ := false, zero := false, align := 64, loc := false, addr := 0x500000 }, rn (by decide +kernel), by decide +kernel⟩,
   ⟨on7 (run7 {}), 7, true, bk (run7 {}), tsk, run7 {}, 0, 1048573, 0, 1, { name := 1, size := 1048576, place := 2, inherit_ := false, zero := false, align := 64, loc := false, addr := 0x500000 }, rn (by decide +kernel), by decide +kernel⟩,
   ⟨(on7 (run7 {})).dev, 7, [], true, bk (run7 {}), tsk, run7 {}, 0, 1048572, 131068, 1, { name := 1, size := 1048576, place := 2, inherit_ := false, zero := false, align := 64, loc := false, addr := 0x500000 }, rn (by decide +kernel), by decide +kernel⟩,
   ⟨[], (st [(0x580000, 1)]).dev, 0x1C0000, 1, by decide +kernel⟩,
   ⟨[], (st [(0x580000, 0)]).dev, 0x1C0000, 1, by decide +kernel⟩,
   ⟨7, 15, 31, on7 (run7 {}), true, bk (run7 {}), tsk, run7 {}, rn (by decide +kernel), by decide +kernel⟩,
   ⟨7, 15, 31, { on7 (run7 {}) with dev := (on7 (run7 {})).dev.put 0x58300F 6 }, true, bk (run7 {}), tsk, run7 {}, rn (by decide +kernel), by decide +kernel⟩,
   ⟨7, 15, 31, { on7 (run7 {}) with dev := (on7 (run7 {})).dev.put 0x58300F 7 }, true, bk (run7 {}), tsk, run7 {}, rn (by decide +kernel), by decide +kernel⟩,
   ⟨7, 15, 31, base, by decide +kernel⟩,
   ⟨on7 (run7 {}), 7, true, bk (run7 {}), tsk, run7 {}, 131068, 1, rn (by decide +kernel), by decide +kernel⟩,
   ⟨on7 (run7 {}), 7, true, bk (run7 {}), tsk, run7 {}, 131068, 2, rn (by decide +kernel), by decide +kernel⟩,
   ⟨on7 (run7 { s := List.replicate 32 64 }), 7, true, bk (run7 { s := List.replicate 32 64 }), tsk, run7 { s := List.replicate 32 64 }, 130816, 0, 0, 0, 0, 31, 0, 0, 0, rn (by decide +kernel), by decide +kernel⟩,
   ⟨on7 (run7 {}), 7, true, bk (run7 {}), tsk, run7 {}, 130816, 0, 0, 0, 0, 31, 0, 0, 0, rn (by decide +kernel), by decide +kernel⟩,
   ⟨on7 (run7 {}), 7, true, bk (run7 {}), tsk, run7 {}, 130816, 130816, 130816, 0, 0, 0, 31, 30, 0, rn (by decide +kernel), by decide +kernel⟩,
   ⟨on7 (run7 { s := [0, 65] }), 7, true, bk (run7 { s := [0, 65] }), tsk, run7 { s := [0, 65] }, 130816, 130816, 130816, 0, 0, 0, 0, 1, 0, rn (by decide +kernel), by decide +kernel⟩,
   ⟨on7 (run7 {}), 7, true, bk (run7 {}), tsk, run7 {}, 130816, 0, 0, 0, 0, 0, 0, 0, 65535, rn (by decide +kernel), by decide +kernel⟩,
   ⟨on7 (run7 {}), 7, true, bk (run7 {}), tsk, run7 {}, 130816, 7, 0, 0, 0, 0, 0, 0, 65535, rn (by decide +kernel), by decide +kernel⟩,
   ⟨{ on7 (run7 {}) with dev := ((on7 (run7 {})).dev.put 0x607020 3).put 0x612000 65535 }, 7, true, bk (run7 {}), tsk, run7 {}, 130816, 7, 0, 0, 0, 0, 0, 0, 65535, rn (by decide +kernel), by decide +kernel⟩,
   ⟨on7 (run7 {}), 7, 130816, 0, 262144, true, bk (run7 {}), tsk, run7 {}, { name := 1, size := 1048576, place := 2, inherit_ := false, zero := false, align := 64, loc := false, addr := 0x500000 }, rn (by decide +kernel), by decide +kernel⟩⟩

/-- Met by these: the hypotheses of Loader, clause by clause. -/
theorem test_w_Loader :
  (∃ (s : State) (a : Access), s.dev.takesNum a 0x548002 1) ∧
  (∃ (s : State) (a : Access) (b : List Byte), s.dev.takesBytes a 0x548003 b) ∧
  (∃ (s : State) (a : Access), s.dev.takesNum a 0x548004 1) ∧
  (∃ (s : State) (v : Verdict) (o : Nat), s.dev.fac.checking = true) ∧
  (∃ (s : State) (v : Verdict) (c x : Nat), s.dev.fac.checking = true ∧ s.dev.stores = [] ∧ s.dev.checkImage (s.dev.get 0x548000) v s.dev.fac.staged = .error (c, x)) ∧
  (∃ (s : State) (v : Verdict) (i : Image) (t : Dev), s.dev.fac.checking = true ∧ s.dev.get 0x548001 = 0 ∧ s.dev.checkImage (s.dev.get 0x548000) v s.dev.fac.staged = .ok i ∧ s.dev.install (s.dev.get 0x548000) i = .ok t) ∧
  (∃ (s : State) (v : Verdict) (i : Image), s.dev.fac.checking = true ∧ s.dev.stores = [] ∧ s.dev.get 0x548001 = 1 ∧ s.dev.mode = 11 ∧ s.dev.checkImage (s.dev.get 0x548000) v s.dev.fac.staged = .ok i ∧ i.portBad = none ∧ i.size ≤ 163840 - s.dev.bootUsed (s.dev.get 0x548000)) ∧
  (∃ (d : Dev) (e : Nat) (v : Verdict) (b : List Byte) (o : Nat), readImage v b = .error o) ∧
  (∃ (s : State), s.dev.fac.owner.isSome = true ∧ s.dev.fac.chunkAt + 10000000000 ≤ s.dev.now) ∧
  (∃ (s : State), s.dev.now < s.dev.fac.chunkAt + 10000000000) ∧
  (∃ (s : State) (a : Access) (v : Nat), s.dev.takesNum a 0x549300 v) :=
  ⟨⟨st [], spi, num (by decide +kernel)⟩,
   ⟨st [] (fun d => { d with fac := { d.fac with owner := some 0 }, bus := { d.bus with parts := [(0, 0x548003, zeros 768)] } }), { path := .spi, offset := 768, length := (zeros 256).length, data := (zeros 256) }, zeros 1024, byt (by decide +kernel)⟩,
   ⟨st [] (fun d => { d with fac := { d.fac with owner := some 0 } }), spi, num (by decide +kernel)⟩,
   ⟨st [] (fun d => { d with fac := { d.fac with checking := true } }), verdict, 148, by decide +kernel⟩,
   ⟨st [] (fun d => { d with fac := { d.fac with checking := true } }), verdict, 3, 0 ,  ⟨by decide +kernel, by decide +kernel, errIs (by decide +kernel)⟩⟩,
   ⟨st [] (fun d => { d with fac := { d.fac with checking := true, staged := image } }), verdict, read1, (match (st [] (fun d => { d with fac := { d.fac with checking := true, staged := image } })).dev.install 0 read1 with | .ok t => t | .error _ => base) ,  ⟨by decide +kernel, by decide +kernel, okIs (by decide +kernel), okIs (by decide +kernel)⟩⟩,
   ⟨st [(0x110100, 11), (0x548001, 1)] (fun d => { d with fac := { d.fac with checking := true, staged := image } }), verdict, read1 ,  ⟨by decide +kernel, by decide +kernel, by decide +kernel, by decide +kernel, okIs (by decide +kernel), by decide +kernel⟩⟩,
   ⟨base, 7, verdict, [], 0 ,  errIs (by decide +kernel)⟩,
   ⟨st [] (fun d => { d with fac := { d.fac with owner := some 0, chunkAt := base.now - 10000000000 } }), by decide +kernel⟩,
   ⟨st [] (fun d => { d with fac := { d.fac with chunkAt := base.now } }), by decide +kernel⟩,
   ⟨st [(0x110100, 11)], spi, 7, num (by decide +kernel)⟩⟩

/-- Met by these: the hypotheses of PowerChannels, clause by clause. -/
theorem test_w_PowerChannels :
  (∃ (s : State) (a : Access) (n v : Nat), s.dev.takesNum a (pk n 0) v ∧ n < 8 ∧ s.dev.pwrGov n = n) ∧
  (∃ (d : Dev) (n : Nat), d.chState n = 7) ∧
  (∃ (d : Dev) (n : Nat), d.chWanted n = true ∧ d.mustHiz n = false ∧ d.chState n = 0) ∧
  (∃ (d : Dev) (n : Nat), d.chWanted n = true ∧ d.mustHiz n = false ∧ d.chState n = 5) ∧
  (∃ (d : Dev) (n : Nat), d.chWanted n = true ∧ d.mustHiz n = false ∧ d.chState n = 6) ∧
  (∃ (d : Dev) (n : Nat), d.chWanted n = true ∧ d.mustHiz n = false ∧ d.chState n = 2 ∧ d.signalOk n = true) ∧
  (∃ (d : Dev) (n : Nat), d.chWanted n = true ∧ d.mustHiz n = false ∧ d.chState n = 2 ∧ d.signalOk n = false) ∧
  (∃ (d : Dev) (n : Nat), d.chWanted n = true ∧ d.mustHiz n = false ∧ d.chState n = 3 ∧ (d.pch n).stop = false ∧ (d.pch n).ramping = false ∧ d.signalOk n = false) ∧
  (∃ (d : Dev) (n : Nat), d.chWanted n = true ∧ d.mustHiz n = true ∧ d.chState n < 5) ∧
  (∃ (d : Dev) (n : Nat), d.chWanted n = false ∧ (d.chState n = 1 ∨ d.chState n = 2)) ∧
  (∃ (d : Dev) (n : Nat), d.chWanted n = false ∧ (d.chState n = 5 ∨ d.chState n = 6)) ∧
  (∃ (d : Dev) (n : Nat), d.chWanted n = false ∧ d.chState n = 3 ∧ (d.pch n).ramping = false) ∧
  (∃ (s : State) (n t : Nat), n < 8 ∧ (s.dev.pch n).due = some t ∧ t ≤ s.dev.now ∧ s.dev.chState n = 1) ∧
  (∃ (s : State) (n t : Nat), n < 8 ∧ (s.dev.pch n).due = some t ∧ t ≤ s.dev.now ∧ s.dev.chState n = 4) ∧
  (∃ (s : State) (n t : Nat), n < 8 ∧ (s.dev.pch n).due = some t ∧ t ≤ s.dev.now ∧ s.dev.chState n = 3 ∧ (s.dev.pch n).ramping = true ∧ (s.dev.pch n).up = true) ∧
  (∃ (s : State) (n t : Nat), n < 8 ∧ (s.dev.pch n).due = some t ∧ t ≤ s.dev.now ∧ s.dev.chState n = 3 ∧ (s.dev.pch n).ramping = true ∧ (s.dev.pch n).up = false ∧ (s.dev.pch n).stop = true) ∧
  (∃ (s : State) (n t : Nat), n < 8 ∧ (s.dev.pch n).due = some t ∧ t ≤ s.dev.now ∧ s.dev.chState n = 3 ∧ (s.dev.pch n).ramping = true ∧ (s.dev.pch n).up = false ∧ (s.dev.pch n).stop = false) ∧
  (∃ (s : State) (die : Nat), die < 2) ∧
  (∃ (s : State) (a : Access) (v : Nat), s.dev.takesNum a 0x610000 v) ∧
  (∃ (s : State) (a : Access) (n v : Nat), s.dev.takesNum a (pk n 1) v ∧ n < 8) ∧
  (∃ (s : State) (k : Nat), k < 4 ∧ nthD 0 s.dev.pwr.recon k = 2 ∧ s.dev.chSteady (2 * k) = true ∧ s.dev.chSteady (2 * k + 1) = true) ∧
  (∃ (s : State) (k : Nat), (k < 4 ∧ nthD 0 s.dev.pwr.recon k = 1 ∧ s.dev.chState (2 * k) = 0 ∧ s.dev.chState (2 * k + 1) = 0 ∧ s.dev.get (pk (2 * k) 0x0A) = 0 ∧ let x := ({ s.dev with pwr := { s.dev.pwr with pairs := modNth (fun _ => false) s.dev.pwr.pairs k, recon := modNth (fun _ => 2) s.dev.pwr.recon k } } : Dev).pwrSettle; x.chSteady (2 * k) = false ∧ x.pwrGov (2 * k) = 2 * k ∧ True)) ∧
  (∃ (s : State) (n : Nat), n < 8 ∧ (s.dev.pch n).soft = true ∧ (s.dev.pch n).ramping = false ∧ s.dev.chState n = 3 ∧ (s.dev.pch n).stop = false) :=
  ⟨⟨st [], spi, 7, 1, num (by decide +kernel), by decide +kernel⟩,
   ⟨(st [(0x607020, 7)]).dev, 7, by decide +kernel⟩,
   ⟨(st [] (fun d => { d with pwr := { d.pwr with on := true, go := true } })).dev, 7, by decide +kernel⟩,
   ⟨(st [(0x607020, 5)] (fun d => { d with pwr := { d.pwr with on := true, go := true } })).dev, 7, by decide +kernel⟩,
   ⟨(st [(0x607020, 6)] (fun d => { d with pwr := { d.pwr with on := true, go := true } })).dev, 7, by decide +kernel⟩,
   ⟨(st [(0x110100, 6), (0x621000, 3), (0x607020, 2)] (fun d => { d with pwr := { d.pwr with on := true, go := true } })).dev, 7, by decide +kernel⟩,
   ⟨(st [(0x607020, 2)] (fun d => { d with pwr := { d.pwr with on := true, go := true } })).dev, 7, by decide +kernel⟩,
   ⟨(st [(0x607020, 3)] (fun d => { d with pwr := { d.pwr with on := true, go := true } })).dev, 7, by decide +kernel⟩,
   ⟨(st [(0x607020, 4)] (fun d => { d with pwr := { d.pwr with on := true, go := true, chans := modNth (fun c => { c with gate := true }) d.pwr.chans 7 } })).dev, 7, by decide +kernel⟩,
   ⟨(st [(0x607020, 2)]).dev, 7, by decide +kernel⟩,
   ⟨(st [(0x607020, 6)]).dev, 7, by decide +kernel⟩,
   ⟨(st [(0x607020, 3)]).dev, 7, by decide +kernel⟩,
   ⟨st [(0x607020, 1)] (fun d => { d with pwr := { d.pwr with on := true, go := true, chans := modNth (fun c => { c with due := some base.now }) d.pwr.chans 7 } }), 7, base.now, by decide +kernel⟩,
   ⟨st [(0x607020, 4)] (fun d => { d with pwr := { d.pwr with on := true, go := true, chans := modNth (fun c => { c with due := some base.now }) d.pwr.chans 7 } }), 7, base.now, by decide +kernel⟩,
   ⟨st [(0x607020, 3)] (fun d => { d with pwr := { d.pwr with on := true, go := true, chans := modNth (fun c => { c with due := some base.now, ramping := true, up := true }) d.pwr.chans 7 } }), 7, base.now, by decide +kernel⟩,
   ⟨st [(0x607020, 3)] (fun d => { d with pwr := { d.pwr with on := true, go := true, chans := modNth (fun c => { c with due := some base.now, ramping := true, up := false, stop := true }) d.pwr.chans 7 } }), 7, base.now, by decide +kernel⟩,
   ⟨st [(0x607020, 3)] (fun d => { d with pwr := { d.pwr with on := true, go := true, chans := modNth (fun c => { c with due := some base.now, ramping := true, up := false, stop := false }) d.pwr.chans 7 } }), 7, base.now, by decide +kernel⟩,
   ⟨st [], 1, by decide +kernel⟩,
   ⟨st [], spi, 1, num (by decide +kernel)⟩,
   ⟨st [], spi, 7, 4000, num (by decide +kernel), by decide +kernel⟩,
   ⟨st [] (fun d => { d with pwr := { d.pwr with recon := [0, 0, 0, 2] } }), 3, by decide +kernel⟩,
   ⟨st [] (fun d => { d with pwr := { d.pwr with on := true, go := true, recon := [0, 0, 0, 1] } }), 3, by decide +kernel⟩,
   ⟨st [(0x607020, 3)] (fun d => { d with pwr := { d.pwr with on := true, go := true, chans := modNth (fun c => { c with soft := true }) d.pwr.chans 7 } }), 7, by decide +kernel⟩⟩

/-- Met by these: the hypotheses of PowerFaults, clause by clause. -/
theorem test_w_PowerFaults :
  (∃ (s : State) (n : Nat), n < 8 ∧ s.dev.chDriven n = true ∧ s.dev.chState (s.dev.pwrGov n) ≠ 3) ∧
  (∃ (s : State) (n : Nat), n < 8 ∧ s.dev.chDriven n = true ∧ s.dev.get (pk (s.dev.pwrGov n) 5) ≠ 0) ∧
  (∃ (s : State) (n : Nat), s.dev.chDriven n = false) ∧
  (∃ (d : Dev) (n i : Nat), n < 8 ∧ n < d.pwr.chans.length ∧ d.pwrGov n = n ∧ d.chWanted n = true ∧ i < 16 ∧ d.retries n < 8) ∧
  (∃ (d : Dev) (n i : Nat), n < 8 ∧ n < d.pwr.chans.length ∧ d.pwrGov n = n ∧ d.chWanted n = true ∧ i < 16 ∧ 8 ≤ d.retries n) ∧
  (∃ (s : State) (u : Nat), u < 8 ∧ s.dev.pwr.on = true ∧ (s.dev.pch u).gate = false ∧ s.dev.chDriven u = true) ∧
  (∃ (s : State) (p : Nat), p < 4 ∧ s.dev.pwr.on = true ∧ bit s.dev.bst.gates p = false) ∧
  (∃ (s : State) (u : Nat), u < 8 ∧ (s.dev.pch u).gate = true) ∧
  (∃ (s : State) (p : Nat), p < 4 ∧ bit s.dev.bst.gates p = true) ∧
  (∃ (s : State), s.dev.pwr.on = true ∧ s.dev.pwr.ov = false ∧ s.dev.boostState = 0 ∧ (∀ n < 8, s.dev.chDriven n = false ∧ s.dev.chState n ≠ 5)) ∧
  (∃ (s : State), s.dev.pwr.ov = true ∧ s.dev.boostState ≠ 6) ∧
  (∃ (s : State), (s.dev.pwr.on = true ∧ s.dev.pwr.ov = false ∧ s.dev.boostState ≠ 0 ∧ let y := ({ s.dev with pwr := { s.dev.pwr with ov := true } } : Dev).raise 77; let x := y.pwrOwn.foldl (fun (d : Dev) n => d.chFaultIf n 7 false (d.chDriven n || d.chState n = 5)) y; x.boostState ≠ 0 ∧ x.boostState ≠ 7 ∧ True)) ∧
  (∃ (s : State) (n t : Nat), n < 8 ∧ (s.dev.pch n).retryAt = some t ∧ t ≤ s.dev.now ∧ s.dev.chState n = 6 ∧ s.dev.chWanted n = true ∧ s.dev.mustHiz n = false) ∧
  (∃ (s : State) (a : Access) (n : Nat), s.dev.takesNum a (pk n 0x25) 1 ∧ n < 8 ∧ s.dev.get (pk n 0x24) = 0) ∧
  (∃ (s : State) (a : Access) (n : Nat), s.dev.takesNum a (pk n 0x25) 1 ∧ n < 8 ∧ s.dev.get (pk n 0x24) = 1) ∧
  (∃ (s : State) (die : Nat) (t : Int), die < 2 ∧ s.dev.pwr.on = true ∧ t < 160000 ∧ 140000 ≤ t ∧ s.dev.bitOf (key 0x6105 die) 0 = true) ∧
  (∃ (s : State) (die : Nat) (t : Int), die < 2 ∧ s.dev.pwr.on = true ∧ 160000 ≤ t ∧ s.dev.bitOf (key 0x6105 die) 0 = true ∧ s.dev.bitOf (key 0x6105 die) 1 = false) :=
  ⟨⟨st [(0x607020, 1)], 7, by decide +kernel⟩,
   ⟨st [(0x607020, 3), (0x607005, 1)], 7, by decide +kernel⟩,
   ⟨st [], 7, by decide +kernel⟩,
   ⟨(st [] (fun d => { d with pwr := { d.pwr with on := true, go := true } })).dev, 7, 15, by decide +kernel⟩,
   ⟨(st [] (fun d => { d with pwr := { d.pwr with on := true, go := true, chans := modNth (fun c => { c with retries := List.replicate 8 base.now }) d.pwr.chans 7 } })).dev, 7, 15, by decide +kernel⟩,
   ⟨st [(0x607020, 3)] (fun d => { d with pwr := { d.pwr with on := true, go := true } }), 7, by decide +kernel⟩,
   ⟨st [] (fun d => { d with pwr := { d.pwr with on := true, go := true } }), 3, by decide +kernel⟩,
   ⟨st [] (fun d => { d with pwr := { d.pwr with on := true, go := true, chans := modNth (fun c => { c with gate := true }) d.pwr.chans 7 } }), 7, by decide +kernel⟩,
   ⟨st [] (fun d => { d with bst := { d.bst with gates := 8 } }), 3, by decide +kernel⟩,
   ⟨st [] (fun d => { d with pwr := { d.pwr with on := true, go := true } }), by decide +kernel⟩,
   ⟨st [] (fun d => { d with pwr := { d.pwr with ov := true } }), by decide +kernel⟩,
   ⟨st [(0x621000, 4)] (fun d => { d with pwr := { d.pwr with on := true, go := true } }), by decide +kernel⟩,
   ⟨st [(0x607020, 6)] (fun d => { d with pwr := { d.pwr with on := true, go := true, chans := modNth (fun c => { c with retryAt := some base.now }) d.pwr.chans 7 } }), 7, base.now, by decide +kernel⟩,
   ⟨st [], spi, 7, num (by decide +kernel), by decide +kernel⟩,
   ⟨st [(0x607024, 1), (0x607020, 7)], spi, 7, num (by decide +kernel), by decide +kernel⟩,
   ⟨st [(0x610501, 1)] (fun d => { d with pwr := { d.pwr with on := true, go := true } }), 1, 159999, by decide +kernel⟩,
   ⟨st [(0x610501, 1)] (fun d => { d with pwr := { d.pwr with on := true, go := true } }), 1, 160000, by decide +kernel⟩⟩

/-- Met by these: the hypotheses of PowerLimits, clause by clause. -/
theorem test_w_PowerLimits :
  (∃ (s : State) (powers : List Int) (vin pvdd iin : Nat), s.dev.pwr.on = true ∧ vin < 65536 ∧ pvdd < 65536 ∧ iin < 65536) ∧
  (∃ (s : State) (powers : List Int) (vin pvdd iin : Nat), s.dev.pwr.on = false) ∧
  (∃ (p : Int) (cont peak x : Nat) (c : PwrCh), c.g ≤ 1000000000 ∧ p ≤ min cont peak) ∧
  (∃ (p : Int) (cont peak x : Nat) (c : PwrCh), c.g ≤ 1000000000 ∧ (max cont peak : Nat) < p) ∧
  (∃ (s : State) (n mag : Nat) (phase : Int) (valid : Bool), n < 8 ∧ s.dev.pwrGov n = n ∧ s.dev.pwr.on = true ∧ (valid = false ∨ s.dev.chState n ≠ 3)) ∧
  (∃ (s : State) (n mag : Nat) (phase : Int), n < 8 ∧ s.dev.pwrGov n = n ∧ s.dev.pwr.on = true ∧ s.dev.chState n = 3 ∧ s.dev.bitOf 0x612000 (8 + n) = true ∧ s.dev.get (zk n 5) = 0 ∧ mag < 2 ^ 32) ∧
  (∃ (s : State) (n mag : Nat) (phase : Int), n < 8 ∧ s.dev.pwrGov n = n ∧ s.dev.pwr.on = true ∧ s.dev.chState n = 3 ∧ s.dev.bitOf 0x612000 n = true ∧ 100 * s.dev.get 0x612100 < 47 * s.dev.fs ∧ mag < 2 ^ 32) ∧
  (∃ (s : State) (a : Access) (n : Nat), s.dev.takesNum a (zk n 8) 1 ∧ n < 8) :=
  ⟨⟨st [] (fun d => { d with pwr := { d.pwr with on := true, go := true } }), [], 65535, 65535, 65535, by decide +kernel⟩,
   ⟨st [], [], 0, 0, 0, by decide +kernel⟩,
   ⟨10, 20, 10, 0, { g := 1000000000 }, by decide +kernel⟩,
   ⟨21, 20, 10, 0, { g := 1000000000 }, by decide +kernel⟩,
   ⟨st [(0x607020, 3)] (fun d => { d with pwr := { d.pwr with on := true, go := true } }), 7, 0, 0, false, by decide +kernel⟩,
   ⟨st [(0x607020, 3), (0x612000, 0x8000)] (fun d => { d with pwr := { d.pwr with on := true, go := true } }), 7, 4294967295, 0, by decide +kernel⟩,
   ⟨st [(0x607020, 3), (0x612000, 0x80)] (fun d => { d with pwr := { d.pwr with on := true, go := true } }), 7, 4294967295, 0, by decide +kernel⟩,
   ⟨st [(0x613704, 2)], spi, 7, num (by decide +kernel), by decide +kernel⟩⟩

/-- Met by these: the hypotheses of BoostSupply, clause by clause. -/
theorem test_w_BoostSupply :
  (∃ (s : State), s.dev.fac.envQ = []) ∧
  (∃ (s : State) (n k b e : Nat) (rest : List (Nat × Nat × Nat × Nat)), (s.dev.fac.envQ = (n, k, b, e) :: rest ∧ n < 8 ∧ s.dev.boostState ≠ 0 ∧ let x := ({ s.dev with fac := { s.dev.fac with envQ := rest } } : Dev).prune; let y : Dev := { x with bst := { x.bst with recs := modNth (fun l => if l.length ≥ 512 then recMerge e l else recInsert (k, k + b - 1, e) l) x.bst.recs n, await := x.bst.await.filter (fun m => m != n) } }; y.needOf n e ≤ y.bst.cmd + y.riseTo k ∧ True)) ∧
  (∃ (s : State) (n k b e : Nat) (rest : List (Nat × Nat × Nat × Nat)), (s.dev.fac.envQ = (n, k, b, e) :: rest ∧ n < 8 ∧ s.dev.boostState ≠ 0 ∧ let x := ({ s.dev with fac := { s.dev.fac with envQ := rest } } : Dev).prune; let y : Dev := { x with bst := { x.bst with recs := modNth (fun l => if l.length ≥ 512 then recMerge e l else recInsert (k, k + b - 1, e) l) x.bst.recs n, await := x.bst.await.filter (fun m => m != n) } }; y.bst.cmd + y.riseTo k < y.needOf n e ∧ y.bst.ev83 = none ∧ True)) ∧
  (∃ (s : State) (vin pvdd iin : Nat), (s.dev.boostState < 2 ∨ 4 < s.dev.boostState)) ∧
  (∃ (s : State) (vin pvdd iin : Nat), (s.dev.boostState = 3 ∨ s.dev.boostState = 4)) ∧
  (∃ (s : State), s.dev.switching = true ∧ s.dev.bflag 4 = false) ∧
  (∃ (s : State), (s.dev.switching = false ∨ s.dev.bflag 4 = true)) ∧
  (∃ (s : State) (pvdd vin : Nat), (s.dev.boostState = 1 ∧ vin ≤ pvdd + 300 ∧ let x := ({ s.dev with bst := { s.dev.bst with pvdd := pvdd, vin := vin } } : Dev); (x.setCmd x.railMin).bypassOk vin = true ∧ True)) ∧
  (∃ (s : State) (pvdd vin : Nat), (s.dev.boostState = 1 ∧ vin ≤ pvdd + 300 ∧ let x := ({ s.dev with bst := { s.dev.bst with pvdd := pvdd, vin := vin } } : Dev); (x.setCmd x.railMin).bypassOk vin = false ∧ True)) ∧
  (∃ (s : State) (pvdd vin : Nat), s.dev.boostState = 1 ∧ pvdd + 300 < vin) ∧
  (∃ (s : State) (t : Nat), s.dev.bst.restartAt = some t ∧ t ≤ s.dev.now ∧ s.dev.boostState = 6 ∧ 4 ≤ s.dev.bst.shorts.length) ∧
  (∃ (s : State) (t : Nat), s.dev.bst.restartAt = some t ∧ t ≤ s.dev.now ∧ s.dev.boostState = 6 ∧ s.dev.bst.shorts.length < 4 ∧ s.dev.cause 1 = false ∧ s.dev.cause 2 = false) ∧
  (∃ (s : State) (p : Nat), p < 4 ∧ s.dev.switching = true ∧ 2 ≤ bitsSet (fld (s.dev.get kBoostStatus) 9 6) ∧ bit (fld (s.dev.get kBoostStatus) 9 6) p = true) ∧
  (∃ (s : State) (a : Access), s.dev.takesNum a 0x621104 1 ∧ s.dev.pwr.on = true ∧ s.dev.boostState = 7 ∧ s.dev.pwr.ov = false ∧ s.dev.bst.disabled = 0 ∧ s.dev.cause 1 = false ∧ s.dev.cause 2 = false) ∧
  (∃ (s : State) (a : Access), s.dev.takesNum a 0x621104 0) ∧
  (∃ (d : Dev) (st : Nat), d.boostState = st) ∧
  (∃ (d : Dev) (st : Nat), st < 8) :=
  ⟨⟨st [], by decide +kernel⟩,
   ⟨{ st [(0x621000, 4)] with dev := { (st [(0x621000, 4)]).dev with fac := { base.fac with envQ := [(7, 48100, 64, 0)] }, bst := { base.bst with cmd := 60000000 } } }, 7, 48100, 64, 0, [], by decide +kernel⟩,
   ⟨{ st [(0x621000, 4)] with dev := { (st [(0x621000, 4)]).dev with fac := { base.fac with envQ := [(7, 0, 64, 65535)] } } }, 7, 0, 64, 65535, [], by decide +kernel⟩,
   ⟨st [(0x621000, 5)], 1, 2, 3, by decide +kernel⟩,
   ⟨st [(0x621000, 4)], 1, 2, 3, by decide +kernel⟩,
   ⟨st [(0x621000, 2)], by decide +kernel⟩,
   ⟨st [(0x621000, 3)], by decide +kernel⟩,
   ⟨st [(0x621000, 1), (0x620203, 1)], 2700, 3000, by decide +kernel⟩,
   ⟨st [(0x621000, 1), (0x620203, 0)], 2700, 3000, by decide +kernel⟩,
   ⟨st [(0x621000, 1)], 2699, 3000, by decide +kernel⟩,
   ⟨st [(0x621000, 6)] (fun d => { d with bst := { d.bst with restartAt := some base.now, shorts := [0, 0, 0, 0] } }), base.now, by decide +kernel⟩,
   ⟨st [(0x621000, 6)] (fun d => { d with bst := { d.bst with restartAt := some base.now, shorts := [0, 0, 0] } }), base.now, by decide +kernel⟩,
   ⟨st [(0x621000, 4), (0x621001, 0x3C0)], 3, by decide +kernel⟩,
   ⟨st [(0x621000, 7)] (fun d => { d with pwr := { d.pwr with on := true, go := true } }), spi, num (by decide +kernel), by decide +kernel⟩,
   ⟨st [], spi, num (by decide +kernel)⟩,
   ⟨(st [(0x621000, 7)]).dev, 7, by decide +kernel⟩,
   ⟨base, 7, by decide +kernel⟩⟩

/-- Met by these: the hypotheses of HeadphoneJack, clause by clause. -/
theorem test_w_HeadphoneJack :
  (∃ (s : State) (a : Access) (v : Nat), s.dev.takesNum a 0x450000 v) ∧
  (∃ (s : State) (a : Access) (v : Nat), s.dev.takesNum a 0x451000 v) ∧
  (∃ (d : Dev) (o : Nat), d.outState o = 0 ∧ d.outWanted o = true) ∧
  (∃ (d : Dev) (o : Nat), d.outState o = 0 ∧ d.outWanted o = false) ∧
  (∃ (d : Dev) (o : Nat), d.outState o = 2 ∧ d.outWanted o = true) ∧
  (∃ (d : Dev) (o : Nat), d.outState o = 2 ∧ d.outWanted o = false) ∧
  (∃ (s : State) (o : Nat), o < 2 ∧ s.dev.outState o = 1 ∧ (s.dev.outCh o).retry = false ∧ (s.dev.outCh o).since + (if o = 0 then 7000000 else 26000000) ≤ s.dev.now) ∧
  (∃ (s : State) (o : Nat), o < 2 ∧ s.dev.outState o = 3 ∧ (s.dev.outCh o).since + (if o = 0 then 6000000 else 26000000) ≤ s.dev.now) ∧
  (∃ (s : State) (a : Access) (v : Nat), s.dev.takesNum a 0x450001 v ∧ s.dev.get 0x450001 ≠ v ∧ s.dev.outState 0 = 2) ∧
  (∃ (d : Dev) (o : Nat) (l r : Int), o < 2 ∧ o < d.hp.outs.length ∧ (d.outCh o).vols = [l, r]) ∧
  (∃ (s : State) (o : Nat), o < 2 ∧ s.dev.outState o = 2) ∧
  (∃ (s : State) (o t : Nat), o < 2 ∧ (s.dev.outCh o).retryAt = some t ∧ t ≤ s.dev.now ∧ s.dev.outState o = 4) ∧
  (∃ (s : State) (raw : Nat), raw < 4 ∧ s.dev.sup.resetLow = false ∧ s.dev.sup.vinDown = false ∧ s.dev.jackOn = true ∧ (s.dev.put 0x452002 raw).jackAbsent = true ∧ s.dev.get 0x452001 = 2 ∧ s.dev.outState 0 = 2) ∧
  (∃ (s : State) (raw : Nat), raw < 4 ∧ s.dev.sup.resetLow = false ∧ s.dev.sup.vinDown = false ∧ s.dev.jackOn = true ∧ (s.dev.put 0x452002 raw).jackAbsent = false ∧ s.dev.get 0x452001 = 3) ∧
  (∃ (s : State) (raw : Nat), raw < 4 ∧ s.dev.sup.resetLow = false ∧ s.dev.sup.vinDown = false ∧ s.dev.jackOn = true ∧ s.dev.jackIn = false ∧ s.dev.bitOf 0x452000 5 = false ∧ s.dev.mode ≠ 2 ∧ s.dev.mode ≠ 3) ∧
  (∃ (s : State) (raw : Nat), raw < 4 ∧ s.dev.sup.resetLow = false ∧ s.dev.sup.vinDown = false ∧ s.dev.jackOn = true ∧ (s.dev.put 0x452002 raw).jackAbsent = true ∧ s.dev.get 0x452001 = 3 ∧ s.dev.get 0x452003 = 0 ∧ s.dev.hp.biasJack = false ∧ s.dev.outState 0 = 0 ∧ s.dev.mode ≠ 2 ∧ s.dev.mode ≠ 3) ∧
  (∃ (s : State) (t ua : Nat), (s.dev.hp.ident = some t ∧ t + 30000000 ≤ s.dev.now ∧ let x := ({ s.dev with hp := { s.dev.hp with ident := none } } : Dev); s.dev.get 0x452100 ≤ ua ∧ True)) ∧
  (∃ (s : State) (t ua : Nat), (s.dev.hp.ident = some t ∧ t + 30000000 ≤ s.dev.now ∧ let x := ({ s.dev with hp := { s.dev.hp with ident := none } } : Dev); ua < s.dev.get 0x452100 ∧ ua < s.dev.get 0x452103 ∧ True)) ∧
  (∃ (s : State) (t ua : Nat), (s.dev.hp.ident = some t ∧ t + 30000000 ≤ s.dev.now ∧ let x := ({ s.dev with hp := { s.dev.hp with ident := none } } : Dev); ua < s.dev.get 0x452100 ∧ s.dev.get 0x452103 ≤ ua ∧ True)) ∧
  (∃ (s : State) (ua : Nat), s.dev.get 0x452003 = 3 ∧ s.dev.hp.biasJack = true ∧ s.dev.get 0x452004 = 0 ∧ s.dev.get 0x452100 ≤ ua) ∧
  (∃ (s : State) (ua : Nat), s.dev.get 0x452003 = 3 ∧ s.dev.hp.biasJack = true ∧ s.dev.get 0x452004 = 0 ∧ ua < s.dev.get 0x452100 ∧ s.dev.get 0x452101 ≤ ua) ∧
  (∃ (s : State) (ua : Nat), s.dev.get 0x452003 = 3 ∧ s.dev.hp.biasJack = true ∧ s.dev.get 0x452004 = 0 ∧ ua < s.dev.get 0x452100 ∧ ua < s.dev.get 0x452101 ∧ s.dev.get 0x452102 ≤ ua) ∧
  (∃ (s : State) (ua : Nat), s.dev.get 0x452003 = 3 ∧ s.dev.hp.biasJack = true ∧ s.dev.get 0x452004 = 0 ∧ ua < s.dev.get 0x452100 ∧ ua < s.dev.get 0x452101 ∧ ua < s.dev.get 0x452102) :=
  ⟨⟨st [], spi, 1, num (by decide +kernel)⟩,
   ⟨st [], spi, 1, num (by decide +kernel)⟩,
   ⟨(st [(0x451000, 1)]).dev, 1, by decide +kernel⟩,
   ⟨base, 1, by decide +kernel⟩,
   ⟨(st [(0x451000, 1), (0x451004, 2)]).dev, 1, by decide +kernel⟩,
   ⟨(st [(0x451004, 2)]).dev, 1, by decide +kernel⟩,
   ⟨st [(0x451004, 1)] (fun d => { d with hp := { d.hp with outs := modNth (fun c => { c with since := base.now - 26000000 }) d.hp.outs 1 } }), 1, by decide +kernel⟩,
   ⟨st [(0x451004, 3)] (fun d => { d with hp := { d.hp with outs := modNth (fun c => { c with since := base.now - 26000000 }) d.hp.outs 1 } }), 1, by decide +kernel⟩,
   ⟨st [(0x450004, 2)], spi, 1, num (by decide +kernel), by decide +kernel⟩,
   ⟨base, 1, 0, 0, by decide +kernel⟩,
   ⟨st [(0x451004, 2)], 1, by decide +kernel⟩,
   ⟨st [(0x451004, 4)] (fun d => { d with hp := { d.hp with outs := modNth (fun c => { c with retryAt := some base.now }) d.hp.outs 1 } }), 1, base.now, by decide +kernel⟩,
   ⟨st [(0x452000, 3), (0x452001, 2), (0x450004, 2)], 1, by decide +kernel⟩,
   ⟨st [(0x452000, 3), (0x452001, 3)], 3, by decide +kernel⟩,
   ⟨st [(0x452000, 3)], 3, by decide +kernel⟩,
   ⟨st [(0x452000, 3), (0x452001, 3)], 0, by decide +kernel⟩,
   ⟨st [(0x452100, 500)] (fun d => { d with hp := { d.hp with ident := some (base.now - 30000000) } }), base.now - 30000000, 500, by decide +kernel⟩,
   ⟨st [(0x452100, 500), (0x452103, 100)] (fun d => { d with hp := { d.hp with ident := some (base.now - 30000000) } }), base.now - 30000000, 99, by decide +kernel⟩,
   ⟨st [(0x452100, 500), (0x452103, 100)] (fun d => { d with hp := { d.hp with ident := some (base.now - 30000000) } }), base.now - 30000000, 499, by decide +kernel⟩,
   ⟨st [(0x452003, 3), (0x452100, 500), (0x452101, 300), (0x452102, 200)] (fun d => { d with hp := { d.hp with biasJack := true } }), 500, by decide +kernel⟩,
   ⟨st [(0x452003, 3), (0x452100, 500), (0x452101, 300), (0x452102, 200)] (fun d => { d with hp := { d.hp with biasJack := true } }), 499, by decide +kernel⟩,
   ⟨st [(0x452003, 3), (0x452100, 500), (0x452101, 300), (0x452102, 200)] (fun d => { d with hp := { d.hp with biasJack := true } }), 299, by decide +kernel⟩,
   ⟨st [(0x452003, 3), (0x452100, 500), (0x452101, 300), (0x452102, 200)] (fun d => { d with hp := { d.hp with biasJack := true } }), 199, by decide +kernel⟩⟩

/-- Met by these: the hypotheses of AuxOutputs, clause by clause. -/
theorem test_w_AuxOutputs :
  (∃ (s : State) (a : Access) (c v : Nat), s.dev.takesNum a (ak c 0) v ∧ c < 8 ∧ (s.dev.auxCh c).fresh = false ∧ (s.dev.auxCh c).pend = none ∧ (s.dev.auxCh c).range = v) ∧
  (∃ (s : State) (a : Access) (c v : Nat), s.dev.takesNum a (ak c 0) v ∧ c < 8 ∧ ((s.dev.auxCh c).fresh = true ∨ (s.dev.auxCh c).pend ≠ none ∨ (s.dev.auxCh c).range ≠ v)) ∧
  (∃ (s : State) (a : Access) (v : Nat), s.dev.takesNum a 0x460000 v ∧ v < 16) ∧
  (∃ (s : State), s.dev.sup.resetLow = false ∧ s.dev.sup.vinDown = false) ∧
  (∃ (d : Dev) (g c : Nat), g < 4 ∧ c < 8 ∧ c < d.aux.chans.length ∧ d.get (ak c 3) = g ∧ d.auxRuns = true ∧ d.aux.clearN = false ∧ (d.auxCh c).fresh = false ∧ (d.auxCh c).pend = none) ∧
  (∃ (d : Dev) (c : Nat), c < 6 ∧ c < d.aux.chans.length ∧ d.get (ak c 2) = 0) ∧
  (∃ (d : Dev), (∀ c < 8, d.auxDue c = false)) ∧
  (∃ (s : State), s.dev.aux.clearN = true) ∧
  (∃ (s : State), s.dev.aux.clearN = false) ∧
  (∃ (d : Dev) (c : Nat), c < 8 ∧ c < d.aux.chans.length ∧ d.aux.clearN = true) ∧
  (∃ (s : State) (c : Nat), c < 8 ∧ s.dev.ready 24 = true ∧ s.dev.auxDriven c ≠ 0 ∧ s.dev.bitOf (ak c 0x0A) 2 = false ∧ s.dev.bitOf 0x460003 c = false) ∧
  (∃ (s : State) (c : Nat), c < 8 ∧ s.dev.bitOf (ak c 0x0A) 2 = true) ∧
  (∃ (s : State) (a : Access), s.dev.reads a 0x460003 ∧ a.staged = false ∧ s.dev.sup.coreOn = true) ∧
  (∃ (s : State) (c t : Nat), c < 8 ∧ s.dev.get (ak c 3) = 4 ∧ (s.dev.auxCh c).pend = some t ∧ t ≤ s.dev.now ∧ s.dev.auxRuns = true ∧ s.dev.aux.clearN = false ∧ (s.dev.auxCh c).fresh = false) ∧
  (∃ (s : State) (a : Access) (w v : Nat), s.dev.takesNum a (wk w 0) v ∧ w < 2) ∧
  (∃ (s : State) (a : Access) (w p : Nat) (b : List Byte), s.dev.takesBytes a (wk w 5) b ∧ w < 2 ∧ nthD none s.dev.aux.waves w = some p) ∧
  (∃ (s : State) (a : Access) (w : Nat), s.dev.takesNum a (wk w 6) 1 ∧ w < 2) ∧
  (∃ (s : State) (w : Nat), w < 2 ∧ (s.dev.auxCh (6 + w)).source = 2 ∧ (s.dev.auxCh (6 + w)).play = true ∧ (s.dev.auxCh (6 + w)).mode = 1 ∧ (s.dev.auxCh (6 + w)).ended = true ∧ s.dev.bitOf (ak (6 + w) 0x0A) 5 = false) :=
  ⟨⟨st [] (fun d => { d with aux := { d.aux with chans := modNth (fun c => { c with fresh := false, range := 4 }) d.aux.chans 7 } }), spi, 7, 4, num (by decide +kernel), by decide +kernel⟩,
   ⟨st [], spi, 7, 4, num (by decide +kernel), by decide +kernel⟩,
   ⟨st [], spi, 15, num (by decide +kernel), by decide +kernel⟩,
   ⟨st [], by decide +kernel⟩,
   ⟨(st [(0x461703, 3)] (fun d => { d with aux := { d.aux with chans := modNth (fun c => { c with fresh := false }) d.aux.chans 7 } })).dev, 3, 7, by decide +kernel⟩,
   ⟨(st []).dev, 5, by decide +kernel⟩,
   ⟨base, by decide +kernel⟩,
   ⟨st [] (fun d => { d with aux := { d.aux with clearN := true } }), by decide +kernel⟩,
   ⟨st [], by decide +kernel⟩,
   ⟨(st [] (fun d => { d with aux := { d.aux with clearN := true } })).dev, 7, by decide +kernel⟩,
   ⟨st [(0x461709, 4)], 7, by decide +kernel⟩,
   ⟨st [(0x46170A, 4)], 7, by decide +kernel⟩,
   ⟨st [], spi, rd (by decide +kernel), by decide +kernel⟩,
   ⟨st [] (fun d => { d with aux := { d.aux with chans := modNth (fun c => { c with fresh := false, pend := some base.now }) d.aux.chans 7 } }), 7, base.now, by decide +kernel⟩,
   ⟨st [], spi, 1, 65536, num (by decide +kernel), by decide +kernel⟩,
   ⟨{ st [] with dev := { (st [(0x462100, 65536)]).dev with aux := { base.aux with waves := [none, some 0] }, bus := { base.bus with parts := [(0, 0x462105, zeros 768)] } } }, { path := .spi, offset := 768, length := 256, data := zeros 256 }, 1, 0, zeros 1024, byt (by decide +kernel), by decide +kernel⟩,
   ⟨st [], spi, 1, num (by decide +kernel), by decide +kernel⟩,
   ⟨st [] (fun d => { d with aux := { d.aux with chans := modNth (fun c => { c with source := 2, play := true, mode := 1, ended := true }) d.aux.chans 7 } }), 1, by decide +kernel⟩⟩

/-- Met by these: the hypotheses of HouseKeeping, clause by clause. -/
theorem test_w_HouseKeeping :
  (∃ (s : State) (a : Access), s.dev.takesNum a 0x630001 1 ∧ s.dev.get 0x631000 = 1 ∧ s.dev.hka.pass = none ∧ s.dev.hka.again = false ∧ s.dev.hka.calAt = none) ∧
  (∃ (s : State) (a : Access), s.dev.takesNum a 0x630001 1 ∧ s.dev.get 0x631000 = 1 ∧ s.dev.hka.pass ≠ none) ∧
  (∃ (s : State) (a : Access), s.dev.takesNum a 0x630001 1 ∧ s.dev.get 0x631000 = 0) ∧
  (∃ (s : State) (a : Access) (q : Nat), s.dev.takesNum a 0x630002 1 ∧ s.dev.hka.conv = some (.seq q)) ∧
  (∃ (s : State) (a : Access), s.dev.takesNum a 0x630002 1 ∧ s.dev.hka.conv = none) ∧
  (∃ (s : State), (s.dev.get 0x631000 = 3 ∧ s.dev.hka.active = true ∧ s.dev.hkaRuns = true ∧ s.dev.time64 / (s.dev.get 0x631001 * 1000) ≠ s.dev.hka.trig ∧ let x := s.dev.modHka (fun h => { h with trig := s.dev.time64 / (s.dev.get 0x631001 * 1000) }); s.dev.hka.pass = none ∧ s.dev.hka.calAt = none ∧ True)) ∧
  (∃ (s : State), (s.dev.get 0x631000 = 3 ∧ s.dev.hka.active = true ∧ s.dev.hkaRuns = true ∧ s.dev.time64 / (s.dev.get 0x631001 * 1000) ≠ s.dev.hka.trig ∧ let x := s.dev.modHka (fun h => { h with trig := s.dev.time64 / (s.dev.get 0x631001 * 1000) }); s.dev.hka.pass ≠ none ∧ True)) ∧
  (∃ (s : State) (q raw input acq : Nat), raw < 65536 ∧ s.dev.hkaRuns = true ∧ s.dev.hka.conv = some (.seq q) ∧ s.dev.entry q = (input, acq, 0) ∧ s.dev.hka.void = false ∧ s.dev.hka.done = 0 ∧ s.dev.hka.sum = 0 ∧ s.dev.hka.flags = 0 ∧ s.dev.hka.out = false ∧ s.dev.hka.stop = false ∧ q + 1 < s.dev.get 0x631200 ∧ input ≠ 23) ∧
  (∃ (s : State) (raw m : Nat), raw < 65536 ∧ s.dev.hkaRuns = true ∧ s.dev.hka.conv = some (.monitor m) ∧ m < 4 ∧ s.dev.hka.out = false) ∧
  (∃ (s : State) (raw input acq : Nat), raw < 65536 ∧ s.dev.hkaRuns = true ∧ s.dev.hka.conv = some (.urgent input acq) ∧ input ≠ 23 ∧ s.dev.hka.out = false) ∧
  (∃ (s : State) (raw : Nat) (o u : Bool), (s.dev.hka.conv = none ∨ s.dev.hkaRuns = false)) ∧
  (∃ (s : State), s.dev.hkaRuns = true ∧ (s.dev.time64 + 25000) / 50000 ≠ s.dev.hka.mon) ∧
  (∃ (s : State) (a : Access) (v q : Nat), s.dev.takesNum a 0x635000 v ∧ v &&& 0xFF1F = v ∧ s.dev.hka.conv = some (.seq q) ∧ s.dev.hka.void = false ∧ s.dev.hka.stop = false) ∧
  (∃ (s : State) (a : Access) (v : Nat), s.dev.takesNum a 0x635000 v ∧ v &&& 0xFF1F = v ∧ s.dev.hka.conv = none ∧ s.dev.hka.calAt = none) ∧
  (∃ (s : State) (a : Access), s.dev.takesNum a 0x634000 1 ∧ s.dev.hka.conv = none ∧ s.dev.hka.urgent = none ∧ s.dev.hka.mons = []) ∧
  (∃ (s : State) (t : Nat) (o : Int) (g : Nat), s.dev.hka.calAt = some t ∧ t + 3200000 ≤ s.dev.now ∧ s.dev.hka.again = false ∧ -256 ≤ o ∧ o ≤ 256 ∧ 32113 ≤ g ∧ g ≤ 33423) ∧
  (∃ (s : State) (t : Nat) (o : Int) (g : Nat), s.dev.hka.calAt = some t ∧ t + 3200000 ≤ s.dev.now ∧ s.dev.hka.again = false ∧ (o < -256 ∨ 256 < o ∨ g < 32113 ∨ 33423 < g)) ∧
  (∃ (s : State) (a : Access) (q : Nat), s.dev.reads a (key 0x6320 q) ∧ q < 32 ∧ a.staged = false ∧ s.dev.sup.coreOn = true) ∧
  (∃ (s : State) (a : Access), s.dev.reads a 0x632300 ∧ a.staged = false ∧ s.dev.sup.coreOn = true) ∧
  (∃ (d : Dev) (q x : Nat), (x < fld (d.get (key 0x6322 q)) 15 0 ∨ fld (d.get (key 0x6322 q)) 31 16 < x) ∧ d.bitOf 0x632300 q = false) :=
  ⟨⟨st [(0x631000, 1)], spi, num (by decide +kernel), by decide +kernel⟩,
   ⟨st [(0x631000, 1)] (fun d => { d with hka := { d.hka with pass := some 0 } }), spi, num (by decide +kernel), by decide +kernel⟩,
   ⟨st [(0x631000, 0)], spi, num (by decide +kernel), by decide +kernel⟩,
   ⟨st [] (fun d => { d with hka := { d.hka with conv := some (.seq 31) } }), spi, 31, num (by decide +kernel), by decide +kernel⟩,
   ⟨st [], spi, num (by decide +kernel), by decide +kernel⟩,
   ⟨st [(0x631000, 3), (0x631001, 1000)] (fun d => { d with hka := { d.hka with active := true } }), by decide +kernel⟩,
   ⟨st [(0x631000, 3), (0x631001, 1000)] (fun d => { d with hka := { d.hka with active := true, pass := some 0 } }), by decide +kernel⟩,
   ⟨st [(0x63111E, 0x0416), (0x631200, 32)] (fun d => { d with hka := { d.hka with conv := some (.seq 30) } }), 30, 65535, 22, 4, by decide +kernel⟩,
   ⟨st [] (fun d => { d with hka := { d.hka with conv := some (.monitor 3) } }), 65535, 3, by decide +kernel⟩,
   ⟨st [] (fun d => { d with hka := { d.hka with conv := some (.urgent 22 255) } }), 65535, 22, 255, by decide +kernel⟩,
   ⟨st [], 0, true, true, by decide +kernel⟩,
   ⟨st [], by decide +kernel⟩,
   ⟨st [] (fun d => { d with hka := { d.hka with conv := some (.seq 31) } }), spi, 0xFF17, 31, num (by decide +kernel), by decide +kernel⟩,
   ⟨st [], spi, 0xFF17, num (by decide +kernel), by decide +kernel⟩,
   ⟨st [], spi, num (by decide +kernel), by decide +kernel⟩,
   ⟨st [] (fun d => { d with hka := { d.hka with calAt := some (base.now - 3200000) } }), base.now - 3200000, -256, 33423, by decide +kernel⟩,
   ⟨st [] (fun d => { d with hka := { d.hka with calAt := some (base.now - 3200000) } }), base.now - 3200000, -257, 33423, by decide +kernel⟩,
   ⟨st [], spi, 31, rd (by decide +kernel), by decide +kernel⟩,
   ⟨st [], spi, rd (by decide +kernel), by decide +kernel⟩,
   ⟨(st [(0x63221F, 0x00020001)]).dev, 31, 0, by decide +kernel⟩⟩

/-- Met by these: the hypotheses of Fencing, clause by clause. -/
theorem test_w_Fencing :
  (∃ (s : State), (s.dev.twin.fenceIn = true ∨ (s.dev.twin.fenceOut = true ∧ s.dev.twin.id = false ∧ s.dev.now ≤ s.dev.twin.fenceOutAt + 1200))) ∧
  (∃ (s : State), (s.dev.twin.fenceIn = false ∧ (s.dev.twin.fenceOut = true → s.dev.twin.id = true ∨ s.dev.twin.fenceOutAt + 1200 < s.dev.now) ∧ let x := (((((s.dev.modTwin (fun t => { t with fenceIn := true, fenceOut := false, hand := none, failover := false, flags := 0 })).setTbit 4 true).setTbit 3 false).holdEnd false).setTbit 8 false |>.setTbit 0 false).setTbit 1 false; let y := ((((((x.raise 115).twinRecord 115).setReady114 2 false).setTwin 6).put 0x700301 0).linkSet 0 0).linkSet 1 0; y.sup.coreOn = false ∧ True)) ∧
  (∃ (s : State), (s.dev.twin.fenceIn = false ∧ (s.dev.twin.fenceOut = true → s.dev.twin.id = true ∨ s.dev.twin.fenceOutAt + 1200 < s.dev.now) ∧ let x := (((((s.dev.modTwin (fun t => { t with fenceIn := true, fenceOut := false, hand := none, failover := false, flags := 0 })).setTbit 4 true).setTbit 3 false).holdEnd false).setTbit 8 false |>.setTbit 0 false).setTbit 1 false; let y := ((((((x.raise 115).twinRecord 115).setReady114 2 false).setTwin 6).put 0x700301 0).linkSet 0 0).linkSet 1 0; y.sup.coreOn = true ∧ True)) ∧
  (∃ (s : State), (s.dev.twin.fenceIn = true ∧ let x := (((((s.dev.modTwin (fun t => { t with fenceIn := false, barred := true })).setTbit 4 false).raise 115).causeClear 6).outSettle); x.chordUp = true ∧ True)) ∧
  (∃ (s : State), (s.dev.twin.fenceIn = true ∧ let x := (((((s.dev.modTwin (fun t => { t with fenceIn := false, barred := true })).setTbit 4 false).raise 115).causeClear 6).outSettle); x.chordUp = false ∧ True)) ∧
  (∃ (s : State) (a : Access), s.dev.takesNum a 0x700201 1 ∧ s.dev.twin.fenceOut = true) ∧
  (∃ (s : State), s.dev.get 0x700003 ≠ 0 ∧ s.dev.twin.fenceOut = true ∧ s.dev.twin.fenceOutAt + s.dev.get 0x700003 * 1000000000 ≤ s.dev.now) ∧
  (∃ (s : State) (a : Access), s.dev.takesNum a 0x700202 1) ∧
  (∃ (s : State), s.dev.chordUp = true ∧ (s.dev.twinState = 1 ∨ s.dev.twinState = 2) ∧ s.dev.twin.upAt + (s.dev.get 0x700004 + b2n s.dev.twin.id) * 1000000 ≤ s.dev.now ∧ s.dev.twin.barred = true) ∧
  (∃ (s : State), s.dev.chordUp = true ∧ (s.dev.twinState = 1 ∨ s.dev.twinState = 2) ∧ s.dev.twin.upAt + (s.dev.get 0x700004 + b2n s.dev.twin.id) * 1000000 ≤ s.dev.now ∧ s.dev.twin.barred = false) ∧
  (∃ (s : State), s.dev.twinState = 3 ∧ s.dev.twin.fenceIn = false ∧ s.dev.twinRole = 2 ∧ s.dev.twin.beatAt + 100000 ≤ s.dev.now) ∧
  (∃ (s : State), s.dev.twinState = 3 ∧ s.dev.twin.fenceIn = false ∧ s.dev.twinRole = 1 ∧ s.dev.twin.beatAt + 300000 ≤ s.dev.now) ∧
  (∃ (d : Dev), d.twinRole = 1 ∧ bit d.twin.flags 2 = false ∧ d.tbit 8 = false) ∧
  (∃ (d : Dev) (m : List Host.Cell), d.sec.opening = none) :=
  ⟨⟨st [] (fun d => { d with twin := { d.twin with fenceIn := true } }), by decide +kernel⟩,
   ⟨st [] (fun d => { d with sup := { d.sup with coreOn := false } }), by decide +kernel⟩,
   ⟨st [], by decide +kernel⟩,
   ⟨st [(0x700000, 1)] (fun d => { d with twin := { d.twin with fenceIn := true } }), by decide +kernel⟩,
   ⟨st [] (fun d => { d with twin := { d.twin with fenceIn := true } }), by decide +kernel⟩,
   ⟨st [] (fun d => { d with twin := { d.twin with fenceOut := true } }), spi, num (by decide +kernel), by decide +kernel⟩,
   ⟨st [(0x700003, 1)] (fun d => { d with twin := { d.twin with fenceOut := true, fenceOutAt := d.now - 1000000000 } }), by decide +kernel⟩,
   ⟨st [(0x700300, 3)], spi, num (by decide +kernel)⟩,
   ⟨st [(0x700000, 1), (0x700300, 1), (0x700004, 5)] (fun d => { d with twin := { d.twin with barred := true, upAt := d.now - 5000000 } }), by decide +kernel⟩,
   ⟨st [(0x700000, 1), (0x700300, 2), (0x700004, 5)] (fun d => { d with twin := { d.twin with upAt := d.now - 5000000 } }), by decide +kernel⟩,
   ⟨st [(0x700000, 1), (0x700300, 3), (0x700301, 2)] (fun d => { d with twin := { d.twin with beatAt := d.now - 100000 } }), by decide +kernel⟩,
   ⟨st [(0x700000, 1), (0x700300, 3), (0x700301, 1)] (fun d => { d with twin := { d.twin with beatAt := d.now - 300000 } }), by decide +kernel⟩,
   ⟨(st [(0x700301, 1)]).dev, by decide +kernel⟩,
   ⟨base, [], by decide +kernel⟩⟩

/-- Met by these: the hypotheses of ChordLink, clause by clause. -/
theorem test_w_ChordLink :
  (∃ (s : State) (lane : Nat), lane < 2 ∧ s.dev.chordUp = true ∧ s.dev.tbit lane = true) ∧
  (∃ (s : State) (lane : Nat), lane < 2 ∧ s.dev.chordUp = true ∧ s.dev.tbit lane = false) ∧
  (∃ (s : State), s.dev.chordUp = true ∧ (s.dev.twinState = 1 ∨ s.dev.twinState = 5)) ∧
  (∃ (s : State), s.dev.chordUp = true ∧ s.dev.twinState = 4) ∧
  (∃ (s : State) (model variant rev : Nat) (twin holds : Bool), s.dev.chordUp = true ∧ s.dev.twinState = 2 ∧ (model ≠ s.dev.get 0x100000 ∨ variant ≠ s.dev.get 0x100100 ∨ rev ≠ s.dev.get 0x100200 ∨ twin = s.dev.twin.id)) ∧
  (∃ (s : State) (twin holds : Bool), s.dev.chordUp = true ∧ s.dev.twinState = 2 ∧ twin ≠ s.dev.twin.id ∧ s.dev.tbit 6 = true) ∧
  (∃ (s : State) (twin holds : Bool), s.dev.chordUp = true ∧ s.dev.twinState = 2 ∧ twin ≠ s.dev.twin.id ∧ s.dev.tbit 6 = false ∧ holds = true) ∧
  (∃ (s : State) (twin holds : Bool), s.dev.chordUp = true ∧ s.dev.twinState = 2 ∧ twin ≠ s.dev.twin.id ∧ s.dev.tbit 6 = false ∧ holds = false) ∧
  (∃ (s : State), s.dev.chordUp = true ∧ 2 ≤ s.dev.twinState ∧ s.dev.twinState ≤ 4) ∧
  (∃ (s : State) (h : Heart), s.dev.chordUp = true ∧ s.dev.twinState = 3 ∧ s.dev.twinRole = 1 ∧ bit h.flags 2 = false) ∧
  (∃ (s : State) (h : Heart), (s.dev.chordUp = true ∧ s.dev.twinState = 3 ∧ s.dev.twinRole = 2 ∧ bit h.flags 0 = true ∧ bit h.flags 1 = true ∧ bit h.flags 2 = false ∧ bit h.flags 3 = false ∧ s.dev.ready 5 = false ∧ let x := ((s.dev.modTwin (fun t => { t with beatAt := s.dev.now, flags := h.flags })).put 0x700304 h.mode).alignWatch h.boundary; let y := h.starts.foldl (fun (a : Dev) (v : Nat × Nat × Nat × Nat) => a.modTalker v.1 (fun t => { t with report := some v.2 })) (x.modTwin (fun t => { t with endLease := s.dev.now + 200000 })); (y.retire h.launched).ready 5 = false ∧ True)) ∧
  (∃ (s : State) (n : Nat) (l : List (Int × Nat)), s.dev.chordUp = true ∧ s.dev.twinState = 3) ∧
  (∃ (s : State), s.dev.chordUp = true ∧ s.dev.twinState = 3 ∧ s.dev.med.run = true) ∧
  (∃ (s : State), s.dev.chordUp = true ∧ s.dev.twinState = 3 ∧ s.dev.twin.ev117 = none) ∧
  (∃ (s : State) (t : Nat) (crc : Bool), s.dev.chordUp = true ∧ s.dev.twinState = 3 ∧ s.dev.twin.ev117 = some t ∧ s.dev.now < t + 1000000) :=
  ⟨⟨st [(0x700000, 1), (0x700300, 3), (0x700303, 3)], 1, by decide +kernel⟩,
   ⟨st [(0x700000, 1), (0x700300, 3)], 1, by decide +kernel⟩,
   ⟨st [(0x700000, 1), (0x700300, 5)], by decide +kernel⟩,
   ⟨st [(0x700000, 1), (0x700300, 4)], by decide +kernel⟩,
   ⟨st [(0x700000, 1), (0x700300, 2)], 0, 0, 1, true, true, by decide +kernel⟩,
   ⟨st [(0x700000, 1), (0x700300, 2), (0x700303, 64)] (fun d => { d with twin := { d.twin with id := true } }), false, true, by decide +kernel⟩,
   ⟨st [(0x700000, 1), (0x700300, 2)] (fun d => { d with twin := { d.twin with id := true } }), false, true, by decide +kernel⟩,
   ⟨st [(0x700000, 1), (0x700300, 2)] (fun d => { d with twin := { d.twin with id := true } }), false, false, by decide +kernel⟩,
   ⟨st [(0x700000, 1), (0x700300, 4)], by decide +kernel⟩,
   ⟨st [(0x700000, 1), (0x700300, 3), (0x700301, 1)], { role := 1, flags := 3, mode := 5 }, by decide +kernel⟩,
   ⟨{ (st [(0x700000, 1), (0x700300, 3), (0x700301, 2)]) with dev := ((st [(0x700000, 1), (0x700300, 3), (0x700301, 2)]).dev.putBit 0x111000 5 false) }, { role := 1, flags := 3, mode := 5 }, by decide +kernel⟩,
   ⟨st [(0x700000, 1), (0x700300, 3)], 48002, [(-1, 1)], by decide +kernel⟩,
   ⟨st [(0x700000, 1), (0x700300, 3)], by decide +kernel⟩,
   ⟨st [(0x700000, 1), (0x700300, 3)], by decide +kernel⟩,
   ⟨st [(0x700000, 1), (0x700300, 3)] (fun d => { d with twin := { d.twin with ev117 := some d.now } }), base.now, true, by decide +kernel⟩⟩

/-- Met by these: the hypotheses of Handovers, clause by clause. -/
theorem test_w_Handovers :
  (∃ (s : State) (r : AccessRecord) (time : Nat), s.dev.takesMirror = true ∧ s.dev.med.run = true ∧ time ≠ 0 ∧ s.dev.stores = []) ∧
  (∃ (s : State) (r : AccessRecord) (time : Nat), s.dev.takesMirror = true ∧ (s.dev.med.run = false ∨ time = 0)) ∧
  (∃ (s : State) (l : List AccessRecord), s.dev.takesMirror = true ∧ s.dev.med.run = true ∧ s.dev.stores = []) ∧
  (∃ (s : State) (r : AccessRecord) (l : List AccessRecord) (time : Nat), s.dev.takesMirror = false ∧ s.dev.stores = []) ∧
  (∃ (s : State) (r : List Byte), s.dev.chordUp = true ∧ s.dev.twinState = 3) ∧
  (∃ (s : State) (s0 cause : Nat), s.dev.chordUp = true ∧ s.dev.twinState = 3 ∧ s.dev.twin.hand = none) ∧
  (∃ (s : State) (h : Hand), s.dev.chordUp = true ∧ s.dev.twinState = 3 ∧ s.dev.twin.hand = some h) ∧
  (∃ (s : State) (s0 : Nat), s.dev.chordUp = true ∧ s.dev.twinState = 3 ∧ s.dev.twin.hand = none ∧ s.dev.twin.failover = true) ∧
  (∃ (s : State) (h : Hand), s.dev.twin.hand = some h ∧ h.granted = true ∧ h.passed = false ∧ s.dev.twinState = 3 ∧ h.s ≤ s.dev.med.index + 1 ∧ s.dev.sec.opening = none ∧ s.dev.stores = [] ∧ s.dev.twinRole = 1) ∧
  (∃ (s : State) (h : Hand), s.dev.twin.hand = some h ∧ h.granted = true ∧ h.passed = false ∧ s.dev.twinState = 3 ∧ h.s ≤ s.dev.med.index + 1 ∧ s.dev.sec.opening = none ∧ s.dev.stores = [] ∧ s.dev.twinRole = 2 ∧ bit s.dev.twin.flags 2 = false ∧ (∀ n < 16, (s.dev.talker n).held = [])) ∧
  (∃ (s : State) (h : Hand), s.dev.twin.hand = some h ∧ h.passed = true ∧ s.dev.sec.opening = none ∧ s.dev.stores = []) ∧
  (∃ (s : State) (h : Hand), s.dev.twin.hand = some h ∧ h.granted = true ∧ s.dev.twinState = 3 ∧ s.dev.twinRole = 2 ∧ boundaryTime s.dev.fs h.s + 50000 ≤ s.dev.time64) ∧
  (∃ (s : State), s.dev.chordUp = true ∧ s.dev.twinState = 3 ∧ s.dev.sec.opening = none ∧ s.dev.stores = []) ∧
  (∃ (s : State) (a : Access), s.dev.takesNum a 0x700200 1 ∧ s.dev.switchBusy = false) ∧
  (∃ (s : State) (i : Nat), i < 3 ∧ s.dev.twinState = 3 ∧ s.dev.twinRole = 1 ∧ s.dev.bitOf 0x700005 i = true ∧ (i = 0 → s.dev.cause 0 = true ∨ s.dev.cause 5 = true) ∧ (i = 1 → bit s.dev.twin.flags 5 = true ∧ s.dev.linkUp = false)) ∧
  (∃ (s : State), s.dev.twinState = 3 ∧ bit s.dev.twin.flags 2 = true ∧ s.dev.twin.gmLease ≤ s.dev.now ∧ s.dev.get 0x222500 = 1 ∧ s.dev.tbit 8 = false) :=
  ⟨⟨st [(0x700000, 1), (0x700300, 3), (0x700301, 2)], { op := 2, flags := 0, index := 0, sub := 0, length := 0, offset := 0 }, 1, by decide +kernel⟩,
   ⟨st [(0x700000, 1), (0x700300, 3), (0x700301, 2)], { op := 2, flags := 0, index := 0, sub := 0, length := 0, offset := 0 }, 0, by decide +kernel⟩,
   ⟨st [(0x700000, 1), (0x700300, 3), (0x700301, 2)], [{ op := 2, flags := 0, index := 0, sub := 0, length := 0, offset := 0 }], by decide +kernel⟩,
   ⟨st [(0x700000, 1), (0x700300, 3)], { op := 2, flags := 0, index := 0, sub := 0, length := 0, offset := 0 }, [{ op := 2, flags := 0, index := 0, sub := 0, length := 0, offset := 0 }], 1, by decide +kernel⟩,
   ⟨st [(0x700000, 1), (0x700300, 3)], zeros 32, by decide +kernel⟩,
   ⟨st [(0x700000, 1), (0x700300, 3)], 48003, 3, by decide +kernel⟩,
   ⟨st [(0x700000, 1), (0x700300, 3)] (fun d => { d with twin := { d.twin with hand := some { s := 48003, cause := 1 } } }), { s := 48003, cause := 1 }, by decide +kernel⟩,
   ⟨st [(0x700000, 1), (0x700300, 3)] (fun d => { d with twin := { d.twin with failover := true } }), 48003, by decide +kernel⟩,
   ⟨st [(0x700000, 1), (0x700300, 3), (0x700301, 1)] (fun d => { d with twin := { d.twin with hand := some { s := 48001, cause := 1, granted := true } } }), { s := 48001, cause := 1, granted := true }, by decide +kernel⟩,
   ⟨st [(0x700000, 1), (0x700300, 3), (0x700301, 2)] (fun d => { d with twin := { d.twin with hand := some { s := 48001, cause := 1, granted := true } } }), { s := 48001, cause := 1, granted := true }, by decide +kernel⟩,
   ⟨st [(0x700000, 1), (0x700300, 3), (0x700301, 2)] (fun d => { d with twin := { d.twin with hand := some { s := 48001, cause := 1, granted := true, passed := true } } }), { s := 48001, cause := 1, granted := true, passed := true }, by decide +kernel⟩,
   ⟨st [(0x700000, 1), (0x700300, 3), (0x700301, 2)] (fun d => { d with twin := { d.twin with hand := some { s := 48001, cause := 1, granted := true } } }), { s := 48001, cause := 1, granted := true }, by decide +kernel⟩,
   ⟨st [(0x700000, 1), (0x700300, 3)], by decide +kernel⟩,
   ⟨st [(0x700000, 1), (0x700300, 3), (0x700303, 4)], spi, num (by decide +kernel), by decide +kernel⟩,
   ⟨st [(0x700000, 1), (0x700300, 3), (0x700301, 1), (0x700005, 2)] (fun d => { d with twin := { d.twin with flags := 32 } }), 1, by decide +kernel⟩,
   ⟨st [(0x700000, 1), (0x700300, 3), (0x222500, 1)] (fun d => { d with twin := { d.twin with flags := 4, gmLease := d.now } }), by decide +kernel⟩⟩

/-- Met by these: the hypotheses of Lifecycle, clause by clause. -/
theorem test_w_Lifecycle :
  (∃ (s : State) (a : Access), s.dev.takesNum a 0x710100 0x5AA50001 ∧ s.dev.sec.opening = none ∧ s.dev.sec.trngFault = false ∧ s.dev.stores = []) ∧
  (∃ (s : State) (a : Access), a.path = .spi ∧ s.dev.pathUp .spi = true ∧ s.dev.sup.capture = false ∧ s.dev.stores = [] ∧ firstError ((s.dev.modSec (fun q => { q with trngFault := true })).writeCodes (numAccess a 0x710100 0x5AA50001) 0x710100) = eBusy) ∧
  (∃ (s : State) (a : Access), s.dev.takesNum a 0x710100 0x5AA50002 ∧ s.dev.sec.opening = none ∧ s.dev.stores = []) ∧
  (∃ (s : State) (a : Access) (n : Nat) (b : List Byte), s.dev.takesBytes a (key 0x7112 n) b ∧ n ∈ [5, 6, 7, 8, 10, 11] ∧ s.dev.sec.opening = none ∧ s.dev.stores = []) ∧
  (∃ (s : State) (a : Access) (n : Nat), s.dev.takesNum a (key 0x7113 n) 1 ∧ n ∈ [1, 2, 3, 4] ∧ s.dev.sec.opening = none ∧ s.dev.stores = []) ∧
  (∃ (d : Dev) (n : Nat) (b : List Byte), n < 256) ∧
  (∃ (d : Dev) (t : Nat), t < 3) ∧
  (∃ (d : Dev) (t : Nat), 3 ≤ t) ∧
  (∃ (d : Dev) (t : Nat), d.sec.eraseBad = true) ∧
  (∃ (d : Dev) (t : Nat), d.sec.eraseBad = false) :=
  ⟨⟨st [(0x110100, 4)], spi, num (by decide +kernel), by decide +kernel⟩,
   ⟨st [(0x110100, 4)], spi, by decide +kernel⟩,
   ⟨st [(0x110100, 4), (0x710000, 1), (0x711009, 1), (0x71100A, 1), (0x711001, 1)], spi, num (by decide +kernel), by decide +kernel⟩,
   ⟨st [(0x710000, 1)], { path := .spi, length := 32, data := zeros 32 }, 11, zeros 32, byt (by decide +kernel), by decide +kernel⟩,
   ⟨st [(0x710000, 2), (0x711001, 1), (0x711004, 1)], spi, 4, num (by decide +kernel), by decide +kernel⟩,
   ⟨base, 255, zeros 64, by decide +kernel⟩,
   ⟨base, 2, by decide +kernel⟩,
   ⟨base, 4, by decide +kernel⟩,
   ⟨(st [] (fun d => { d with sec := { d.sec with eraseBad := true } })).dev, 4, by decide +kernel⟩,
   ⟨base, 3, by decide +kernel⟩⟩

/-- Met by these: the hypotheses of Unlocking, clause by clause. -/
theorem test_w_Unlocking :
  (∃ (s : State) (a : Access), s.dev.takesNum a 0x712100 1 ∧ s.dev.noToken 1 = false ∧ s.dev.sec.opening = none ∧ s.dev.stores = []) ∧
  (∃ (s : State) (a : Access), s.dev.takesNum a 0x712100 2 ∧ s.dev.noToken 2 = false ∧ s.dev.sec.opening = none ∧ s.dev.stores = []) ∧
  (∃ (s : State) (a : Access), s.dev.takesNum a 0x712100 3 ∧ s.dev.life = 2 ∧ s.dev.sec.opening = none ∧ s.dev.stores = []) ∧
  (∃ (s : State) (a : Access) (erased : Bool), (s.dev.erasing erased).takesNum a 0x712100 4 ∧ s.dev.life ≠ 0 ∧ s.dev.sec.opening = none ∧ s.dev.stores = []) ∧
  (∃ (s : State) (a : Access) (erased : Bool), (s.dev.erasing erased).takesNum a 0x712100 4 ∧ s.dev.life = 0 ∧ s.dev.fac.checking = false ∧ s.dev.sec.opening = none ∧ s.dev.stores = []) ∧
  (∃ (s : State) (a : Access) (level : Nat) (i : Instr), s.dev.takesNum a 0x712100 level ∧ (level, i) ∈ [(1, Instr.unlockScan a), (2, .unlockFull a)] ∧ s.dev.noToken level = true ∧ s.dev.fac.checking = false ∧ s.dev.twinState ≠ 3) ∧
  (∃ (s : State) (a : Access) (b : List Byte) (c : Chal), s.dev.takesBytes a 0x712300 b ∧ s.dev.sec.chal = some c ∧ s.dev.sec.opening = none ∧ s.dev.stores = []) ∧
  (∃ (s : State) (t : Tok) (erased : Bool), s.dev.sec.verify = some t ∧ t.timely = true ∧ s.dev.keyValid 9 = true ∧ s.dev.challenged = true ∧ s.dev.fac.checking = false ∧ s.dev.sec.opening = none ∧ 3 ≤ t.level ∧ s.dev.stores = []) ∧
  (∃ (s : State) (t : Tok) (erased : Bool), s.dev.sec.verify = some t ∧ t.timely = true ∧ s.dev.keyValid 9 = true ∧ s.dev.challenged = true ∧ s.dev.fac.checking = false ∧ s.dev.sec.opening = none ∧ t.level < 3 ∧ s.dev.twinState ≠ 3 ∧ s.dev.life ≠ 2) ∧
  (∃ (s : State) (t : Tok) (p : Path) (sig erased : Bool), s.dev.sec.verify = some t ∧ t.path = some p ∧ (sig = false ∨ t.timely = false) ∧ s.dev.sec.opening = none ∧ s.dev.stores = [] ∧ s.dev.get 0x712400 < 7) ∧
  (∃ (s : State) (t : Tok) (sig erased : Bool), s.dev.sec.verify = some t ∧ t.path = none ∧ (sig = false ∨ t.timely = false) ∧ s.dev.sec.opening = none ∧ s.dev.stores = [] ∧ 7 ≤ s.dev.get 0x712400) ∧
  (∃ (s : State) (t : Nat), s.dev.sec.lockEnd = some t ∧ t ≤ s.dev.now) :=
  ⟨⟨st [(0x710000, 2)], spi, num (by decide +kernel), by decide +kernel⟩,
   ⟨st [(0x710000, 2)], spi, num (by decide +kernel), by decide +kernel⟩,
   ⟨st [(0x710000, 2)], spi, num (by decide +kernel), by decide +kernel⟩,
   ⟨st [(0x710000, 3), (0x110100, 4)], spi, true, num (by decide +kernel), by decide +kernel⟩,
   ⟨st [(0x110100, 4)], spi, true, num (by decide +kernel), by decide +kernel⟩,
   ⟨st [(0x710000, 4)], spi, 2, .unlockFull spi, num (by decide +kernel), by decide +kernel⟩,
   ⟨st [(0x710000, 2)] (fun d => { d with sec := { d.sec with chal := some { level := 2, at_ := d.now, life := 2, count := 0 } } }), { path := .spi, length := 64, data := zeros 64 }, zeros 64, { level := 2, at_ := 1000000000000, life := 2, count := 0 }, byt (by decide +kernel), by decide +kernel⟩,
   ⟨st [(0x710000, 2), (0x711009, 1)] (fun d => { d with sec := { d.sec with chal := some { level := 3, at_ := d.now, life := 2, count := 0 }, verify := some { path := some .spi, level := 3, timely := true } } }), { path := some .spi, level := 3, timely := true }, true, by decide +kernel⟩,
   ⟨st [(0x710000, 3), (0x711009, 1)] (fun d => { d with sec := { d.sec with chal := some { level := 2, at_ := d.now, life := 3, count := 0 }, verify := some { path := some .spi, level := 2, timely := true } } }), { path := some .spi, level := 2, timely := true }, true, by decide +kernel⟩,
   ⟨st [(0x710000, 2), (0x712400, 6)] (fun d => { d with sec := { d.sec with verify := some { path := some .spi, level := 2, timely := true } } }), { path := some .spi, level := 2, timely := true }, .spi, false, true, by decide +kernel⟩,
   ⟨st [(0x710000, 2), (0x712400, 7)] (fun d => { d with sec := { d.sec with verify := some { path := none, level := 2, timely := true } } }), { path := none, level := 2, timely := true }, false, true, by decide +kernel⟩,
   ⟨st [] (fun d => { d with sec := { d.sec with lockEnd := some d.now } }), base.now, by decide +kernel⟩⟩

/-- Met by these: the hypotheses of TestPort, clause by clause. -/
theorem test_w_TestPort :
  (∃ (s : State) (pins level : Nat) (scan : Option Nat) (sig erased : Bool) (op : DbgOp), s.dev.sup.coreOn = false ∧ s.dev.stores = []) ∧
  (∃ (s : State) (pins : Nat) (scan : Option Nat), (s.dev.sup.coreOn = true ∧ let base (ir : Nat) := s.dev.modTap (fun t => { t with ir := ir, out := 0, err := false, drive := 0 }); s.dev.sec.port = 0 ∧ True)) ∧
  (∃ (s : State) (pins : Nat) (scan : Option Nat), (s.dev.sup.coreOn = true ∧ let base (ir : Nat) := s.dev.modTap (fun t => { t with ir := ir, out := 0, err := false, drive := 0 }); 0 < s.dev.sec.port ∧ True)) ∧
  (∃ (s : State) (level : Nat), (s.dev.sup.coreOn = true ∧ s.dev.stores = [] ∧ s.dev.sec.opening = none ∧ let x := s.dev.modTap (fun t => { t with ir := 0x10, out := 0, err := false, drive := 0 }); 1 ≤ level ∧ level ≤ 4 ∧ s.dev.unlockCodes level = [] ∧ s.dev.noToken level = false ∧ True)) ∧
  (∃ (s : State) (level : Nat), (s.dev.sup.coreOn = true ∧ s.dev.stores = [] ∧ s.dev.sec.opening = none ∧ let x := s.dev.modTap (fun t => { t with ir := 0x10, out := 0, err := false, drive := 0 }); s.dev.unlockCodes level ≠ [] ∧ True)) ∧
  (∃ (s : State) (c : Nat) (sig erased : Bool), s.dev.sup.coreOn = true ∧ s.dev.stores = [] ∧ firstError s.dev.tokenCodes = c ∧ c ≠ eOk) ∧
  (∃ (s : State) (sig erased : Bool), s.dev.sup.coreOn = true ∧ s.dev.stores = [] ∧ s.dev.tokenCodes = [] ∧ s.dev.sec.chal = none) ∧
  (∃ (s : State) (op : DbgOp), s.dev.sup.coreOn = true ∧ s.dev.sec.port ≠ 2 ∧ s.dev.stores = []) ∧
  (∃ (s : State) (a : _), (s.dev.sup.coreOn = true ∧ s.dev.sec.port = 2 ∧ s.dev.stores = [] ∧ let x := s.dev.modTap (fun t => { t with ir := 0x12, out := 0, err := false, drive := 0 }); a % 4 = 0 ∧ a < 0x500000 ∧ True)) ∧
  (∃ (s : State) (a : _), (s.dev.sup.coreOn = true ∧ s.dev.sec.port = 2 ∧ s.dev.stores = [] ∧ let x := s.dev.modTap (fun t => { t with ir := 0x12, out := 0, err := false, drive := 0 }); (a % 4 ≠ 0 ∨ 0x700000 ≤ a) ∧ True)) ∧
  (∃ (s : State) (a : _) (v : _), (s.dev.sup.coreOn = true ∧ s.dev.sec.port = 2 ∧ s.dev.stores = [] ∧ let x := s.dev.modTap (fun t => { t with ir := 0x12, out := 0, err := false, drive := 0 }); Memory.wf s.mem = true ∧ a % 4 = 0 ∧ a < 0x700000 ∧ v < 2 ^ 32 ∧ True)) ∧
  (∃ (s : State) (e : _) (code : _) (a : _) (v : _), (s.dev.sup.coreOn = true ∧ s.dev.sec.port = 2 ∧ s.dev.stores = [] ∧ let x := s.dev.modTap (fun t => { t with ir := 0x12, out := 0, err := false, drive := 0 }); e < 8 ∧ a % 4 = 0 ∧ a < 131072 ∧ (s.dev.eng e).active = none ∧ assoc (engWord e code a) s.dev.sec.words = some v ∧ True)) ∧
  (∃ (s : State) (e : _) (code : _) (a : _), (s.dev.sup.coreOn = true ∧ s.dev.sec.port = 2 ∧ s.dev.stores = [] ∧ let x := s.dev.modTap (fun t => { t with ir := 0x12, out := 0, err := false, drive := 0 }); e < 8 ∧ a % 4 = 0 ∧ a < 131072 ∧ (s.dev.eng e).active = none ∧ assoc (engWord e code a) s.dev.sec.words = none ∧ True)) ∧
  (∃ (s : State) (e : _), (s.dev.sup.coreOn = true ∧ s.dev.sec.port = 2 ∧ s.dev.stores = [] ∧ let x := s.dev.modTap (fun t => { t with ir := 0x12, out := 0, err := false, drive := 0 }); e < 8 ∧ bit s.dev.sec.tap.halted e = true ∧ True)) ∧
  (∃ (s : State) (e : _), (s.dev.sup.coreOn = true ∧ s.dev.sec.port = 2 ∧ s.dev.stores = [] ∧ let x := s.dev.modTap (fun t => { t with ir := 0x12, out := 0, err := false, drive := 0 }); e < 8 ∧ bit s.dev.sec.tap.halted e = false ∧ True)) ∧
  (∃ (s : State) (e : _) (act : _) (b : _) (t : _) (r : _), (s.dev.sup.coreOn = true ∧ s.dev.sec.port = 2 ∧ s.dev.stores = [] ∧ let x := s.dev.modTap (fun t => { t with ir := 0x12, out := 0, err := false, drive := 0 }); e < 8 ∧ s.dev.current e = some (act, b, t, r) ∧ True)) ∧
  (∃ (s : State) (e dst x y : Nat), bit s.dev.sec.tap.halted e = true ∧ nthD 0 s.dev.sec.tap.steps e = 0) :=
  ⟨⟨st [] (fun d => { d with sup := { d.sup with coreOn := false } }), 0, 4, none, true, true, .halt 7, by decide +kernel⟩,
   ⟨st [], 0xFFFFFFFF, none, by decide +kernel⟩,
   ⟨st [] (fun d => { d with sec := { d.sec with port := 2 } }), 0xFFFFFFFF, none, by decide +kernel⟩,
   ⟨st [(0x710000, 2)], 2, by decide +kernel⟩,
   ⟨st [(0x710000, 4)], 4, by decide +kernel⟩,
   ⟨st [(0x710000, 2)] (fun d => { d with sec := { d.sec with lockEnd := some (d.now + 1) } }), eLocked, true, true, by decide +kernel⟩,
   ⟨st [(0x710000, 2)], true, true, by decide +kernel⟩,
   ⟨st [] (fun d => { d with sec := { d.sec with port := 1 } }), .halt 7, by decide +kernel⟩,
   ⟨st [] (fun d => { d with sec := { d.sec with port := 2 } }), 0x4FFFFC, by decide +kernel⟩,
   ⟨st [] (fun d => { d with sec := { d.sec with port := 2 } }), 0x700000, by decide +kernel⟩,
   ⟨st [] (fun d => { d with sec := { d.sec with port := 2 } }), 0x6FFFFC, 0xFFFFFFFF, by decide +kernel⟩,
   ⟨st [] (fun d => { d with sec := { d.sec with port := 2, words := [(engWord 7 true 131068, 5)] } }), 7, true, 131068, 5, by decide +kernel⟩,
   ⟨st [] (fun d => { d with sec := { d.sec with port := 2 } }), 7, true, 131068, by decide +kernel⟩,
   ⟨st [] (fun d => { d with sec := { d.sec with port := 2, tap := { halted := 128 } } }), 7, by decide +kernel⟩,
   ⟨st [] (fun d => { d with sec := { d.sec with port := 2 } }), 7, by decide +kernel⟩,
   ⟨{ (on7 (run7 {})) with dev := { (on7 (run7 {})).dev with sec := { base.sec with port := 2 } } }, 7, true, bk (run7 {}), tsk, run7 {}, by decide +kernel⟩,
   ⟨st [] (fun d => { d with sec := { d.sec with tap := { halted := 128 } } }), 7, 3, 3, 31, by decide +kernel⟩⟩

/-- Met by these: the hypotheses of BlackBox, clause by clause. -/
theorem test_w_BlackBox :
  (∃ (s : State) (r : List Byte) (l : List (List Byte)), s.dev.bb.queue = r :: l ∧ s.dev.twinState ≠ 3) ∧
  (∃ (s : State) (r : List Byte) (l : List (List Byte)), s.dev.bb.queue = r :: l ∧ s.dev.twinState = 3) ∧
  (∃ (s : State), s.dev.bb.queue = []) ∧
  (∃ (d : Dev) (r : List Byte), d.get 0x720000 < 2 ^ 32 - 1) ∧
  (∃ (s : State) (a : Access), s.dev.reads a 0x720200 ∧ s.dev.get 0x720100 < s.dev.get 0x720000 ∧ (s.dev.bbAt (s.dev.get 0x720100)).length ≤ a.offset + min a.length (pathSegment a.path)) ∧
  (∃ (s : State) (a : Access), s.dev.reads a 0x720200 ∧ s.dev.get 0x720000 ≤ s.dev.get 0x720100) ∧
  (∃ (s : State) (a : Access), s.dev.takesNum a 0x720600 1 ∧ s.dev.bb.pinned = []) :=
  ⟨⟨st [] (fun d => { d with bb := { d.bb with queue := [zeros 32] } }), zeros 32, [], by decide +kernel⟩,
   ⟨{ (st [(0x700000, 1), (0x700300, 3)]) with dev := { (st [(0x700000, 1), (0x700300, 3)]).dev with bb := { queue := [zeros 32] } } }, zeros 32, [], by decide +kernel⟩,
   ⟨st [], by decide +kernel⟩,
   ⟨base, zeros 32, by decide +kernel⟩,
   ⟨st [(0x720000, 1)] (fun d => { d with bb := { d.bb with ring := [(0, zeros 32)] } }), { path := .spi, length := 32 }, rd (by decide +kernel), by decide +kernel⟩,
   ⟨st [], spi, rd (by decide +kernel), by decide +kernel⟩,
   ⟨st [(0x710000, 1)], spi, num (by decide +kernel), by decide +kernel⟩⟩

/-- Met by these: the hypotheses of TesterAndLocks, clause by clause. -/
theorem test_w_TesterAndLocks :
  (∃ (s : State) (l1 l2 : List Nat) (b : Bool), (s.dev.sup.coreOn = false ∨ s.dev.ready 20 = false ∨ s.dev.get 0x582000 ≠ 1)) ∧
  (∃ (s : State) (j : _), (s.dev.sup.coreOn = true ∧ s.dev.ready 20 = true ∧ s.dev.get 0x582000 = 1 ∧ s.dev.get 0x582200 < 131071 ∧ let n := s.dev.get 0x582200; let b := (bgSlot n).1; let r := (bgSlot n).2; j < 16 ∧ True)) ∧
  (∃ (s : State), s.dev.sup.coreOn = true ∧ s.dev.ready 20 = true ∧ s.dev.get 0x582000 = 1 ∧ s.dev.get 0x582200 = 131071) ∧
  (∃ (d : Dev) (b r : Nat), b < 20 ∧ d.get (key 0x5824 b) < 16) ∧
  (∃ (d : Dev) (b r : Nat), b < 20 ∧ 16 ≤ d.get (key 0x5824 b)) ∧
  (∃ (s : State) (a : Access) (k slot : Nat), s.dev.takesNum a (key 0x5831 k) 1 ∧ a.path = .tdt slot ∧ k < 16 ∧ (s.dev.get (lockObj k) = 0xFF ∨ s.dev.get (lockObj k) = 0x20 + slot)) ∧
  (∃ (s : State) (a : Access) (k slot : Nat), s.dev.takesNum a (key 0x5831 k) 0 ∧ a.path = .tdt slot ∧ k < 16 ∧ s.dev.get (lockObj k) = 0x20 + slot) ∧
  (∃ (d : Dev) (k : Nat), k < 16) ∧
  (∃ (s : State) (k t : Nat), k < 16 ∧ assoc k s.dev.tes.lease = some t ∧ t ≤ s.dev.now ∧ 0x20 ≤ s.dev.get (lockObj k) ∧ s.dev.get (lockObj k) ≠ 0xFF) ∧
  (∃ (s : State) (k t : Nat), k < 16 ∧ assoc k s.dev.tes.lease = some t ∧ t ≤ s.dev.now ∧ s.dev.get (lockObj k) < 8) :=
  ⟨⟨st [(0x111000, 0)], [], [], false, by decide +kernel⟩,
   ⟨st [(0x582000, 1), (0x582200, 131070)], 15, by decide +kernel⟩,
   ⟨st [(0x582000, 1), (0x582200, 131071)], by decide +kernel⟩,
   ⟨base, 19, 65535, by decide +kernel⟩,
   ⟨(st [(0x582413, 16)]).dev, 19, 65535, by decide +kernel⟩,
   ⟨st [(0x58300F, 255)] (fun d => { d with bus := { d.bus with lock := some (7, base.now + 1), sessions := [{ slot := 7, id := 9, priv := 2, keySlot := 11, nonces := [], lastSeq := 1, cached := [], bulk := 63, alive := 4, seen := 0 }] } }), tdt, 15, 7, num (by decide +kernel), by decide +kernel⟩,
   ⟨st [(0x58300F, 0x27)] (fun d => { d with bus := { d.bus with lock := some (7, base.now + 1), sessions := [{ slot := 7, id := 9, priv := 2, keySlot := 11, nonces := [], lastSeq := 1, cached := [], bulk := 63, alive := 4, seen := 0 }] } }), tdt, 15, 7, num (by decide +kernel), by decide +kernel⟩,
   ⟨base, 15, by decide +kernel⟩,
   ⟨st [(0x58300F, 0x27)] (fun d => { d with tes := { d.tes with lease := [(15, d.now)] } }), 15, base.now, by decide +kernel⟩,
   ⟨st [(0x58300F, 7)] (fun d => { d with tes := { d.tes with lease := [(15, d.now)] } }), 15, base.now, by decide +kernel⟩⟩

/-- Met by these: the hypotheses of Counter, clause by clause. -/
theorem test_w_Counter :
  (∃ (t : Tim) (inc : Nat), t.sec < 2 ^ 48 ∧ t.ns < 10 ^ 9 ∧ t.frac < 2 ^ 40 ∧ inc < 2 ^ 48) ∧
  (∃ (d : Dev), d.rate = 0) ∧
  (∃ (d : Dev), d.sup.coreOn = true ∧ d.tim.lost = false) ∧
  (∃ (s : State) (n : Nat), (let x := times (fun d => d.timeTick.netTick) n s.dev; x.med.run = true ∧ True)) :=
  ⟨⟨{ sec := 2 ^ 48 - 1, ns := 10 ^ 9 - 1, frac := 2 ^ 40 - 1 }, 2 ^ 48 - 1, by decide +kernel⟩,
   ⟨base, by decide +kernel⟩,
   ⟨{ base with tim := { base.tim with lost := false } }, by decide +kernel⟩,
   ⟨st [], 1, by decide +kernel⟩⟩

/-- Met by these: the hypotheses of Boundaries, clause by clause. -/
theorem test_w_Boundaries :
  (∃ (s : State) (n : Nat), (let x := times (fun d => d.timeTick.netTick) n s.dev; x.med.run = false ∧ True)) ∧
  (∃ (s : State) (n : Nat), (let x := times (fun d => d.timeTick.netTick) n s.dev; x.med.run = true ∧ True)) ∧
  (∃ (d : Dev), d.ready 9 = false) ∧
  (∃ (d : Dev), d.ready 9 = true) ∧
  (∃ (s : State) (inputs : List (Nat × Int)), s.dev.med.run = false ∧ s.dev.stores = []) ∧
  (∃ (s : State) (inputs : List (Nat × Int)), s.dev.med.run = true) ∧
  (∃ (d : Dev) (m : List Host.Cell), d.sup.capture = false ∧ d.sup.ledgerClear = false ∧ (∀ x ∈ d.twin.mirror, d.med.index < x.at_)) ∧
  (∃ (d : Dev) (m : List Host.Cell) (x : Mirror), d.sup.capture = false ∧ d.sup.ledgerClear = false ∧ d.twin.mirror = [x] ∧ x.at_ ≤ d.med.index) ∧
  (∃ (s : State), s.dev.serves = false) ∧
  (∃ (s : State), (s.dev.serves = true ∧ let f : QFrame := { bytes := ({ s.dev with free := s.dev.free + 1 } : Dev).syncFrame (Config.free s.dev.free % 65536), cls := 7, ring := some 6, chain := [{ buf := 0, control := 0, port := 0, len := 0 }], rxAt := some s.dev.now }; let x : Dev := { s.dev with free := s.dev.free + 1, twin := { s.dev.twin with syncs := (s.dev.twin.syncs + 1) % 2 ^ 32, gmLease := s.dev.now + 1000000000 } }; s.dev.switchOn = true ∧ True)) ∧
  (∃ (s : State), (s.dev.serves = true ∧ let f : QFrame := { bytes := ({ s.dev with free := s.dev.free + 1 } : Dev).syncFrame (Config.free s.dev.free % 65536), cls := 7, ring := some 6, chain := [{ buf := 0, control := 0, port := 0, len := 0 }], rxAt := some s.dev.now }; let x : Dev := { s.dev with free := s.dev.free + 1, twin := { s.dev.twin with syncs := (s.dev.twin.syncs + 1) % 2 ^ 32, gmLease := s.dev.now + 1000000000 } }; s.dev.switchOn = false ∧ True)) :=
  ⟨⟨State.reset, 1, by decide +kernel⟩,
   ⟨st [], 1, by decide +kernel⟩,
   ⟨(base.put 0x111000 0), by decide +kernel⟩,
   ⟨base, by decide +kernel⟩,
   ⟨State.reset, [(0, 1)], by decide +kernel⟩,
   ⟨st [], [(0, 1)], by decide +kernel⟩,
   ⟨base, [] ,  by decide +kernel, by decide +kernel, fun x h => by cases h⟩,
   ⟨(st [] (fun d => { d with twin := { d.twin with mirror := [{ at_ := 48000, key := 0x110100, access := spi, own := true }] } })).dev, [], { at_ := 48000, key := 0x110100, access := spi, own := true }, by decide +kernel⟩,
   ⟨State.reset, by decide +kernel⟩,
   ⟨st [(0x222000, 1), (0x220500, 6)], by decide +kernel⟩,
   ⟨st [(0x222000, 1), (0x220500, 6), (0x111000, 0x20)], by decide +kernel⟩⟩

/-- Met by these: the hypotheses of QueueStep, clause by clause. -/
theorem test_w_QueueStep :
  ∃ (s : State), s.pending = [] :=
  ⟨State.reset, by decide +kernel⟩

/-- Met by these: the hypotheses of StepKeepsForm, clause by clause. -/
theorem test_w_StepKeepsForm :
  ∃ (s t : State), s.inv ∧ step s = .next t :=
  ⟨{ State.reset with pending := [.clearNRise] }, State.reset ,  ⟨by decide +kernel, rfl⟩, rfl⟩

/-- Met by these: the hypotheses of SpiCutShort, clause by clause. -/
theorem test_w_SpiCutShort :
  ∃ (s : State), s.dev.pathUp .spi = true :=
  ⟨st [], by decide +kernel⟩

/-- Met by these: the hypotheses of HoldAndStaged, clause by clause. -/
theorem test_w_HoldAndStaged :
  (∃ (s : State) (a : Access) (index sub v : Nat) (o : Obj), s.dev.takes a (key index sub) ∧ a.path = .spi ∧ a.hold = true ∧ s.dev.stores = [] ∧ sub < 256 ∧ s.dev.objAt (key index sub) = some o ∧ o.acc = .st ∧ o.ty.isBytes = false ∧ (∃ c, s.dev.payload a o (key index sub) = (.num v, c))) ∧
  (∃ (s : State) (a : Access) (index sub : Nat) (hits : List (Nat × Nat)) (o : Obj), s.dev.takes a (key index (sub % 256)) ∧ s.dev.objAt (key index (sub % 256)) = some o ∧ o.acc ≠ .st) ∧
  (∃ (s : State) (a : Access) (index sub : Nat) (e1 e2 : List Nat) (o : Obj) (v : Nat), s.dev.reads a (key index (sub % 256)) ∧ a.staged = true ∧ s.dev.objAt (key index (sub % 256)) = some o ∧ o.acc = .st ∧ o.ty.isBytes = false ∧ assoc (key index (sub % 256)) s.dev.st.staged = some v ∧ a.path = .spi) ∧
  (∃ (s : State) (a : Access) (index sub : Nat) (e1 e2 : List Nat), (∀ o, s.dev.objAt (key index (sub % 256)) = some o → o.acc ≠ .st)) :=
  ⟨⟨st [], { path := .spi, hold := true, length := 1, data := [1] }, 0x2000, 0, 1, { ty := .enum, acc := .st, ret := .n, rng := .nat [(0, 1)], size := 1, grp := 1, bind := none } ,  tk (by decide +kernel), rfl, rfl, rfl, by decide, by decide +kernel, rfl, rfl, [], by decide +kernel⟩,
   ⟨st [(0x110100, 4)], { path := .spi, length := 4, data := leBytes 4 0x5AA50001 }, 0x7101, 256, [], { ty := .u32, acc := .cmd, ret := .none, rng := .any, size := 4, grp := 0, bind := none }, tk (by decide +kernel), by decide +kernel⟩,
   ⟨st [] (fun d => { d with st := { d.st with staged := [(0x200000, 1)] } }), { path := .spi, staged := true }, 0x2000, 256, [], [], { ty := .enum, acc := .st, ret := .n, rng := .nat [(0, 1)], size := 1, grp := 1, bind := none }, 1, rd (by decide +kernel), by decide +kernel⟩,
   ⟨st [], spi, 0x1000, 256, [], [] ,  fun o h => by rw [(by decide +kernel : (st []).dev.objAt (key 0x1000 (256 % 256)) = some { ty := .u32, acc := .ro, ret := .p, rng := .any, size := 4, grp := 0, bind := none })] at h; cases h; decide⟩⟩

/-- Met by these: the hypotheses of EcoChannels, clause by clause. -/
theorem test_w_EcoChannels :
  (∃ (s : State) (a : Access) (n : Nat), a.path = .spi ∧ n < 8 ∧ s.dev.pathUp .spi = true ∧ s.dev.sup.capture = false ∧ s.dev.pwrGov n = n ∧ s.dev.effMode = 7 ∧ s.dev.chEnabled n = false ∧ 4 < s.dev.chCount + (if s.dev.bridged n then 2 else 1) ∧ (∀ c ∈ s.dev.writeCodes (numAccess a (pk n 0) 1) (pk n 0), c = eRange)) ∧
  (∃ (d : Dev), 4 < d.chCount) ∧
  (∃ (d : Dev) (k : Nat), k < 4 ∧ d.bridged (2 * k) = true) :=
  ⟨⟨st [(0x110100, 7), (0x607000, 0)], spi, 7, by decide +kernel⟩,
   ⟨base, by decide +kernel⟩,
   ⟨{ base with pwr := { base.pwr with pairs := [false, false, false, true] } }, 3, by decide +kernel⟩⟩

/-- Met by these: the hypotheses of Corrections, clause by clause. -/
theorem test_w_Corrections :
  (∃ (x o : Int) (g : Nat), (correct x o g).2 = false) ∧
  (∃ (x o : Int) (g : Nat), (correct x o g).2 = true) :=
  ⟨⟨1, 0, 32768, by decide +kernel⟩,
   ⟨65535, 0, 65535, by decide +kernel⟩⟩

end Sys2Proof.Tests
end

section
/-! SUPPORT. What a WRITE of a command object does, and the commits of agreement groups (R27, R29, R46). -/
namespace Sys2Proof.Machine

/-! Keys and rows -/

theorem key_div (i s : Nat) (hs : s < 256) : key i s / 256 = i := by unfold key; omega
theorem key_mod (i s : Nat) (hs : s < 256) : key i s % 256 = s := by unfold key; omega
theorem key_page (i s : Nat) (hs : s < 256) : key i s / 65536 = i / 256 := by unfold key; omega

/-- A row covers an object by its index and subindex. -/
theorem ObjRow.covers_key (r : ObjRow) (i s : Nat) (hs : s < 256) :
    r.covers (key i s) = (r.idx ≤ i && (i - r.idx) % r.stride == 0 && decide ((i - r.idx) / r.stride < r.cnt) && r.sub ≤ s && decide (s < r.sub + r.subs)) := by
  simp only [ObjRow.covers, key_div i s hs, key_mod i s hs]

/-- The row of an object, looked up by index and subindex. -/
theorem objRow_key (i s : Nat) (hs : s < 256) :
    objRow (key i s) = (objPage (i / 256)).find? (fun r =>
      r.idx ≤ i && (i - r.idx) % r.stride == 0 && decide ((i - r.idx) / r.stride < r.cnt) && r.sub ≤ s && decide (s < r.sub + r.subs)) := by
  simp only [objRow, key_page i s hs, ObjRow.covers_key _ i s hs]

theorem objRow_commit (g : Nat) (hg : g < 256) : objRow (key 0x1200 g) = some (.mk 0x1200 1 1 0x0 256 .time64 .cmd 0 .none 0 0 .any) := by
  rw [objRow_key _ _ hg]
  simp [objPage, objs12, hg]

theorem objRow_discard (g : Nat) (hg : g < 256) : objRow (key 0x1203 g) = some (.mk 0x1203 1 1 0x0 256 .bool .cmd 0 .none 0 0 (.nat [(0, 1)])) := by
  rw [objRow_key _ _ hg]
  simp [objPage, objs12, hg]

theorem objRow_check (g : Nat) (hg : g < 256) : objRow (key 0x1204 g) = some (.mk 0x1204 1 1 0x0 256 .bool .cmd 0 .none 0 0 (.nat [(0, 1)])) := by
  rw [objRow_key _ _ hg]
  simp [objPage, objs12, hg]

/-! A number written to a command object -/

/-- A command object keeps no value: what is written to it only acts. -/
theorem Dev.takeNow_cmd {m : List Host.Cell} {p : Path} {r : ObjRow} {k v : Nat} {b : List Byte} {d : Dev} (hc : r.acc = .cmd) :
    d.takeNow m p (Obj.ofRow r k) k v b = d.actOn m p k (d.get k) v b := by
  simp [Dev.takeNow, actsOnly, Obj.ofRow, hc]

/-- The row of a command object: the write does what the object's page does with its value. -/
theorem writes_cmd {i : Instr} {a : Access} {k v : Nat} {r : ObjRow} {h : Dev → Prop} {f : Dev → Dev}
    (hi : ∀ s, exec i s = .next (s.quiet (Dev.hostSet a k v))) (hr : objRow k = some r) (hc : r.acc = .cmd) (hb : r.ty.isBytes = false)
    (hn : (Obj.ofRow r k).norm v = v) (hf : ∀ (m : List Host.Cell) (d : Dev), h d → d.actOn m a.path k (d.get k) v [] = f d) : writes i a k v h f := by
  intro s ht hh
  have hset : Dev.hostSet a k v s.mem s.dev = (f s.dev).ok a := by
    rw [Dev.hostSet_num ht hr (by simp [hc]) (by intro e; simp [e, Ty.isBytes] at hb) (by intro e; simp [e, Ty.isBytes] at hb), hn, Dev.takeNow_cmd hc, hf _ _ hh]
    rfl
  rw [becomes, hi, State.quiet, hset]

/-- A write to an object of 1200h to 12FFh acts by its index and subindex. -/
theorem Dev.actOn_meta {m : List Host.Cell} {p : Path} {i s old v : Nat} {b : List Byte} {d : Dev} (hi : i / 256 = 0x12) (hs : s < 256) :
    d.actOn m p (key i s) old v b = d.actMeta p (key i s) v := by
  simp only [Dev.actOn, key_page i s hs, hi]

theorem Dev.actMeta_commit {p : Path} {g v : Nat} {d : Dev} (hg : g < 256) : d.actMeta p (key 0x1200 g) v = d.commitWrite g v := by
  simp [Dev.actMeta, key_div _ _ hg, key_mod _ _ hg]

theorem Dev.actMeta_discard {p : Path} {g : Nat} {d : Dev} (hg : g < 256) : d.actMeta p (key 0x1203 g) 1 = d.groupDiscard g := by
  simp [Dev.actMeta, key_div _ _ hg, key_mod _ _ hg]

theorem Dev.actMeta_check {p : Path} {g v : Nat} {d : Dev} (hg : g < 256) : d.actMeta p (key 0x1204 g) v = d := by
  simp [Dev.actMeta, key_div _ _ hg]

/-! Commits -/

theorem Dev.commitNow_holds {d : Dev} {g : Nat} (h : d.groupFails g = none) : d.commitNow g = (none, (d.groupTake g).putBit (key 0x1202 g) 2 false) := by
  simp [Dev.commitNow, h]

theorem Dev.commitNow_fails {d : Dev} {g r : Nat} (h : d.groupFails g = some r) : d.commitNow g = (some r, d.putBit (key 0x1202 g) 2 true) := by
  simp [Dev.commitNow, h]

theorem Dev.commitWrite_now (g : Nat) (d : Dev) : d.commitWrite g 0 = (d.commitNow g).2 := by simp [Dev.commitWrite]

/-- A commit with a TIME, of a group that has none pending, is armed in the lowest free slot. -/
theorem Dev.commitWrite_time {d : Dev} {g time ee : Nat} (ht : time ≠ 0) (hn : d.commitEntry g = none) (hf : d.freeSlot = some ee) :
    d.commitWrite g time = d.locusArm { slot := ee, time := time, action := 2, flags := 0, tag := 0, target := g, value := 0, period := 0, epochReq := 0, order := 0 } := by
  simp [Dev.commitWrite, ht, hn, hf]

theorem Dev.groupDiscard_unscheduled {d : Dev} {g : Nat} (h : d.commitEntry g = none) : d.groupDiscard g = d.unstage g := by
  have h' : (d.unstage g).commitEntry g = none := h
  simp [Dev.groupDiscard, h']

/-- A group that is no listener's, with one number staged for an object of the maps, takes it and acts. -/
theorem Dev.groupTake_single {d : Dev} {g k v : Nat} {r : ObjRow} (hg : g < 0x20 ∨ 0x30 ≤ g) (hr : objRow k = some r) (hs : d.stagedOf g = [(k, v)]) (hb : d.stagedBlobOf g = []) :
    d.groupTake g = Dev.groupAct g (d.onlyMap g) ((d.unstage g).put k v) := by
  have hl : (decide (0x20 ≤ g) && decide (g < 0x30) && !d.onlyMap g) = false := by
    rcases hg with hg | hg <;> simp [Nat.not_le.mpr, Nat.not_lt.mpr, hg]
  simp [Dev.groupTake, hs, hb, hl, Dev.userPut_row hr]

theorem Dev.commitDue_holds {d : Dev} {g : Nat} (hh : d.groupHere g = true) (h : d.groupFails g = none) :
    d.commitDue g = (eOk, (d.groupTake g).putBit (key 0x1202 g) 2 false) := by
  simp [Dev.commitDue, hh, Dev.commitNow_holds h]

theorem Dev.commitDue_fails {d : Dev} {g r : Nat} (hh : d.groupHere g = true) (h : d.groupFails g = some r) :
    d.commitDue g = (eAgree, ((d.putBit (key 0x1202 g) 2 true).logError 0x1200 g eAgree 3 0xFF r).raise 6) := by
  simp [Dev.commitDue, hh, Dev.commitNow_fails h]

/-- The entry that is due holds a commit of the group named: the commit falls due, and the entry is done with its code. -/
theorem Dev.commitRun_due {d : Dev} {e : LEntry} (hd : d.firstDue true = some e) (ha : e.action = 2) :
    d.commitRun (some e.target) = (d.commitDue e.target).2.locusDone e (d.commitDue e.target).1 := by
  simp [Dev.commitRun, hd, ha]

/-! A WRITE that is refused -/

/-- The code of a write that the object's absence does not refuse: the object is there. -/
theorem Dev.objAt_of_firstError {d : Dev} {a : Access} {k : Nat} (h : firstError (d.writeCodes a k) ≠ eNoObject) : d.objAt k ≠ none := by
  intro hn
  apply h
  simp [Dev.writeCodes, Dev.plainCodes, hn, firstError, errOrder]

/-- A COMMIT that its group's rule refuses sets REFUSED and logs the failing relation (R27, R44). -/
theorem Dev.writeObj_commitRefused {d : Dev} {m : List Host.Cell} {hits : List (Nat × Nat)} {a : Access} {g r : Nat} (hg : g < 256)
    (hc : firstError (d.writeCodes a (key 0x1200 g)) = eAgree) (hf : d.groupFails g = some r) :
    d.writeObj m hits a (key 0x1200 g) = (eAgree, (d.putBit (key 0x1202 g) 2 true).logWrite a.path (key 0x1200 g) eAgree r) := by
  obtain ⟨o, ho⟩ := Option.ne_none_iff_exists'.mp (Dev.objAt_of_firstError (d := d) (a := a) (k := key 0x1200 g) (by rw [hc]; decide))
  simp [Dev.writeObj, ho, hc, hf, key_div _ _ hg, key_mod _ _ hg]

/-! The commands of agreement groups -/

theorem writes_commitNow (a : Access) (g : Nat) (hg : g < 256) :
    writes (.commitNow a g) a (key 0x1200 g) 0 (fun d => d.groupFails g = none) (fun d => (d.groupTake g).putBit (key 0x1202 g) 2 false) :=
  writes_cmd (fun s => by simp only [exec, execCommitNow, Nat.mod_eq_of_lt hg]) (objRow_commit g hg) rfl rfl rfl
    (fun m d h => by rw [Dev.actOn_meta rfl hg, Dev.actMeta_commit hg, Dev.commitWrite_now, Dev.commitNow_holds h])

theorem writes_commitSchedule (a : Access) (g time ee : Nat) (hg : g < 256) (ht : time ≠ 0) :
    writes (.commitSchedule a g time) a (key 0x1200 g) time (fun d => d.commitEntry g = none ∧ d.freeSlot = some ee)
      (fun d => d.locusArm { slot := ee, time := time, action := 2, flags := 0, tag := 0, target := g, value := 0, period := 0, epochReq := 0, order := 0 }) :=
  writes_cmd (fun s => by simp only [exec, execCommitSchedule, Nat.mod_eq_of_lt hg]) (objRow_commit g hg) rfl rfl rfl
    (fun m d ⟨hn, hf⟩ => by rw [Dev.actOn_meta rfl hg, Dev.actMeta_commit hg, Dev.commitWrite_time ht hn hf])

theorem writes_discard (a : Access) (g : Nat) (hg : g < 256) :
    writes (.discard a g) a (key 0x1203 g) 1 (fun d => d.commitEntry g = none) (fun d => d.unstage g) :=
  writes_cmd (fun s => by simp only [exec, execDiscard, Nat.mod_eq_of_lt hg]) (objRow_discard g hg) rfl rfl rfl
    (fun m d h => by rw [Dev.actOn_meta rfl hg, Dev.actMeta_discard hg, Dev.groupDiscard_unscheduled h])

theorem writes_check (a : Access) (g : Nat) (hg : g < 256) : writes (.check a g) a (key 0x1204 g) 1 (fun _ => True) (fun d => d) :=
  writes_cmd (fun s => by simp only [exec, execCheck, Nat.mod_eq_of_lt hg]) (objRow_check g hg) rfl rfl rfl
    (fun m d _ => by rw [Dev.actOn_meta rfl hg, Dev.actMeta_check hg])

/-- A row's function of the part may be replaced by one that agrees with it where the row's condition holds. -/
theorem writes.congr {i : Instr} {a : Access} {k v : Nat} {h h' : Dev → Prop} {f f' : Dev → Dev} (w : writes i a k v h f)
    (hh : ∀ d, h' d → h d) (hf : ∀ d, h' d → f d = f' d) : writes i a k v h' f' := by
  intro s ht hs
  rw [← hf _ hs]
  exact w s ht (hh _ hs)

/-- A COMMIT by SPI that its group's rule refuses: answered AGREE, which RESEND repeats, with REFUSED set and the relation logged. -/
theorem becomes_commitNow_refused {s : State} {a : Access} {g r : Nat} (hp : a.path = .spi) (hg : g < 256) (hup : s.dev.pathUp .spi = true) (hcap : s.dev.sup.capture = false)
    (hc : firstError (s.dev.writeCodes (numAccess a (key 0x1200 g) 0) (key 0x1200 g)) = eAgree) (hf : s.dev.groupFails g = some r) :
    becomes (.commitNow a g) s (((s.dev.putBit (key 0x1202 g) 2 true).logError 0x1200 g eAgree 0 0xFF r).answer .spi { status := eAgree }) := by
  have hpath : (numAccess a (key 0x1200 g) 0).path = .spi := hp
  have hw : Dev.hostSet a (key 0x1200 g) 0 s.mem s.dev = ((s.dev.putBit (key 0x1202 g) 2 true).logError 0x1200 g eAgree 0 0xFF r).answer .spi { status := eAgree } := by
    change s.dev.hostWriteAt s.mem [] (numAccess a (key 0x1200 g) 0) (key 0x1200 g) = _
    rw [Dev.hostWriteAt, hpath, if_pos hup, hcap, Dev.writeObj_commitRefused hg hc hf, hpath]
    simp [Dev.logWrite, pathSource, key_div _ _ hg, key_mod _ _ hg]
  rw [becomes, exec, execCommitNow, Nat.mod_eq_of_lt hg, State.quiet, hw]

/-- The command of a scheduled commit that is due: its group's commit falls due, and its slot is done. -/
theorem becomes_scheduledCommit {s : State} {e : LEntry} (hd : s.dev.firstDue true = some e) (ha : e.action = 2) :
    becomes (.scheduledCommit e.target) s ((s.dev.commitDue e.target).2.locusDone e (s.dev.commitDue e.target).1) := by
  rw [becomes, ← Dev.commitRun_due hd ha]
  rfl

/-- Settles O5: a clause for each way a COMMIT, DISCARD or CHECK acts, and for a scheduled commit that is due. -/
theorem commits : Obligations.Commits := by
  unfold Obligations.Commits
  refine ⟨writes_commitNow, ?single, writes_commitSchedule, writes_discard, writes_check, ?due, fun s a g r => becomes_commitNow_refused, ?dueRefused⟩
  case single =>
    intro a g k v r hg hl hr
    refine (writes_commitNow a g hg).congr (fun _ ⟨hf, _⟩ => hf) ?_
    rintro d ⟨-, hs, hb⟩
    rw [Dev.groupTake_single hl hr hs hb]
    rfl
  case due =>
    intro s e hd ha hh hf
    have h := becomes_scheduledCommit hd ha
    rwa [Dev.commitDue_holds hh hf] at h
  case dueRefused =>
    intro s e r hd ha hh hf
    have h := becomes_scheduledCommit hd ha
    rwa [Dev.commitDue_fails hh hf] at h

end Sys2Proof.Machine
end

section
/-! SUPPORT. The tick, the media boundary and a Sync of the grandmaster (R15, R116, R431). -/
namespace Sys2Proof.Machine

theorem Dev.captureNow_idle {d : Dev} (m : List Host.Cell) (h : d.sup.capture = false) : d.captureNow m = d := by
  simp [Dev.captureNow, h]

theorem Dev.ledgerDoClear_idle {d : Dev} (h : d.sup.ledgerClear = false) : d.ledgerDoClear = d := by
  simp [Dev.ledgerDoClear, h]

/-- With no capture and no ledger clear asked for, a boundary makes the mirrored writes that are due and keeps the others. -/
theorem Dev.boundaryWrites_mirrors {d : Dev} (m : List Host.Cell) (hc : d.sup.capture = false) (hl : d.sup.ledgerClear = false) :
    d.boundaryWrites m = (d.twin.mirror.filter (fun x => decide (x.at_ ≤ d.med.index))).foldl (fun (a : Dev) x => a.mirrorAct m x)
      { d with twin := { d.twin with mirror := d.twin.mirror.filter (fun x => decide (d.med.index < x.at_)) } } := by
  simp only [Dev.boundaryWrites, Dev.ledgerDoClear_idle hl, Dev.captureNow_idle m hc, Dev.modTwin]

theorem Dev.boundaryWrites_none {d : Dev} (m : List Host.Cell) (hc : d.sup.capture = false) (hl : d.sup.ledgerClear = false) (h : ∀ x ∈ d.twin.mirror, d.med.index < x.at_) :
    d.boundaryWrites m = d := by
  have hdue : d.twin.mirror.filter (fun x => decide (x.at_ ≤ d.med.index)) = [] := by
    simpa [List.filter_eq_nil_iff] using h
  have hkeep : d.twin.mirror.filter (fun x => decide (d.med.index < x.at_)) = d.twin.mirror := by
    simpa [List.filter_eq_self] using h
  rw [Dev.boundaryWrites_mirrors m hc hl, hdue, hkeep]
  rfl

theorem Dev.boundaryWrites_one {d : Dev} {x : Mirror} (m : List Host.Cell) (hc : d.sup.capture = false) (hl : d.sup.ledgerClear = false) (hx : d.twin.mirror = [x]) (h : x.at_ ≤ d.med.index) :
    d.boundaryWrites m = ({ d with twin := { d.twin with mirror := [] } } : Dev).mirrorAct m x := by
  simp [Dev.boundaryWrites_mirrors m hc hl, hx, h]

/-! The tick -/

/-- The part after the ticks themselves, before what waits for a boundary acts. -/
def Dev.ticked (n : Nat) (d : Dev) : Dev := times (fun (d : Dev) => d.timeTick.netTick) n d

theorem Dev.ticks_running {n : Nat} {d : Dev} (m : List Host.Cell) (h : (d.ticked n).med.run = true) : d.ticks n m = d.ticked n := by
  unfold Dev.ticks
  exact if_pos h

theorem Dev.ticks_stopped {n : Nat} {d : Dev} (m : List Host.Cell) (h : (d.ticked n).med.run = false) : d.ticks n m = Dev.captureNow m (d.ticked n).ledgerDoClear := by
  unfold Dev.ticks
  exact if_neg (by rw [← Dev.ticked, h]; decide)

/-- A command's effect depends on the effect at the state's own memory and part alone. -/
theorem State.run_congr {s : State} {f g : List Host.Cell → Dev → Dev} (h : f s.mem s.dev = g s.mem s.dev) : s.run f = s.run g := by
  simp only [State.run, h]

theorem Dev.timeTick_now (d : Dev) : d.timeTick.now = d.now + 4 := by
  unfold Dev.timeTick
  dsimp only
  split <;> rfl

theorem Dev.netTick_off {d : Dev} (h : d.ready 9 = false) : d.netTick = d := by simp [Dev.netTick, h]

theorem Dev.netTick_on {d : Dev} (h : d.ready 9 = true) : d.netTick = (upto 3).foldl (fun (a : Dev) p => ((a.txKick p).shaperTick p 6).shaperTick p 5) d := by
  simp [Dev.netTick, h]

/-! The media boundary -/

theorem Dev.mediaBoundary_stopped {d : Dev} (inputs : List (Nat × Int)) (m : List Host.Cell) (h : d.med.run = false) : d.mediaBoundary inputs m = d := by
  simp [Dev.mediaBoundary, h]

/-- A boundary while the strobes run: its index is counted and the writes due are made, then the fabric takes what the boundary before left, the sources write, and the sinks take (R15, R274). -/
theorem Dev.mediaBoundary_running {d : Dev} (inputs : List (Nat × Int)) (m : List Host.Cell) (h : d.med.run = true) :
    d.mediaBoundary inputs m =
      (let d0 := (({ d with med := { d.med with index := d.med.index + 1 } } : Dev).boundaryWrites m).sapMasters
       let x := d0.facOutputs d0.med.index
       let d1 := (((x.2.latFabric x.1).facInputs d0.med.index).boundarySources inputs m).latSinks.boundarySinks
       { d1 with med := { d1.med with invOnce := false } }.ledgerEdge) := by
  simp only [Dev.mediaBoundary, h, Bool.not_true, Bool.false_eq_true, if_false]

/-! Sync -/

/-- The part with a Sync counted and the lease of the grandmaster renewed. -/
def Dev.syncCounted (d : Dev) : Dev :=
  { d with free := d.free + 1, twin := { d.twin with syncs := (d.twin.syncs + 1) % 2 ^ 32, gmLease := d.now + 1000000000 } }

/-- The frame of a Sync as ring 6 hands it to the switch. -/
def Dev.syncQueued (d : Dev) : QFrame :=
  { bytes := ({ d with free := d.free + 1 } : Dev).syncFrame (Config.free d.free % 65536), cls := 7, ring := some 6, chain := [{ buf := 0, control := 0, port := 0, len := 0 }], rxAt := some d.now }

theorem Dev.syncOut_idle {d : Dev} (h : d.serves = false) : d.syncOut = d := by simp [Dev.syncOut, h]

/-- A grandmaster's Sync: counted, and handed to the switch where that is on. -/
theorem Dev.syncOut_serves {d : Dev} (h : d.serves = true) :
    d.syncOut = if d.switchOn then ({ d.syncCounted with net := { d.net with handed := d.net.handed ++ [d.syncQueued] } } : Dev).add64 (key 0x3316 8) 1 else d.syncCounted := by
  unfold Dev.syncOut
  exact if_neg (by simp [h])

/-- Settles O52: the tick, the boundary with the writes it makes, and the Sync, each with the strobes running and stopped or the function on and off. -/
theorem boundaries : Obligations.Boundaries := by
  unfold Obligations.Boundaries
  refine ⟨?tick, fun d => ⟨d.timeTick_now, Dev.netTick_off, Dev.netTick_on⟩, ?stopped, ?running, fun d m => Dev.boundaryWrites_none m, fun d m x => Dev.boundaryWrites_one m, ?idle, ?serves⟩
  case tick =>
    intro s n
    exact ⟨fun h => congrArg _ (State.run_congr (Dev.ticks_stopped s.mem h)), fun h => congrArg _ (State.run_congr (Dev.ticks_running s.mem h))⟩
  case stopped =>
    intro s inputs hr hs
    have hm := Dev.mediaBoundary_stopped inputs s.mem hr
    have hrun := State.run_eq s (Dev.mediaBoundary inputs) (by rw [hm, hs])
    rw [becomes, exec, execMediaSampleBoundary, hrun, hm, hs]
  case running =>
    intro s inputs hr
    exact congrArg _ (State.run_congr (Dev.mediaBoundary_running inputs s.mem hr))
  case idle =>
    intro s h
    rw [becomes, exec, execSyncTransmit, State.act, State.quiet, Dev.syncOut_idle h]
  case serves =>
    intro s h
    have hx : exec .syncTransmit s = .next (s.act Dev.syncOut) := rfl
    rw [State.act, State.quiet, Dev.syncOut_serves h] at hx
    refine ⟨fun hon => ?_, fun hoff => ?_⟩
    · rw [if_pos hon] at hx
      exact hx
    · rw [if_neg (by simp [hoff])] at hx
      exact hx

end Sys2Proof.Machine
end

section
/-! SUPPORT. What SPI and I2C are answered with, beside READ and WRITE (R53, R480, R481). -/
namespace Sys2Proof.Machine

/-- A command whose effect is a function of the part becomes what the function makes of it. -/
theorem becomes_act {i : Instr} {s : State} {f : Dev → Dev} {d : Dev} (hi : exec i s = .next (s.act f)) (hf : f s.dev = d) : becomes i s d := by
  rw [becomes, hi, ← hf]
  rfl

section
variable {i2c : Bool} {d : Dev} (hup : d.pathUp (if i2c then .i2c else .spi) = true)
include hup

theorem Dev.busReply_up (x : Answer) : d.busReply i2c x = d.busOut i2c x := by simp [Dev.busReply, Dev.when, hup]

theorem Dev.resend_kept {r : Reply} (hr : (if i2c then d.bus.keptI2c else d.bus.keptSpi) = some r) : d.resend i2c = d.busOut i2c (.reply r) := by
  rw [Dev.resend, hr, Dev.busReply_up hup]

theorem Dev.resend_none (hr : (if i2c then d.bus.keptI2c else d.bus.keptSpi) = none) : d.resend i2c = d.busOut i2c (.reply { status := eNotReady }) := by
  rw [Dev.resend, hr, Dev.busReply_up hup]

/-- A bad CRC is counted in 1250.00 or 1250.01, saturating, and answered 0x5B. -/
theorem Dev.badCrc_up :
    d.badCrc i2c = (d.put (if i2c then 0x125001 else 0x125000) (min (d.get (if i2c then 0x125001 else 0x125000) + 1) (2 ^ 32 - 1))).busOut i2c .badCrc := by
  rw [Dev.badCrc, hup]
  rfl

/-- A request cut short is counted in 1410.00 or 1410.01, saturating, and has no answer. -/
theorem Dev.cutShort_up :
    d.cutShort i2c = (d.put (if i2c then 0x141001 else 0x141000) (min (d.get (if i2c then 0x141001 else 0x141000) + 1) (2 ^ 32 - 1))).busOut i2c .none := by
  rw [Dev.cutShort, hup]
  rfl

end

/-- Settles O1: the effect of each request, on SPI and on I2C, read off its one equation for both. -/
theorem busAnswers : Obligations.BusAnswers := by
  unfold Obligations.BusAnswers
  refine ⟨?keptSpi, ?noneSpi, ?keptI2c, ?nopSpi, ?nopI2c, ?undefinedSpi, ?undefinedI2c, ?crcSpi, ?crcI2c, ?aborted, ?timeout, ?short⟩
  case keptSpi => exact fun _ _ hup hr => becomes_act rfl (Dev.resend_kept (i2c := false) hup hr)
  case noneSpi => exact fun _ hup hr => becomes_act rfl (Dev.resend_none (i2c := false) hup hr)
  case keptI2c => exact fun _ _ hup hr => becomes_act rfl (Dev.resend_kept (i2c := true) hup hr)
  case nopSpi => exact fun _ hup => becomes_act rfl (Dev.busReply_up (i2c := false) hup _)
  case nopI2c => exact fun _ hup => becomes_act rfl (Dev.busReply_up (i2c := true) hup _)
  case undefinedSpi => exact fun _ hup => becomes_act rfl (Dev.busReply_up (i2c := false) hup _)
  case undefinedI2c => exact fun _ hup => becomes_act rfl (Dev.busReply_up (i2c := true) hup _)
  case crcSpi => exact fun _ hup => becomes_act rfl (Dev.badCrc_up (i2c := false) hup)
  case crcI2c => exact fun _ hup => becomes_act rfl (Dev.badCrc_up (i2c := true) hup)
  case aborted => exact fun _ hup => becomes_act rfl (Dev.cutShort_up (i2c := false) hup)
  case timeout => exact fun _ hup => becomes_act rfl (Dev.cutShort_up (i2c := true) hup)
  case short => exact fun _ hup => becomes_act rfl (Dev.cutShort_up (i2c := true) hup)

end Sys2Proof.Machine
end

section
/-! SUPPORT. The flags HOLD of a WRITE and STAGED of a READ (R45). -/
namespace Sys2Proof.Machine

/-! A held write of a member -/

/-- A number held for a member is staged; its group is not committed, whichever member it is. -/
theorem Dev.stage_held {d : Dev} {o : Obj} {k v : Nat} {b : List Byte} (hb : o.ty.isBytes = false) :
    d.stage true o k v b = (eOk, 0, { d with st := { d.st with staged := assocPut k v d.st.staged } }) := by
  simp [Dev.stage, hb]

theorem Dev.hostWriteAt_takes {d : Dev} {m : List Host.Cell} {hits : List (Nat × Nat)} {a : Access} {k : Nat} (h : d.takes a k) :
    d.hostWriteAt m hits a k = (d.writeObj m hits a k).2.answer a.path { status := (d.writeObj m hits a k).1 } := by
  obtain ⟨hup, hcap, -⟩ := h
  simp [Dev.hostWriteAt, hup, hcap]

/-- A WRITE of a number that is taken: its object accepts it, and the answer is OK where the object does. -/
theorem Dev.hostWriteAt_accept {d e : Dev} {m : List Host.Cell} {hits : List (Nat × Nat)} {a : Access} {k v : Nat} {o : Obj} {c : List Nat}
    (h : d.takes a k) (ho : d.objAt k = some o) (hp : d.payload a o k = (.num v, c)) (he : d.accept m a o k v [] = (eOk, 0, e)) :
    d.hostWriteAt m hits a k = e.answer a.path { status := eOk } := by
  rw [Dev.hostWriteAt_takes h]
  obtain ⟨-, -, hcodes, hmirror⟩ := h
  simp [Dev.writeObj, ho, hp, hcodes, firstError_nil, hmirror, he]

/-- The held WRITE of a number to a member: staged, and answered OK. -/
theorem Dev.hostWriteAt_held {d : Dev} {m : List Host.Cell} {hits : List (Nat × Nat)} {a : Access} {k v : Nat} {o : Obj} {c : List Nat}
    (hh : a.hold = true) (h : d.takes a k) (ho : d.objAt k = some o) (hs : o.acc = .st) (hb : o.ty.isBytes = false) (hp : d.payload a o k = (.num v, c)) :
    d.hostWriteAt m hits a k = ({ d with st := { d.st with staged := assocPut k v d.st.staged } } : Dev).answer a.path { status := eOk } :=
  Dev.hostWriteAt_accept h ho hp (by simp only [Dev.accept, hs, hh, if_true, Dev.stage_held hb])

/-! HOLD outside every group -/

theorem Dev.accept_hold {d : Dev} {m : List Host.Cell} {a : Access} {o : Obj} {k v : Nat} {b : List Byte} (h : Bool) (hs : o.acc ≠ .st) :
    d.accept m { a with hold := h } o k v b = d.accept m a o k v b := by
  simp only [Dev.accept, if_neg hs]

/-- WAVE_DATA, the one object whose write can meet a collision, is not mirrored. -/
theorem Dev.waveHits_mirrored {d : Dev} {k : Nat} (hits : List (Nat × Nat)) (hk : mirroredKey k = true) : d.waveHits k hits = [] := by
  have hw : ¬ (k / 256 = 0x4620 ∨ k / 256 = 0x4621) := by
    intro hw
    rcases hw with hw | hw <;> simp [mirroredKey, hw] at hk <;> omega
  simp [Dev.waveHits, hw]

theorem Dev.payload_hold (d : Dev) (a : Access) (o : Obj) (k : Nat) (h : Bool) : d.payload { a with hold := h } o k = d.payload a o k := rfl
theorem Dev.writeCodes_hold (d : Dev) (a : Access) (k : Nat) (h : Bool) : d.writeCodes { a with hold := h } k = d.writeCodes a k := rfl

/-- HOLD is kept in the frame of a mirrored write, so the write must not be mirrored, after the collisions it meets as before them: an object that is mirrored meets none. -/
theorem Dev.writeObj_hold {d : Dev} {m : List Host.Cell} {hits : List (Nat × Nat)} {a : Access} {k : Nat} {o : Obj} (h : Bool)
    (hm : (d.mirrors && mirroredKey k) = false) (ho : d.objAt k = some o) (hs : o.acc ≠ .st) :
    d.writeObj m hits { a with hold := h } k = d.writeObj m hits a k := by
  simp only [Dev.writeObj, ho, Dev.payload_hold, Dev.writeCodes_hold, Dev.accept_hold h hs]
  by_cases hk : mirroredKey k = true
  · have hd : d.mirrors = false := by simpa [hk] using hm
    have hp : ∀ l, ({ d with bus := { d.bus with parts := l } } : Dev).mirrors = false := fun _ => hd
    simp only [Dev.waveHits_mirrored hits hk, List.foldl_nil, apply_ite Dev.mirrors, hp, ite_self, Bool.false_and]
    rfl
  · simp only [hk, Bool.and_false]
    rfl

theorem Dev.hostWriteAt_hold {d : Dev} {m : List Host.Cell} {hits : List (Nat × Nat)} {a : Access} {k : Nat} {o : Obj} (h : Bool)
    (ht : d.takes a k) (ho : d.objAt k = some o) (hs : o.acc ≠ .st) : d.hostWriteAt m hits { a with hold := h } k = d.hostWriteAt m hits a k := by
  have ht' : d.takes { a with hold := h } k := ht
  rw [Dev.hostWriteAt_takes ht, Dev.hostWriteAt_takes ht']
  obtain ⟨-, -, -, hm⟩ := ht
  rw [Dev.writeObj_hold h hm ho hs]

/-! A READ of the staged value of a member -/

@[simp] theorem Dev.ledgerLatch_staged (k : Nat) (d : Dev) : (d.ledgerLatch k).st.staged = d.st.staged := by
  unfold Dev.ledgerLatch
  split
  · split <;> rfl
  · rfl

theorem Dev.view_staged {d : Dev} {k v : Nat} (h : assoc k d.st.staged = some v) : d.view k = v := by simp [Dev.view, h]

theorem Dev.numValue_member {d : Dev} {o : Obj} {k : Nat} (hs : o.acc = .st) : d.numValue true o k = d.view k := by simp [Dev.numValue, hs]

/-- A granted READ of a number: answered OK with its value, in the bytes of its type. -/
theorem Dev.hostReadAt_number {d : Dev} {m : List Host.Cell} {e1 e2 : List Nat} {a : Access} {k : Nat} {o : Obj}
    (h : d.reads a k) (ho : d.objAt k = some o) (hb : o.ty.isBytes = false) :
    d.hostReadAt m e1 e2 a k =
      ((d.ledgerLatch k).touch k).answer a.path { status := eOk, data := leBytes o.ty.bytes ((d.ledgerLatch k).numValue a.staged o k) } := by
  obtain ⟨hup, o', ho', hc⟩ := h
  obtain rfl : o = o' := by simpa [ho] using ho'
  simp [Dev.hostReadAt, Dev.readObj, hup, ho, hc, firstError_nil, hb]

/-! STAGED outside every group -/

theorem Dev.numValue_staged {d : Dev} {o : Obj} {k : Nat} (hs : o.acc ≠ .st) : d.numValue true o k = d.numValue false o k := by
  simp [Dev.numValue, hs]

theorem Dev.byteValue_staged {d : Dev} {m : List Host.Cell} {e1 e2 : List Nat} {o : Obj} {k off n : Nat} (hs : o.acc ≠ .st) :
    d.byteValue m e1 e2 true o k off n = d.byteValue m e1 e2 false o k off n := by
  simp [Dev.byteValue, hs]

theorem Dev.readObj_staged {d : Dev} {m : List Host.Cell} {e1 e2 : List Nat} {a : Access} {k : Nat} (hs : ∀ o, d.objAt k = some o → o.acc ≠ .st) :
    d.readObj m e1 e2 { a with staged := true } k = d.readObj m e1 e2 { a with staged := false } k := by
  unfold Dev.readObj
  cases ho : d.objAt k with
  | none => rfl
  | some o =>
    simp only [Dev.numValue_staged (hs o ho), Dev.byteValue_staged (hs o ho)]
    rfl

theorem Dev.hostReadAt_staged {d : Dev} {m : List Host.Cell} {e1 e2 : List Nat} {a : Access} {k : Nat} (hs : ∀ o, d.objAt k = some o → o.acc ≠ .st) :
    d.hostReadAt m e1 e2 { a with staged := true } k = d.hostReadAt m e1 e2 { a with staged := false } k := by
  simp only [Dev.hostReadAt, Dev.readObj_staged hs]

/-- Settles O58: what a held write and a staged read do to a member, and that neither flag counts for any other object. -/
theorem holdAndStaged : Obligations.HoldAndStaged := by
  unfold Obligations.HoldAndStaged
  refine ⟨?held, ?holdIrrelevant, ?stagedRead, ?stagedIrrelevant⟩
  case held =>
    rintro s a index sub v o hpath hh hst hsub ht ho hs hb ⟨c, hp⟩
    have hw := Dev.hostWriteAt_held (m := s.mem) (hits := []) hh ht ho hs hb hp
    rw [hpath] at hw
    rw [becomes, exec, execWrite, Nat.mod_eq_of_lt hsub, State.run_eq _ _ (by rw [hw]; exact hst), hw, hst]
    rfl
  case holdIrrelevant =>
    intro s a index sub hits o ht ho hs
    exact congrArg _ (State.run_congr ((Dev.hostWriteAt_hold true ht ho hs).trans (Dev.hostWriteAt_hold false ht ho hs).symm))
  case stagedRead =>
    intro s a index sub e1 e2 o v hst ho hs hb hv hr hpath
    refine ⟨_, rfl, rfl, fun _ => rfl, ?_⟩
    rw [State.quiet_dev, Dev.hostReadAt_number hr ho hb, hst, Dev.numValue_member hs, Dev.view_staged (by rw [Dev.ledgerLatch_staged, hv]), hpath]
    rfl
  case stagedIrrelevant =>
    intro s a index sub e1 e2 hs
    rw [exec, execRead, State.quiet, Dev.hostReadAt_staged hs]
    rfl

end Sys2Proof.Machine
end

section
/-! SUPPORT. Requests of a mode, the steps of the path between modes, and the ways out of SAFE (R68 to R76). -/
namespace Sys2Proof.Machine

/-! The objects that say where the part stands, after another object is put -/

theorem Dev.mode_put {k v : Nat} {d : Dev} (hk : k ≠ kMode) : (d.put k v).mode = d.mode :=
  Dev.get_put_other _ _ _ _ (Ne.symm hk) (.inl (by decide))

theorem Dev.inStep_put {k v : Nat} {d : Dev} (hk : k ≠ kModeStatus) : (d.put k v).inStep = d.inStep := by
  rw [Dev.inStep, Dev.bitOf, Dev.get_put_other _ _ _ _ (Ne.symm hk) (.inl (by decide))]
  rfl

theorem Dev.get_safeCause_put {k v : Nat} {d : Dev} (hk : k ≠ kSafeCause) : (d.put k v).get kSafeCause = d.get kSafeCause :=
  Dev.get_put_other _ _ _ _ (Ne.symm hk) (.inl (by decide))

/-! A number written to 1100.00 -/

theorem objRow_modeRequest : objRow kModeRequest = some (.mk 0x1100 1 1 0x0 1 .enum .rw 4 .o 0 0 (.nat [(2, 9), (11, 11)])) := rfl

/-- 1100.00 keeps nothing by the write itself: what is asked for decides what it reads (R68). -/
theorem Dev.takeNow_modeRequest {m : List Host.Cell} {p : Path} {o : Obj} {v : Nat} {b : List Byte} {d : Dev} :
    d.takeNow m p o kModeRequest v b = d.modeAsk v := by
  simp [Dev.takeNow, actsOnly, Dev.actOn, Dev.actModes, kModeRequest]

/-- The row of a mode request: what the write does is what asking for the mode does. -/
theorem writes_modeRequest {a : Access} {v : Nat} {h : Dev → Prop} {f : Dev → Dev} (hf : ∀ d, h d → d.modeAsk v = f d) :
    writes (.modeRequest a v) a kModeRequest v h f := by
  intro s ht hh
  have hset : Dev.hostSet a kModeRequest v s.mem s.dev = (f s.dev).ok a := by
    rw [Dev.hostSet_num ht objRow_modeRequest (by decide) (by decide) (by decide), Dev.takeNow_modeRequest, ← hf _ hh]
    rfl
  rw [becomes, exec, execModeRequest, State.quiet, hset]

/-! What a request does -/

/-- In BRINGUP a request replaces the target alone: the path begins when bring-up has ended. -/
theorem Dev.modeAsk_bringUp {d : Dev} {v : Nat} (hm : d.mode = 1) : d.modeAsk v = d.put kModeRequest v := by
  simp [Dev.modeAsk, hm]

/-- The current mode asked for, outside a step: nothing begins. -/
theorem Dev.modeAsk_current {d : Dev} {v : Nat} (hm : d.mode = v) (hs : d.inStep = false) (h2 : 2 ≤ v) (h8 : v ≤ 8) :
    d.modeAsk v = d.put kModeRequest v := by
  have h0 : v ≠ 0 := by omega
  have h1 : v ≠ 1 := by omega
  have h9 : v ≠ 9 := by omega
  have h10 : v ≠ 10 := by omega
  simp [Dev.modeAsk, hm, hs, h0, h1, h9, h10]

/-- Another mode asked for in READY, which fencing does not forbid: it is sought (R68, code FENCED of Table 3-3b). -/
theorem Dev.modeAsk_ready {d : Dev} {v : Nat} (hm : d.mode = 5) (hs : d.inStep = false) (hv : v ≠ 5) (hf : v = 9 ∨ d.twin.fenceIn = false) :
    d.modeAsk v = (d.put kModeRequest v).modeGo := by
  rcases hf with rfl | hf
  · simp [Dev.modeAsk, hm, hs]
  · simp [Dev.modeAsk, hm, hs, hv, hf]

/-! What seeking a target does -/

/-- SAFE sought from a mode that R74 enters it from: cause [8] (R68, Table 3-4). -/
theorem Dev.modeGo_safe {d : Dev} (hs : d.inStep = false) (hm : safeFrom d.mode = true) (ht : d.get kModeRequest = 9) :
    d.modeGo = (d.causeSet 8).outSettle.hpSettle := by
  have hrun : (2 ≤ d.mode ∧ d.mode ≤ 8) ∨ d.mode = 11 := by
    simp [safeFrom] at hm
    omega
  have h9 : 9 ≠ d.mode := by omega
  simp [Dev.modeGo, hs, hm, ht, h9]
  omega

/-- A mode sought that is not the current one: the first step of the path to it begins, where its condition holds (R69 to R71). -/
theorem Dev.modeGo_step {d : Dev} {t : Nat} (hs : d.inStep = false) (hm : (2 ≤ d.mode ∧ d.mode ≤ 8) ∨ d.mode = 11)
    (ht : d.get kModeRequest = t) (hne : t ≠ d.mode) (h9 : t ≠ 9) (hr : d.stepRefusal (pathNext d.mode t) = none) :
    d.modeGo = d.modeStepBegin (pathNext d.mode t) := by
  simp [Dev.modeGo, hs, ht, hne, h9, hr]
  omega

/-- Of the steps themselves only one into PLAY-ECO has a condition that can fail (codes CHANNELS and BUDGET of Table 3-3b). -/
theorem Dev.stepRefusal_none {d : Dev} {n : Nat} (h : n ≠ 7) : d.stepRefusal n = none := by simp [Dev.stepRefusal, h]

/-- The step from READY to PLAY does nothing first: TRANSITION and NEXT are set (R71). -/
theorem Dev.modeStepBegin_play {d : Dev} (hm : d.mode = 5) :
    d.modeStepBegin 6 = (d.put kModeStatus (setFld (setFld (d.get kModeStatus) 7 4 6) 0 0 1)).outSettle.hpSettle := by
  simp [Dev.modeStepBegin, hm]

/-- PLAY asked for in READY. -/
theorem Dev.modeAsk_play {d : Dev} (hm : d.mode = 5) (hs : d.inStep = false) (hf : d.twin.fenceIn = false) :
    d.modeAsk 6 = ((d.put kModeRequest 6).put kModeStatus (setFld (setFld (d.get kModeStatus) 7 4 6) 0 0 1)).outSettle.hpSettle := by
  have hm' : (d.put kModeRequest 6).mode = 5 := by rw [Dev.mode_put (by decide), hm]
  have hs' : (d.put kModeRequest 6).inStep = false := by rw [Dev.inStep_put (by decide), hs]
  have hgo := Dev.modeGo_step hs' (by omega) (Dev.get_put_same _ _ _) (by omega) (by omega) (by rw [hm']; exact Dev.stepRefusal_none (by decide))
  rw [hm'] at hgo
  rw [Dev.modeAsk_ready hm hs (by decide) (.inr hf), hgo, show pathNext 5 6 = 6 from rfl, Dev.modeStepBegin_play hm',
    Dev.get_put_other kModeStatus _ _ _ (by decide) (.inl (by decide))]

/-- SAFE asked for in READY. -/
theorem Dev.modeAsk_safe {d : Dev} (hm : d.mode = 5) (hs : d.inStep = false) :
    d.modeAsk 9 = ((d.put kModeRequest 9).causeSet 8).outSettle.hpSettle := by
  rw [Dev.modeAsk_ready hm hs (by decide) (.inl rfl)]
  exact Dev.modeGo_safe (by rw [Dev.inStep_put (by decide), hs]) (by rw [Dev.mode_put (by decide), hm]; rfl) (Dev.get_put_same _ _ _)

/-! The end of a step, and the end of SAFE -/

/-- A mode entered with no SAFE cause active: EV1, and the outputs follow. -/
theorem Dev.modeEntered_calm {d : Dev} {n : Nat} (hc : d.get kSafeCause = 0) :
    d.modeEntered n = ((d.put kMode n).raise 1).outSettle.hpSettle.auxSettle := by
  have hc' : ((d.put kMode n).raise 1).get kSafeCause = 0 := by
    rw [Dev.get_raise _ _ _ (by decide) (by simp [fabricKey, kSafeCause]), Dev.get_safeCause_put (by decide), hc]
  simp [Dev.modeEntered, hc']

/-- The step from READY to PLAY waits for nothing: PLAY is entered. -/
theorem Dev.stepComplete_play {d : Dev} (hm : d.mode = 5) (hs : d.inStep = true) (hn : fld (d.get kModeStatus) 7 4 = 6) :
    d.stepComplete = ((d.put kModeStatus (setFld (setFld (d.get kModeStatus) 7 4 0) 0 0 0)).modeEntered 6).modeGo := by
  simp [Dev.stepComplete, Dev.stepReady, hm, hs, hn]

/-- Every cause clear for 1 s, and SAFE_RETURN 1: SAFE is left for the held mode (R75). -/
theorem Dev.safeReturn_due {d : Dev} {t : Nat} (hc : d.sup.causesClear = some t) (ht : t + 1000000000 ≤ d.now) (hm : d.mode = 9)
    (h0 : d.get kSafeCause = 0) (hr : d.get kSafeReturn = 1) : d.safeReturn = d.leaveSafe d.sup.heldMode := by
  simp [Dev.safeReturn, hc, ht, hm, h0, hr]

/-- What leaving SAFE does (R75): EV10 and EV1, the mode held before, the outputs' mute ended, and the target sought. -/
theorem Dev.leaveSafe_eq {d : Dev} {t : Nat} :
    d.leaveSafe t = (((((({ d with pwr := { d.pwr with dieMute := 0 }, sup := { d.sup with causesClear := none } } : Dev).put kModeRequest t).raise 10).put kMode d.sup.heldMode).raise 1).outSettle.hpSettle.auxSettle.modeGo) := by
  simp only [Dev.leaveSafe, Dev.does_cons, Dev.does_nil]

/-! The path of R69 -/

/-- The modes that a request leaves and may name: DORMANT to DIAGNOSE, and SERVICE. -/
def pathModes : List Nat := [2, 3, 4, 5, 6, 7, 8, 11]

theorem mem_pathModes {m : Nat} (h : 2 ≤ m ∧ m ≤ 8 ∨ m = 11) : m ∈ pathModes := by
  simp only [pathModes, List.mem_cons, List.not_mem_nil, or_false]
  omega

/-- The steps between neighbouring modes (R69, Table 3-3a). -/
def pathTable : List (Nat × Nat) :=
  [(2, 3), (3, 2), (3, 4), (4, 3), (4, 5), (4, 11), (5, 4), (5, 6), (5, 7), (5, 8), (6, 5), (6, 7), (7, 5), (7, 6), (8, 5), (11, 4)]

theorem pathNext_mem_pathTable : ∀ m ∈ pathModes, ∀ t ∈ pathModes, m ≠ t → (m, pathNext m t) ∈ pathTable := by decide

/-- Where `n` steps of the path to `t` lead from `m`; it rests at `t`. -/
def pathWalk (m t : Nat) : Nat → Nat := Nat.rec m (fun _ x => if x = t then x else pathNext x t)

/-- No two modes lie further apart than DORMANT and PLAY, four steps. -/
theorem pathWalk_four : ∀ m ∈ pathModes, ∀ t ∈ pathModes, pathWalk m t 4 = t := by decide

/-- Settles O6: what each request does is read off `modeAsk`, the end of the step off `stepComplete`, the end of SAFE off `safeReturn`, and the path off its table. -/
theorem modeChange : Obligations.ModeChange := by
  unfold Obligations.ModeChange
  refine ⟨fun _ _ => writes_modeRequest fun _ ⟨hm, hs, h2, h8⟩ => Dev.modeAsk_current hm hs h2 h8,
    fun _ _ => writes_modeRequest fun _ hm => Dev.modeAsk_bringUp hm,
    fun _ => writes_modeRequest fun _ ⟨hm, hs, hf⟩ => Dev.modeAsk_play hm hs hf,
    fun _ => writes_modeRequest fun _ ⟨hm, hs⟩ => Dev.modeAsk_safe hm hs, ?stepEnd, ?safeEnd, ?path⟩
  case stepEnd =>
    intro s hm hs hn hc
    refine becomes_act rfl ?_
    rw [Dev.stepComplete_play hm hs hn, Dev.modeEntered_calm (by rw [Dev.get_safeCause_put (by decide), hc])]
  case safeEnd => exact fun s t hc ht hm h0 hr => becomes_act rfl ((Dev.safeReturn_due hc ht hm h0 hr).trans Dev.leaveSafe_eq)
  case path =>
    intro m t hm ht hne
    exact ⟨pathNext_mem_pathTable m (mem_pathModes hm) t (mem_pathModes ht) hne, 4, by decide, pathWalk_four m (mem_pathModes hm) t (mem_pathModes ht)⟩

end Sys2Proof.Machine
end

section
/-! SUPPORT. The snapshot's store, the wake sources, and the supplies (R74, R91 to R95, R490 to R492). -/
namespace Sys2Proof.Machine

/-! The snapshot -/

theorem objRow_snapshotStore : objRow 0x113100 = some (.mk 0x1131 1 1 0x0 1 .bool .cmd 0 .none 0 0 (.nat [(0, 1)])) := rfl

theorem Dev.actOn_snapshotStore {m : List Host.Cell} {p : Path} {old : Nat} {b : List Byte} {d : Dev} : d.actOn m p 0x113100 old 1 b = d.snapAsk := by
  simp [Dev.actOn, Dev.actModes]

/-- The store of slot 1 completes (R92). -/
theorem Dev.snapDone_one {d : Dev} (h : d.sup.storing = some 1) :
    d.snapDone = ((({ d with sup := { d.sup with storing := none, newest := 1, slot1 := { d.sup.slot1 with valid := true } } } : Dev).put 0x113200 d.sup.slot1.time).put 0x113300
      (setFld (setBit (d.get 0x113300) 0 true) 4 4 0)).raise 12 := by
  simp only [Dev.snapDone, h]
  rfl

/-! Waking -/

/-- An enabled source in LISTEN, outside a step, wakes the part (R94). -/
theorem Dev.wake_listen {d : Dev} {bits : Nat} (hm : d.mode = 3) (hs : d.inStep = false) (hb : bits &&& d.get 0x114000 &&& 0x3E ≠ 0) :
    d.wake bits false = d.wakeFor (bits &&& d.get 0x114000 &&& 0x3E) (d.get 0x114300) := by
  simp [Dev.wake, hm, hs, hb]

/-- The wake timer's bit of the sources, where 1140.00 enables it. -/
theorem timer_bit_enabled {v : Nat} (h : bit v 4 = true) : 2 ^ 4 &&& v &&& 0x3E = 16 := by
  have hv : v.testBit 4 = true := h
  refine Nat.eq_of_testBit_eq fun i => ?_
  rw [show 16 = 2 ^ 4 from rfl, Nat.testBit_and, Nat.testBit_and, Nat.testBit_two_pow]
  by_cases hi : 4 = i
  · subst hi
    rw [hv]
    rfl
  · rw [decide_eq_false hi, Bool.false_and, Bool.false_and]

/-- The wake timer runs out in LISTEN, enabled: it wakes the part as its bit of 1142.00 alone (R95). -/
theorem Dev.wakeExpires_listen {d : Dev} {t : Nat} (ht : d.sup.wakeAt = some t) (hn : t ≤ d.now) (hm : d.mode = 3) (hs : d.inStep = false)
    (he : d.bitOf 0x114000 4 = true) : d.wakeExpires = d.wakeFor 16 (d.get 0x114300) := by
  have hb : 2 ^ 4 &&& d.get 0x114000 &&& 0x3E = 16 := timer_bit_enabled he
  have hw := Dev.wake_listen (d := { d with sup := { d.sup with wakeAt := none } }) hm hs (fun h0 => absurd (hb.symm.trans h0) (by decide))
  simp only [Dev.wakeExpires, ht, if_pos hn]
  exact hw.trans (congrArg (fun n => Dev.wakeFor n _ _) hb)

/-! Supplies -/

theorem Dev.vinFault_low_running {d : Dev} (h : d.ready 0 = true) :
    d.vinFault false = (({ d with sup := { d.sup with vinLow := true } } : Dev).causeSet 1).outSettle.hpSettle := if_pos h

theorem Dev.vinFault_low_waiting {d : Dev} (h : d.ready 0 = false) : d.vinFault false = { d with sup := { d.sup with vinLow := true } } :=
  if_neg (show ¬ d.ready 0 = true by simp [h])

theorem Dev.vinFault_high_running {d : Dev} (h : d.ready 0 = true) :
    d.vinFault true = (({ d with sup := { d.sup with vinHigh := true } } : Dev).causeSet 2).outSettle.hpSettle := if_pos h

/-- A cause of taint that is new (R25). -/
theorem Dev.taint_new {d : Dev} {i : Nat} (h : d.bitOf kTaint i = false) : d.taint i = (d.putBit kTaint i true).raise 4 := if_neg (by simp [h])

/-- A host frame in progress on bank 0 is discarded and counted as cut short (R491). -/
theorem Dev.bankLost_frame {d : Dev} (hb : d.sup.vddio0 = true) (ha : d.alive = true) :
    d.bankLost 0 true = ({ d with sup := { d.sup with vddio0 := false }, bus := { d.bus with outSpi := .none } } : Dev).put 0x141000 (satAdd 32 (d.get 0x141000) 1) := by
  simp only [Dev.bankLost, hb, ha]
  rfl

/-- Settles O9: each command's effect is one equation of its operation, in the case that the clause names. -/
theorem snapshotWakeSupplies : Obligations.SnapshotWakeSupplies := by
  unfold Obligations.SnapshotWakeSupplies
  refine ⟨?ask, ?done, ?wake, ?timer, ?warn, ?lowRunning, ?lowWaiting, ?highRunning, ?lowBack, ?highBack, ?range, ?bankOne, ?bankZero, ?frame, ?zeroBack, ?oneBack⟩
  case ask => exact fun a => writes_cmd (fun _ => rfl) objRow_snapshotStore rfl rfl rfl (fun _ _ _ => Dev.actOn_snapshotStore)
  case done => exact fun s h => becomes_act rfl (Dev.snapDone_one h)
  case wake => exact fun s sources hm hs hb => becomes_act rfl (Dev.wake_listen hm hs hb)
  case timer => exact fun s t ht hn hm hs he => becomes_act rfl (Dev.wakeExpires_listen ht hn hm hs he)
  case warn => exact fun s h => becomes_act rfl (by rw [h, Dev.when_true])
  case lowRunning => exact fun s h => becomes_act rfl (Dev.vinFault_low_running h)
  case lowWaiting => exact fun s h => becomes_act rfl (Dev.vinFault_low_waiting h)
  case highRunning => exact fun s h => becomes_act rfl (Dev.vinFault_high_running h)
  case lowBack => exact fun s => becomes_act rfl rfl
  case highBack => exact fun s => becomes_act rfl rfl
  case range => exact fun s h ht => becomes_act rfl (by rw [h, Dev.when_true, Dev.taint_new ht]; rfl)
  case bankOne => exact fun s frame => becomes_act rfl rfl
  case bankZero => exact fun s => becomes_act rfl rfl
  case frame => exact fun s hb ha => becomes_act rfl (Dev.bankLost_frame hb ha)
  case zeroBack => exact fun s => becomes_act rfl rfl
  case oneBack => exact fun s => becomes_act rfl rfl

end Sys2Proof.Machine
end

section
/-! SUPPORT. The clocks and the outputs: what brings the outputs to their circumstances leaves the clocks as they are. -/
namespace Sys2Proof.Machine

@[simp] theorem Dev.chDown_clk (n : Nat) (d : Dev) : (d.chDown n).clk = d.clk := rfl
@[simp] theorem Dev.chRest_clk (n st : Nat) (d : Dev) : (d.chRest n st).clk = d.clk := rfl
@[simp] theorem Dev.chStart_clk (n : Nat) (soft : Bool) (d : Dev) : (d.chStart n soft).clk = d.clk := rfl
@[simp] theorem Dev.chRamp_clk (n : Nat) (up : Bool) (d : Dev) : (d.chRamp n up).clk = d.clk := rfl
@[simp] theorem Dev.modPch_clk (n : Nat) (f : PwrCh → PwrCh) (d : Dev) : (d.modPch n f).clk = d.clk := rfl

/-- In every state of a channel what it is brought to is a ramp, a rest or a start. -/
@[simp] theorem Dev.chSettle_clk (n : Nat) (d : Dev) : (d.chSettle n).clk = d.clk := by
  unfold Dev.chSettle
  dsimp only
  repeat' split
  all_goals rfl

@[simp] theorem Dev.pwrSettle_clk (d : Dev) : d.pwrSettle.clk = d.clk := by
  rw [Dev.pwrSettle, foldl_keeps Dev.clk _ (fun a n => a.chSettle_clk n)]
  split <;> rfl

@[simp] theorem Dev.setBflag_clk (i : Nat) (b : Bool) (d : Dev) : (d.setBflag i b).clk = d.clk := rfl
@[simp] theorem Dev.phaseReport_clk (d : Dev) : d.phaseReport.clk = d.clk := rfl

@[simp] theorem Dev.setBflag84_clk (i : Nat) (b : Bool) (d : Dev) : (d.setBflag84 i b).clk = d.clk := by
  unfold Dev.setBflag84
  split <;> simp

@[simp] theorem Dev.setBoost_clk (st : Nat) (d : Dev) : (d.setBoost st).clk = d.clk := by
  unfold Dev.setBoost
  simp only [apply_ite Dev.clk, Dev.pwrSettle_clk, Dev.phaseReport_clk, Dev.setBflag_clk, Dev.setBflag84_clk, Dev.raise_clk, Dev.put_clk, ite_self]

@[simp] theorem Dev.boostSettle_clk (d : Dev) : d.boostSettle.clk = d.clk := by
  simp only [Dev.boostSettle, apply_ite Dev.clk, Dev.setBoost_clk, ite_self]

@[simp] theorem Dev.outSettle_clk (d : Dev) : d.outSettle.clk = d.clk := by
  rw [Dev.outSettle, Dev.pwrSettle_clk, Dev.boostSettle_clk]

@[simp] theorem Dev.outStart_clk (o : Nat) (again : Bool) (d : Dev) : (d.outStart o again).clk = d.clk := rfl
@[simp] theorem Dev.modOut_clk (o : Nat) (f : OutCh → OutCh) (d : Dev) : (d.modOut o f).clk = d.clk := rfl

@[simp] theorem Dev.outSettleOne_clk (o : Nat) (d : Dev) : (d.outSettleOne o).clk = d.clk := by
  simp only [Dev.outSettleOne, apply_ite Dev.clk, Dev.outStart_clk, Dev.modOut_clk, Dev.put_clk, ite_self]

@[simp] theorem Dev.hpSettle_clk (d : Dev) : d.hpSettle.clk = d.clk := by
  rw [Dev.hpSettle, Dev.outSettleOne_clk, Dev.outSettleOne_clk]

@[simp] theorem Dev.causeClear_clk (i : Nat) (d : Dev) : (d.causeClear i).clk = d.clk := by
  simp only [Dev.causeClear, apply_ite Dev.clk, Dev.putBit_clk, ite_self]

@[simp] theorem Dev.causeEnd_clk (i : Nat) (d : Dev) : (d.causeEnd i).clk = d.clk := by
  rw [Dev.causeEnd, Dev.hpSettle_clk, Dev.outSettle_clk, Dev.causeClear_clk]

end Sys2Proof.Machine
end

section
/-! SUPPORT. The clock inputs, the SPLL and VDD33 (R99, R100, R113, R492). -/
namespace Sys2Proof.Machine

/-! The monitors -/

@[simp] theorem Dev.clockReport_clk (d : Dev) : d.clockReport.clk = d.clk := by
  unfold Dev.clockReport
  dsimp only
  split <;> rfl

/-- The monitors write CLOCK_STATUS and REFCLK_OFFSET alone. -/
theorem Dev.get_clockReport {k : Nat} {d : Dev} (h4 : k ≠ 0x200400) (h5 : k ≠ 0x200500) : d.clockReport.get k = d.get k := by
  unfold Dev.clockReport
  dsimp only
  split
  · rw [Dev.putI, Dev.get_put_other _ _ _ _ h5 (.inr (by decide)), Dev.get_put_other _ _ _ _ h4 (.inr (by decide))]
  · rw [Dev.get_put_other _ _ _ _ h4 (.inr (by decide))]

/-- A report changes the time of REFCLK's tolerance, the monitors' two objects, and what EV17 changes. -/
theorem Dev.monitorReport_keeps {β : Type} (P : Dev → β) (ht : ∀ d : Dev, P d.refTrack = P d) (hr : ∀ d : Dev, P d.clockReport = P d) (he : ∀ d : Dev, P (d.raise 17) = P d) (d : Dev) :
    P d.monitorReport = P d := by
  unfold Dev.monitorReport
  dsimp only
  split
  · exact ht d
  · rw [Dev.when]
    split
    · rw [he, hr, ht]
    · rw [hr, ht]

/-- The input in use, 2003.00, is no monitor's. -/
theorem Dev.get_activeInput_monitorReport (d : Dev) : d.monitorReport.get 0x200300 = d.get 0x200300 :=
  Dev.monitorReport_keeps (fun e => e.get 0x200300) (fun _ => rfl) (fun _ => Dev.get_clockReport (by decide) (by decide)) (fun e => Dev.get_raise 17 _ e (by decide) (by simp [fabricKey])) d

@[simp] theorem Dev.monitorReport_waitRef (d : Dev) : d.monitorReport.clk.waitRef = d.clk.waitRef :=
  Dev.monitorReport_keeps (fun e => e.clk.waitRef) (fun _ => rfl) (fun e => by rw [Dev.clockReport_clk]) (fun e => by rw [Dev.raise_clk]) d

/-! An input fails or returns -/

/-- The crystal fails while it drives the SPLL: the SPLL is lost with it (R100). -/
theorem Dev.inputFails_crystal {d : Dev} {present : Bool} {f : Nat} (h : d.get 0x200300 = 0) :
    d.inputFails false present f = (({ d with clk := { d.clk with xtal := false } } : Dev).monitorReport).spllLost 0 := by
  have ha : (({ d with clk := { d.clk with xtal := false } } : Dev).monitorReport).get 0x200300 = 0 := (Dev.get_activeInput_monitorReport _).trans h
  simp [Dev.inputFails, ha]

/-- REFCLK fails while the crystal drives the SPLL: it is only reported (R100). -/
theorem Dev.inputFails_reference {d : Dev} {present : Bool} {f : Nat} (h : d.get 0x200300 = 0) :
    d.inputFails true present f = ({ d with clk := { d.clk with refPresent := present, refMilliHz := f } } : Dev).monitorReport := by
  have ha : (({ d with clk := { d.clk with refPresent := present, refMilliHz := f } } : Dev).monitorReport).get 0x200300 = 0 := (Dev.get_activeInput_monitorReport _).trans h
  simp [Dev.inputFails, ha]

theorem Dev.inputReturns_crystal {d : Dev} {f : Nat} (h : d.clk.waitRef = false) :
    d.inputReturns false f = ({ d with clk := { d.clk with xtal := true } } : Dev).monitorReport := by
  simp [Dev.inputReturns, h]

theorem Dev.inputReturns_reference {d : Dev} {f : Nat} (h : d.clk.waitRef = false) :
    d.inputReturns true f = ({ d with clk := { d.clk with refPresent := true, refMilliHz := f } } : Dev).monitorReport := by
  simp [Dev.inputReturns, h]

/-! The SPLL is lost, and relocks -/

/-- What the loss of the SPLL leaves before its record is made (R113). -/
def Dev.spllDropped (input : Nat) (d : Dev) : Dev :=
  let x : Dev := { d.put 0x200400 (setFld (d.clockReport.get 0x200400) 5 3 6) with clk := { d.clk with relockOn := input, acq := none, adjacent := false, retryAt := none } }
  (((((((x.setReady 0 (2 ^ 3)).coastFromSync).linkSet 0 0).linkSet 1 0).holdover).causeSet 0).outSettle.hpSettle.raise 16).inc 0x200600

theorem Dev.spllLost_locked {d : Dev} {input : Nat} (h : d.ready 3 = true) :
    d.spllLost input = (d.spllDropped input).bbMake 3 2 16 0 ((d.spllDropped input).get 0x200400) ((d.spllDropped input).get 0x200600) :=
  if_neg (by simp [h])

/-- Ready bits that are set leave the others as they were. -/
theorem Dev.ready_setReady_other {d : Dev} {i j : Nat} (h : i ≠ j) : (d.setReady (2 ^ i) 0).ready j = d.ready j := by
  have hv : (d.setReady (2 ^ i) 0).get kReady = d.get kReady ||| 2 ^ i := by
    have hc : clearBits (d.get kReady) 0 = d.get kReady := by simp [clearBits]
    unfold Dev.setReady
    dsimp only
    rw [hc]
    split
    case isTrue same => exact same.symm
    case isFalse => rw [Dev.get_raise _ _ _ (by decide) (by simp [fabricKey, kReady]), Dev.get_put_same]
  rw [Dev.ready, Dev.bitOf, hv, bit, Nat.testBit_or, Nat.testBit_two_pow_of_ne h, Bool.or_false]
  rfl

theorem Dev.ready_put_other {d : Dev} {k v i : Nat} (h : kReady ≠ k) : (d.put k v).ready i = d.ready i := by
  rw [Dev.ready, Dev.bitOf, Dev.get_put_other _ _ _ _ h (.inl (by decide))]
  rfl

@[simp] theorem Dev.spllOn_clk (input : Nat) (d : Dev) : (d.spllOn input).clk = d.clk := by simp [Dev.spllOn]

/-- The SPLL that locks sets ready bit 3 alone. -/
theorem Dev.ready_spllOn {d : Dev} {input i : Nat} (h : 3 ≠ i) : (d.spllOn input).ready i = d.ready i := by
  have hr : ∀ e : Dev, e.clockReport.ready i = e.ready i := fun e => congrArg (bit · i) (Dev.get_clockReport (by decide) (by decide))
  rw [Dev.spllOn, Dev.ready_setReady_other h, Dev.ready_put_other (by decide), hr, Dev.ready_put_other (by decide)]

/-- A relock with the media domains running: EV17, SAFE cause [0] cleared, and the MPLL acquires again (R113). -/
theorem Dev.spllLocks_running {d : Dev} {input : Nat} (hm : d.ready 20 = true) (hr : d.clk.run = true) :
    d.spllLocks input = (((({ d.spllOn input with clk := { d.clk with waitRef := false } } : Dev).raise 17).causeClear 0).outSettle.hpSettle).acquire := by
  have hx : ({ d.spllOn input with clk := { d.clk with waitRef := false } } : Dev).ready 20 = true := (Dev.ready_spllOn (by decide)).trans hm
  have hrun : ((({ d.spllOn input with clk := { d.clk with waitRef := false } } : Dev).raise 17).causeEnd 0).clk.run = true := by
    rw [Dev.causeEnd_clk, Dev.raise_clk]
    exact hr
  simp only [Dev.spllLocks, Dev.spllOn_clk, hx, hrun, Bool.not_true, Bool.true_or, if_true, Bool.false_eq_true, if_false]
  rfl

/-- An SPLL that is lost relocks on the crystal it waits for (R99, R113). -/
theorem Dev.spllRelock_crystal {d : Dev} (hl : d.ready 3 = false) (hc : d.sup.coreOn = true) (hv : d.sup.vdd33 = true) (hw : d.clk.waitRef = false)
    (ho : d.clk.relockOn = 0) (hx : d.clk.xtal = true) : d.spllRelock = d.spllLocks 0 := by
  simp [Dev.spllRelock, hl, hc, hv, hw, ho, hx]

/-! VDD33 -/

theorem mixedSignal_mask : (mixedSignal.map (fun n => 2 ^ n)).sum = 2 ^ 4 + 2 ^ 15 + 2 ^ 16 + 2 ^ 23 + 2 ^ 24 + 2 ^ 25 := by decide

/-- VDD33 fails: the SPLL is lost, and the mixed-signal functions stop (R492). -/
theorem Dev.vdd33Lost_on {d : Dev} (hc : d.sup.coreOn = true) (hv : d.sup.vdd33 = true) :
    d.vdd33Lost = ((((({ d with sup := { d.sup with vdd33 := false } } : Dev).spllLost (d.get 0x200300)).setReady 0 (2 ^ 4 + 2 ^ 15 + 2 ^ 16 + 2 ^ 23 + 2 ^ 24 + 2 ^ 25)).capStopAnalog).hpSettle).hkaRestart.auxSettle := by
  simp only [Dev.vdd33Lost, hc, hv, mixedSignal_mask, Dev.does_cons, Dev.does_nil, Bool.not_true, Bool.or_self, Bool.false_eq_true, if_false]

/-- One of the mixed-signal functions is ready again, where the mode runs it. -/
def Dev.mixedBack (n : Nat) (d : Dev) : Dev :=
  if d.funcRuns n = true ∧ d.ready n = false then (if n = 4 then d.setReady (2 ^ 4) 0 else (d.setReady (2 ^ n) 0).funcStart n) else d

/-- VDD33 returns: each mixed-signal function in turn (R492). -/
theorem Dev.vdd33Back_off {d : Dev} (hc : d.sup.coreOn = true) (hv : d.sup.vdd33 = false) :
    d.vdd33Back = mixedSignal.foldl (fun a n => a.mixedBack n) ({ d with sup := { d.sup with vdd33 := true } } : Dev) := by
  have hstep : ∀ (a : Dev) (n : Nat),
      (if a.funcRuns n && !a.ready n then (if n = 4 then a.setReady (2 ^ n) 0 else (a.setReady (2 ^ n) 0).funcStart n) else a) = a.mixedBack n := by
    intro a n
    by_cases hn : n = 4
    · simp [Dev.mixedBack, hn]
    · simp [Dev.mixedBack, hn]
  simp only [Dev.vdd33Back, hc, hv, hstep, Bool.not_true, Bool.or_self, Bool.false_eq_true, if_false]

/-- Settles O10: each input, the SPLL and VDD33 by the equation of its operation in the case that the clause names. -/
theorem systemClock : Obligations.SystemClock := by
  unfold Obligations.SystemClock
  refine ⟨?crystalFails, ?refFails, ?crystalBack, ?refBack, ?loss, ?relock, ?vddLoss, ?vddBack⟩
  case crystalFails => exact fun s present f h => becomes_act rfl (Dev.inputFails_crystal h)
  case refFails => exact fun s present f h => becomes_act rfl (Dev.inputFails_reference h)
  case crystalBack => exact fun s f h => becomes_act rfl (Dev.inputReturns_crystal h)
  case refBack => exact fun s f h => becomes_act rfl (Dev.inputReturns_reference h)
  case loss => exact fun s h => becomes_act rfl (Dev.spllLost_locked h)
  case relock => exact fun s hl hc hv hw ho hx hm hr => becomes_act rfl ((Dev.spllRelock_crystal hl hc hv hw ho hx).trans (Dev.spllLocks_running hm hr))
  case vddLoss => exact fun s hc hv => becomes_act rfl (Dev.vdd33Lost_on hc hv)
  case vddBack =>
    intro s hc hv
    rw [exec, execVdd33Recovery]
    exact congrArg Host.Outcome.next (State.run_congr (Dev.vdd33Back_off hc hv))

end Sys2Proof.Machine
end

section
/-! SUPPORT. Acquisition and the band scan of the media PLL (R107, R110). -/
namespace Sys2Proof.Machine

/-! Commands that may store to memory, and do not -/

/-- A command whose function of memory and the part stores nothing changes the part alone. -/
theorem becomes_run {i : Instr} {s : State} {f : List Host.Cell → Dev → Dev} {d : Dev} (hi : exec i s = .next (s.run f)) (hf : f s.mem s.dev = d)
    (hd : d.stores = s.dev.stores) (hs : s.dev.stores = []) : becomes i s d := by
  rw [becomes, hi, State.run_eq s f (by rw [hf, hd, hs]), hf, hs]

/-- What such a command becomes, it gives. -/
theorem becomes.gives {i : Instr} {s : State} {d : Dev} {P : Dev → Prop} (h : becomes i s d) (hP : P { d with stores := s.dev.stores }) : gives i s P :=
  ⟨_, h, rfl, fun _ => rfl, hP⟩

/-! What MPLL_STATE and MPLL_STATUS report -/

@[simp] theorem Dev.mpllReport_clk (d : Dev) : d.mpllReport.clk = d.clk := rfl
@[simp] theorem Dev.mpllReport_stores (d : Dev) : d.mpllReport.stores = d.stores := rfl

theorem Dev.get_mpllReport {k : Nat} {d : Dev} (h0 : k ≠ 0x211000) (h1 : k ≠ 0x211100) : d.mpllReport.get k = d.get k := by
  rw [Dev.mpllReport, Dev.get_put_other _ _ _ _ h1 (.inr (by decide)), Dev.get_put_other _ _ _ _ h0 (.inr (by decide))]

/-! A lock -/

/-- Acquisition has ended with a lock: nothing of it remains, and BAND_FAULT is clear (R110). -/
def Dev.acquired (d : Dev) : Dev :=
  ({ d with clk := { d.clk with acq := none, adjacent := false, retryAt := none } } : Dev).put 0x211100 (setBit (d.get 0x211100) 4 false)

@[simp] theorem Dev.acquired_run (d : Dev) : d.acquired.clk.run = d.clk.run := rfl
@[simp] theorem Dev.acquired_acq (d : Dev) : d.acquired.clk.acq = none := rfl
@[simp] theorem Dev.acquired_stores (d : Dev) : d.acquired.stores = d.stores := rfl

theorem Dev.get_acquired {k : Nat} {d : Dev} (h : k ≠ 0x211100) : d.acquired.get k = d.get k := Dev.get_put_other _ _ _ _ h (.inr (by decide))

/-- The entry in use is rewritten with the band beside it that has locked, EV20 (R110). -/
def Dev.entryMoved (b lo hi : Nat) (d : Dev) : Dev :=
  (((d.put (key 0x2121 (d.get 0x210300)) b).put (key 0x2122 (d.get 0x210300)) lo).put (key 0x2123 (d.get 0x210300)) hi).raise 20

@[simp] theorem Dev.entryMoved_clk (b lo hi : Nat) (d : Dev) : (d.entryMoved b lo hi).clk = d.clk := by simp [Dev.entryMoved]
@[simp] theorem Dev.entryMoved_stores (b lo hi : Nat) (d : Dev) : (d.entryMoved b lo hi).stores = d.stores := by simp [Dev.entryMoved]

/-- The band of an entry, 2121.ee, lies above the objects of MPLL_STATE and MPLL_STATUS and outside the event fabric. -/
theorem bandKey_ne (e : Nat) {k : Nat} (h : k < 0x212100) : key 0x2121 e ≠ k := by unfold key; omega

theorem bandKey_not_fabric (e : Nat) : ¬ fabricKey (key 0x2121 e) := by unfold fabricKey key; omega

/-- An object of an entry stays where another of the entry's is put. -/
theorem Dev.get_put_entry {i j e v : Nat} {d : Dev} (h : i ≠ j) (hj : 0x2120 ≤ j) : (d.put (key j e) v).get (key i e) = d.get (key i e) :=
  Dev.get_put_other _ _ _ _ (by unfold key; omega) (.inr (by unfold key kBootMode; omega))

theorem Dev.get_band_entryMoved {b lo hi : Nat} {d : Dev} : (d.entryMoved b lo hi).get (key 0x2121 (d.get 0x210300)) = b := by
  rw [Dev.entryMoved, Dev.get_raise _ _ _ (by decide) (bandKey_not_fabric _), Dev.get_put_entry (by decide) (by decide), Dev.get_put_entry (by decide) (by decide), Dev.get_put_same]

section
variable {d : Dev} {t : Nat} (ha : d.clk.acq = some t) (hs : d.clk.scan = false) (h3 : d.ready 3 = true)
include ha hs h3

/-- A lock on the entry's own band. -/
theorem Dev.mpllLocks_entry : d.mpllLocks none = if d.clk.run then d.acquired.mpllReport else if d.acquired.entersReady then d.acquired.strobesStart.raise 19 else d.acquired.mpllReport := by
  have hc : ¬ (d.clk.acq.isNone || d.clk.scan || !d.ready 3) = true := by simp [ha, hs, h3]
  rw [Dev.mpllLocks, if_neg hc]
  cases d.clk.adjacent <;> rfl

/-- A lock of the running MPLL on a band beside the entry's. -/
theorem Dev.mpllLocks_beside {b lo hi : Nat} (hb : d.clk.adjacent = true) (hr : d.clk.run = true) : d.mpllLocks (some (b, lo, hi)) = (d.entryMoved b lo hi).acquired.mpllReport := by
  have hc : ¬ (d.clk.acq.isNone || d.clk.scan || !d.ready 3) = true := by simp [ha, hs, h3]
  have hrun : (d.entryMoved b lo hi).clk.run = true := by rw [Dev.entryMoved_clk, hr]
  rw [Dev.mpllLocks, if_neg hc, hb]
  exact if_pos hrun

end

/-- READY is entered whatever the MPLL's acquisition. -/
theorem Dev.entersReady_acquired {d : Dev} (hm : d.mode = 4) (hs : d.inStep = true) (hn : fld (d.get kModeStatus) 7 4 = 5) : d.acquired.entersReady = true := by
  have hmode : d.acquired.mode = 4 := (Dev.get_acquired (by decide)).trans hm
  have hstat : d.acquired.get kModeStatus = d.get kModeStatus := Dev.get_acquired (by decide)
  have hstep : d.acquired.inStep = true := by rw [Dev.inStep, Dev.bitOf, hstat]; exact hs
  simp [Dev.entersReady, hmode, hstep, hstat, hn]

/-! Attempts that fail -/

theorem Dev.attemptFails_due {d : Dev} {t : Nat} (ha : d.clk.acq = some t) (hb : d.clk.adjacent = false) (ht : t + 400000 ≤ d.now) :
    d.attemptFails = { d with clk := { d.clk with adjacent := true } } := by
  simp [Dev.attemptFails, ha, hb, ht]

/-- BAND_FAULT newly set while the media domains run (R110). -/
theorem Dev.bandFault_running {d : Dev} {t : Nat} (ha : d.clk.acq = some t) (hb : d.clk.adjacent = true) (ht : t + 1200000 ≤ d.now) (hn : d.bitOf 0x211100 4 = false)
    (hr : d.clk.run = true) :
    d.bandFault = (((({ d with clk := { d.clk with acq := none, adjacent := false, retryAt := some (t + 100000000) } } : Dev).put 0x211100 (setBit (d.get 0x211100) 4 true)).raise 20).mpllReport) := by
  simp only [Dev.bandFault, ha]
  rw [if_pos (by simp [hb, ht]), hn, Bool.not_false, Dev.when_true]
  exact if_neg (by simp [hr])

theorem Dev.bandRetry_due {d : Dev} {t : Nat} (ht : d.clk.retryAt = some t) (hn : t ≤ d.now) (h3 : d.ready 3 = true) : d.bandRetry = d.acquire := by
  simp [Dev.bandRetry, ht, hn, h3]

/-! The band scan -/

theorem objRow_bandScan : objRow 0x213000 = some (.mk 0x2130 1 1 0x0 1 .bool .cmd 0 .none 0 0 (.nat [(0, 1)])) := rfl

theorem Dev.actOn_bandScan {m : List Host.Cell} {p : Path} {old : Nat} {b : List Byte} {d : Dev} : d.actOn m p 0x213000 old 1 b = d.scanStart := by
  simp [Dev.actOn, Dev.actTime]

/-- An entry's result changes its objects and raises EV20; the clocks stay. -/
@[simp] theorem Dev.scanEntry_clk (bands : List (Nat × Nat)) (e : Nat) (d : Dev) : (d.scanEntry bands e).clk = d.clk := by
  unfold Dev.scanEntry
  dsimp only
  split
  · rfl
  · split
    · rfl
    · simp

/-- A scan's end with no commit waiting and the media domains running (R107). -/
theorem Dev.scanEnd_running {d : Dev} {bands : List (Nat × Nat)} (hs : d.clk.scan = true) (hw : d.clk.waitCommit = false) (hr : d.clk.run = true) :
    d.scanEnd bands = (({ (upto 16).foldl (fun (a : Dev) e => a.scanEntry bands e) d with clk := { d.clk with scan := false } } : Dev).acquire).raise 23 := by
  have hclk : ((upto 16).foldl (fun (a : Dev) e => a.scanEntry bands e) d).clk = d.clk := foldl_keeps Dev.clk _ (fun a e => a.scanEntry_clk bands e) _ _
  simp only [Dev.scanEnd, hs, hclk, hw, hr, Bool.not_true, Bool.true_or, Bool.false_eq_true, if_true, if_false]

/-- Settles O11: a lock, an attempt that fails and the scan's two ends, each by the equation of its operation. -/
theorem acquisition : Obligations.Acquisition := by
  unfold Obligations.Acquisition
  refine ⟨?lock, ?beside, ?entry, ?attempt, ?fault, ?retry, ?scan, ?scanned⟩
  case lock =>
    intro s t hm ha hs h3 hr
    exact becomes_run rfl ((Dev.mpllLocks_entry ha hs h3).trans (if_pos hr)) rfl hm
  case beside =>
    intro s t b lo hi hm ha hb hs h3 hr
    refine (becomes_run rfl (Dev.mpllLocks_beside ha hs h3 hb hr) (by simp) hm).gives ⟨rfl, ?_⟩
    rw [Dev.get_with_stores, Dev.get_mpllReport (bandKey_ne _ (by decide)) (bandKey_ne _ (by decide)), Dev.get_acquired (bandKey_ne _ (by decide)), Dev.get_band_entryMoved]
  case entry =>
    intro s t ha hs h3 hr hm hi hn
    refine congrArg _ (State.run_congr ?_)
    rw [Dev.mpllLocks_entry ha hs h3, if_neg (by simp [hr]), if_pos (Dev.entersReady_acquired hm hi hn)]
    rfl
  case attempt => exact fun s t ha hb ht => becomes_act rfl (Dev.attemptFails_due ha hb ht)
  case fault => exact fun s t hm ha hb ht hn hr => becomes_run rfl (Dev.bandFault_running ha hb ht hn hr) (by simp) hm
  case retry => exact fun s t ht hn h3 => becomes_act rfl (Dev.bandRetry_due ht hn h3)
  case scan => exact fun a => writes_cmd (fun _ => rfl) objRow_bandScan rfl rfl rfl (fun _ _ _ => Dev.actOn_bandScan)
  case scanned => exact fun s bands h3 hs hw hr => becomes_act rfl (by rw [h3, Dev.when_true, Dev.scanEnd_running hs hw hr])

end Sys2Proof.Machine
end

section
/-! SUPPORT. Holdover and the steering source (R105, R109, R111, R112). -/
namespace Sys2Proof.Machine

/-! Holdover -/

/-- The running MPLL loses lock, with no acquisition, retry or scan under way (R111). -/
theorem Dev.mpllLosesLock_locked {d : Dev} (hr : d.clk.run = true) (ha : d.clk.acq = none) (ht : d.clk.retryAt = none) (hs : d.clk.scan = false) (h3 : d.ready 3 = true) :
    d.mpllLosesLock = ((d.put 0x211800 (satAdd 32 (d.get 0x211800) 1)).acquire).holdover :=
  if_neg (by simp [hr, ha, ht, hs, h3])

/-- Nothing holds the domains on the synthesiser: they return (R112). -/
theorem Dev.holdoverEnd_free {d : Dev} {t : Nat} (ht : d.clk.hldAt = some t) (hh : d.clk.held = false) (h3 : d.ready 3 = true) :
    d.holdoverEnd = ((({ d with clk := { d.clk with hldAt := none, hld2s := false } } : Dev).put 0x211600 (min ((d.now - t) / 1000000) (2 ^ 32 - 1))).mpllReport).raise 19 := by
  simp [Dev.holdoverEnd, ht, hh, h3]

theorem Dev.holdover2s_due {d : Dev} {t : Nat} (ht : d.clk.hldAt = some t) (h2 : d.clk.hld2s = false) (hn : t + 2000000000 ≤ d.now) :
    d.holdover2s = ({ d with clk := { d.clk with hld2s := true } } : Dev).raise 21 := by
  simp [Dev.holdover2s, ht, h2, hn]

theorem Dev.slewComplete_locked {d : Dev} (hs : d.clk.slewing = true) (ha : d.clk.acq = none) (ht : d.clk.retryAt = none) (h3 : d.ready 3 = true) :
    d.slewComplete = ({ d with clk := { d.clk with slewing := false, word := d.commitWord } } : Dev).mpllReport :=
  if_pos (by simp [hs, ha, ht, h3])

/-! The committed source -/

/-- The committed source, in use, is no longer valid (R109). -/
theorem Dev.steerLost_primary {d : Dev} (hr : d.clk.run = true) (hf : d.bitOf 0x211100 5 = false) (hv : d.bitOf 0x211100 2 = true) (hn : d.steerValid = false) :
    d.steerLost = ({ d.put 0x211100 (setBit (d.get 0x211100) 2 false) with clk := { d.clk with srcLost := true, lostAt := some d.now } } : Dev).holdover := by
  simp only [Dev.steerLost, hf, Bool.false_and, Bool.false_eq_true, if_false]
  exact if_pos (by simp [hr, hv, hn])

/-- The committed source, in use, is valid again (R109). -/
theorem Dev.steerBack_primary {d : Dev} (hr : d.clk.run = true) (hf : d.bitOf 0x211100 5 = false) (hv : d.bitOf 0x211100 2 = false) (hn : d.steerValid = true) :
    d.steerBack = ({ d.put 0x211100 (setBit (d.get 0x211100) 2 true) with clk := { d.clk with srcLost := false, lostAt := none } } : Dev).holdoverEnd := by
  simp only [Dev.steerBack, hf, Bool.false_and, Bool.false_eq_true, if_false]
  exact if_pos (by simp [hr, hv, hn])

/-! The fallback -/

/-- The internal commit that changes the source alone, the loss of the source forgotten (R109). -/
def Dev.sourceCommit (d : Dev) : Dev := ({ d with clk := { d.clk with srcLost := false, lostAt := none } } : Dev).mpllCommit

/-- FALLBACK in use: since when the primary source is valid is kept from here on (R109). -/
def Dev.onFallback (d : Dev) : Dev :=
  let x := d.sourceCommit.putBit 0x211100 5 true
  x.modClk (fun c => { c with primaryAt := if x.primaryValid then some x.now else none })

theorem Dev.fallbackTaken_due {d : Dev} {t : Nat} (ht : d.clk.lostAt = some t) (hs : d.clk.srcLost = true) (hk : d.get 0x211200 ≠ 0) (hf : d.bitOf 0x211100 5 = false)
    (hn : t + d.get 0x211300 * 1000000 ≤ d.now) : d.fallbackTaken = (d.onFallback.putBit 0x211100 2 d.onFallback.steerValid).raise 22 := by
  simp only [Dev.fallbackTaken, ht]
  exact if_pos (by simp [hs, hk, hf, hn])

theorem Dev.fallbackReleased_due {d : Dev} {t : Nat} (ht : d.clk.primaryAt = some t) (hf : d.bitOf 0x211100 5 = true) (hv : d.primaryValid = true)
    (hn : t + 1000000000 ≤ d.now) : d.fallbackReleased = (d.sourceCommit.putBit 0x211100 2 d.sourceCommit.steerValid).raise 22 := by
  simp only [Dev.fallbackReleased, ht]
  exact if_pos (by simp [hf, hv, hn])

/-- Settles O12: each row's operation, in the case in which the row acts. -/
theorem holdoverSteering : Obligations.HoldoverSteering := by
  unfold Obligations.HoldoverSteering
  refine ⟨?lockLost, ?back, ?twoSeconds, ?slewed, ?sourceLost, ?sourceBack, ?taken, ?released⟩
  case lockLost => exact fun s hr ha ht hs h3 => becomes_act rfl (Dev.mpllLosesLock_locked hr ha ht hs h3)
  case back => exact fun s t ht hh h3 => becomes_act rfl (Dev.holdoverEnd_free ht hh h3)
  case twoSeconds => exact fun s t ht h2 hn => becomes_act rfl (Dev.holdover2s_due ht h2 hn)
  case slewed => exact fun s hs ha ht h3 => becomes_act rfl (Dev.slewComplete_locked hs ha ht h3)
  case sourceLost => exact fun s hr hf hv hn => becomes_act rfl (Dev.steerLost_primary hr hf hv hn)
  case sourceBack => exact fun s hr hf hv hn => becomes_act rfl (Dev.steerBack_primary hr hf hv hn)
  case taken => exact fun s t ht hs hk hf hn => becomes_act rfl (Dev.fallbackTaken_due ht hs hk hf hn)
  case released => exact fun s t ht hf hv hn => becomes_act rfl (Dev.fallbackReleased_due ht hf hv hn)

end Sys2Proof.Machine
end

section
/-! SUPPORT. The counter of network time (R116, R117). -/
namespace Sys2Proof.Machine

/-! The fields and the whole of them -/

/-- The counter as one number of 2^-40 ns. -/
def Tim.units (t : Tim) : Nat := (t.sec * 10 ^ 9 + t.ns) * 2 ^ 40 + t.frac

theorem Tim.add_fields (t : Tim) (inc : Nat) : (t.add inc).sec < 2 ^ 48 ∧ (t.add inc).ns < 10 ^ 9 ∧ (t.add inc).frac < 2 ^ 40 :=
  ⟨Nat.mod_lt _ (by decide), Nat.mod_lt _ (by decide), Nat.mod_lt _ (by decide)⟩

/-- Fields in range are a number below the modulus of the counter. -/
theorem Tim.units_lt {t : Tim} (hs : t.sec < 2 ^ 48) (hn : t.ns < 10 ^ 9) (hf : t.frac < 2 ^ 40) : t.units < 2 ^ 48 * 10 ^ 9 * 2 ^ 40 := by
  unfold Tim.units
  omega

/-- The carries lose nothing but what leaves the seconds field. -/
theorem Tim.units_add (t : Tim) (inc : Nat) : ∃ q, t.units + inc = (t.add inc).units + 2 ^ 48 * 10 ^ 9 * 2 ^ 40 * q := by
  refine ⟨(t.sec + (t.ns + (t.frac + inc) / 2 ^ 40) / 1000000000) / 2 ^ 48, ?_⟩
  simp only [Tim.units, Tim.add]
  omega

theorem Tim.units_add_mod (t : Tim) (inc : Nat) : (t.add inc).units = (t.units + inc) % (2 ^ 48 * 10 ^ 9 * 2 ^ 40) := by
  obtain ⟨hs, hn, hf⟩ := t.add_fields inc
  obtain ⟨q, hq⟩ := t.units_add inc
  rw [hq, Nat.add_mul_mod_self_left, Nat.mod_eq_of_lt (Tim.units_lt hs hn hf)]

/-! The increment -/

theorem clampI_le {lo hi i : Int} (h : lo ≤ hi) : clampI lo hi i ≤ hi := by
  unfold clampI
  split
  · exact h
  · split <;> omega

/-- A quotient of a number at most `q` times the divisor is at most `q`. -/
theorem roundDiv_le {n : Int} {d q : Nat} (hd : 0 < d) (h : n ≤ d * q) : roundDiv n d ≤ q := by
  unfold roundDiv
  rw [if_neg (by omega)]
  split
  case isTrue hn =>
    have hn' : n.toNat ≤ d * q := Int.toNat_le.mpr (by exact_mod_cast h)
    have hq : (q + 1) * (2 * d) = 2 * (d * q) + 2 * d := by rw [Nat.add_mul, Nat.one_mul, Nat.mul_left_comm q 2 d, Nat.mul_comm q d]
    exact_mod_cast Nat.le_of_lt_succ ((Nat.div_lt_iff_lt_mul (by omega)).mpr (by rw [Nat.succ_eq_add_one]; omega))
  case isFalse => exact Int.le_trans (Int.neg_nonpos_of_nonneg (Int.natCast_nonneg _)) (Int.natCast_nonneg _)

theorem Dev.rate_le (d : Dev) : d.rate ≤ 1000000000 := clampI_le (by decide)

/-- At most 1000 ppm above nominal, the increment keeps to its 8.40 bits (R117). -/
theorem Dev.increment_lt (d : Dev) : d.increment < 2 ^ 48 := by
  have hr := d.rate_le
  have h : roundDiv (4 * 2 ^ 40 * (1000000000000 + d.rate)) 1000000000000 ≤ ((5 * 2 ^ 40 : Nat) : Int) := roundDiv_le (by decide) (by omega)
  unfold Dev.increment
  omega

theorem Dev.increment_nominal {d : Dev} (h : d.rate = 0) : d.increment = 4 * 2 ^ 40 := by
  rw [Dev.increment, h]
  decide

/-! A tick -/

/-- A slew profile moves the slew term and what remains of the error, and no field of the counter. -/
theorem Tim.slewTick_fields (t : Tim) : t.slewTick.sec = t.sec ∧ t.slewTick.ns = t.ns ∧ t.slewTick.frac = t.frac := by
  unfold Tim.slewTick
  split
  · exact ⟨rfl, rfl, rfl⟩
  · split <;> exact ⟨rfl, rfl, rfl⟩

theorem Dev.timeTick_runs {d : Dev} (hc : d.sup.coreOn = true) (hl : d.tim.lost = false) : d.timeTick.tim = (d.tim.add d.increment).slewTick := by
  unfold Dev.timeTick
  dsimp only
  rw [hc, hl]
  rfl

/-- Settles O51: the fields and their sum, the bounds of the increment, and the tick, which adds it. -/
theorem counter : Obligations.Counter := by
  unfold Obligations.Counter
  refine ⟨?add, ?increment, fun _ => rfl, ?runs, ?tick⟩
  case add =>
    intro t inc _ _ _ _
    obtain ⟨hs, hn, hf⟩ := t.add_fields inc
    exact ⟨hs, hn, hf, t.units_add_mod inc⟩
  case increment => exact fun d => ⟨d.increment_lt, Dev.increment_nominal⟩
  case runs =>
    intro d hc hl
    rw [Dev.timeTick_runs hc hl]
    exact (d.tim.add d.increment).slewTick_fields
  case tick => exact fun s n h => congrArg _ (State.run_congr (Dev.ticks_running s.mem h))

end Sys2Proof.Machine
end

section
/-! SUPPORT. The rows that write a number or a BLOB outside every group, or read one: what their object does is all they do (R38, R39, R41). -/
namespace Sys2Proof.Machine

/-- A command that may read memory and stores nothing becomes what its function makes of the part. -/
theorem becomes_quiet {i : Instr} {s : State} {f : List Host.Cell → Dev → Dev} {d : Dev} (hi : exec i s = .next (s.quiet f)) (hf : f s.mem s.dev = d) : becomes i s d := by
  rw [becomes, hi, State.quiet, hf]

/-! Writes -/

/-- A number in the range of a type of `n` bits loses nothing to a mask of them all. -/
theorem and_mask_of_lt {n v : Nat} (h : v < 2 ^ n) : v &&& (2 ^ n - 1) = v := by
  rw [Nat.and_two_pow_sub_one_eq_mod, Nat.mod_eq_of_lt h]

/-- The row of an object that is a number of no group: the write does what taking the number does. -/
theorem writes_num {i : Instr} {a : Access} {k v : Nat} {r : ObjRow} {h : Dev → Prop} {f : Dev → Dev} (hi : ∀ s, exec i s = .next (s.quiet (Dev.hostSet a k v)))
    (hr : objRow k = some r) (hs : r.acc ≠ .st) (hb : r.ty.isBytes = false) (hn : v < 256 ^ r.ty.bytes → (Obj.ofRow r k).norm v = v)
    (hf : ∀ (m : List Host.Cell) (d : Dev), h d → d.takeNow m a.path (Obj.ofRow r k) k v [] = f d) : writes i a k v h f := by
  intro s ht hh
  have hv : v < 256 ^ r.ty.bytes := by
    have h2 := ht.2
    rwa [keyBytes, hr] at h2
  have hset : Dev.hostSet a k v s.mem s.dev = (f s.dev).ok a := by
    rw [Dev.hostSet_num ht hr hs (by intro e; simp [e, Ty.isBytes] at hb) (by intro e; simp [e, Ty.isBytes] at hb), hn hv, hf _ _ hh]
    rfl
  exact becomes_quiet (hi s) hset

/-- The row of a BLOB of no group: the write does what taking its bytes does, once the partial write is gone. -/
theorem writesBytes_blob {i : Instr} {a : Access} {k : Nat} {b : List Byte} {r : ObjRow} {h : Dev → Prop} {f : Dev → Dev} (hi : ∀ s, exec i s = .next (s.quiet (Dev.hostWrite a k)))
    (hr : objRow k = some r) (hs : r.acc ≠ .st)
    (hf : ∀ (m : List Host.Cell) (d : Dev), h d → (d.partDone a).takeNow m a.path (Obj.ofRow r k) k 0 b = f (d.partDone a)) : writesBytes i a k b h f := by
  intro s ht hh
  have hw : Dev.hostWrite a k s.mem s.dev = (f (s.dev.partDone a)).ok a := by rw [← hf s.mem _ hh, ← Dev.hostWriteAt_blob ht hr hs]; rfl
  exact becomes_quiet (hi s) hw

/-- An object that keeps the number written: it stands, and then what the object's page starts runs. -/
theorem Dev.takeNow_put {m : List Host.Cell} {p : Path} {r : ObjRow} {k v : Nat} {b : List Byte} {d : Dev} (hr : objRow k = some r)
    (ha : actsOnly (Obj.ofRow r k) k = false) (hb : r.ty.isBytes = false) : d.takeNow m p (Obj.ofRow r k) k v b = (d.put k v).actOn m p k (d.get k) v b := by
  have hb' : (Obj.ofRow r k).ty.isBytes = false := hb
  simp [Dev.takeNow, ha, hb', Dev.userPut_row hr]

/-- The indices of read-write objects that only act, whatever their subindex. -/
def actingIndices : List Nat := [0x1100, 0x1240, 0x1403, 0x2310, 0x5831, 0x4620, 0x4621]

theorem actsOnly_rw {r : ObjRow} {i s : Nat} (ha : r.acc = .rw) (hs : s < 256) (hi : i ∉ actingIndices) : actsOnly (Obj.ofRow r (key i s)) (key i s) = false := by
  simp only [actingIndices, List.mem_cons, List.not_mem_nil, or_false, not_or] at hi
  have hk : key i s ≠ 0x110000 := by unfold key; omega
  simp [actsOnly, Obj.ofRow, ha, key_div i s hs, hk, hi]

/-- An object that only acts: it keeps nothing, and what its page starts runs. -/
theorem Dev.takeNow_acts {m : List Host.Cell} {p : Path} {o : Obj} {k v : Nat} {b : List Byte} {d : Dev} (ha : actsOnly o k = true) :
    d.takeNow m p o k v b = d.actOn m p k (d.get k) v b := by
  simp [Dev.takeNow, ha]

/-! Reads -/

/-- The row that reads a number outside the ledgers. -/
theorem readsNum_row {i : Instr} {a : Access} {k : Nat} {r : ObjRow} {h : Dev → Prop} {v : Dev → Nat} {f : Dev → Dev} (hi : ∀ s, exec i s = .next (s.quiet (Dev.hostRead a k)))
    (hr : objRow k = some r) (hb : r.ty.isBytes = false) (hl : ledgerOf k = none) (hv : ∀ d, h d → d.numValue a.staged (Obj.ofRow r k) k = v d) (hf : ∀ d, h d → d.touch k = f d) :
    readsNum i a k h v f := by
  intro s ht hh
  have hlatch : s.dev.ledgerLatch k = s.dev := by simp [Dev.ledgerLatch, hl]
  have hread : Dev.hostRead a k s.mem s.dev = (f s.dev).answer a.path { status := 0, data := leBytes (keyBytes k) (v s.dev) } := by
    rw [Dev.hostRead, Dev.hostReadAt_num ht hr (by intro e; simp [e, Ty.isBytes] at hb) (by intro e; simp [e, Ty.isBytes] at hb), hlatch, hv _ hh, hf _ hh, keyBytes, hr]
  exact becomes_quiet (hi s) hread

/-- The row that reads a BLOB. -/
theorem readsBytes_row {i : Instr} {a : Access} {k : Nat} {r : ObjRow} {h : Dev → Prop} {b : Dev → List Byte} {f : Dev → Dev} (hi : ∀ s, exec i s = .next (s.quiet (Dev.hostRead a k)))
    (hr : objRow k = some r) (hb : r.ty = .blob)
    (hv : ∀ (m : List Host.Cell) (d : Dev), h d → d.byteValue m [] [] a.staged (Obj.ofRow r k) k a.offset (min a.length (pathSegment a.path))
      = (((b d).drop a.offset).take (min a.length (pathSegment a.path)), f d)) : readsBytes i a k h b f := by
  intro s ht hh
  have hread : Dev.hostRead a k s.mem s.dev
      = (f s.dev).answer a.path { status := 0, gen := s.dev.genOf k, data := ((b s.dev).drop a.offset).take (min a.length (pathSegment a.path)) } := by
    rw [Dev.hostRead, Dev.hostReadAt_blob ht hr hb, hv s.mem _ hh]
  exact becomes_quiet (hi s) hread

end Sys2Proof.Machine
end

section
/-! SUPPORT. The Locus table: writing its entries, clearing it, its order, and the actions that fall due (R132 to R139, R302). -/
namespace Sys2Proof.Machine

/-! Writing an entry -/

theorem objRow_entry (ee : Nat) (h : ee < 256) : objRow (key 0x2310 ee) = some (.mk 0x2310 1 1 0x0 256 .blob .rw 0 .o 0 0 (.blob 40)) := by
  rw [objRow_key _ _ h]
  simp [objPage, objs23, h]

theorem objRow_locusClear : objRow 0x230200 = some (.mk 0x2302 1 1 0x0 1 .bool .cmd 0 .none 0 0 (.nat [(0, 1)])) := rfl

/-- 2310.ee keeps no bytes of its own: the entry they name is armed, or with action 0 the slot freed (R133). -/
theorem Dev.takeNow_entry {m : List Host.Cell} {p : Path} {o : Obj} {ee v : Nat} {b : List Byte} {d : Dev} (h : ee < 256) :
    d.takeNow m p o (key 0x2310 ee) v b = if (locusOf ee b).action = 0 then d.locusFree ee else d.locusArm (locusOf ee b) := by
  rw [Dev.takeNow_acts (by simp [actsOnly, key_div _ _ h])]
  simp only [Dev.actOn, Dev.actTime, key_page _ _ h, key_div _ _ h, key_mod _ _ h]
  rw [if_neg (by unfold key; omega), if_neg (by unfold key; omega), if_neg (by unfold key; omega), if_neg (by decide), if_neg (by unfold key; omega)]
  rfl

theorem Dev.locusFree_armed {d : Dev} {ee : Nat} {e : LEntry} (h : d.locusSlot ee = some e) :
    d.locusFree ee = ({ d with loc := { d.loc with table := d.loc.table.filter (fun x => x.slot != ee) } } : Dev).genUp (key 0x2310 ee) := by
  rw [Dev.locusFree, h]
  rfl

theorem writesBytes_entry (a : Access) (ee : Nat) (b : List Byte) (he : ee < 256) (ha : (locusOf ee b).action ≠ 0) :
    writesBytes (.entry a ee) a (key 0x2310 ee) b (fun _ => True) (Dev.locusArm (locusOf ee b)) :=
  writesBytes_blob (fun s => by simp only [exec, execEntry, Nat.mod_eq_of_lt he]) (objRow_entry ee he) (by simp)
    (fun _ _ _ => by rw [Dev.takeNow_entry he, if_neg ha])

theorem writesBytes_entryFree (a : Access) (ee : Nat) (b : List Byte) (e : LEntry) (he : ee < 256) (ha : (locusOf ee b).action = 0) :
    writesBytes (.entry a ee) a (key 0x2310 ee) b (fun d => d.locusSlot ee = some e)
      (fun d => ({ d with loc := { d.loc with table := d.loc.table.filter (fun x => x.slot != ee) } } : Dev).genUp (key 0x2310 ee)) :=
  writesBytes_blob (fun s => by simp only [exec, execEntry, Nat.mod_eq_of_lt he]) (objRow_entry ee he) (by simp)
    (fun _ d h => by
      have h' : (d.partDone a).locusSlot ee = some e := h
      rw [Dev.takeNow_entry he, if_pos ha, Dev.locusFree_armed h'])

/-! Clearing -/

theorem Dev.actOn_locusClear {m : List Host.Cell} {p : Path} {old : Nat} {b : List Byte} {d : Dev} : d.actOn m p 0x230200 old 1 b = d.locusClear := by
  simp [Dev.actOn, Dev.actTime]

/-- One entry of a clear: a scheduled commit stays, any other entry's slot is freed. -/
def Dev.clearEntry (d : Dev) (e : LEntry) : Dev := if e.action = 2 then d else d.locusFree e.slot

theorem Dev.locusClear_eq (d : Dev) : d.locusClear = d.loc.table.foldl Dev.clearEntry d := rfl

@[simp] theorem Dev.locusFree_table (ee : Nat) (d : Dev) : (d.locusFree ee).loc.table = d.loc.table.filter (fun x => x.slot != ee) := by
  unfold Dev.locusFree Dev.when
  split <;> rfl

@[simp] theorem Dev.locusFree_obj (ee : Nat) (d : Dev) : (d.locusFree ee).st.obj = d.st.obj := by
  unfold Dev.locusFree Dev.when
  split <;> rfl

theorem Dev.clearEntry_obj (d : Dev) (e : LEntry) : (d.clearEntry e).st.obj = d.st.obj := by
  unfold Dev.clearEntry
  split
  · rfl
  · exact d.locusFree_obj e.slot

/-- An entry's slot is named by one of a list that is no scheduled commit. -/
def clearedBy (l : List LEntry) (x : LEntry) : Bool := l.any (fun e => e.action != 2 && x.slot == e.slot)

theorem Dev.clearEntries_table (l : List LEntry) (d : Dev) : (l.foldl Dev.clearEntry d).loc.table = d.loc.table.filter (fun x => !clearedBy l x) := by
  induction l generalizing d with
  | nil => exact (List.filter_eq_self.mpr fun _ _ => rfl).symm
  | cons e t ih =>
    rw [List.foldl_cons, ih, Dev.clearEntry]
    by_cases h : e.action = 2
    · simp [h, clearedBy]
    · rw [if_neg h, Dev.locusFree_table, List.filter_filter]
      refine List.filter_congr fun x _ => ?_
      have h' : (e.action == 2) = false := beq_eq_false_iff_ne.mpr h
      simp [clearedBy, bne, h', Bool.and_comm]

/-- Where no two entries share a slot, an entry is known by its slot. -/
theorem eq_of_slot_eq {l : List LEntry} {x y : LEntry} (hl : (l.map (·.slot)).Nodup) (hx : x ∈ l) (hy : y ∈ l) (h : x.slot = y.slot) : x = y := by
  induction l with
  | nil => exact absurd hx List.not_mem_nil
  | cons e t ih =>
    obtain ⟨he, ht⟩ := List.nodup_cons.mp hl
    rcases List.mem_cons.mp hx with rfl | hxt <;> rcases List.mem_cons.mp hy with rfl | hyt
    · rfl
    · exact (he (List.mem_map.mpr ⟨y, hyt, h.symm⟩)).elim
    · exact (he (List.mem_map.mpr ⟨x, hxt, h⟩)).elim
    · exact ih ht hxt hyt

/-- Where no two entries share a slot, what a clear frees is every entry that is no scheduled commit. -/
theorem clearedBy_self {l : List LEntry} {x : LEntry} (hl : (l.map (·.slot)).Nodup) (hx : x ∈ l) : clearedBy l x = (x.action != 2) := by
  rw [Bool.eq_iff_iff, clearedBy, List.any_eq_true]
  constructor
  · rintro ⟨e, he, h⟩
    obtain ⟨ha, hs⟩ := Bool.and_eq_true_iff.mp h
    rwa [eq_of_slot_eq hl hx he (beq_iff_eq.mp hs)]
  · exact fun h => ⟨x, hx, by simpa using h⟩

theorem Dev.locusClear_table {d : Dev} (h : (d.loc.table.map (·.slot)).Nodup) : d.locusClear.loc.table = d.loc.table.filter (fun e => e.action == 2) := by
  rw [Dev.locusClear_eq, Dev.clearEntries_table]
  refine List.filter_congr fun x hx => ?_
  rw [clearedBy_self h hx, bne, Bool.not_not]

theorem Dev.locusClear_obj (d : Dev) : d.locusClear.st.obj = d.st.obj := foldl_keeps (fun e => e.st.obj) _ Dev.clearEntry_obj _ _

/-! Table order -/

/-- In a table that is in order an entry armed comes after those of its TIME and before the later ones (R132). -/
theorem locusInsert_eq (e : LEntry) {l : List LEntry} (h : l.Pairwise (fun x y => x.time ≤ y.time)) :
    locusInsert e l = l.filter (fun x => x.time ≤ e.time) ++ e :: l.filter (fun x => e.time < x.time) := by
  induction l with
  | nil => rfl
  | cons x t ih =>
    obtain ⟨hx, ht⟩ := List.pairwise_cons.mp h
    rw [locusInsert]
    split
    case isTrue hlt =>
      have hlate : ∀ y ∈ x :: t, e.time < y.time := by
        intro y hy
        rcases List.mem_cons.mp hy with rfl | hy
        · exact hlt
        · exact Nat.lt_of_lt_of_le hlt (hx y hy)
      have hnone : (x :: t).filter (fun y => y.time ≤ e.time) = [] := List.filter_eq_nil_iff.mpr fun y hy => by simpa using hlate y hy
      have hall : (x :: t).filter (fun y => e.time < y.time) = x :: t := List.filter_eq_self.mpr fun y hy => by simpa using hlate y hy
      rw [hnone, hall, List.nil_append]
    case isFalse hle => simp [ih ht, hle, Nat.not_lt.mp hle]

theorem locusInsert_sorted (e : LEntry) {l : List LEntry} (h : l.Pairwise (fun x y => x.time ≤ y.time)) : (locusInsert e l).Pairwise (fun x y => x.time ≤ y.time) := by
  rw [locusInsert_eq e h, List.pairwise_append, List.pairwise_cons]
  simp only [List.mem_filter, List.mem_cons, decide_eq_true_eq]
  refine ⟨h.filter _, ⟨fun y hy => Nat.le_of_lt hy.2, h.filter _⟩, ?_⟩
  rintro x ⟨-, hx⟩ y (rfl | ⟨-, hy⟩)
  · exact hx
  · exact Nat.le_trans hx (Nat.le_of_lt hy)

/-! The actions that fall due -/

/-- A Locus entry's action about to run. -/
def LEntry.act (e : LEntry) : Act := { source := 3, slot := key 0x2310 e.slot, hold := bit e.flags 3, target := e.target, value := e.value, tag := e.tag }

/-- The first due entry holds the action asked for: it runs, and the entry is done with its code (R134). -/
theorem Dev.actRun_due {d x : Dev} {e : LEntry} {n c : Nat} {f : Act → Dev → Nat × Dev} (hd : d.firstDue (mediaAction n) = some e) (ha : e.action = n) (hf : f e.act d = (c, x)) :
    d.actRun false n f = x.locusDone e c := by
  rw [LEntry.act] at hf
  simp [Dev.actRun, hd, ha, hf]

/-- A queued action of a tick runs at once where it is the first of the queue (R139). -/
theorem Dev.actRun_queued {d : Dev} {q : QAct} {l : List QAct} {n : Nat} {f : Act → Dev → Nat × Dev} (hq : d.evt.queue = q :: l) (ha : q.action = n) (hn : mediaAction n = false) :
    d.actRun true n f = (f { source := 4, slot := q.src, hold := q.hold, target := q.target, value := q.value, tag := q.tag } { d with evt := { d.evt with queue := l } }).2 := by
  simp [Dev.actRun, Dev.queuedDue, hq, ha, hn]

/-- A write that an action makes and that nothing refuses. -/
theorem Dev.actWrite_ok {m : List Host.Cell} {x : Act} {a : Access} {k : Nat} {d e : Dev} (h : d.writeObj m [] a k = (0, e)) : d.actWrite m x a k = (0, e) := by
  simp [Dev.actWrite, h]

theorem Dev.actPlain_ok (x : Act) (d : Dev) : Dev.actPlain x (d, 0) = (0, d) := by simp [Dev.actPlain]

theorem Dev.gpioAction_drive {d : Dev} {t : Nat} (hf : d.gpioFunc (fld t 3 0) = 3) (ht : bit t 9 = false) :
    d.gpioAction t = (d.putBit 0x140300 (fld t 3 0) (bit t 8), 0) := by
  simp [Dev.gpioAction, hf, ht]

/-! An entry that is done stores nothing to memory -/

@[simp] theorem Dev.locusFree_stores (ee : Nat) (d : Dev) : (d.locusFree ee).stores = d.stores := by
  unfold Dev.locusFree Dev.when
  split <;> rfl

@[simp] theorem Dev.locusArm_stores (e : LEntry) (d : Dev) : (d.locusArm e).stores = d.stores := rfl
@[simp] theorem Dev.locusOut_stores (ee : Nat) (d : Dev) : (d.locusOut ee).stores = d.stores := rfl

@[simp] theorem Dev.rearm_stores (e : LEntry) (n : Nat) (d : Dev) : (d.rearm e n).stores = d.stores := by
  induction n generalizing e d with
  | zero => rfl
  | succ n ih =>
    rw [Dev.rearm]
    dsimp only
    split
    · exact Dev.locusArm_stores _ _
    · rw [ih, Dev.inc_stores]

@[simp] theorem Dev.locusDone_stores (e : LEntry) (c : Nat) (d : Dev) : (d.locusDone e c).stores = d.stores := by
  unfold Dev.locusDone
  extract_lets d1 loc d2 d3 k d4
  have h2 : d2.stores = d.stores := by simp only [d2, d1, apply_ite Dev.stores, Dev.put_stores, ite_self]
  have h3 : d3.stores = d.stores := by simp only [d3, apply_ite Dev.stores, Dev.locusFree_stores, Dev.locusOut_stores, h2, ite_self]
  split
  · simp only [d4, apply_ite Dev.stores, Dev.rearm_stores, Dev.bump_stores, h2, h3, ite_self]
  · exact h2

/-! The commands of due actions -/

/-- A WRITE entry that is due, whose write nothing refuses and stores nothing. -/
theorem becomes_locusWrite {s : State} {e : LEntry} {d : Dev} (hs : s.dev.stores = []) (hd : s.dev.firstDue true = some e) (ha : e.action = 1)
    (hw : s.dev.writeObj s.mem [] (actionAccess .locus (bit e.flags 3) e.target e.value) (e.target / 256) = (0, d)) (hm : d.stores = []) :
    becomes (.locusWrite false) s (d.locusDone e 0) :=
  becomes_run rfl (Dev.actRun_due hd ha (Dev.actWrite_ok hw)) (by rw [Dev.locusDone_stores, hm, hs]) hs

/-- A MODE entry that is due, whose write of 1100.00 nothing refuses. -/
theorem becomes_locusMode {s : State} {e : LEntry} {d : Dev} (hd : s.dev.firstDue true = some e) (ha : e.action = 6)
    (hw : s.dev.writeObj s.mem [] { path := .locus, data := leBytes 1 (e.target % 256) } kModeRequest = (0, d)) : becomes (.locusMode false) s (d.locusDone e 0) :=
  becomes_quiet rfl (Dev.actRun_due hd ha (Dev.actWrite_ok hw))

/-- Settles O15: the writes of the table, its order, and the actions, each run as the first that is due. -/
theorem locus : Obligations.Locus := by
  unfold Obligations.Locus
  refine ⟨writesBytes_entry, writesBytes_entryFree, ?clear, fun d h => ⟨Dev.locusClear_table h, d.locusClear_obj⟩, fun e l h => ⟨locusInsert_sorted e h, locusInsert_eq e h⟩,
    ?write, ?commit, ?load, ?gate, ?swap, fun s e d => becomes_locusMode, ?gpio, ?event, ?queued⟩
  case clear => exact fun a => writes_cmd (fun _ => rfl) objRow_locusClear rfl rfl rfl (fun _ _ _ => Dev.actOn_locusClear)
  case write =>
    intro s e d hs hd ha hw hm
    rw [Nat.mod_mod] at hw
    exact becomes_locusWrite hs hd ha hw hm
  case commit => exact fun s e hd ha hh hf => becomes_act rfl (Dev.actRun_due hd ha (Dev.commitDue_holds hh hf))
  case load => exact fun s e hd ha => becomes_act rfl (Dev.actRun_due hd ha rfl)
  case gate => exact fun s e hd ha => becomes_act rfl (Dev.actRun_due hd ha rfl)
  case swap => exact fun s e d hd ha hw => becomes_act rfl (Dev.actRun_due hd ha ((congrArg (Dev.actPlain e.act) hw).trans (Dev.actPlain_ok _ _)))
  case gpio => exact fun s e hd ha hf ht => becomes_act rfl (Dev.actRun_due hd ha ((congrArg (Dev.actPlain e.act) (Dev.gpioAction_drive hf ht)).trans (Dev.actPlain_ok _ _)))
  case event => exact fun s e hd ha => becomes_act rfl (Dev.actRun_due hd ha rfl)
  case queued => exact fun s q l hq ha => becomes_act rfl (Dev.actRun_queued hq ha rfl)

end Sys2Proof.Machine
end

section
/-! SUPPORT. The host's side of the event fabric and of the GPIO pins (R138, R473 to R477). -/
namespace Sys2Proof.Machine

/-! Objects of 1300h to 14FFh -/

theorem objRow_evClear (k : Nat) (h : k < 4) : objRow (key 0x1303 k) = some (.mk 0x1303 1 1 0x0 4 .bits32 .cmd 0x0 .none 0 0 (.mask 0xffffffff)) := by
  rw [objRow_key _ _ (by omega)]
  simp [objPage, objs13, h]

theorem objRow_irqMask (n k : Nat) (hn : n < 4) (hk : k < 4) : objRow (key (0x1310 + n) k) = some (.mk 0x1310 1 4 0x0 4 .bits32 .rw 0x0 .n 0 0 (.mask 0xffffffff)) := by
  rw [objRow_key _ _ (by omega)]
  rcases (show n = 0 ∨ n = 1 ∨ n = 2 ∨ n = 3 by omega) with rfl | rfl | rfl | rfl <;> simp [objPage, objs13, hk]

theorem objRow_irqConfig (n : Nat) (h : n < 4) : objRow (key 0x1314 n) = some (.mk 0x1314 1 1 0x0 4 .bits16 .rw 0x0 .n 0 0 (.mask 0x7)) := by
  rw [objRow_key _ _ (by omega)]
  simp [objPage, objs13, h]

theorem objRow_e2aEntry (ee : Nat) (h : ee < 64) : objRow (key 0x1340 ee) = some (.mk 0x1340 1 1 0x0 64 .blob .rw 0 .n 0 0 (.blob 24)) := by
  rw [objRow_key _ _ (by omega)]
  simp [objPage, objs13, h]

theorem objRow_gpioFunc (g : Nat) (h : g < 16) : objRow (key 0x1400 g) = some (.mk 0x1400 1 1 0x0 16 .enum .rw 0 .a 0 0 (.nat [(0, 3)])) := by
  rw [objRow_key _ _ (by omega)]
  simp [objPage, objs14, h]

theorem objRow_gpioAction (g : Nat) (h : g < 16) : objRow (key 0x1407 g) = some (.mk 0x1407 1 1 0x0 16 .blob .rw 0 .a 0 0 (.blob 24)) := by
  rw [objRow_key _ _ (by omega)]
  simp [objPage, objs14, h]

theorem objRow_gpioOut : objRow 0x140300 = some (.mk 0x1403 1 1 0x0 1 .bits16 .rw 0x0 .a 0 0 (.mask 0xffff)) := rfl
theorem objRow_gpioEdgeClear : objRow 0x140500 = some (.mk 0x1405 1 1 0x0 1 .bits16 .cmd 0x0 .none 0 0 (.mask 0xffff)) := rfl

/-! What a write starts -/

/-- A write to an object of 1300h to 14FFh acts by its index and subindex. -/
theorem Dev.actOn_events {m : List Host.Cell} {p : Path} {i s old v : Nat} {b : List Byte} {d : Dev} (hi : i / 256 = 0x13 ∨ i / 256 = 0x14) (hs : s < 256) :
    d.actOn m p (key i s) old v b = d.actEvents (key i s) old v := by
  rcases hi with hi | hi <;> simp only [Dev.actOn, key_page i s hs, hi]

section
variable {s old v : Nat} {d : Dev} (hs : s < 256)
include hs

theorem Dev.actEvents_evClear : d.actEvents (key 0x1303 s) old v = d.evClear s v := by
  simp [Dev.actEvents, key_div _ _ hs, key_mod _ _ hs]

theorem Dev.actEvents_irqMask {n : Nat} (hn : n < 4) : d.actEvents (key (0x1310 + n) s) old v = d.irqSettle := by
  have h1 : 0x1310 + n ≠ 0x1303 := by omega
  have h2 : 0x1310 + n ≤ 0x1313 := by omega
  simp [Dev.actEvents, key_div _ _ hs, h1, h2]

theorem Dev.actEvents_irqConfig (h : old ≠ v) : d.actEvents (key 0x1314 s) old v = d.irqConfigured s := by
  simp [Dev.actEvents, key_div _ _ hs, key_mod _ _ hs, Dev.when, h]

theorem Dev.actEvents_gpioFunc (h : old ≠ v) : d.actEvents (key 0x1400 s) old v = d.gpioFuncSet s := by
  simp [Dev.actEvents, key_div _ _ hs, key_mod _ _ hs, Dev.when, h]

/-- The objects that hold action records start nothing when they are written. -/
theorem Dev.actEvents_record {i : Nat} (hi : i = 0x1340 ∨ i = 0x1407) : d.actEvents (key i s) old v = d := by
  rcases hi with rfl | rfl <;> simp [Dev.actEvents, key_div _ _ hs]

end

/-- An action record is kept with its reserved fields 0 (R8, R138). -/
theorem Dev.takeNow_record {m : List Host.Cell} {p : Path} {r : ObjRow} {i s v : Nat} {b : List Byte} {d : Dev} (hi : i = 0x1340 ∨ i = 0x1407) (hs : s < 256)
    (ha : r.acc = .rw) (hb : r.ty = .blob) : d.takeNow m p (Obj.ofRow r (key i s)) (key i s) v b = d.putBlob (key i s) (recordKeep b) := by
  have hpage : i / 256 = 0x13 ∨ i / 256 = 0x14 := by omega
  have hact : actsOnly (Obj.ofRow r (key i s)) (key i s) = false := actsOnly_rw ha hs (by rcases hi with rfl | rfl <;> decide)
  have hty : (Obj.ofRow r (key i s)).ty.isBytes = true := by rw [show (Obj.ofRow r (key i s)).ty = .blob from hb]; rfl
  simp only [Dev.takeNow, hact, hty, key_div i s hs, hi, Dev.actOn_events hpage hs, Dev.actEvents_record hs hi, Bool.false_eq_true, if_true, if_false, Bool.or_eq_true, decide_eq_true_eq]

/-! Writes of the event fabric -/

theorem writesBytes_e2aEntry (a : Access) (ee : Nat) (b : List Byte) (he : ee < 64) :
    writesBytes (.e2aEntry a ee) a (key 0x1340 ee) b (fun _ => True) (Dev.putBlob (key 0x1340 ee) (recordKeep b)) :=
  writesBytes_blob (fun s => by simp only [exec, execE2aEntry, Nat.mod_eq_of_lt (show ee < 256 by omega)]) (objRow_e2aEntry ee he) (by simp)
    (fun _ _ _ => Dev.takeNow_record (.inl rfl) (by omega) rfl rfl)

theorem writes_evClear (a : Access) (k mask : Nat) (hk : k < 4) : writes (.evClear a k mask) a (key 0x1303 k) mask (fun _ => True) (Dev.evClear k mask) :=
  writes_num (fun s => by simp only [exec, execEvClear, Nat.mod_eq_of_lt (show k < 256 by omega)]) (objRow_evClear k hk) (by simp) rfl (fun h => and_mask_of_lt (n := 32) h)
    (fun _ _ _ => by rw [Dev.takeNow_cmd rfl, Dev.actOn_events (.inl rfl) (by omega), Dev.actEvents_evClear (by omega)])

theorem writes_irqMask (a : Access) (n k mask : Nat) (hn : n < 4) (hk : k < 4) :
    writes (.irqMask a n k mask) a (key (0x1310 + n) k) mask (fun _ => True) (fun d => (d.put (key (0x1310 + n) k) mask).irqSettle) :=
  writes_num (fun s => by simp only [exec, execIrqMask, Nat.mod_eq_of_lt hn, Nat.mod_eq_of_lt (show k < 256 by omega)]) (objRow_irqMask n k hn hk) (by simp) rfl
    (fun h => and_mask_of_lt (n := 32) h)
    (fun _ _ _ => by
      rw [Dev.takeNow_put (objRow_irqMask n k hn hk) (actsOnly_rw rfl (by omega) (by simp [actingIndices]; omega)) rfl, Dev.actOn_events (.inl (by omega)) (by omega), Dev.actEvents_irqMask (by omega) hn])

/-- A change of IRQ_CONFIG stands, and the pin starts anew in its new mode. -/
theorem writes_irqConfig {h : Dev → Prop} {f : Dev → Dev} (a : Access) (n v : Nat) (hn : n < 4) (hv : v &&& 7 = v)
    (hf : ∀ d, h d → d.get (key 0x1314 n) ≠ v ∧ (d.put (key 0x1314 n) v).irqConfigured n = f d) : writes (.irqConfig a n v) a (key 0x1314 n) v h f :=
  writes_num (fun s => by simp only [exec, execIrqConfig, Nat.mod_eq_of_lt (show n < 256 by omega)]) (objRow_irqConfig n hn) (by simp) rfl (fun _ => hv)
    (fun _ d hd => by
      rw [Dev.takeNow_put (objRow_irqConfig n hn) (actsOnly_rw rfl (by omega) (by decide)) rfl, Dev.actOn_events (.inl rfl) (by omega), Dev.actEvents_irqConfig (by omega) (hf d hd).1, (hf d hd).2])

theorem Dev.irqPulsed_put (n v : Nat) (d : Dev) : (d.put (key 0x1314 n) v).irqPulsed n = bit v 0 := by simp [Dev.irqPulsed, Dev.bitOf]

/-- A pin put in PULSE mode keeps the pulse it has, and settles (R475). -/
theorem Dev.irqConfigured_pulse (n : Nat) (d : Dev) : (d.put (key 0x1314 n) 1).irqConfigured n = (d.put (key 0x1314 n) 1).irqSettle := by
  rw [Dev.irqConfigured, Dev.irqPulsed_put]
  rfl

/-- A pin put in LEVEL mode forgets its pulse, and settles (R475). -/
theorem Dev.irqConfigured_level (n : Nat) (d : Dev) :
    (d.put (key 0x1314 n) 0).irqConfigured n = ({ d.put (key 0x1314 n) 0 with evt := { d.evt with pulses := modNth (fun _ => {}) d.evt.pulses n } } : Dev).irqSettle := by
  rw [Dev.irqConfigured, Dev.irqPulsed_put]
  rfl

/-! Pulses -/

theorem Dev.pulseEnd_due {d : Dev} {n : Nat} (hn : n < 4) (hp : (nthD {} d.evt.pulses n).phase = 1) (ht : (nthD {} d.evt.pulses n).endAt ≤ d.now) :
    d.pulseEnd n = ({ d with evt := { d.evt with pulses := modNth (fun q => { q with phase := 2, endAt := d.now + d.get (key 0x1315 n) }) d.evt.pulses n } } : Dev).irqSettle := by
  simp [Dev.pulseEnd, hn, hp, ht]

theorem Dev.gapEnd_due {d : Dev} {n : Nat} (hn : n < 4) (hp : (nthD {} d.evt.pulses n).phase = 2) (ht : (nthD {} d.evt.pulses n).endAt ≤ d.now) :
    d.gapEnd n = ({ d with evt := { d.evt with pulses := modNth (fun q => if q.more then { phase := 1, endAt := d.now + d.get (key 0x1315 n), more := false } else {}) d.evt.pulses n } } : Dev).irqSettle := by
  simp [Dev.gapEnd, hn, hp, ht]

/-! Writes of the GPIO pins -/

theorem writes_gpioFunc (a : Access) (g v : Nat) (hg : g < 16) :
    writes (.gpioFunc a g v) a (key 0x1400 g) v (fun d => d.get (key 0x1400 g) ≠ v) (fun d => (d.put (key 0x1400 g) v).gpioFuncSet g) :=
  writes_num (fun s => by simp only [exec, execGpioFunc, Nat.mod_eq_of_lt (show g < 256 by omega)]) (objRow_gpioFunc g hg) (by simp) rfl (fun _ => rfl)
    (fun _ d hd => by
      rw [Dev.takeNow_put (objRow_gpioFunc g hg) (actsOnly_rw rfl (by omega) (by decide)) rfl, Dev.actOn_events (.inr rfl) (by omega), Dev.actEvents_gpioFunc (by omega) hd])

theorem writes_gpioOut (a : Access) (v : Nat) : writes (.gpioOut a v) a 0x140300 v (fun _ => True) (Dev.gpioOut v) :=
  writes_num (fun _ => rfl) objRow_gpioOut (by simp) rfl (fun h => and_mask_of_lt (n := 16) h) (fun _ _ _ => Dev.takeNow_acts (by simp [actsOnly]))

/-- GPIO_OUT drives the OUTPUT pins, GPIO14 not while it is the rail enable (R476). -/
theorem Dev.gpioOut_eq (v : Nat) (d : Dev) :
    d.gpioOut v = (upto 16).foldl (fun (a : Dev) g => if a.gpioFunc g = 2 ∧ ¬ (g = 14 ∧ a.get 0x114500 = 1) then a.putBit 0x140300 g (bit v g) else a) d := by
  have hc : ∀ (a : Dev) (g : Nat), (a.gpioFunc g = 2 && !(g = 14 && a.get 0x114500 = 1)) = true ↔ a.gpioFunc g = 2 ∧ ¬ (g = 14 ∧ a.get 0x114500 = 1) := by
    intro a g
    rw [Bool.and_eq_true, Bool.not_eq_true', ← Bool.not_eq_true, Bool.and_eq_true, decide_eq_true_eq, decide_eq_true_eq, decide_eq_true_eq]
  simp only [Dev.gpioOut, hc]

theorem writes_gpioEdgeClear (a : Access) (mask : Nat) :
    writes (.gpioEdgeClear a mask) a 0x140500 mask (fun _ => True) (fun d => (d.put 0x140400 (clearBits (d.get 0x140400) mask)).irqSettle) :=
  writes_num (fun _ => rfl) objRow_gpioEdgeClear (by simp) rfl (fun h => and_mask_of_lt (n := 16) h) (fun _ _ _ => Dev.takeNow_cmd rfl)

theorem writesBytes_gpioAction (a : Access) (g : Nat) (b : List Byte) (hg : g < 16) :
    writesBytes (.gpioAction a g) a (key 0x1407 g) b (fun _ => True) (Dev.putBlob (key 0x1407 g) (recordKeep b)) :=
  writesBytes_blob (fun s => by simp only [exec, execGpioAction, Nat.mod_eq_of_lt (show g < 256 by omega)]) (objRow_gpioAction g hg) (by simp)
    (fun _ _ _ => Dev.takeNow_record (.inr rfl) (by omega) rfl rfl)

/-! Levels of the GPIO pins -/

/-- The first level that an INPUT pin holds is its qualified level, without an edge and without waking the part (R477). -/
theorem Dev.gpioIn_first {d : Dev} {g : Nat} {level : Bool} (hf : d.gpioFunc g = 1) (hk : bit d.evt.gpioKnown g = false) :
    d.gpioIn g level = ({ d with evt := { d.evt with gpioKnown := setBit d.evt.gpioKnown g true } } : Dev).putBit 0x140200 g level := by
  simp [Dev.gpioIn, Dev.gpioLevel, hf, hk]

/-- GPIO8 to GPIO15 wake nothing (R94). -/
theorem Dev.gpioIn_high {d : Dev} {g : Nat} {level : Bool} (h : 8 ≤ g) : d.gpioIn g level = d.gpioLevel g level := by
  have hg : ¬ g < 8 := by omega
  simp [Dev.gpioIn, hg]

/-- An edge while EVENTS is clear: its flag and its count, and its action waits (R477). -/
theorem Dev.gpioEdge_held {d : Dev} {g : Nat} (hg : g < 16) (h : d.ready 28 = false) :
    d.gpioEdge g = { (d.putBit 0x140400 g true).put (key 0x1406 g) (satAdd 32 (d.get (key 0x1406 g)) 1) with evt := { d.evt with gpioHeld := d.evt.gpioHeld ++ [g] } } := by
  have hcount : (d.putBit 0x140400 g true).get (key 0x1406 g) = d.get (key 0x1406 g) := Dev.get_put_other _ _ _ _ (by unfold key; omega) (.inr (by decide))
  have hready : ((d.putBit 0x140400 g true).bump 32 (key 0x1406 g) 1).ready 28 = false := by
    rw [← h, Dev.bump, Dev.ready_put_other (by unfold key kReady; omega)]
    exact Dev.ready_put_other (by decide)
  rw [Dev.gpioEdge, hready, Dev.bump, hcount]
  rfl

/-- A rising edge that the pin's attributes select (R477). -/
theorem Dev.gpioLevel_rises {d : Dev} {g : Nat} (hf : d.gpioFunc g = 1) (hk : bit d.evt.gpioKnown g = true) (hl : d.bitOf 0x140200 g = false)
    (hs : bit (fld (d.get (key 0x1401 g)) 4 3) 0 = true) (hg : g < 16) : d.gpioLevel g true = (d.putBit 0x140200 g true).gpioEdge g := by
  have hattr : (d.putBit 0x140200 g true).get (key 0x1401 g) = d.get (key 0x1401 g) := Dev.get_put_other _ _ _ _ (by unfold key; omega) (.inr (by decide))
  simp [Dev.gpioLevel, hf, hk, hl, hattr, hs]

/-- Settles O16: the writes by what their objects start, the pulses and the levels by the case of their operation that the clause names. -/
theorem eventsAndGpio : Obligations.EventsAndGpio := by
  unfold Obligations.EventsAndGpio
  refine ⟨writesBytes_e2aEntry, writes_evClear, ?mask, ?pulse, ?level, ?pulseEnd, ?gapEnd, writes_gpioFunc, ?out, ?first, ?edge, writes_gpioEdgeClear, writesBytes_gpioAction⟩
  case mask =>
    intro a n k mask hn hk
    rw [show 0x131000 + 256 * n + k = key (0x1310 + n) k by unfold key; omega]
    exact writes_irqMask a n k mask hn hk
  case pulse => exact fun a n hn => writes_irqConfig a n 1 hn rfl fun d h => ⟨by rw [show d.get (key 0x1314 n) = 0 from h]; decide, d.irqConfigured_pulse n⟩
  case level => exact fun a n hn => writes_irqConfig a n 0 hn rfl fun d h => ⟨by rw [show d.get (key 0x1314 n) = 1 from h]; decide, d.irqConfigured_level n⟩
  case pulseEnd => exact fun s n hn hp ht => becomes_act rfl (Dev.pulseEnd_due hn hp ht)
  case gapEnd => exact fun s n hn hp ht => becomes_act rfl (Dev.gapEnd_due hn hp ht)
  case out =>
    intro a v
    simp only [← Dev.gpioOut_eq]
    exact writes_gpioOut a v
  case first =>
    intro s g level hg hv hf hk
    exact becomes_act rfl (by rw [hv, decide_eq_true hg, Bool.true_and, Dev.when_true, Dev.gpioIn_first hf hk])
  case edge =>
    intro s g h8 hg hv hf hk hl hs h28
    have hcount : (s.dev.putBit 0x140200 g true).get (key 0x1406 g) = s.dev.get (key 0x1406 g) := Dev.get_put_other _ _ _ _ (by unfold key; omega) (.inr (by decide))
    have hready : (s.dev.putBit 0x140200 g true).ready 28 = false := (Dev.ready_put_other (by decide)).trans h28
    refine becomes_act rfl ?_
    rw [hv, decide_eq_true hg, Bool.true_and, Dev.when_true, Dev.gpioIn_high h8, Dev.gpioLevel_rises hf hk hl hs hg, Dev.gpioEdge_held hg hready, hcount]
    rfl

end Sys2Proof.Machine
end

section
/-! SUPPORT. An event reads and changes nothing of the time unit: it may be raised before or after the unit changes. -/
namespace Sys2Proof.Machine

/-- The part with the time unit's state replaced. -/
def Dev.withTim (t : Tim) (d : Dev) : Dev := { d with tim := t }

/-- A fold of steps that do not see a change of the part does not see it either. -/
theorem foldl_commutes {α : Type} (g : Dev → Dev) (f : Dev → α → Dev) (h : ∀ d a, f (g d) a = g (f d a)) (l : List α) (d : Dev) : l.foldl f (g d) = g (l.foldl f d) :=
  List.foldl_hom g (fun d a => h d a)

section
variable (t : Tim) (d : Dev)

theorem Dev.withTim_pulseOn (n : Nat) : (d.withTim t).pulseOn n = (d.pulseOn n).withTim t := by
  unfold Dev.pulseOn
  rw [apply_ite (Dev.withTim t)]
  rfl

theorem Dev.withTim_irqSettle : (d.withTim t).irqSettle = d.irqSettle.withTim t := foldl_commutes (Dev.withTim t) _ (fun _ _ => rfl) _ _

theorem Dev.withTim_countEvent (e : Nat) : (d.withTim t).countEvent e = (d.countEvent e).withTim t := by
  unfold Dev.countEvent
  dsimp only
  rw [apply_ite (Dev.withTim t)]
  rfl

theorem Dev.withTim_route (e : Nat) : (d.withTim t).route e = (d.route e).withTim t := by
  have hpulses : ∀ (a : Dev) (n : Nat), (if (a.withTim t).bitOf (key (0x1310 + n) (e / 32)) (e % 32) then (a.withTim t).pulseOn n else a.withTim t)
      = (if a.bitOf (key (0x1310 + n) (e / 32)) (e % 32) then a.pulseOn n else a).withTim t := by
    intro a n
    rw [Dev.withTim_pulseOn, apply_ite (Dev.withTim t)]
    rfl
  have hflag : (d.withTim t).putBit (key 0x1302 (e / 32)) (e % 32) true = (d.putBit (key 0x1302 (e / 32)) (e % 32) true).withTim t := rfl
  unfold Dev.route
  dsimp only
  rw [hflag, foldl_commutes (Dev.withTim t) _ hpulses, Dev.withTim_irqSettle]

theorem Dev.withTim_raiseQuiet (e : Nat) : (d.withTim t).raiseQuiet e = (d.raiseQuiet e).withTim t := by
  unfold Dev.raiseQuiet
  dsimp only
  rw [Dev.withTim_countEvent, Dev.withTim_route, apply_ite (Dev.withTim t)]
  rfl

theorem Dev.withTim_offer (q : QAct) : (d.withTim t).offer q = (d.offer q).withTim t := by
  have hdrop : ((d.withTim t).inc 0x134100).raiseQuiet 30 = ((d.inc 0x134100).raiseQuiet 30).withTim t := Dev.withTim_raiseQuiet t (d.inc 0x134100) 30
  unfold Dev.offer
  rw [hdrop, apply_ite (Dev.withTim t)]
  rfl

theorem Dev.withTim_e2aOnce (k : Nat) : (d.withTim t).e2aOnce k = (d.e2aOnce k).withTim t := by
  unfold Dev.e2aOnce
  dsimp only
  rw [apply_ite (Dev.withTim t)]
  rfl

theorem Dev.withTim_trigger (e : Nat) : (d.withTim t).trigger e = (d.trigger e).withTim t :=
  foldl_commutes (Dev.withTim t) _ (fun a q => by rw [Dev.withTim_offer, Dev.withTim_e2aOnce]) _ _

theorem Dev.withTim_raise (e : Nat) : (d.withTim t).raise e = (d.raise e).withTim t := by
  unfold Dev.raise
  dsimp only
  rw [Dev.withTim_countEvent, Dev.withTim_route, Dev.withTim_trigger, apply_ite (Dev.withTim t)]
  rfl

end

end Sys2Proof.Machine
end

section
/-! SUPPORT. The measurements of network time, its masters, and the ends of a slew and of a reference (R118 to R125). -/
namespace Sys2Proof.Machine

/-! TIME_STATE -/

theorem Dev.setTimeState_new {d : Dev} {s : Nat} (h : d.get kTimeState ≠ s) : d.setTimeState s = (d.put kTimeState s).raise 25 := if_neg h

/-- An event leaves TIME_STATE, as every object outside the fabric. -/
theorem Dev.get_timeState_raise (e : Nat) (d : Dev) (he : e < 128) : (d.raise e).get kTimeState = d.get kTimeState := Dev.get_raise e _ d he (by simp [fabricKey, kTimeState])

theorem Dev.get_timeState_put {k v : Nat} {d : Dev} (h : k ≠ kTimeState) : (d.put k v).get kTimeState = d.get kTimeState :=
  Dev.get_put_other _ _ _ _ (Ne.symm h) (.inl (by decide))

/-! A Sync -/

theorem Dev.syncIn_measures {d : Dev} {off : Int} {delay : Nat} (ht : d.timeReady = true) (hp : d.get 0x222000 ≠ 0) (hr : d.twinRole ≠ 2)
    (hs : d.get kTimeState = 2 ∨ d.get kTimeState = 3 ∨ d.get kTimeState = 5) : d.syncIn off delay = (d.put 0x223400 (delay % 2 ^ 32)).measure off := by
  rcases hs with hs | hs | hs <;> simp [Dev.syncIn, ht, hp, hr, hs]

section
variable {d : Dev} {off : Int}

theorem Dev.get_timeState_offset : (d.putI 32 0x220600 off).get kTimeState = d.get kTimeState := Dev.get_timeState_put (by decide)

/-- While SYNCED with the master in use, an offset within 1 us is the servo's (R124). -/
theorem Dev.measure_synced (hs : d.get kTimeState = 3) (hf : d.tim.fresh = false) (ho : off.natAbs ≤ 1000) :
    d.measure off = Dev.servoMove { d.putI 32 0x220600 off with tim := { d.tim with lastSync := some d.now, meas := [] } } := by
  simp [Dev.measure, Dev.get_timeState_offset, hs, hf, Nat.not_lt.mpr ho]

/-- While ACQUIRING, the third measurement confirms the median of the three as a jump (R124). -/
theorem Dev.measure_third {x y : Int} (hs : d.get kTimeState = 2) (hm : d.tim.meas = [x, y]) :
    d.measure off = Dev.jump (median3 x y off) false { d.putI 32 0x220600 off with tim := { d.tim with lastSync := some d.now } } := by
  simp [Dev.measure, Dev.get_timeState_offset, hs, hm]

end

/-! The end of a slew -/

/-- A slew that has run out: EV26 and SYNCED, and the MPLL takes the domains back (R125). -/
theorem Dev.slewEnd_over {d : Dev} (hs : d.get kTimeState = 5) (hr : d.tim.remain = 0) (hw : d.tim.slew = 0) :
    d.slewEnd = (((({ d with clk := { d.clk with timeSlew := false } } : Dev).raise 26).put kTimeState 3).raise 25).holdoverEnd := by
  have hs' : (({ d with clk := { d.clk with timeSlew := false } } : Dev).raise 26).get kTimeState = 5 := (Dev.get_timeState_raise 26 _ (by decide)).trans hs
  simp only [Dev.slewEnd, hs, hr, hw, decide_true, Bool.and_self, if_true, Dev.does_cons, Dev.does_nil, Dev.setTimeState_new (show _ ≠ 3 by rw [hs']; decide)]

/-! Masters -/

theorem Dev.bmca_other {d : Dev} {gm steps port : Nat} (ht : d.timeReady = true) (hr : d.twinRole ≠ 2) : d.bmca false gm steps port = d.qualify gm steps port := by
  simp [Dev.bmca, ht, hr]

theorem Dev.bmca_self {d : Dev} {gm steps port : Nat} (ht : d.timeReady = true) (hr : d.twinRole ≠ 2) (hs : d.twinState ≠ 3) :
    d.bmca true gm steps port = d.becomeGm (eui64 (d.get 0x330000)) := by
  simp [Dev.bmca, ht, hr, hs]

/-- The master that the best master clock algorithm chose stands in 2231.00 to 2233.00. -/
def Dev.masterPut (gm steps port : Nat) (d : Dev) : Dev := ((d.put 0x223200 gm).put 0x223300 steps).put 0x223100 port

theorem Dev.get_timeState_masterPut (gm steps port : Nat) (d : Dev) : (d.masterPut gm steps port).get kTimeState = d.get kTimeState := by
  rw [Dev.masterPut, Dev.get_timeState_put (by decide), Dev.get_timeState_put (by decide), Dev.get_timeState_put (by decide)]

/-- A master qualifies: its announceReceiptTimeout begins (R118). -/
def Dev.announced (d : Dev) : Tim := { d.tim with announceAt := some (d.now + d.announceTimeout) }

/-- The time unit from which a master is acquired at `now` (R124). -/
def Tim.acquiring (now : Nat) (t : Tim) : Tim := { t with fresh := true, meas := [], master := true, lastSync := some now }

/-- A master other than the one in use, in FREE: it is acquired, and its announceReceiptTimeout begins (R119, R124). -/
theorem Dev.qualify_new {d : Dev} {gm steps port : Nat} (hp : d.get 0x222000 ≠ 0) (hs : d.get kTimeState = 0) (hg : d.get 0x223200 ≠ gm) :
    d.qualify gm steps port = (((((d.masterPut gm steps port).raise 27).withTim (d.announced.acquiring d.now)).put kTimeState 2).raise 25).portStates 7 := by
  have hraise : ((d.withTim d.announced).masterPut gm steps port).raise 27 = ((d.masterPut gm steps port).raise 27).withTim d.announced :=
    Dev.withTim_raise _ (d.masterPut gm steps port) 27
  have hstate : (((d.masterPut gm steps port).raise 27).withTim (d.announced.acquiring d.now)).get kTimeState ≠ 2 := by
    have h0 : ((d.masterPut gm steps port).raise 27).get kTimeState = 0 := by rw [Dev.get_timeState_raise 27 _ (by decide), Dev.get_timeState_masterPut, hs]
    exact fun h => absurd (h0.symm.trans h) (by decide)
  have hpath : d.qualify gm steps port =
      (let x := ((d.withTim d.announced).masterPut gm steps port).raise 27
       ((x.withTim (x.tim.acquiring x.now)).setTimeState 2).portStates 7) := by
    unfold Dev.qualify
    rw [if_neg hp]
    simp only [hs, hg, ne_eq, not_false_eq_true, decide_true, Bool.true_or, Dev.when_true, Nat.reduceEqDiff, decide_false, Bool.or_self, Bool.false_eq_true, if_false, Bool.false_and]
    rfl
  rw [hpath, hraise, ← Dev.setTimeState_new hstate]
  simp only [Dev.withTim, Dev.raise_now]
  rfl

/-- The time unit of a part that becomes grandmaster, which measures no master (R122). -/
def Tim.ownMaster (t : Tim) : Tim := { t with master := false, fresh := false, meas := [], slew := 0, remain := 0, ppsFirst := false, ppsRun := 0 }

/-- The part becomes grandmaster from FREE, under the identity it announces (R122). -/
theorem Dev.becomeGm_free {d : Dev} {ident : Nat} (hc : d.get 0x222500 = 1) (hp : d.get 0x222000 ≠ 0) (hs : d.get kTimeState = 0) :
    d.becomeGm ident = (((((d.withTim d.tim.ownMaster).masterPut ident 0 0).raise 27).put kTimeState 6).raise 25).portStates 5 := by
  have hstate : (((d.withTim d.tim.ownMaster).masterPut ident 0 0).raise 27).get kTimeState ≠ 6 := by
    have h0 : (((d.withTim d.tim.ownMaster).masterPut ident 0 0).raise 27).get kTimeState = 0 := by
      rw [Dev.get_timeState_raise 27 _ (by decide), Dev.get_timeState_masterPut]
      exact hs
    exact fun h => absurd (h0.symm.trans h) (by decide)
  rw [← Dev.setTimeState_new hstate]
  simp [Dev.becomeGm, hc, hp, hs]
  rfl

/-! A reference that is lost -/

/-- The time unit with no master in use. -/
def Tim.noMaster (t : Tim) : Tim := { t with announceAt := none, master := false, fresh := false, meas := [] }

/-- announceReceiptTimeout expires in FREE, and the part may not or need not be grandmaster: no master is in use (R123). -/
theorem Dev.announceExpires_free {d : Dev} {t : Nat} (ha : d.tim.announceAt = some t) (hn : t ≤ d.now) (hm : d.get 0x223100 ≠ 0) (hs : d.get kTimeState = 0) :
    d.announceExpires false = (((d.withTim d.tim.noMaster).put 0x223100 0).raise 27).portStates 3 := by
  have hcoast : (d.withTim d.tim.noMaster).coastFromSync = d.withTim d.tim.noMaster := by
    have h0 : (d.withTim d.tim.noMaster).get kTimeState = 0 := hs
    simp [Dev.coastFromSync, h0]
  have hm' : (d.withTim d.tim.noMaster).get 0x223100 ≠ 0 := hm
  simp only [Dev.announceExpires, ha, hn, if_true, Bool.false_and, Bool.false_eq_true, if_false]
  change (((d.withTim d.tim.noMaster).coastFromSync.put 0x223100 0).when (decide ((d.withTim d.tim.noMaster).coastFromSync.get 0x223100 ≠ 0)) (Dev.raise 27)).portStates 3 = _
  rw [hcoast, decide_eq_true hm', Dev.when_true]

/-- The time unit while it coasts: the servo's correction frozen, the slew and the master gone (R123). -/
def Tim.coasting (t : Tim) : Tim := { t with slew := 0, remain := 0, meas := [], master := false, fresh := false, lastSync := none }

/-- While SYNCED the host's rate is not in use, so coasting keeps the servo's correction alone. -/
theorem Dev.coast_synced {d : Dev} (hs : d.get kTimeState = 3) : d.coast = ((d.withTim d.tim.coasting).put kTimeState 4).raise 25 := by
  have hterm : d.hostTerm = 0 := by simp [Dev.hostTerm, hs]
  have hstate : (d.withTim d.tim.coasting).get kTimeState ≠ 4 := fun h => absurd (hs.symm.trans h) (by decide)
  rw [← Dev.setTimeState_new hstate, Dev.coast, hterm]
  simp [Tim.coasting, Dev.withTim]

theorem Dev.syncExpires_due {d : Dev} {t : Nat} (hl : d.tim.lastSync = some t) (hn : t + d.syncIntervals 3 ≤ d.now) (hs : d.get kTimeState = 3) :
    d.syncExpires = ((d.withTim d.tim.coasting).put kTimeState 4).raise 25 := by
  simp [Dev.syncExpires, hl, hn, Dev.coastFromSync, hs, Dev.coast_synced hs]

/-- Settles O13: the measurements, the masters and the expiries, each in the state that its clause names. -/
theorem timeStates : Obligations.TimeStates := by
  unfold Obligations.TimeStates
  refine ⟨?servo, ?third, fun s hs hr hw => becomes_act rfl (Dev.slewEnd_over hs hr hw), ?master, ?grandmaster, ?announce, ?coast⟩
  case servo =>
    intro s off delay ht hp hr hs hf ho
    exact becomes_act rfl ((Dev.syncIn_measures ht hp hr (.inr (.inl hs))).trans (Dev.measure_synced ((Dev.get_timeState_put (by decide)).trans hs) hf ho))
  case third =>
    intro s off x y delay ht hp hr hs hm
    exact becomes_act rfl ((Dev.syncIn_measures ht hp hr (.inl hs)).trans (Dev.measure_third ((Dev.get_timeState_put (by decide)).trans hs) hm))
  case master =>
    intro s gm steps port ht hr hp hs hg
    exact becomes_act rfl ((Dev.bmca_other ht hr).trans (Dev.qualify_new hp hs hg))
  case grandmaster =>
    intro s gm steps port ht hr hw hp hc hs
    exact becomes_act rfl ((Dev.bmca_self ht (by rw [hr]; decide) hw).trans (Dev.becomeGm_free hc hp hs))
  case announce => exact fun s t ha hn hm hs => becomes_act rfl (Dev.announceExpires_free ha hn hm hs)
  case coast => exact fun s t hl hn hs => becomes_act rfl (Dev.syncExpires_due hl hn hs)

end Sys2Proof.Machine
end

section
/-! SUPPORT. A step of the counter: what the Locus table and the gate lists, which it goes through, leave as it is (R128, R137, R151). -/
namespace Sys2Proof.Machine

/-- What a step of the counter is seen by: the time unit, whether the strobes run, the epoch, its start and the end of the one before, and the ready bit of the streams. -/
structure StepView where
  tim : Tim
  run : Bool
  epoch : Nat
  start : Nat
  prevEnd : Nat
  streams : Bool

/-- The part as a step of the counter is seen by it. -/
def Dev.stepView (d : Dev) : StepView :=
  { tim := d.tim, run := d.med.run, epoch := d.get kEpoch, start := d.get 0x220300, prevEnd := d.get 0x220400, streams := d.ready 12 }

theorem Dev.stepView_run (d : Dev) : d.stepView.run = d.med.run := rfl
theorem Dev.stepView_streams (d : Dev) : d.stepView.streams = d.ready 12 := rfl

theorem Dev.stepView_genUp (k : Nat) (d : Dev) : (d.genUp k).stepView = d.stepView := rfl
theorem Dev.stepView_locusOut (ee : Nat) (d : Dev) : (d.locusOut ee).stepView = d.stepView := rfl

/-- The view is of the time unit, the strobes and four objects. -/
theorem Dev.stepView_eq {d e : Dev} (ht : e.tim = d.tim) (hm : e.med = d.med) (hk : ∀ k ∈ [kEpoch, 0x220300, 0x220400, kReady], e.get k = d.get k) : e.stepView = d.stepView := by
  obtain ⟨hepoch, hstart, hend, hready⟩ : e.get kEpoch = d.get kEpoch ∧ e.get 0x220300 = d.get 0x220300 ∧ e.get 0x220400 = d.get 0x220400 ∧ e.get kReady = d.get kReady := by
    simpa only [List.forall_mem_cons, List.not_mem_nil, false_imp_iff, implies_true, and_true] using hk
  simp only [Dev.stepView, Dev.ready, Dev.bitOf, ht, hm, hepoch, hstart, hend, hready]

theorem Dev.stepView_put {k v : Nat} {d : Dev} (h : k ∉ [kEpoch, 0x220300, 0x220400, kReady]) : (d.put k v).stepView = d.stepView := by
  refine Dev.stepView_eq rfl rfl fun j hj => Dev.get_put_other j k v d (fun e => h (e ▸ hj)) (.inl ?_)
  rintro rfl
  exact absurd hj (by decide)

theorem Dev.stepView_raise (e : Nat) (d : Dev) (he : e < 128) : (d.raise e).stepView = d.stepView := by
  refine Dev.stepView_eq (Dev.raise_tim e d) (Dev.raise_med e d) fun k hk => Dev.get_raise e k d he fun hf => ?_
  simp only [List.mem_cons, List.not_mem_nil, or_false, kEpoch, kReady] at hk
  unfold fabricKey at hf
  omega

theorem Dev.stepView_when {f : Dev → Dev} (hf : ∀ d, (f d).stepView = d.stepView) (c : Bool) (d : Dev) : (d.when c f).stepView = d.stepView := by
  cases c
  · rfl
  · exact hf d

theorem Dev.stepView_setTimeState (s : Nat) (d : Dev) : (d.setTimeState s).stepView = d.stepView := by
  unfold Dev.setTimeState
  split
  · rfl
  · rw [Dev.stepView_raise 25 _ (by decide), Dev.stepView_put (by decide)]

/-! The Locus table -/

theorem Dev.stepView_locusFree (ee : Nat) (d : Dev) : (d.locusFree ee).stepView = d.stepView :=
  (Dev.stepView_when (Dev.stepView_genUp _) _ _).trans (Dev.stepView_locusOut ee d)

theorem Dev.stepView_locusDiscard (e : LEntry) (d : Dev) : (d.locusDiscard e).stepView = d.stepView := by
  have hresult : key 0x2312 e.slot ∉ [kEpoch, 0x220300, 0x220400, kReady] := by
    simp only [List.mem_cons, List.not_mem_nil, or_false, key, kEpoch, kReady]
    omega
  rw [Dev.locusDiscard, Dev.does_cons, Dev.does_cons, Dev.does_nil, Dev.stepView_put hresult, Dev.inc, Dev.bump, Dev.stepView_put (by decide), Dev.stepView_locusFree]

/-- One entry at the step: kept, shifted, discarded, or passed (R137). -/
theorem Dev.stepView_reEntry (old new : Nat) (e : LEntry) (r : Dev × Bool) : (Dev.reEntry old new e r).1.stepView = r.1.stepView := by
  obtain ⟨d, b⟩ := r
  unfold Dev.reEntry
  dsimp only
  generalize (if e.action = 2 then 0 else fld e.flags 2 1) = pol
  generalize (if e.action = 2 then false else bit e.flags 0) = past
  generalize (if pol = 1 then e.time + new - old else e.time) = t
  have hmoved : (d.when (t != e.time) (Dev.genUp (key 0x2310 e.slot))).stepView = d.stepView := Dev.stepView_when (Dev.stepView_genUp _) _ _
  have hlate : ((d.when (t != e.time) (Dev.genUp (key 0x2310 e.slot))).inc 0x230300).stepView = d.stepView := by rw [Dev.inc, Dev.bump, Dev.stepView_put (by decide), hmoved]
  split
  case isTrue => rfl
  case isFalse =>
    split
    case isTrue => exact Dev.stepView_locusDiscard e d
    case isFalse =>
      split
      case isTrue => exact hmoved
      case isFalse =>
        split
        case isTrue => rw [Dev.stepView_locusDiscard, hmoved]
        case isFalse => exact hlate

theorem Dev.stepView_reEntries (old new : Nat) (l : List LEntry) (r : Dev × Bool) : (l.foldl (fun r e => Dev.reEntry old new e r) r).1.stepView = r.1.stepView := by
  induction l generalizing r with
  | nil => rfl
  | cons e t ih => rw [List.foldl_cons, ih, Dev.stepView_reEntry]

theorem Dev.stepView_locusReevaluate (old new : Nat) (d : Dev) : (d.locusReevaluate old new).stepView = d.stepView := by
  unfold Dev.locusReevaluate
  dsimp only
  split
  · rw [Dev.stepView_raise 29 _ (by decide), Dev.stepView_reEntries]
  · exact Dev.stepView_reEntries old new d.loc.table (d, false)

/-! The gate lists -/

theorem Dev.stepView_gateEpoch (d : Dev) : d.gateEpoch.stepView = d.stepView := by
  refine foldl_keeps Dev.stepView _ (fun a p => ?_) _ _
  dsimp only
  split <;> rfl

/-! A step to a value -/

/-- The counter set to a value with the step done, and the epoch that begins there (R128). -/
def Dev.counterSet (v : Nat) (d : Dev) : Dev :=
  let x : Dev := { d with tim := { d.tim.set v with step := none, slew := 0, remain := 0, meas := [], frac := 0 } }
  let x : Dev := { x with tim := { x.tim with ppsNom := x.ppsNominal } }
  ((x.put kEpoch ((x.get kEpoch + 1) % 2 ^ 32)).put 0x220300 v).put 0x220400 d.time64

/-- A step to a value written, before the strobes follow it: EV24, the state HOST but for a grandmaster, and the Locus entries (R128, R137). -/
def Dev.valueStep (v : Nat) (d : Dev) : Dev :=
  let x := (d.counterSet v).raise 24
  (if x.get kTimeState = 6 then x else x.setTimeState 1).locusReevaluate d.time64 v

theorem Dev.stepView_valueStep (v : Nat) (d : Dev) : (d.valueStep v).stepView = (d.counterSet v).stepView := by
  rw [Dev.valueStep, Dev.stepView_locusReevaluate, apply_ite Dev.stepView, Dev.stepView_setTimeState, ite_self, Dev.stepView_raise 24 _ (by decide)]

/-- What is seen of a part whose counter is set to a value. -/
theorem Dev.stepView_counterSet (v : Nat) (d : Dev) :
    (d.counterSet v).stepView = { tim := (d.counterSet v).tim, run := d.med.run, epoch := (d.get kEpoch + 1) % 2 ^ 32, start := v, prevEnd := d.time64, streams := d.ready 12 } := by
  have hepoch : (d.counterSet v).get kEpoch = (d.get kEpoch + 1) % 2 ^ 32 := by
    rw [Dev.counterSet, Dev.get_put_other _ _ _ _ (by decide) (.inl (by decide)), Dev.get_put_other _ _ _ _ (by decide) (.inl (by decide)), Dev.get_put_same]
    rfl
  have hstart : (d.counterSet v).get 0x220300 = v := by rw [Dev.counterSet, Dev.get_put_other _ _ _ _ (by decide) (.inl (by decide)), Dev.get_put_same]
  have hend : (d.counterSet v).get 0x220400 = d.time64 := Dev.get_put_same _ _ _
  have hready : (d.counterSet v).ready 12 = d.ready 12 := by
    rw [Dev.counterSet, Dev.ready_put_other (by decide), Dev.ready_put_other (by decide), Dev.ready_put_other (by decide)]
    rfl
  rw [Dev.stepView, hepoch, hstart, hend, hready]
  rfl

theorem Dev.stepMake_stopped {d : Dev} {v : Nat} (h : d.med.run = false) : d.stepMake (.value v) = d.valueStep v := by
  have hrun : (d.valueStep v).med.run = false := by rw [← Dev.stepView_run, Dev.stepView_valueStep, Dev.stepView_counterSet, h]
  exact if_neg (show ¬ (d.valueStep v).med.run = true by rw [hrun]; decide)

/-- The counter of a part set to a value below the range of the seconds field reads that value. -/
theorem Dev.time64_counterSet {v : Nat} (h : v / 1000000000 < 2 ^ 48) (d : Dev) : (d.counterSet v).time64 = v := by
  change v / 1000000000 % 2 ^ 48 * 1000000000 + v % 1000000000 = v
  omega

/-- A step that is due, with the strobes stopped and the streams not ready: the counter, the epoch, the Locus table and the gate lists alone. -/
theorem Dev.epochStep_due {d : Dev} {t v : Nat} (hs : d.tim.step = some (t, .value v)) (ht : t ≤ d.now) (hr : d.med.run = false) (h12 : d.ready 12 = false) :
    d.epochStep = (d.valueStep v).gateEpoch := by
  have hview := ((d.valueStep v).stepView_gateEpoch.trans (d.stepView_valueStep v)).trans (d.stepView_counterSet v)
  have hrun : (d.valueStep v).gateEpoch.med.run = false := by rw [← Dev.stepView_run, hview, hr]
  have hready : (d.valueStep v).gateEpoch.ready 12 = false := by rw [← Dev.stepView_streams, hview, h12]
  simp only [Dev.epochStep, hs, ht, if_true, Dev.stepMake_stopped hr, hready, Dev.when_false, hrun, Bool.false_and, Bool.false_eq_true, if_false]

theorem Dev.stepView_epochStep {d : Dev} {t v : Nat} (hs : d.tim.step = some (t, .value v)) (ht : t ≤ d.now) (hr : d.med.run = false) (h12 : d.ready 12 = false) :
    d.epochStep.stepView = { tim := (d.counterSet v).tim, run := d.med.run, epoch := (d.get kEpoch + 1) % 2 ^ 32, start := v, prevEnd := d.time64, streams := d.ready 12 } := by
  rw [Dev.epochStep_due hs ht hr h12, Dev.stepView_gateEpoch, Dev.stepView_valueStep, Dev.stepView_counterSet]

end Sys2Proof.Machine
end

section
/-! SUPPORT. TIME_NOW and TIME_SET, the reload of the strobes, PPS_OUT and TIME_CAP (R116, R128, R130, R131). -/
namespace Sys2Proof.Machine

/-! TIME_NOW and TIME_SET -/

theorem objRow_timeNow : objRow 0x220000 = some (.mk 0x2200 1 1 0x0 1 .time64 .ro 0 .n 0 0 .any) := rfl
theorem objRow_timeSet : objRow 0x221000 = some (.mk 0x2210 1 1 0x0 1 .time64 .cmd 0 .none 0 0 .any) := rfl

theorem Dev.numValue_timeNow {r : ObjRow} {staged : Bool} {d : Dev} (hs : staged = false) (hc : d.sup.coreOn = true) (ha : r.acc = .ro) :
    d.numValue staged (Obj.ofRow r 0x220000) 0x220000 = d.time64 := by
  have ha' : (Obj.ofRow r 0x220000).acc = .ro := ha
  simp [Dev.numValue, ha', hs, hc]
  rfl

theorem Dev.actOn_timeSet {m : List Host.Cell} {p : Path} {old v : Nat} {b : List Byte} {d : Dev} : d.actOn m p 0x221000 old v b = d.stepBegin (.value v) := by
  simp [Dev.actOn, Dev.actTime]

/-- A step begins: at the next tick, or with audio running after 5 ms (R128). -/
theorem Dev.stepBegin_none {d : Dev} {goal : StepTo} (h : d.tim.step = none) :
    d.stepBegin goal = { d with tim := { d.tim with step := some (d.now + (if d.audioRuns then 5000000 else 4), goal) } } := by
  simp [Dev.stepBegin, h]

/-- TIME_SET with no step due: the step waits `n` ns, as the audio asks for. -/
theorem writes_timeSet (a : Access) (v n : Nat) (audio : Bool) (hn : (if audio then 5000000 else 4) = n) :
    writes (.timeSet a v) a 0x221000 v (fun d => d.tim.step = none ∧ d.audioRuns = audio) (fun d => { d with tim := { d.tim with step := some (d.now + n, .value v) } }) :=
  writes_cmd (fun _ => rfl) objRow_timeSet rfl rfl rfl (fun _ _ ⟨h, ha⟩ => by rw [Dev.actOn_timeSet, Dev.stepBegin_none h, ha, hn])

/-! The strobes -/

/-- The strobes are reloaded while they do not run: their nominal index, with the period that spans the reload marked (R128). -/
theorem Dev.reloadStrobes_stopped {d : Dev} {t : Nat} (ht : d.tim.reload = some t) (hn : t ≤ d.now) (hr : d.med.run = false) :
    d.reloadStrobes = { d with tim := { d.tim with reload := none }, clk := { d.clk with timeSlew := false }, med := { d.med with index := boundaryAt d.fs d.time64 - 1, invOnce := true } } := by
  simp [Dev.reloadStrobes, Dev.strobeReload, ht, hn, hr]

/-! PPS_OUT -/

/-- A pulse that is due and not too near the last rises (R130). -/
theorem Dev.ppsEdge_rises {d : Dev} {n m r : Nat} (ht : d.timeReady = true) (hn : d.ppsNominal = some n) (hm : d.tim.ppsNom = some m) (hlt : m < n)
    (hr : d.tim.ppsRise = some r) (hp : d.ppsPeriod ≤ 2 * (d.now - r)) (hl : d.tim.pps = false) :
    d.ppsEdge = { d with tim := { d.tim with ppsNom := some n, pps := true, ppsRise := some d.now, ppsFall := some (d.now + d.get 0x226100) } } := by
  simp [Dev.ppsEdge, ht, hn, hm, hlt, hr, Nat.not_lt.mpr hp, hl]

theorem Dev.ppsDrop_due {d : Dev} {t : Nat} (hf : d.tim.ppsFall = some t) (hn : t ≤ d.now) : d.ppsDrop = { d with tim := { d.tim with pps := false, ppsFall := none } } := by
  simp [Dev.ppsDrop, hf, hn]

/-! TIME_CAP -/

/-- An edge that CAP_MODE selects, outside PPS discipline, is captured (R131). -/
theorem Dev.capEdge_selected {d : Dev} {rising : Bool} {back : Nat} (ht : d.timeReady = true) (hm : d.get 0x225000 = if rising then 1 else 2) :
    d.capEdge rising back = d.capture rising (back % 4) := by
  cases rising <;> simp [Dev.capEdge, ht, hm]

/-- A capture that follows others in the queue leaves the GEN of 2252.00: the record read first is the same. -/
theorem Dev.capture_kept {d : Dev} {rising : Bool} {back : Nat} (hc : d.tim.caps ≠ []) (hl : d.tim.caps.length < 16) :
    d.capture rising back = ({ d with tim := { d.tim with caps := d.tim.caps ++ [{ time := d.time64 - back, epoch := d.get kEpoch, rising := rising }] } } : Dev).raise 28 := by
  have he : d.tim.caps.isEmpty = false := by simpa using hc
  simp only [Dev.capture, hl, if_true, he, Dev.when_false]

theorem Dev.capture_lost {d : Dev} {rising : Bool} {back : Nat} (hl : d.tim.caps.length = 16) :
    d.capture rising back = (d.put 0x225300 (satAdd 32 (d.get 0x225300) 1)).raise 28 := by
  simp [Dev.capture, hl, Dev.inc, Dev.bump]

/-- No PPS edge for 3 s (R131). -/
theorem Dev.ppsLost_due {d : Dev} {t : Nat} (hp : d.tim.ppsSeen = some t) (hs : d.get kTimeState = 7) (hn : t + 3000000000 ≤ d.now) :
    d.ppsLost = (({ d with tim := { d.tim with ppsRun := 0 } } : Dev).put kTimeState 6).raise 25 := by
  have hstate : ({ d with tim := { d.tim with ppsRun := 0 } } : Dev).get kTimeState ≠ 6 := fun h => absurd (hs.symm.trans h) (by decide)
  rw [← Dev.setTimeState_new hstate]
  simp [Dev.ppsLost, hp, hs, hn]

theorem objRow_capEntry : objRow 0x225200 = some (.mk 0x2252 1 1 0x0 1 .blob .ro 0 .o 0 0 (.blob 16)) := rfl

theorem CapRec.bytes_length (c : CapRec) : c.bytes.length = 16 := rfl

/-- A segment of every path holds a whole record. -/
theorem pathSegment_ge (p : Path) : 256 ≤ pathSegment p := by
  unfold pathSegment
  split <;> decide

/-- A read of a whole record removes it (R131). -/
theorem Dev.byteValue_capEntry {m : List Host.Cell} {e1 e2 : List Nat} {r : ObjRow} {n : Nat} {c : CapRec} {l : List CapRec} {d : Dev}
    (hc : d.sup.coreOn = true) (hl : d.tim.caps = c :: l) (hn : 16 ≤ n) :
    d.byteValue m e1 e2 false (Obj.ofRow r 0x225200) 0x225200 0 n = ((c.bytes.drop 0).take n, ({ d with tim := { d.tim with caps := l } } : Dev).genUp 0x225200) := by
  simp [Dev.byteValue, hc, hl, CapRec.bytes_length, hn]

/-- Settles O14: the step by what it leaves behind, the others by the case of their operation that the clause names. -/
theorem timeSteps : Obligations.TimeSteps := by
  unfold Obligations.TimeSteps
  refine ⟨?now, fun a v => writes_timeSet a v 4 false rfl, fun a v => writes_timeSet a v 5000000 true rfl, ?step, ?reload, ?rise, ?fall, ?captured, ?lost, ?disciplineLost, ?read⟩
  case now =>
    exact fun a => readsNum_row (fun _ => rfl) objRow_timeNow rfl rfl (fun d ⟨hs, hc⟩ => Dev.numValue_timeNow hs hc rfl) (fun _ _ => rfl)
  case step =>
    intro s t v hs ht hr h12 hv
    have hview := Dev.stepView_epochStep hs ht hr h12
    have htim : s.dev.epochStep.tim = (s.dev.counterSet v).tim := congrArg StepView.tim hview
    have htime : s.dev.epochStep.time64 = v := (congrArg (fun t : Tim => t.sec * 1000000000 + t.ns) htim).trans (Dev.time64_counterSet hv s.dev)
    exact ⟨_, rfl, rfl, fun _ => rfl, htime, congrArg Tim.frac htim, congrArg Tim.step htim, congrArg StepView.epoch hview, congrArg StepView.start hview, congrArg StepView.prevEnd hview⟩
  case reload => exact fun s t ht hn hr => becomes_act rfl (Dev.reloadStrobes_stopped ht hn hr)
  case rise => exact fun s n m r ht hn hm hlt hr hp hl => becomes_act rfl (Dev.ppsEdge_rises ht hn hm hlt hr hp hl)
  case fall => exact fun s t hf hn => becomes_act rfl (Dev.ppsDrop_due hf hn)
  case captured => exact fun s back ht hm hc hl => becomes_act rfl ((Dev.capEdge_selected (rising := true) ht hm).trans (Dev.capture_kept hc hl))
  case lost => exact fun s back ht hm hl => becomes_act rfl ((Dev.capEdge_selected (rising := false) ht hm).trans (Dev.capture_lost hl))
  case disciplineLost => exact fun s t hp hs hn => becomes_act rfl (Dev.ppsLost_due hp hs hn)
  case read =>
    intro a c l hs ho hn
    refine readsBytes_row (fun _ => rfl) objRow_capEntry rfl (fun m d ⟨hc, hl⟩ => ?_)
    rw [hs, ho]
    exact Dev.byteValue_capEntry hc hl (Nat.le_min.mpr ⟨hn, Nat.le_trans (by decide) (pathSegment_ge a.path)⟩)

end Sys2Proof.Machine
end

section
/-! SUPPORT. Links: a link's change, and the objects of ports A and B that it leaves as they are (R143 to R145). -/
namespace Sys2Proof.Machine

/-! Numbers written with their reserved fields -/

/-- The row of a number of no group, some of whose fields may be reserved: `w` is the number that it keeps (R8). -/
theorem writes_kept {i : Instr} {a : Access} {k v w : Nat} {r : ObjRow} {h : Dev → Prop} {f : Dev → Dev} (hi : ∀ s, exec i s = .next (s.quiet (Dev.hostSet a k v)))
    (hr : objRow k = some r) (hs : r.acc ≠ .st) (hb : r.ty.isBytes = false) (hn : (Obj.ofRow r k).norm v = w)
    (hf : ∀ (m : List Host.Cell) (d : Dev), h d → d.takeNow m a.path (Obj.ofRow r k) k w [] = f d) : writes i a k v h f := by
  intro s ht hh
  have hset : Dev.hostSet a k v s.mem s.dev = (f s.dev).ok a := by
    rw [Dev.hostSet_num ht hr hs (by intro e; simp [e, Ty.isBytes] at hb) (by intro e; simp [e, Ty.isBytes] at hb), hn, hf _ _ hh]
    rfl
  exact becomes_quiet (hi s) hset

/-- A write to an object of 3000h to 33FFh acts by its key. -/
theorem Dev.actOn_net {m : List Host.Cell} {p : Path} {i s old v : Nat} {b : List Byte} {d : Dev} (hi : i / 256 = 0x30 ∨ i / 256 = 0x31 ∨ i / 256 = 0x32 ∨ i / 256 = 0x33) (hs : s < 256) :
    d.actOn m p (key i s) old v b = d.netWrite (key i s) v b := by
  rcases hi with hi | hi | hi | hi <;> simp only [Dev.actOn, key_page i s hs, hi]

/-- An object of the Ethernet unit that keeps the number written: it stands, and then what it starts runs. -/
theorem Dev.takeNow_net {m : List Host.Cell} {p : Path} {r : ObjRow} {i s v : Nat} {d : Dev} (hr : objRow (key i s) = some r) (ha : r.acc = .rw) (hb : r.ty.isBytes = false)
    (hi : i / 256 = 0x30 ∨ i / 256 = 0x31 ∨ i / 256 = 0x32 ∨ i / 256 = 0x33) (hs : s < 256) :
    d.takeNow m p (Obj.ofRow r (key i s)) (key i s) v [] = (d.put (key i s) v).netWrite (key i s) v [] := by
  have hact : i ∉ actingIndices := by
    simp only [actingIndices, List.mem_cons, List.not_mem_nil, or_false]
    omega
  rw [Dev.takeNow_put hr (actsOnly_rw ha hs hact) hb, Dev.actOn_net hi hs]

/-! Writes that take a link down -/

theorem objRow_aAdvertise : objRow (key 0x3001 0) = some (.mk 0x3001 1 1 0x0 1 .bits16 .rw 0x7 .n 0 0 (.mask 0x7)) := rfl
theorem objRow_bMode : objRow (key 0x3100 0) = some (.mk 0x3100 1 1 0x0 1 .enum .rw 0 .n 0 0 (.nat [(0, 2)])) := rfl
theorem objRow_bSpeed : objRow (key 0x3101 0) = some (.mk 0x3101 1 1 0x0 1 .enum .rw 0 .n 0 0 (.nat [(0, 3)])) := rfl
theorem objRow_bDelay : objRow (key 0x3102 0) = some (.mk 0x3102 1 1 0x0 1 .bits16 .rw 0x3 .n 0 0 (.mask 0x3)) := rfl

theorem Dev.netWrite_advertise (v : Nat) (b : List Byte) (d : Dev) : d.netWrite (key 0x3001 0) v b = d.linkSet 0 0 := rfl

/-- The objects of Table 6-2 that restart port B. -/
theorem Dev.netWrite_portB {n : Nat} (hn : n < 3) (v : Nat) (b : List Byte) (d : Dev) : d.netWrite (key (0x3100 + n) 0) v b = d.linkSet 1 0 := by
  rcases (show n = 0 ∨ n = 1 ∨ n = 2 by omega) with rfl | rfl | rfl <;> rfl

theorem writes_aAdvertise (a : Access) (v : Nat) : writes (.aAdvertise a v) a 0x300100 v (fun _ => True) (fun d => (d.put 0x300100 (v &&& 7)).linkSet 0 0) :=
  writes_kept (w := v &&& 7) (fun _ => rfl) objRow_aAdvertise (by simp) rfl rfl
    (fun _ d _ => (Dev.takeNow_net objRow_aAdvertise rfl rfl (by decide) (by decide)).trans (Dev.netWrite_advertise _ _ _))

/-- A row of port B's mode: the number kept stands, and the link goes down (R145). -/
theorem writes_bMode {r : ObjRow} (a : Access) (n v w : Nat) (hn : n < 3) (hr : objRow (key (0x3100 + n) 0) = some r) (ha : r.acc = .rw) (hb : r.ty.isBytes = false)
    (hw : (Obj.ofRow r (key (0x3100 + n) 0)).norm v = w) : writes (.bMode a n v) a (key (0x3100 + n) 0) v (fun _ => True) (fun d => (d.put (key (0x3100 + n) 0) w).linkSet 1 0) :=
  writes_kept (fun s => by simp only [exec, execBMode, Nat.mod_eq_of_lt hn]) hr (by simp [ha]) hb hw
    (fun _ d _ => (Dev.takeNow_net hr ha hb (by omega) (by decide)).trans (Dev.netWrite_portB hn _ _ _))

/-! What a link's change leaves as it is -/

/-- The objects below 1300h, among them the mode, and those of ports A and B (3000h to 31FFh). -/
def linkKey (k : Nat) : Bool := decide (k < 0x130000) || (decide (0x300000 ≤ k) && decide (k < 0x320000))

/-- What is stored of those objects. -/
def Dev.linkView (d : Dev) (k : Nat) : Option Nat := if linkKey k then assoc k d.st.obj else none

theorem Dev.get_of_linkView {d e : Dev} {k : Nat} (h : e.linkView = d.linkView) (hk : linkKey k = true) : e.get k = d.get k := by
  have hstored : ∀ j, linkKey j = true → assoc j e.st.obj = assoc j d.st.obj := fun j hj => by
    have := congrFun h j
    rwa [Dev.linkView, Dev.linkView, if_pos hj, if_pos hj] at this
  exact Dev.get_eq k d e (hstored k hk) (hstored _ (by decide))

theorem Dev.linkView_put {k : Nat} (h : linkKey k = false) (v : Nat) (d : Dev) : (d.put k v).linkView = d.linkView := by
  funext j
  unfold Dev.linkView
  split
  case isTrue hj => exact assoc_assocPut_other j k v _ (fun e => by rw [e, h] at hj; exact absurd hj (by decide))
  case isFalse => rfl

/-- The objects of the switch and its ledgers, of the rings and of the talkers lie outside. -/
theorem linkKey_switch {i s : Nat} (h : 0x3200 ≤ i) : linkKey (key i s) = false := by
  have hlow : 0x320000 ≤ key i s := by unfold key; omega
  simp only [linkKey, Bool.or_eq_false_iff, Bool.and_eq_false_iff, decide_eq_false_iff_not]
  omega

theorem Dev.linkView_raise {e : Nat} (he : e < 128) (d : Dev) : (d.raise e).linkView = d.linkView := by
  funext k
  unfold Dev.linkView
  split
  case isTrue hk =>
    refine Dev.keepsObj_raise e d he k fun hf => ?_
    simp only [linkKey, Bool.or_eq_true, Bool.and_eq_true, decide_eq_true_eq] at hk
    unfold fabricKey at hf
    omega
  case isFalse => rfl

theorem Dev.linkView_add64 {i s : Nat} (h : 0x3200 ≤ i) (n : Nat) (d : Dev) : (d.add64 (key i s) n).linkView = d.linkView := Dev.linkView_put (linkKey_switch h) _ d
theorem Dev.linkView_inc {i s : Nat} (h : 0x3200 ≤ i) (d : Dev) : (d.inc (key i s)).linkView = d.linkView := Dev.linkView_put (linkKey_switch h) _ d
theorem Dev.linkView_putI {i s : Nat} (h : 0x3200 ≤ i) (w : Nat) (v : Int) (d : Dev) : (d.putI w (key i s) v).linkView = d.linkView := Dev.linkView_put (linkKey_switch h) _ d
theorem Dev.linkView_genUp (k : Nat) (d : Dev) : (d.genUp k).linkView = d.linkView := rfl
theorem Dev.linkView_modPort (p : Nat) (f : NetPort → NetPort) (d : Dev) : (d.modPort p f).linkView = d.linkView := rfl
theorem Dev.linkView_modRing (r : Nat) (f : Ring → Ring) (d : Dev) : (d.modRing r f).linkView = d.linkView := rfl

theorem Dev.linkView_ringEvent (r : Nat) (x : Desc) (d : Dev) : (d.ringEvent r x).linkView = d.linkView := by
  unfold Dev.ringEvent
  split
  · exact Dev.linkView_raise (by decide) d
  · split
    · exact Dev.linkView_raise (by decide) d
    · rfl

theorem Dev.linkView_ringReturn (r : Nat) (l : List Desc) (d : Dev) : (d.ringReturn r l).linkView = d.linkView := by
  unfold Dev.ringReturn
  split
  case isTrue => exact Dev.linkView_add64 (by omega) _ d
  case isFalse =>
    refine foldl_keeps Dev.linkView _ (fun a x => ?_) l d
    dsimp only
    split <;> split
    · rw [Dev.linkView_ringEvent, Dev.linkView_add64 (by omega), Dev.linkView_genUp, Dev.linkView_modRing]
    · rw [Dev.linkView_genUp, Dev.linkView_modRing]
    · rw [Dev.linkView_ringEvent, Dev.linkView_add64 (by omega), Dev.linkView_modRing]
    · rw [Dev.linkView_modRing]

theorem Dev.linkView_talkerLost (n frames : Nat) (d : Dev) : (d.talkerLost n frames).linkView = d.linkView := by
  rw [Dev.talkerLost, Dev.linkView_raise (by decide), Dev.linkView_inc (by omega), Dev.linkView_add64 (by omega)]

theorem Dev.linkView_frameLost (flush : Bool) (status : Nat) (f : QFrame) (d : Dev) : (d.frameLost flush status f).linkView = d.linkView := by
  have hring : (match f.ring with
      | some r => if flush then d.ringFlushed r f.chain else d.ringDone r status f.chain
      | none => d).linkView = d.linkView := by
    split
    · split <;> exact Dev.linkView_ringReturn _ _ d
    · rfl
  unfold Dev.frameLost
  dsimp only
  split
  · rw [Dev.linkView_talkerLost]
    exact hring
  · exact hring

/-- The frames lost with a port: those queued, the one in transmission, and those that wait to be launched. -/
theorem Dev.linkView_portDown (p : Nat) (d : Dev) : (d.portDown p).linkView = d.linkView := by
  have hflushed : ∀ (r : Nat) (l : List Desc) (d : Dev), (d.ringFlushed r l).linkView = d.linkView := fun r l d => Dev.linkView_ringReturn r _ d
  have hlaunch : ∀ d : Dev, (d.launchFlush p).linkView = d.linkView := fun d => by
    unfold Dev.launchFlush
    dsimp only
    rw [foldl_keeps Dev.linkView _ (fun a r => hflushed r _ a), foldl_keeps Dev.linkView _ (fun a f => Dev.linkView_frameLost true 0 f a)]
    rfl
  have hqueue : ∀ (c flush : QFrame → Bool) (d : Dev), (d.queueDrop p c flush).linkView = d.linkView := fun c flush d => by
    unfold Dev.queueDrop
    dsimp only
    rw [foldl_keeps Dev.linkView _ (fun a f => by rw [Dev.linkView_frameLost, Dev.egress, Dev.linkView_add64 (by omega)]), Dev.linkView_modPort]
  have htx : (d.txDrop p).linkView = d.linkView := by
    unfold Dev.txDrop
    split
    · rw [Dev.linkView_frameLost, Dev.egress, Dev.linkView_add64 (by omega), Dev.linkView_modPort]
    · rfl
  rw [Dev.portDown, hlaunch, hqueue, htx]

theorem Dev.linkView_shaperSet (p : Nat) (d : Dev) : (d.shaperSet p).linkView = d.linkView := by
  unfold Dev.shaperSet
  dsimp only
  rw [apply_ite Dev.linkView, Dev.linkView_raise (by decide), ite_self, Dev.linkView_modPort]
  simp only [Dev.does_cons, Dev.does_nil]
  repeat rw [Dev.linkView_putI (by omega)]

theorem Dev.linkView_coastFromSync (d : Dev) : d.coastFromSync.linkView = d.linkView := by
  have hstate : ∀ (s : Nat) (d : Dev), (d.setTimeState s).linkView = d.linkView := fun s d => by
    unfold Dev.setTimeState
    split
    · rfl
    · rw [Dev.linkView_raise (by decide), Dev.linkView_put (by decide)]
  unfold Dev.coastFromSync
  dsimp only
  split
  · exact hstate 4 _
  · rfl

theorem Dev.linkView_portStates (main : Nat) (d : Dev) : (d.portStates main).linkView = d.linkView := by
  have hput : ∀ x y z : Nat, (d.does [Dev.put 0x223000 x, Dev.put 0x223001 y, Dev.put 0x223002 z]).linkView = d.linkView := fun x y z => by
    simp only [Dev.does_cons, Dev.does_nil]
    rw [Dev.linkView_put (by decide), Dev.linkView_put (by decide), Dev.linkView_put (by decide)]
  unfold Dev.portStates
  dsimp only
  split
  · exact hput _ _ _
  · split <;> exact hput _ _ _

/-! A link's change -/

theorem Dev.linkSet_same (p : Nat) (d : Dev) : d.linkSet p (d.get (if p = 0 then 0x300200 else 0x310300)) = d := by simp [Dev.linkSet]

/-- What a change of port A's link writes of the port itself: its code, bit 0 of A_STATUS, and a drop counted (R143). -/
def Dev.linkPut (code : Nat) (d : Dev) : Dev :=
  let x := (d.put 0x300200 code).putBit 0x300300 0 (code != 0)
  if code = 0 then x.inc 0x300500 else x

theorem Dev.linkView_linkSet {d : Dev} {code : Nat} (h : d.get 0x300200 ≠ code) : (d.linkSet 0 code).linkView = (d.linkPut code).linkView := by
  unfold Dev.linkSet Dev.linkPut
  dsimp only
  rw [if_pos rfl, if_neg h, Dev.linkView_portStates]
  by_cases hc : code = 0
  · simp only [hc, if_true]
    rw [apply_ite Dev.linkView, Dev.linkView_coastFromSync, ite_self, Dev.linkView_raise (by decide), Dev.linkView_shaperSet, if_neg (by decide), Dev.linkView_portDown]
    rfl
  · simp only [hc, if_false]
    rw [Dev.linkView_raise (by decide), Dev.linkView_shaperSet]
    rfl

theorem bit_setBit_same (v i : Nat) (b : Bool) : bit (setBit v i b) i = b := by
  have hw : i + 1 - i = 1 := by omega
  have hdiv : (v - v / 2 ^ i % 2 * 2 ^ i + b.toNat * 2 ^ i) / 2 ^ i = v / 2 ^ i - v / 2 ^ i % 2 + b.toNat := by
    rw [Nat.add_mul_div_right _ _ (Nat.two_pow_pos i), Nat.mul_comm, Nat.sub_mul_div]
  have hb : (if b then 1 else 0) % 2 = b.toNat := by cases b <;> rfl
  rw [bit, setBit, setFld, fld, hw, Nat.pow_one, Nat.shiftRight_eq_div_pow, hb, Nat.testBit_eq_decide_div_mod_eq, hdiv]
  cases b <;> simp <;> omega

/-- An object after a put: the value put, or what it was. -/
theorem Dev.get_put {j : Nat} (h : j ≠ kModeRequest) (k v : Nat) (d : Dev) : (d.put k v).get j = if j = k then v else d.get j := by
  split
  case isTrue hk => rw [hk, Dev.get_put_same]
  case isFalse hk => exact Dev.get_put_other j k v d hk (.inl h)

theorem Dev.linkPut_get {k : Nat} (h : k ≠ kModeRequest) (code : Nat) (d : Dev) :
    (d.linkPut code).get k = if k = 0x300500 ∧ code = 0 then satAdd 32 (d.get 0x300500) 1 else if k = 0x300300 then setBit (d.get 0x300300) 0 (code != 0) else if k = 0x300200 then code else d.get k := by
  have hstatus : (d.put 0x300200 code).get 0x300300 = d.get 0x300300 := Dev.get_put_other _ _ _ _ (by decide) (.inl (by decide))
  have hdrops : ((d.put 0x300200 code).putBit 0x300300 0 (code != 0)).get 0x300500 = d.get 0x300500 :=
    (Dev.get_put_other _ _ _ _ (by decide) (.inl (by decide))).trans (Dev.get_put_other _ _ _ _ (by decide) (.inl (by decide)))
  have hup : ((d.put 0x300200 code).putBit 0x300300 0 (code != 0)).get k = if k = 0x300300 then setBit (d.get 0x300300) 0 (code != 0) else if k = 0x300200 then code else d.get k := by
    rw [Dev.putBit, hstatus, Dev.get_put h, Dev.get_put h]
  unfold Dev.linkPut
  dsimp only
  by_cases hc : code = 0
  · rw [if_pos hc, Dev.inc, Dev.bump, hdrops, Dev.get_put h, hup]
    simp only [hc, and_true]
  · rw [if_neg hc, hup, if_neg (fun hk : k = 0x300500 ∧ code = 0 => hc hk.2)]

/-- A change of port A's link as the host sees it: the code, A_STATUS and the count of drops (R143). -/
theorem Dev.linkSet_portA {d : Dev} {code : Nat} (h : d.get 0x300200 ≠ code) : (d.linkSet 0 code).get 0x300200 = code ∧ (d.linkSet 0 code).bitOf 0x300300 0 = (code ≠ 0 : Bool)
    ∧ (d.linkSet 0 code).get 0x300500 = (if code = 0 then min (d.get 0x300500 + 1) (2 ^ 32 - 1) else d.get 0x300500) := by
  have hview : ∀ k, linkKey k = true → (d.linkSet 0 code).get k = (d.linkPut code).get k := fun k hk => Dev.get_of_linkView (Dev.linkView_linkSet h) hk
  rw [Dev.bitOf, hview _ (by decide), hview _ (by decide), hview _ (by decide), Dev.linkPut_get (by decide), Dev.linkPut_get (by decide), Dev.linkPut_get (by decide)]
  refine ⟨by simp, ?_, by simp [satAdd]⟩
  simp only [Nat.reduceEqDiff, false_and, if_false, if_true, bit_setBit_same]
  by_cases hc : code = 0 <;> simp [hc]

theorem Dev.linkSet_mode (code : Nat) (d : Dev) : (d.linkSet 0 code).mode = d.mode := by
  by_cases h : d.get 0x300200 = code
  · rw [← h]
    exact congrArg Dev.mode (d.linkSet_same 0)
  · have hview : (d.linkSet 0 code).get kMode = (d.linkPut code).get kMode := Dev.get_of_linkView (Dev.linkView_linkSet h) (by decide)
    rw [Dev.mode, hview, Dev.linkPut_get (by decide), if_neg (fun hk => absurd hk.1 (by decide)), if_neg (by decide), if_neg (by decide)]
    rfl

/-! The commands -/

/-- Port A's link takes a state that it may take; the mode that EEE asks for is that of the part, before and after (R143). -/
theorem Dev.linkA_can {d : Dev} {code : Nat} (h : d.linkACan code = true) (mdix master eee : Bool) :
    d.linkA code mdix master eee = (((d.linkSet 0 code).putBit 0x300300 1 (code ≠ 0 && mdix)).putBit 0x300300 2 (code = 3 && master)).putBit 0x300300 3 (code ≠ 0 && eee && ((d.linkSet 0 code).mode = 3)) := by
  rw [Dev.linkSet_mode, Dev.linkA, if_pos h]
  rfl

theorem objRow_aStatus : objRow 0x300300 = some (.mk 0x3003 1 1 0x0 1 .bits16 .ro 0x0 .o 0 0 .any) := rfl

theorem Dev.numValue_aStatus {r : ObjRow} {staged : Bool} {d : Dev} (hs : staged = false) (hc : d.sup.coreOn = true) (ha : r.acc = .ro) :
    d.numValue staged (Obj.ofRow r 0x300300) 0x300300 = d.get 0x300300 := by
  have ha' : (Obj.ofRow r 0x300300).acc = .ro := ha
  simp [Dev.numValue, ha', hs, hc]
  rfl

/-- Settles O18: the commands by what a link's change is, and that change by what it leaves of the ports' own objects. -/
theorem links : Obligations.Links := by
  unfold Obligations.Links
  refine ⟨?linkA, ?linkB, writes_aAdvertise, ?bMode, ?bDelay, ?magic, ?status, fun d code => Dev.linkSet_portA, fun d p => d.linkSet_same p⟩
  case linkA => exact fun s code mdix master eee h => becomes_act rfl (Dev.linkA_can h mdix master eee)
  case linkB => exact fun s code h => becomes_act rfl (by rw [h, Dev.when_true])
  case bMode =>
    intro a n v hn
    rw [show 0x310000 + 256 * n = key (0x3100 + n) 0 by unfold key; omega]
    rcases (show n = 0 ∨ n = 1 by omega) with rfl | rfl
    · exact writes_bMode a 0 v v (by decide) objRow_bMode rfl rfl rfl
    · exact writes_bMode a 1 v v (by decide) objRow_bSpeed rfl rfl rfl
  case bDelay => exact fun a v => writes_bMode a 2 v (v &&& 3) (by decide) objRow_bDelay rfl rfl rfl
  case magic => exact fun s b hw hl hm => becomes_act rfl (by simp [Dev.magicIn, hw, hl, hm])
  case status => exact fun a hs => readsNum_row (fun _ => rfl) objRow_aStatus rfl rfl (fun d hc => Dev.numValue_aStatus hs hc rfl) (fun _ _ => rfl)

end Sys2Proof.Machine
end

section
/-! SUPPORT. Frames at the switch: what a frame received, a frame sent and the learned addresses do (R148, R149, R156, R157). -/
namespace Sys2Proof.Machine

/-! Ledgers and the VLAN table -/

/-- A VLAN entry is found by its objects alone. -/
theorem Dev.vlan_of_get {d e : Dev} (h : ∀ v < 64, e.get (key 0x3201 v) = d.get (key 0x3201 v)) (vid : Nat) : e.vlan vid = d.vlan vid := by
  unfold Dev.vlan
  rw [upto, List.map_congr_left (fun v hv => h v (List.mem_range.mp hv))]

/-- A count of a port's ingress ledger leaves every object between 1100.00 and the ledgers. -/
theorem Dev.get_ingress {k : Nat} (hm : 0x110000 < k) (h : k < 0x323000) (p f : Nat) (d : Dev) : (d.ingress p f).get k = d.get k :=
  Dev.get_put_other _ _ _ _ (by unfold key; omega) (.inl (Nat.ne_of_gt hm))

theorem Dev.vlan_ingress (p f vid : Nat) (d : Dev) : (d.ingress p f).vlan vid = d.vlan vid :=
  Dev.vlan_of_get (fun v hv => Dev.get_ingress (by unfold key; omega) (by unfold key; omega) p f d) vid

theorem Dev.ptpStops_ingress (p f : Nat) (b : List Byte) (d : Dev) : (d.ingress p f).ptpStops b = d.ptpStops b := by
  unfold Dev.ptpStops
  rw [Dev.get_ingress (by decide) (by decide)]

theorem untag_none {b : List Byte} (h : (untag b).1 = none) : untag b = (none, b) := by
  unfold untag at h ⊢
  split
  case isTrue ht => rw [if_pos ht] at h; cases h
  case isFalse => rfl

/-! Frames received -/

theorem Dev.frameReceived_port {d : Dev} {p : Nat} (hon : d.switchOn = true) (hp : p < 2) (hl : d.linkOf p ≠ 0) (b : List Byte) (ok : Bool) (age full : Nat) :
    d.frameReceived p b ok age full = d.frameIn p b ok age full := by
  have h2 : p ≠ 2 := by omega
  simp [Dev.frameReceived, hon, hp, hl, h2]

theorem Dev.frameReceived_e {d : Dev} (hon : d.switchOn = true) (b : List Byte) (ok : Bool) (age full : Nat) : d.frameReceived 2 b ok age full = d.frameFromE full := by
  simp [Dev.frameReceived, hon]

/-- A bad FCS whose count has risen since it was read: counted, and no more (Table 6-16). -/
theorem Dev.frameIn_badFcs {d : Dev} {p : Nat} (h : bit (d.port p).bad 3 = true) (b : List Byte) (age full : Nat) :
    d.frameIn p b false age full = (d.ingress p 0).ingress p 3 := by
  have hbad : bit (((d.ingress p 0).ingress p 3).port p).bad 3 = true := h
  simp [Dev.frameIn, Dev.badFrame, hbad]

section
variable {d : Dev} {p : Nat} {b : List Byte} (hmin : 60 ≤ b.length) (hmax : b.length ≤ 1996)
include hmin hmax

/-- A PAUSE frame at port A is consumed, and its bit of A_STATUS set (R146). -/
theorem Dev.frameIn_pause (ht : etherType (untag b).2 = 0x8808) (ho : beAt 14 2 (untag b).2 = 1) (age full : Nat) :
    d.frameIn 0 b true age full = ((d.ingress 0 0).ingress 0 2).putBit 0x300300 4 true := by
  have h1 : ¬ b.length + 4 < 64 := by omega
  have h2 : ¬ b.length + 4 > 2000 := by omega
  simp [Dev.frameIn, h1, h2, ht, ho]

/-- An untagged frame of a VLAN that its port belongs to is learned and forwarded (R148). -/
theorem Dev.frameIn_untagged {e : Nat} (hu : (untag b).1 = none) (ht : etherType b ≠ 0x8808) (hs : d.ptpStops b = false) (hv : d.vlan (d.get (key 0x3202 p)) = some e)
    (hm : bit (vlanMembers e) p = true) (hp : p < 2) (age full : Nat) :
    d.frameIn p b true age full = (((d.ingress p 0).ingress p 1).learn p (macSrc b)).forward p age full b 0 e
      ((((d.ingress p 0).ingress p 1).learn p (macSrc b)).destPorts p (macDst b) (vlanMembers e)) { bytes := [], cls := 0 } := by
  have h1 : ¬ b.length + 4 < 64 := by omega
  have h2 : ¬ b.length + 4 > 2000 := by omega
  have hs' : (d.ingress p 0).ptpStops b = false := (Dev.ptpStops_ingress p 0 b d).trans hs
  have hv' : (d.ingress p 0).vlan ((d.ingress p 0).get (key 0x3202 p)) = some e := by
    rw [Dev.get_ingress (by unfold key; omega) (by unfold key; omega), Dev.vlan_ingress, hv]
  simp [Dev.frameIn, h1, h2, untag_none hu, ht, hs', hv', hm]

end

/-- An untagged frame of E is classified like one received, and goes to the port it asks for or by its destination (R156). -/
theorem Dev.frameFromE_untagged {d : Dev} {f : QFrame} {l : List QFrame} {e : Nat} (hh : d.net.handed = f :: l) (hu : (untag f.bytes).1 = none) (hv : d.vlan (d.get 0x320202) = some e)
    (hm : bit (vlanMembers e) 2 = true) (full : Nat) :
    let x := ((({ d with net := { d.net with handed := l } } : Dev).ingress 2 0).ingress 2 1).learn 2 (macSrc f.bytes)
    d.frameFromE full = x.forward 2 0 full f.bytes 0 e (if f.port = 1 then 1 else if f.port = 2 then 2 else x.destPorts 2 (macDst f.bytes) (vlanMembers e)) f := by
  have hv' : (({ d with net := { d.net with handed := l } } : Dev).ingress 2 0).vlan ((({ d with net := { d.net with handed := l } } : Dev).ingress 2 0).get 0x320202) = some e := by
    rw [Dev.get_ingress (by decide) (by decide), Dev.vlan_ingress]
    exact hv
  simp [Dev.frameFromE, hh, untag_none hu, hv', hm]

/-! Frames sent -/

theorem Dev.mayStart_busy {d : Dev} {p : Nat} (h : (d.port p).tx ≠ none) (f : QFrame) : d.mayStart p f = false := by
  simp [Dev.mayStart, h]

/-- A port with a frame in transmission starts none. -/
theorem Dev.txKick_busy {d : Dev} {p : Nat} (h : (d.port p).tx ≠ none) : d.txKick p = d := by
  unfold Dev.txKick
  dsimp only
  split
  case h_1 hf =>
    obtain ⟨tc, -, htc⟩ := List.exists_of_findSome?_eq_some hf
    split at htc
    · simp [Dev.mayStart_busy h] at htc
    · cases htc
  case h_2 => rfl

/-- A frame of no ring and no talker, with no timestamp asked for and no correction to make, has left port A: it counts as sent and is on the wire (R149, R157). -/
theorem Dev.frameOut_sent {d : Dev} {f : QFrame} {t0 l0 e : Nat} (ht : (d.port 0).tx = some (f, t0, l0, e)) (he : e ≤ d.now) (hu : (untag f.bytes).1 = none) (hr : f.rxAt = none)
    (hq : f.tsReq = false) (hg : f.ring = none) (hk : f.talker = none) :
    let x := (d.modPort 0 (fun n => { n with tx := none, idleAt := e + d.byteTimes 0 12 })).egress 0 1
    d.frameOut 0 = ({ x with net := { x.net with wireA := f.bytes ++ zeros (60 - f.bytes.length) } } : Dev).txKick 0 := by
  have hn : ¬ d.now < e := Nat.not_lt.mpr he
  simp [Dev.frameOut, Dev.txKick_busy (d := d) (p := 0) (by simp [ht]), ht, hn, untag_none hu, hr, hq, hg, hk]

/-! Learned addresses -/

theorem objRow_addrFlush : objRow 0x320500 = some (.mk 0x3205 1 1 0x0 1 .bool .cmd 0 .none 0 0 (.nat [(0, 1)])) := rfl

theorem Dev.addrKeep_none (d : Dev) : d.addrKeep (fun _ => false) = { d with net := { d.net with addrs := [], full := false } } := by
  have hnone : d.net.addrs.filter (fun _ => false) = [] := List.filter_eq_nil_iff.mpr fun _ _ => Bool.false_ne_true
  have hroom : decide (([] : List (Nat × Nat × Nat)).length ≥ 1024) = false := rfl
  rw [Dev.addrKeep, hnone]
  dsimp only
  rw [hroom, Bool.and_false]

end Sys2Proof.Machine
end

section
/-! SUPPORT. Pause on port B and the gate lists (R146, R147, R151, R152). -/
namespace Sys2Proof.Machine

/-! Pause -/

/-- A quantum while no pause runs and no holdoff does (R146). -/
theorem Dev.pause_starts {d : Dev} {q : Nat} (hr : d.ready 8 = true) (hl : d.get 0x310300 ≠ 0) (he : d.get 0x310400 ≠ 0) (ho : d.net.pauseOff = none) (hp : d.net.pauseEnd = none) (hq : q ≠ 0) :
    d.pause q = { d with net := { d.net with pauseEnd := some (d.now + q * 512 * 1000000 / linkRate (d.get 0x310300)), pausedAt := some d.now } } := by
  simp [Dev.pause, hr, hl, he, ho, hp, hq, Dev.pauseTime, Dev.portRate, Dev.linkOf]

theorem Dev.pauseDone_due {d : Dev} {t : Nat} (h : d.net.pauseEnd = some t) (ht : t ≤ d.now) :
    d.pauseDone = ({ d with net := { d.net with pauseEnd := none, pausedAt := none } } : Dev).txKick 1 := by
  simp [Dev.pauseDone, h, ht]

/-- The watchdog trips (R147). -/
theorem Dev.pauseTrip_due {d : Dev} {t e : Nat} (h : d.net.pausedAt = some t) (he : d.net.pauseEnd = some e) (ht : t + d.get 0x310600 * 1000000 ≤ d.now) (hn : d.now ≤ e) :
    d.pauseTrip = (((({ d with net := { d.net with pauseEnd := none, pausedAt := none, pauseOff := some (d.now + d.get 0x310700 * 1000000) } } : Dev).inc 0x310800).raise 43).txKick 1) := by
  simp [Dev.pauseTrip, h, he, ht, hn]

theorem Dev.pauseAgain_due {d : Dev} {t : Nat} (h : d.net.pauseOff = some t) (ht : t ≤ d.now) : d.pauseAgain = { d with net := { d.net with pauseOff := none } } := by
  simp [Dev.pauseAgain, h, ht]

/-! Gate lists -/

/-- A pending list whose start has come becomes the operating list (R151). -/
theorem Dev.gateListStart_due {d : Dev} {p c x : Nat} {g : GList} (h : (d.port p).pend = some (g, c)) (hs : d.gateStartAt g c = some x) (hx : x ≤ d.time64) :
    d.gateListStart p = d.gateStart p x g := by
  simp [Dev.gateListStart, h, hs, hx]

/-- The interval of an entry that is not the list's last ends (R152). -/
theorem Dev.gateEntry_next {d : Dev} {p : Nat} (he : (d.port p).oper.enable = true) (hn : (d.port p).nextAt ≤ d.time64) (hl : (d.port p).entry + 1 < (d.port p).oper.entries.length) :
    d.gateEntry p = d.modPort p (fun n => { n with entry := (d.port p).entry + 1, nextAt := n.nextAt + (nthD (255, 0) n.oper.entries ((d.port p).entry + 1)).2 }) := by
  simp [Dev.gateEntry, he, hn, hl]

/-- Settles O19: each command by the case of its operation that the clause names. -/
theorem switchAndGates : Obligations.SwitchAndGates := by
  unfold Obligations.SwitchAndGates
  refine ⟨?badFcs, ?pauseFrame, ?forwarded, ?fromE, ?sent, ?flush, ?ageing, ?quantum, ?quantumEnd, ?watchdog, ?holdoff, ?listStart, ?nextEntry⟩
  case badFcs => exact fun s p age full b hon hp hl hb => becomes_act rfl ((Dev.frameReceived_port hon hp hl b false age full).trans (Dev.frameIn_badFcs hb b age full))
  case pauseFrame =>
    exact fun s age full b hon hl hmin hmax ht ho => becomes_act rfl ((Dev.frameReceived_port hon (by decide) hl b true age full).trans (Dev.frameIn_pause hmin hmax ht ho age full))
  case forwarded =>
    exact fun s p age full e b hon hp hl hmin hmax hu ht hs hv hm =>
      becomes_act rfl ((Dev.frameReceived_port hon hp hl b true age full).trans (Dev.frameIn_untagged hmin hmax hu ht hs hv hm hp age full))
  case fromE => exact fun s age full e b ok f l hon hh hu hv hm => becomes_act rfl ((Dev.frameReceived_e hon b ok age full).trans (Dev.frameFromE_untagged hh hu hv hm full))
  case sent => exact fun s t0 l0 e f ht he hu hr hq hg hk => becomes_act rfl (Dev.frameOut_sent ht he hu hr hq hg hk)
  case flush => exact fun a => writes_cmd (fun _ => rfl) objRow_addrFlush rfl rfl rfl (fun _ d _ => d.addrKeep_none)
  case ageing => exact fun s => becomes_act rfl rfl
  case quantum => exact fun s q hr hl he ho hp hq => becomes_act rfl (Dev.pause_starts hr hl he ho hp hq)
  case quantumEnd => exact fun s t h ht => becomes_act rfl (Dev.pauseDone_due h ht)
  case watchdog => exact fun s t e h he ht hn => becomes_act rfl (Dev.pauseTrip_due h he ht hn)
  case holdoff => exact fun s t h ht => becomes_act rfl (Dev.pauseAgain_due h ht)
  case listStart => exact fun s p c x g h hs hx => becomes_act rfl (Dev.gateListStart_due h hs hx)
  case nextEntry => exact fun s p he hn hl => becomes_act rfl (Dev.gateEntry_next he hn hl)

end Sys2Proof.Machine
end

section
/-! SUPPORT. Host rings, launch and timestamp records (R159 to R163, R166, R167). -/
namespace Sys2Proof.Machine

theorem objRow_post (r : Nat) (h : r < 4) : objRow (key 0x3330 r) = some (.mk 0x3330 1 1 0x0 4 .blob .wo 0 .none 0 0 (.blob 24)) := by
  rw [objRow_key _ _ (by omega)]
  simp [objPage, objs33, h]

theorem objRow_reap (r : Nat) (h : r < 4) : objRow (key 0x3331 r) = some (.mk 0x3331 1 1 0x0 4 .blob .ro 0 .o 0 0 (.blob 24)) := by
  rw [objRow_key _ _ (by omega)]
  simp [objPage, objs33, h]

theorem objRow_tsRecord (q : Nat) (h : q < 4) : objRow (key 0x3350 q) = some (.mk 0x3350 1 1 0x0 4 .blob .ro 0 .o 0 0 (.blob 16)) := by
  rw [objRow_key _ _ (by omega)]
  simp [objPage, objs33, h]

theorem objRow_ringEnable (r : Nat) (h : r < 4) : objRow (key (0x3310 + r) 1) = some (.mk 0x3310 1 4 0x1 1 .bool .rw 1 .n 0 0 (.nat [(0, 1)])) := by
  rw [objRow_key _ _ (by omega)]
  rcases (show r = 0 ∨ r = 1 ∨ r = 2 ∨ r = 3 by omega) with rfl | rfl | rfl | rfl <;> rfl

/-! Postings -/

/-- Two changes of an element that agree on it are the same change. -/
theorem modNth_congr {β : Type} {f g : β → β} (z : β) (l : List β) (n : Nat) (h : f (nthD z l n) = g (nthD z l n)) : modNth f l n = modNth g l n := by
  induction l generalizing n with
  | nil => rfl
  | cons a t ih =>
    cases n with
    | zero => exact congrArg (· :: t) h
    | succ n => exact congrArg (a :: ·) (ih n h)

theorem Dev.modRing_congr {f g : Ring → Ring} {r : Nat} {d : Dev} (h : f (d.ring r) = g (d.ring r)) : d.modRing r f = d.modRing r g := by
  unfold Dev.modRing
  rw [modNth_congr {} d.net.rings r h]

/-- The descriptor that the bytes of a posting make (Table 6-10): only a transmit ring's has a CONTROL. -/
def descOf (r serial : Nat) (b : List Byte) : Desc :=
  { buf := fieldAt 0 1 b, control := if r < 2 then fieldAt 1 1 b &&& 0x3F else 0, port := fieldAt 2 1 b, len := min 512 (fieldAt 4 2 b), tsRef := fieldAt 8 2 b, serial := serial, time := fieldAt 16 8 b }

/-- A ring given a posting: the descriptor stands last, with the next SERIAL, and counts as GIVEN (R160). -/
def Dev.posted (r : Nat) (b : List Byte) (d : Dev) : Dev :=
  (d.modRing r (fun g => { g with posted := g.posted ++ [descOf r (d.ring r).serial b], serial := ((d.ring r).serial + 1) % 65536 })).add64 (key (0x3310 + r) 8) 1

theorem Dev.post_eq (r : Nat) (b : List Byte) (d : Dev) : d.post r b = if r < 2 then (d.posted r b).ringPump r 256 else d.posted r b := by
  rw [Dev.posted, Dev.modRing_congr (g := fun g => { g with posted := g.posted ++ [descOf r (d.ring r).serial b], serial := (g.serial + 1) % 65536 }) rfl]
  rfl

theorem Dev.netWrite_post {r : Nat} (h : r < 4) (v : Nat) (b : List Byte) (d : Dev) : d.netWrite (key 0x3330 r) v b = d.post r b := by
  simp [Dev.netWrite, key_div 0x3330 r (by omega), key_mod 0x3330 r (by omega)]

theorem writesBytes_post {f : Dev → Dev} (a : Access) (r : Nat) (b : List Byte) (h : r < 4) (hf : ∀ d, d.post r b = f d) : writesBytes (.post a r) a (key 0x3330 r) b (fun _ => True) f :=
  writesBytes_blob (fun s => by simp only [exec, execPost, Nat.mod_eq_of_lt (show r < 256 by omega)]) (objRow_post r h) (by simp)
    (fun _ _ _ => by rw [Dev.takeNow_acts rfl, Dev.actOn_net (by decide) (by omega), Dev.netWrite_post h, hf])

/-! RING_ENABLE -/

theorem Dev.netWrite_ringEnable {r : Nat} (h : r < 4) (v : Nat) (b : List Byte) (d : Dev) :
    d.netWrite (key (0x3310 + r) 1) v b = if v = 0 then d.ringFlush r else if r < 2 then d.ringPump r 256 else d := by
  rcases (show r = 0 ∨ r = 1 ∨ r = 2 ∨ r = 3 by omega) with rfl | rfl | rfl | rfl <;> rfl

theorem writes_ringEnable (a : Access) (r v : Nat) (h : r < 4) :
    writes (.ringEnable a r v) a (key (0x3310 + r) 1) v (fun _ => True)
      (fun d => if v = 0 then (d.put (key (0x3310 + r) 1) v).ringFlush r else if r < 2 then (d.put (key (0x3310 + r) 1) v).ringPump r 256 else d.put (key (0x3310 + r) 1) v) :=
  writes_kept (fun s => by simp only [exec, execRingEnable, Nat.mod_eq_of_lt h]) (objRow_ringEnable r h) (by simp) rfl rfl
    (fun _ d _ => (Dev.takeNow_net (objRow_ringEnable r h) rfl rfl (by omega) (by decide)).trans (Dev.netWrite_ringEnable h v [] _))

/-! Records read once -/

theorem leBytes_length (n v : Nat) : (leBytes n v).length = n := by
  induction n generalizing v with
  | zero => rfl
  | succ n ih => rw [leBytes, List.length_cons, ih]

theorem Desc.bytes_length (r : Nat) (x : Desc) : (x.bytes r).length = 24 := by simp [Desc.bytes, leBytes_length, zeros]

/-- A record of the Ethernet unit's queues, read whole, leaves its queue. -/
theorem Dev.byteValue_record {m : List Host.Cell} {e1 e2 : List Nat} {r : ObjRow} {i s n : Nat} {d e : Dev} {b : List Byte} (hi : i = 0x3331 ∨ i = 0x3350) (hs : s < 4)
    (hc : d.sup.coreOn = true) (ht : d.netTake (key i s) = some (b, e)) (hn : b.length ≤ n) :
    d.byteValue m e1 e2 false (Obj.ofRow r (key i s)) (key i s) 0 n = ((b.drop 0).take n, e) := by
  have hk : key i s ≠ 0x225200 ∧ key i s ≠ 0x445200 ∧ key i s ≠ 0x720200 := by unfold key; omega
  have hx : i ≠ 0x2310 ∧ i ≠ 0x4620 ∧ i ≠ 0x4621 := by omega
  simp [Dev.byteValue, hc, key_div i s (by omega), hk, hx, ht, hn]

/-- The oldest returned descriptor, none of the others waiting for room in the reap queue. -/
theorem Dev.reap_oldest {d : Dev} {r : Nat} {x : Desc} {l : List Desc} (h : (d.ring r).reap = x :: l) (hl : l.length < d.get (key (0x3310 + r) 0)) :
    d.reap r = (x.bytes r, (d.modRing r (fun g => { g with reap := l })).genUp (key 0x3331 r)) := by
  have hroom : ¬ l.length ≥ d.get (key (0x3310 + r) 0) := Nat.not_le.mpr hl
  simp [Dev.reap, h, hroom]

theorem Dev.netTake_reap {r : Nat} (h : r < 4) (d : Dev) : d.netTake (key 0x3331 r) = some (d.reap r) := by
  simp [Dev.netTake, key_div 0x3331 r (by omega), key_mod 0x3331 r (by omega)]

theorem Dev.netTake_tsRecord {q : Nat} (h : q < 4) (d : Dev) : d.netTake (key 0x3350 q) = some (d.tsRead q) := by
  simp [Dev.netTake, key_div 0x3350 q (by omega), key_mod 0x3350 q (by omega)]

/-- The 16 bytes of a timestamp record (Table 6-13). -/
def TsRec.bytes (x : TsRec) : List Byte := leBytes 8 x.time ++ leBytes 4 x.epoch ++ leBytes 2 x.ref ++ leBytes 1 x.kind ++ zeros 1

theorem TsRec.bytes_length (x : TsRec) : x.bytes.length = 16 := by simp [TsRec.bytes, leBytes_length, zeros]

theorem Dev.tsRead_oldest {d : Dev} {q : Nat} {x : TsRec} {l : List TsRec} (h : nthD [] d.net.ts q = x :: l) :
    d.tsRead q = (x.bytes, ({ d with net := { d.net with ts := modNth (fun _ => l) d.net.ts q } } : Dev).genUp (key 0x3350 q)) := by
  rw [Dev.tsRead, h]
  rfl

/-- A segment of every path holds the whole of a record asked for whole. -/
theorem le_min_pathSegment {n len : Nat} (p : Path) (h : n ≤ 256) (hl : n ≤ len) : n ≤ min len (pathSegment p) := Nat.le_min.mpr ⟨hl, Nat.le_trans h (pathSegment_ge p)⟩

/-- A reap of a whole descriptor, none of the others waiting for room: the oldest returned descriptor, removed (R163). -/
theorem readsBytes_reap (a : Access) (r : Nat) (x : Desc) (l : List Desc) (hr : r < 4) (hs : a.staged = false) (ho : a.offset = 0) (hl : 24 ≤ a.length) :
    readsBytes (.reap a r) a (key 0x3331 r) (fun d => d.sup.coreOn = true ∧ (d.ring r).reap = x :: l ∧ l.length < d.get (key (0x3310 + r) 0)) (fun _ => x.bytes r)
      (fun d => (d.modRing r (fun g => { g with reap := l })).genUp (key 0x3331 r)) := by
  refine readsBytes_row (fun s => by simp only [exec, execReap, Nat.mod_eq_of_lt (show r < 256 by omega)]) (objRow_reap r hr) rfl fun m d ⟨hc, hq, hroom⟩ => ?_
  rw [hs, ho]
  exact Dev.byteValue_record (.inl rfl) hr hc ((Dev.netTake_reap hr d).trans (congrArg some (Dev.reap_oldest hq hroom))) (x.bytes_length r ▸ le_min_pathSegment a.path (by decide) hl)

/-- A read of a whole timestamp record: the oldest of its queue, removed (R166). -/
theorem readsBytes_tsRecord (a : Access) (q : Nat) (x : TsRec) (l : List TsRec) (hq : q < 4) (hs : a.staged = false) (ho : a.offset = 0) (hl : 16 ≤ a.length) :
    readsBytes (.tsRecord a q) a (key 0x3350 q) (fun d => d.sup.coreOn = true ∧ nthD [] d.net.ts q = x :: l) (fun _ => x.bytes)
      (fun d => ({ d with net := { d.net with ts := modNth (fun _ => l) d.net.ts q } } : Dev).genUp (key 0x3350 q)) := by
  refine readsBytes_row (fun s => by simp only [exec, execTsRecord, Nat.mod_eq_of_lt (show q < 256 by omega)]) (objRow_tsRecord q hq) rfl fun m d ⟨hc, hts⟩ => ?_
  rw [hs, ho]
  exact Dev.byteValue_record (.inr rfl) hq hc ((Dev.netTake_tsRecord hq d).trans (congrArg some (Dev.tsRead_oldest hts))) (x.bytes_length ▸ le_min_pathSegment a.path (by decide) hl)

/-! Launch -/

/-- The frame at the head of ring 4 whose time has come starts on its port (R167). -/
theorem Dev.launch_media {d : Dev} {t : Nat} {f : QFrame} {l : List QFrame} (hm : d.net.media = f :: l) (hf : f.launch = some t) (ht : t ≤ d.time64) (hw : d.time64 ≤ t + d.get (key 0x3314 4))
    (hs : d.mayStart (f.port - 1) f = true) :
    d.launch 4 = (({ d with net := { d.net with media := l } } : Dev).egress (f.port - 1) 0).txBegin (f.port - 1) f := by
  have hlate : ¬ d.time64 < t := Nat.not_lt.mpr ht
  simp [Dev.launch, Dev.launchHead, Dev.launchTake, hm, hf, hlate, hw, hs]

/-- Settles O20: a posting, an enable and a record by what their objects do, and the launch by its case of R167. -/
theorem ringsLaunch : Obligations.RingsLaunch := by
  unfold Obligations.RingsLaunch
  refine ⟨?receive, ?transmit, readsBytes_reap, ?disable, ?enable, fun s t f l hm hf ht hw hs => becomes_act rfl (Dev.launch_media hm hf ht hw hs), readsBytes_tsRecord⟩
  case receive =>
    intro a r b h2 h4
    have hr : ¬ r < 2 := Nat.not_lt.mpr h2
    exact writesBytes_post a r b h4 fun d => by simp only [Dev.post_eq, Dev.posted, descOf, if_neg hr]
  case transmit =>
    intro a r b h2
    exact writesBytes_post a r b (by omega) fun d => by simp only [Dev.post_eq, Dev.posted, descOf, if_pos h2]
  case disable =>
    intro a r hr
    rw [show 0x331001 + 256 * r = key (0x3310 + r) 1 by unfold key; omega]
    exact writes_ringEnable a r 0 hr
  case enable =>
    intro a r hr
    rw [show 0x331001 + 256 * r = key (0x3310 + r) 1 by unfold key; omega]
    exact writes_ringEnable a r 1 hr

end Sys2Proof.Machine
end

section
/-! SUPPORT. Talkers: TS_ENABLE, the start of a stream, its packets, and the resolution of its destination (R176 to R180). -/
namespace Sys2Proof.Machine

/-! Talkers of the part -/

/-- The element changed, in a list that has it. -/
theorem nthD_modNth_same {β : Type} (z : β) (f : β → β) (l : List β) (n : Nat) (h : n < l.length) : nthD z (modNth f l n) n = f (nthD z l n) := by
  induction l generalizing n with
  | nil => simp at h
  | cons a t ih =>
    cases n with
    | zero => rfl
    | succ n => exact ih n (Nat.lt_of_succ_lt_succ h)

theorem Dev.talker_modTalker_same {n : Nat} {d : Dev} (h : n < d.str.tx.length) (f : Talker → Talker) : (d.modTalker n f).talker n = f (d.talker n) :=
  nthD_modNth_same ({} : Talker) f d.str.tx n h

/-- Two changes of a talker that agree on it as it is are the same change. -/
theorem Dev.modTalker_congr {f g : Talker → Talker} {n : Nat} {d : Dev} (h : f (d.talker n) = g (d.talker n)) : d.modTalker n f = d.modTalker n g := by
  unfold Dev.modTalker
  rw [modNth_congr {} d.str.tx n h]

/-! TS_ENABLE -/

theorem objRow_tsEnable (n : Nat) (h : n < 16) : objRow (key (0x3400 + n) 0) = some (.mk 0x3400 1 16 0x0 1 .bool .rw 0 .o 0 0 (.nat [(0, 1)])) := by
  rw [objRow_key _ _ (by decide), show (0x3400 + n) / 256 = 0x34 by omega]
  simp [objPage, objs34, h, Nat.mod_one]

/-- A write to an object of 3400h to 35FFh acts by its key. -/
theorem Dev.actOn_streams {m : List Host.Cell} {p : Path} {i s old v : Nat} {b : List Byte} {d : Dev} (hi : i / 256 = 0x34 ∨ i / 256 = 0x35) (hs : s < 256) :
    d.actOn m p (key i s) old v b = d.strWrite (key i s) v := by
  rcases hi with hi | hi <;> simp only [Dev.actOn, key_page i s hs, hi]

/-- An object of the streams that keeps the number written: it stands, and then what it starts runs. -/
theorem Dev.takeNow_streams {m : List Host.Cell} {p : Path} {r : ObjRow} {i s v : Nat} {b : List Byte} {d : Dev} (hr : objRow (key i s) = some r) (ha : r.acc = .rw) (hb : r.ty.isBytes = false)
    (hi : i / 256 = 0x34 ∨ i / 256 = 0x35) (hs : s < 256) : d.takeNow m p (Obj.ofRow r (key i s)) (key i s) v b = (d.put (key i s) v).strWrite (key i s) v := by
  have hact : i ∉ actingIndices := by
    simp only [actingIndices, List.mem_cons, List.not_mem_nil, or_false]
    omega
  rw [Dev.takeNow_put hr (actsOnly_rw ha hs hact) hb, Dev.actOn_streams hi hs]

theorem Dev.strWrite_tsEnable {n : Nat} (h : n < 16) (v : Nat) (d : Dev) : d.strWrite (key (0x3400 + n) 0) v = d.tsEnable n v := by
  have htalker : 0x3400 + n < 0x3500 := by omega
  simp [Dev.strWrite, key_div (0x3400 + n) 0 (by decide), key_mod (0x3400 + n) 0 (by decide), htalker]

theorem writes_tsEnable (a : Access) (n v : Nat) (h : n < 16) :
    writes (.tsEnable a n v) a (key (0x3400 + n) 0) v (fun _ => True) (fun d => (d.put (key (0x3400 + n) 0) v).tsEnable n v) :=
  writes_num (fun s => by simp only [exec, execTsEnable, Nat.mod_eq_of_lt h]) (objRow_tsEnable n h) (by simp) rfl (fun _ => rfl)
    (fun _ d _ => (Dev.takeNow_streams (objRow_tsEnable n h) rfl rfl (by omega) (by decide)).trans (Dev.strWrite_tsEnable h v _))

/-- A disable of a talker that does not run ends its resolving, and nothing else (R179). -/
theorem Dev.tsEnable_off {n : Nat} {d : Dev} (h : (d.talker n).run = false) : d.tsEnable n 0 = d.putBit (kTs n 0x28) 1 false := by
  simp [Dev.tsEnable, h]

/-! The start of a stream -/

/-- At a boundary of its packet grid, an enabled talker whose destination is resolved starts with that boundary's frame (R176). -/
theorem Dev.tsStart_due {d : Dev} {n : Nat} (hon : d.streamsOn = true) (hmed : d.med.run = true) (hen : d.get (kTs n 0) = 1) (hidle : (d.talker n).run = false) (hset : d.tsSet n = true)
    (hmac : (d.tsMac n).isSome = true) (hstep : d.tim.step = none) (hload : d.tim.reload = none) (hspp : d.tsSpp n ≠ 0) (hgrid : d.med.index % d.tsSpp n = 0) :
    d.tsStart n = (((d.modTalker n (fun t => { t with run := true, stop := false, marker := true, start := d.med.index, frames := [] })).putBit (kTs n 0x28) 0 true).raise 54).tsFrame n := by
  simp [Dev.tsStart, hon, hmed, hen, hidle, hset, hmac, hstep, hload, hspp, hgrid]

/-! Packets -/

/-- An unpaired part launches what begins from the handover's boundary on (R426, R438). -/
theorem Dev.tsLaunches_unpaired {d : Dev} {start : Nat} (hrole : d.get 0x700301 = 0) (hfrom : d.twin.launchFrom ≤ start) : d.tsLaunches start = true := by
  simp [Dev.tsLaunches, hrole, hfrom]

/-- A frame placed last on ring 4. -/
def Dev.mediaPut (f : QFrame) (d : Dev) : Dev := { d with net := { d.net with media := d.net.media ++ [f] } }

/-- The part with the packet `f` on ring 4: its descriptors of 512 bytes count as GIVEN, and the talker goes on at the next packet's boundary with the sequence number `q` (R163, R176, R177). -/
def Dev.tsPlaced (n : Nat) (f : QFrame) (q : Nat) (d : Dev) : Dev :=
  ((d.fresh.2.add64 (key 0x3314 8) (ceilDiv f.bytes.length 512)).modTalker n
    (fun t => { t with frames := t.frames.drop (d.tsSpp n), start := t.start + d.tsSpp n, marker := false, seq := some q })).mediaPut f

theorem Dev.tsPlaced_media (n : Nat) (f : QFrame) (q : Nat) (d : Dev) : (d.tsPlaced n f q).net.media = d.net.media ++ [f] := rfl

theorem Dev.tsPlaced_talker {n : Nat} {d : Dev} (h : n < d.str.tx.length) (f : QFrame) (q : Nat) :
    (d.tsPlaced n f q).talker n
      = { d.talker n with frames := (d.talker n).frames.drop (d.tsSpp n), start := (d.talker n).start + d.tsSpp n, marker := false, seq := some q } :=
  Dev.talker_modTalker_same (d := d.fresh.2.add64 (key 0x3314 8) (ceilDiv f.bytes.length 512)) h _

/-- A packet whose frames are all there, of a talker with a LAUNCH port that goes on: it is placed on ring 4 with its launch time (R177). -/
theorem Dev.tsComplete_placed {d : Dev} {n : Nat} (hrun : (d.talker n).run = true) (hstop : (d.talker n).stop = false) (hspp : d.tsSpp n ≠ 0) (hlen : d.tsSpp n ≤ (d.talker n).frames.length)
    (hdue : (d.talker n).start + d.tsSpp n ≤ d.med.index) (hrole : d.get 0x700301 = 0) (hfrom : d.twin.launchFrom ≤ (d.talker n).start) (hport : d.get (kTs n 0x11) ≠ 0) :
    ∃ (f : QFrame) (q : Nat), d.tsComplete n = d.tsPlaced n f q ∧ f.talker = some n ∧ f.frames = d.tsSpp n ∧ f.port = d.get (kTs n 0x11)
      ∧ f.launch = some (boundaryTime d.fs ((d.talker n).start + d.tsSpp n) + d.get (kTs n 0x12)) := by
  have hgo : ¬ (!(d.talker n).run || decide (d.tsSpp n = 0) || decide ((d.talker n).frames.length < d.tsSpp n) || decide (d.med.index < (d.talker n).start + d.tsSpp n)) = true := by
    simp [hrun, hspp, hlen, hdue]
  have hfirst : d.fresh.2.tsLaunches (d.talker n).start = true := Dev.tsLaunches_unpaired hrole hfrom
  have hthen : ∀ (k : Nat) (g : Talker → Talker), ((d.fresh.2.add64 (key 0x3314 8) k).modTalker n g).tsLaunches (d.talker n).start = true := fun k g =>
    Dev.tsLaunches_unpaired ((Dev.get_put_other _ _ _ d.fresh.2 (by decide) (.inl (by decide))).trans hrole) hfrom
  unfold Dev.tsComplete
  extract_lets t _ _ seq _
  rw [if_neg hgo, show d.fresh = (d.fresh.1, d.fresh.2) from rfl]
  dsimp -zeta -proj only
  extract_lets _ _ k _ f given onward _ placed
  have hgiven : given = d.fresh.2.add64 (key 0x3314 8) k := if_neg (by simp [t, hfirst])
  have honward : onward = (d.fresh.2.add64 (key 0x3314 8) k).modTalker n _ := congrArg (Dev.modTalker n _) hgiven
  have hlaunches : onward.tsLaunches t.start = true := honward ▸ hthen k _
  have hplaced : placed = onward.mediaPut f := (if_neg (by simp [hlaunches])).trans (if_neg hport)
  exact ⟨f, (seq + 1) % 65536, (if_neg (by simp [t, hstop])).trans (hplaced.trans (congrArg (Dev.mediaPut f) honward)), rfl, rfl, rfl, if_neg hport⟩

/-! Resolution -/

theorem Dev.tsTry_found {d : Dev} {n : Nat} (hres : d.bitOf (kTs n 0x28) 1 = true) (ht : (d.talker n).tryAt ≤ d.now) (mac : Nat) :
    d.tsTry n (some mac) = ((d.modTalker n (fun t => { t with mac := some mac, fails := 0, refreshAt := d.now + 60000000000 })).putBit (kTs n 0x28) 1 false).putBit (kTs n 0x28) 3 false := by
  simp [Dev.tsTry, hres, Nat.not_lt.mpr ht]

/-- The third failure sets RESOLVE_FAIL with EV54 (R180). -/
theorem Dev.tsTry_thirdFailure {d : Dev} {n : Nat} (hres : d.bitOf (kTs n 0x28) 1 = true) (ht : (d.talker n).tryAt ≤ d.now) (hf : (d.talker n).fails = 2) :
    d.tsTry n none = ((d.modTalker n (fun t => { t with fails := 3, tryAt := d.now + 1000000000 })).putBit (kTs n 0x28) 3 true).raise 54 := by
  have hthird : d.modTalker n (fun t => { t with fails := t.fails + 1, tryAt := d.now + 1000000000 }) = d.modTalker n (fun t => { t with fails := 3, tryAt := d.now + 1000000000 }) :=
    Dev.modTalker_congr (by rw [hf])
  simp [Dev.tsTry, hres, Nat.not_lt.mpr ht, hf, hthird]

theorem Dev.tsRefresh_found {d : Dev} {n old : Nat} (hmac : (d.talker n).mac = some old) (ht : (d.talker n).refreshAt ≤ d.now) (mac : Nat) :
    d.tsRefresh n (some mac) = d.modTalker n (fun t => { t with refreshAt := d.now + 60000000000, mac := some mac }) := by
  simp [Dev.tsRefresh, hmac, Nat.not_lt.mpr ht]

/-! The commands -/

/-- A command of a stream's number acts on the part where there is such a stream. -/
theorem becomes_stream {i : Instr} {s : State} {n : Nat} {f : Dev → Dev} {d : Dev} (hi : exec i s = .next (s.act (fun d => d.when (n < 16) f))) (hn : n < 16) (hf : f s.dev = d) :
    becomes i s d :=
  becomes_act hi (by simpa [hn] using hf)

/-- Settles O21: TS_ENABLE by what its object starts, the start and the attempts by their due case, and the packet by the place it takes on ring 4. -/
theorem talkers : Obligations.Talkers := by
  unfold Obligations.Talkers
  refine ⟨?enable, ?disable, ?start, ?packet, ?found, ?failed, ?refresh⟩
  case enable =>
    intro a n hn
    rw [show 0x340000 + 256 * n = key (0x3400 + n) 0 by unfold key; omega]
    exact (writes_tsEnable a n 1 hn).congr (fun _ _ => trivial) (fun _ _ => rfl)
  case disable =>
    intro a n hn
    rw [show 0x340000 + 256 * n = key (0x3400 + n) 0 by unfold key; omega]
    exact (writes_tsEnable a n 0 hn).congr (fun _ _ => trivial) (fun _ hrun => Dev.tsEnable_off hrun)
  case start =>
    exact fun s n hn hon hmed hen hidle hset hmac hstep hload hspp hgrid => becomes_stream rfl hn (Dev.tsStart_due hon hmed hen hidle hset hmac hstep hload hspp hgrid)
  case packet =>
    intro s n hn htx hrun hstop hspp hlen hdue hrole hfrom hport
    obtain ⟨f, q, hplaced, hframe⟩ := Dev.tsComplete_placed hrun hstop hspp (Nat.le_of_eq hlen.symm) hdue hrole hfrom hport
    have htalker := Dev.tsPlaced_talker htx f q
    rw [← hlen, List.drop_length, hlen] at htalker
    refine (becomes_stream rfl hn hplaced).gives ⟨?_, ?_, ?_, f, Dev.tsPlaced_media n f q s.dev, hframe⟩
    · exact congrArg Talker.frames htalker
    · exact congrArg Talker.start htalker
    · exact congrArg Talker.marker htalker
  case found => exact fun s n mac hn hres ht => becomes_stream rfl hn (Dev.tsTry_found hres ht mac)
  case failed => exact fun s n hn hres ht hf => becomes_stream rfl hn (Dev.tsTry_thirdFailure hres ht hf)
  case refresh => exact fun s n old mac hn hmac ht => becomes_stream rfl hn (Dev.tsRefresh_found hmac ht mac)

end Sys2Proof.Machine
end

section
/-! SUPPORT. Capture: the writes of 4200h to 43FFh and what each makes invalid, over-range, and the end of an invalid interval (R222 to R224, R232, R233, R236, R239). -/
namespace Sys2Proof.Machine

/-! Numbers kept as they are written -/

/-- A read-write row outside every group that keeps each number as it is written: no bytes, no FLOAT, no reserved field. -/
def ObjRow.keepsNumber (r : ObjRow) : Bool :=
  r.acc == .rw && !r.ty.isBytes && r.ty != .f32 && (match r.rng with | .mask _ => false | _ => true)

theorem ObjRow.of_keepsNumber {r : ObjRow} (h : r.keepsNumber = true) : r.acc = .rw ∧ r.ty.isBytes = false ∧ ∀ k v, (Obj.ofRow r k).norm v = v := by
  obtain ⟨idx, stride, cnt, sub, subs, ty, acc, dflt, ret, grp, gdiv, rng⟩ := r
  cases rng <;> simp_all [ObjRow.keepsNumber, Obj.norm, Obj.ofRow, Rng.keep]

theorem objRow_analog : ∀ c < 14, analogCh c = true → ∀ s < 3, (objRow (key (0x4200 + c) s)).any ObjRow.keepsNumber = true := by decide
theorem objRow_final : ∀ c < 14, ∀ s < 3, (objRow (key (0x4300 + c) s)).any ObjRow.keepsNumber = true := by decide
theorem objRow_bias : ∀ k < 2, ∀ s < 2, (objRow (key (0x4210 + k) s)).any ObjRow.keepsNumber = true := by decide

/-- A write to an object of 4200h to 43FFh acts by its key and by the value before. -/
theorem Dev.actOn_capture {m : List Host.Cell} {p : Path} {n s old v : Nat} {b : List Byte} {d : Dev} (hn : n / 256 = 0x42 ∨ n / 256 = 0x43) (hs : s < 256) :
    d.actOn m p (key n s) old v b = d.capWrite (key n s) old v := by
  rcases hn with hn | hn <;> simp only [Dev.actOn, key_page n s hs, hn]

/-- A number written to an object of the capture chain: it stands, and then what its change starts runs. -/
theorem writes_capture {i : Instr} {a : Access} {n s v : Nat} (hi : ∀ t, exec i t = .next (t.quiet (Dev.hostSet a (key n s) v)))
    (hr : (objRow (key n s)).any ObjRow.keepsNumber = true) (hn : n / 256 = 0x42 ∨ n / 256 = 0x43) (hs : s < 256) :
    writes i a (key n s) v (fun _ => True) (fun d => (d.put (key n s) v).capWrite (key n s) (d.get (key n s)) v) := by
  obtain ⟨r, hrow, hkeeps⟩ := (Option.any_eq_true _ _).mp hr
  obtain ⟨hacc, hbytes, hnorm⟩ := ObjRow.of_keepsNumber hkeeps
  have hact : n ∉ actingIndices := by
    simp only [actingIndices, List.mem_cons, List.not_mem_nil, or_false]
    omega
  exact writes_kept hi hrow (by simp [hacc]) hbytes (hnorm _ v) fun _ _ _ => by
    rw [Dev.takeNow_put hrow (actsOnly_rw hacc hs hact) hbytes, Dev.actOn_capture hn hs]

/-! Samples of Table 9-6 -/

theorem Dev.fs_put {k v : Nat} {d : Dev} (h : k ≠ 0x210000) : (d.put k v).fs = d.fs := by
  rw [Dev.fs, Dev.get_put_other _ _ _ _ h.symm (.inl (by decide)), Dev.fs]

theorem Dev.at48_put {k v n : Nat} {d : Dev} (h : k ≠ 0x210000) : (d.put k v).at48 n = d.at48 n := by rw [Dev.at48, Dev.fs_put h, Dev.at48]

/-! What a change starts (Table 9-6) -/

@[simp] theorem Dev.capWrite_same (k v : Nat) (d : Dev) : d.capWrite k v v = d := by simp [Dev.capWrite]

section
variable {c old v : Nat} {d : Dev} (hc : c < 14) (h : old ≠ v)
include hc h

/-- CH_ENABLE, INPUT_SEL, which on MIC3 also says whether BIAS1 is suspended, and PGA_GAIN (R223, R224, R227). -/
theorem Dev.capWrite_channel {s : Nat} (hs : s < 3) : d.capWrite (key (0x4200 + c) s) old v
    = if s = 0 then (if v = 1 then d.settleOn c else d.modCap c (fun x => { last := x.last, left := x.left, ev63 := x.ev63 }))
      else if s = 1 then (if c = 3 then d.setBias 1 4 (v = 3) else d).settle c (d.at48 48)
      else d.settle c (d.at48 12) := by
  have hrange : 0x4200 + c < 0x420E := by omega
  have hrate : (if c = 3 then d.setBias 1 4 (v = 3) else d).at48 48 = d.at48 48 := by
    split
    · exact Dev.at48_put (by decide)
    · rfl
  have hlast : s = 0 ∨ s = 1 ∨ s = 2 := by omega
  rcases hlast with rfl | rfl | rfl <;> simp [Dev.capWrite, key_div (0x4200 + c), key_mod (0x4200 + c), h, hrange, hrate]

/-- FINAL_STAGE, WIND_HPF and DELAY (R232, R239). -/
theorem Dev.capWrite_final {s : Nat} (hs : s < 3) : d.capWrite (key (0x4300 + c) s) old v
    = if s = 0 then d.settle c (d.at48 64) else if s = 1 then d.settle c (d.at48 16) else d := by
  have hlow : ¬ 0x4300 + c < 0x420E := by omega
  have hbias : 0x4300 + c ≠ 0x4210 ∧ 0x4300 + c ≠ 0x4211 := by omega
  have hrange : 0x4300 + c < 0x430E := by omega
  simp [Dev.capWrite, key_div (0x4300 + c) s (by omega), key_mod (0x4300 + c) s (by omega), h, hlow, hbias, hrange]

end

/-- A change of DELAY makes no sample invalid (R239). -/
theorem Dev.capWrite_delay {c : Nat} (hc : c < 14) (old v : Nat) (d : Dev) : d.capWrite (key (0x4300 + c) 2) old v = d := by
  by_cases h : old = v
  · rw [h, Dev.capWrite_same]
  · exact Dev.capWrite_final hc h (by decide)

/-- An object whose change makes `n` samples at 48 kHz of a channel invalid. -/
theorem writes_settles {i : Instr} {a : Access} {j s c v n : Nat} (hj : 0x4200 ≤ j)
    (w : writes i a (key j s) v (fun _ => True) (fun d => (d.put (key j s) v).capWrite (key j s) (d.get (key j s)) v))
    (hc : ∀ (old : Nat) (d : Dev), old ≠ v → d.capWrite (key j s) old v = d.settle c (d.at48 n)) :
    writes i a (key j s) v (fun d => d.get (key j s) ≠ v) (fun d => (d.put (key j s) v).settle c (ceilDiv (n * d.fs) 48000)) :=
  w.congr (fun _ _ => trivial) fun d hd => by
    have hrate : key j s ≠ 0x210000 := by unfold key; omega
    rw [hc _ _ hd, Dev.at48_put hrate, Dev.at48]

/-! Channels -/

theorem nthD_modNth_other {β : Type} (z : β) (f : β → β) (l : List β) {n j : Nat} (h : j ≠ n) : nthD z (modNth f l n) j = nthD z l j := by
  induction l generalizing n j with
  | nil => rfl
  | cons a t ih =>
    cases n with
    | zero => cases j with
      | zero => exact absurd rfl h
      | succ j => rfl
    | succ n => cases j with
      | zero => rfl
      | succ j => exact ih (fun e => h (congrArg Nat.succ e))

theorem Dev.capCh_modCap_same {c : Nat} {d : Dev} (h : c < d.cap.chans.length) (f : CapCh → CapCh) : (d.modCap c f).capCh c = f (d.capCh c) :=
  nthD_modNth_same ({} : CapCh) f d.cap.chans c h

theorem Dev.capCh_modCap_other {c j : Nat} (h : j ≠ c) (f : CapCh → CapCh) (d : Dev) : (d.modCap c f).capCh j = d.capCh j :=
  nthD_modNth_other ({} : CapCh) f d.cap.chans h

theorem Dev.capValid_over {d : Dev} {c : Nat} (hc : c < 14) (hs : d.capState c = 1) (hl : (d.capCh c).left = 0) :
    d.capValid c = (d.modCap c (fun x => { x with settling := false })).raise 65 := by
  simp [Dev.capValid, hc, hs, hl]

/-- A further over-range sample of an analogue channel whose bit of OVR_STATUS is set: counted, and no event (R236). -/
theorem Dev.capOver_set {d : Dev} {c : Nat} (ha : analogCh c = true) (hb : d.bitOf 0x422000 c = true) : d.capOver c = d.inc (key (0x4200 + c) 4) := by
  have hkeep : (d.inc (key (0x4200 + c) 4)).bitOf 0x422000 c = true := by
    rw [Dev.bitOf, Dev.inc, Dev.bump, Dev.get_put_other _ _ _ _ (by unfold key; omega) (.inl (by decide))]
    exact hb
  simp [Dev.capOver, ha, hkeep]

theorem Dev.capMark_first {d : Dev} {c : Nat} (hc : c < 14) (hr : d.capRuns = true) (ho : d.capOn c = true) (he : (d.capCh c).excess = none) (hi : Bool) :
    d.capMark c hi = (d.capOver c).modCap c (fun x => { x with excess := some hi }) := by
  simp [Dev.capMark, hc, hr, ho, he]

theorem objRow_ovrStatus : objRow 0x422000 = some (.mk 0x4220 1 1 0x0 1 .bits16 .ro 0x0 .o 0 0 .any) := rfl

theorem Dev.numValue_ovrStatus {r : ObjRow} {staged : Bool} {d : Dev} (hs : staged = false) (hc : d.sup.coreOn = true) (ha : r.acc = .ro) :
    d.numValue staged (Obj.ofRow r 0x422000) 0x422000 = d.get 0x422000 := by
  have ha' : (Obj.ofRow r 0x422000).acc = .ro := ha
  simp [Dev.numValue, ha', hs, hc]
  rfl

/-! The commands -/

/-- A write of CH_ENABLE, INPUT_SEL or PGA_GAIN of an analogue channel. -/
theorem writes_analog {i : Instr} {a : Access} {c s v : Nat} (hi : ∀ t, exec i t = .next (t.quiet (Dev.hostSet a (key (0x4200 + c % 16) s) v))) (hc : c < 14) (ha : analogCh c = true) (hs : s < 3) :
    writes i a (key (0x4200 + c) s) v (fun _ => True) (fun d => (d.put (key (0x4200 + c) s) v).capWrite (key (0x4200 + c) s) (d.get (key (0x4200 + c) s)) v) :=
  writes_capture (fun t => by rw [hi, Nat.mod_eq_of_lt (show c < 16 by omega)]) (objRow_analog c hc ha s hs) (by omega) (by omega)

/-- A write of FINAL_STAGE, WIND_HPF or DELAY of a channel. -/
theorem writes_final {i : Instr} {a : Access} {c s v : Nat} (hi : ∀ t, exec i t = .next (t.quiet (Dev.hostSet a (key (0x4300 + c % 16) s) v))) (hc : c < 14) (hs : s < 3) :
    writes i a (key (0x4300 + c) s) v (fun _ => True) (fun d => (d.put (key (0x4300 + c) s) v).capWrite (key (0x4300 + c) s) (d.get (key (0x4300 + c) s)) v) :=
  writes_capture (fun t => by rw [hi, Nat.mod_eq_of_lt (show c < 16 by omega)]) (objRow_final c hc s hs) (by omega) (by omega)

/-- Settles O24: a write by what its object's change starts and Table 9-6, an over-range sample by R236, and an interval by what a change does to its channel and to the others. -/
theorem captureChanges : Obligations.CaptureChanges := by
  unfold Obligations.CaptureChanges
  refine ⟨?enable, ?disable, ?inputSel, ?inputSelMic3, ?pgaGain, ?finalStage, ?windHpf, ?delay, fun s c hc hs hl => becomes_act rfl (Dev.capValid_over hc hs hl), ?ovr, ?ovrStatus, ?settle⟩
  case enable =>
    intro a c hc ha
    rw [show 0x420000 + 256 * c = key (0x4200 + c) 0 by unfold key; omega]
    exact (writes_settles (by omega) (writes_analog (fun _ => rfl) hc ha (by decide)) fun old d h => by simp [Dev.capWrite_channel hc h, Dev.settleOn]).congr
      (fun _ h => by omega) (fun _ _ => rfl)
  case disable =>
    intro a c hc ha
    rw [show 0x420000 + 256 * c = key (0x4200 + c) 0 by unfold key; omega]
    exact (writes_analog (fun _ => rfl) hc ha (by decide)).congr (fun _ _ => trivial) fun d h => by simp [h, Dev.capWrite_channel hc]
  case inputSel =>
    intro a c v hc ha h3
    rw [show 0x420001 + 256 * c = key (0x4200 + c) 1 by unfold key; omega]
    exact writes_settles (by omega) (writes_analog (fun _ => rfl) hc ha (by decide)) fun old d h => by simp [Dev.capWrite_channel hc h, h3]
  case inputSelMic3 =>
    intro a v
    rw [show 0x420301 = key (0x4200 + 3) 1 from rfl]
    exact (writes_analog (fun _ => rfl) (by decide) rfl (by decide)).congr (fun _ _ => trivial) fun d h => by
      rw [Dev.capWrite_channel (by decide) h (by decide), Dev.at48_put (by decide)]
      rfl
  case pgaGain =>
    intro a c v hc ha
    rw [show 0x420002 + 256 * c = key (0x4200 + c) 2 by unfold key; omega]
    exact writes_settles (by omega) (writes_analog (fun _ => rfl) hc ha (by decide)) fun old d h => by simp [Dev.capWrite_channel hc h]
  case finalStage =>
    intro a c v hc
    rw [show 0x430000 + 256 * c = key (0x4300 + c) 0 by unfold key; omega]
    exact writes_settles (by omega) (writes_final (fun _ => rfl) hc (by decide)) fun old d h => by simp [Dev.capWrite_final hc h]
  case windHpf =>
    intro a c v hc
    rw [show 0x430001 + 256 * c = key (0x4300 + c) 1 by unfold key; omega]
    exact writes_settles (by omega) (writes_final (fun _ => rfl) hc (by decide)) fun old d h => by simp [Dev.capWrite_final hc h]
  case delay =>
    intro a c v hc
    rw [show 0x430002 + 256 * c = key (0x4300 + c) 2 by unfold key; omega]
    exact (writes_final (fun _ => rfl) hc (by decide)).congr (fun _ _ => trivial) fun d _ => Dev.capWrite_delay hc _ _ _
  case ovr =>
    intro s c hi hc hr ho he ha hb
    exact becomes_act rfl (by rw [Dev.capMark_first hc hr ho he, Dev.capOver_set ha hb]; rfl)
  case ovrStatus => exact fun a hs => readsNum_row (fun _ => rfl) objRow_ovrStatus rfl rfl (fun d hc => Dev.numValue_ovrStatus hs hc rfl) (fun _ _ => rfl)
  case settle => exact fun d c n hc => ⟨congrArg CapCh.left (Dev.capCh_modCap_same hc _), fun j hj => Dev.capCh_modCap_other hj _ d⟩

end Sys2Proof.Machine
end

section
/-! SUPPORT. Bias generators and PDM lines (R225, R226, R230). -/
namespace Sys2Proof.Machine

/-! Writes of BIAS_ENABLE and BIAS_VOLTAGE -/

/-- BIAS_ENABLE, which leaves a generator that the jack's identification uses alone, and BIAS_VOLTAGE, which settles one that is on (R225, R375). -/
theorem Dev.capWrite_bias {k s old v : Nat} {d : Dev} (hk : k < 2) (h : old ≠ v) (hs : s < 2) : d.capWrite (key (0x4210 + k) s) old v
    = if s = 0 then (if k = 1 && d.hp.biasJack then d else if v = 1 then d.biasStart k else d.biasOff k)
      else if d.biasBit k 0 then d.settleBias k else d := by
  have hlow : ¬ 0x4210 + k < 0x420E := by omega
  have hindex : k = 0 ∨ 0x4210 + k = 0x4211 := by omega
  have hsub : s = 0 ∨ s = 1 := by omega
  rcases hsub with rfl | rfl <;> simp [Dev.capWrite, key_div (0x4210 + k), key_mod (0x4210 + k), h, hlow, hindex]

theorem writes_bias {i : Instr} {a : Access} {k s v : Nat} (hi : ∀ t, exec i t = .next (t.quiet (Dev.hostSet a (key (0x4210 + k % 2) s) v))) (hk : k < 2) (hs : s < 2) :
    writes i a (key (0x4210 + k) s) v (fun _ => True) (fun d => (d.put (key (0x4210 + k) s) v).capWrite (key (0x4210 + k) s) (d.get (key (0x4210 + k) s)) v) :=
  writes_capture (fun t => by rw [hi, Nat.mod_eq_of_lt hk]) (objRow_bias k hk s hs) (by omega) (by omega)

theorem Dev.biasBit_put_voltage {k v i : Nat} {d : Dev} : (d.put (key (0x4210 + k) 1) v).biasBit k i = d.biasBit k i := by
  rw [Dev.biasBit, Dev.bitOf, Dev.get_put_other _ _ _ _ (by unfold key; omega) (.inr (by unfold key kBootMode; omega)), Dev.biasBit, Dev.bitOf]

/-! Shorts, retries and opens (R226) -/

theorem Dev.biasShort_on {d : Dev} {k : Nat} (hk : k < 2) (hr : d.ready 15 = true) (hon : d.biasBit k 0 = true) (hs : d.biasBit k 4 = false) :
    d.biasShort k = ({ (((d.setBias k 0 false).setBias k 1 true).setBias k 3 true).inc (key (0x4210 + k) 4) with
      cap := { d.cap with retry := modNth (fun _ => some (d.now + 1000000000)) d.cap.retry k } } : Dev).raise 62 := by
  have hshort : (k < 2 && d.ready 15 && d.biasBit k 0 && !d.biasBit k 4) = true := by simp [hk, hr, hon, hs]
  exact if_pos hshort

/-- The part once its generator's retry has come: the generator is on, and waits no longer. -/
def Dev.biasRetried (k : Nat) (d : Dev) : Dev :=
  (({ d with cap := { d.cap with retry := modNth (fun _ => none) d.cap.retry k } } : Dev).setBias k 0 true).setBias k 3 false

theorem Dev.biasRetry_due {d : Dev} {k t : Nat} (hk : k < 2) (ht : nthD none d.cap.retry k = some t) (hn : t ≤ d.now) (hr : d.biasBit k 3 = true) (gone : Bool) :
    d.biasRetry k gone = if gone then (((d.biasRetried k).setBias k 1 false).raise 62).settleBias k else d.biasRetried k := by
  have hdue : (t ≤ d.now && k < 2 && d.biasBit k 3) = true := by simp [hn, hk, hr]
  rw [Dev.biasRetry, ht]
  exact if_pos hdue

theorem Dev.biasOpen_changes {d : Dev} {k : Nat} {o : Bool} (hk : k < 2) (hr : d.ready 15 = true) (hon : d.biasBit k 0 = true) (ho : d.biasBit k 2 ≠ o) :
    d.biasOpen k o = (d.setBias k 2 o).raise 62 := by
  simp [Dev.biasOpen, hk, hr, hon, ho]

/-! Stuck lines (R230) -/

/-- A line with one microphone of the capture chain. -/
theorem Dev.pdmStuck_one {d : Dev} {line : Nat} (hl : line < 4) (hr : d.capRuns = true) (hc : d.pdmRuns (d.lineClk line) = true) (h0 : bit d.cap.chEn (2 * line) = true)
    (h1 : bit d.cap.chEn (2 * line + 1) = false) (hs : d.bitOf 0x423100 (2 * line) = false) : d.pdmStuck line true = (d.putBit 0x423100 (2 * line) true).raise 64 := by
  simp [Dev.pdmStuck, hl, hr, hc, h0, h1, hs]

/-- Settles O25: a write by what its object's change starts, and a fault of a generator or a line by its case of R226 or R230. -/
theorem biasPdm : Obligations.BiasPdm := by
  unfold Obligations.BiasPdm
  refine ⟨?enable, ?disable, ?jack, ?voltage, ?short, ?retry, ?opened, ?stuck⟩
  case enable =>
    intro a k hk
    rw [show 0x421000 + 256 * k = key (0x4210 + k) 0 by unfold key; omega]
    exact (writes_bias (fun _ => rfl) hk (by decide)).congr (fun _ _ => trivial) fun d ⟨hoff, hjack⟩ => by
      have hfree : (k = 1 && d.hp.biasJack) = false := by simpa using hjack
      simp [hoff, Dev.capWrite_bias hk, hfree, Dev.biasStart]
  case disable =>
    intro a k hk
    rw [show 0x421000 + 256 * k = key (0x4210 + k) 0 by unfold key; omega]
    exact (writes_bias (fun _ => rfl) hk (by decide)).congr (fun _ _ => trivial) fun d ⟨hon, hjack⟩ => by
      have hfree : (k = 1 && d.hp.biasJack) = false := by simpa using hjack
      simp [hon, Dev.capWrite_bias hk, hfree]
  case jack =>
    intro a v
    rw [show 0x421100 = key (0x4210 + 1) 0 from rfl]
    exact (writes_bias (fun _ => rfl) (by decide) (by decide)).congr (fun _ _ => trivial) fun d hjack => by
      by_cases hsame : d.get (key (0x4210 + 1) 0) = v
      · rw [hsame, Dev.capWrite_same]
      · simp [Dev.capWrite_bias (show 1 < 2 by decide) hsame, hjack]
  case voltage =>
    intro a k v hk
    rw [show 0x421001 + 256 * k = key (0x4210 + k) 1 by unfold key; omega]
    exact (writes_bias (fun _ => rfl) hk (by decide)).congr (fun _ _ => trivial) fun d ⟨hnew, hon⟩ => by
      rw [Dev.capWrite_bias hk hnew (by decide), Dev.biasBit_put_voltage, hon]
      rfl
  case short => exact fun s k hk hr hon hs => becomes_act rfl (Dev.biasShort_on hk hr hon hs)
  case retry => exact fun s k t hk ht hn hr => ⟨becomes_act rfl (Dev.biasRetry_due hk ht hn hr true), becomes_act rfl (Dev.biasRetry_due hk ht hn hr false)⟩
  case opened => exact fun s k o hk hr hon ho => becomes_act rfl (Dev.biasOpen_changes hk hr hon ho)
  case stuck => exact fun s line hl hr hc h0 h1 hs => becomes_act rfl (Dev.pdmStuck_one hl hr hc h0 h1 hs)

end Sys2Proof.Machine
end

section
/-! SUPPORT. The Perimeter: writes of its objects, its clock, the history buffer and stuck microphones (R246, R247, R250 to R252). -/
namespace Sys2Proof.Machine

/-! Writes -/

/-- A write to an object of 4400h to 44FFh acts by its key and by the value before. -/
theorem Dev.actOn_perimeter {m : List Host.Cell} {p : Path} {i s old v : Nat} {b : List Byte} {d : Dev} (hi : i / 256 = 0x44) (hs : s < 256) :
    d.actOn m p (key i s) old v b = d.perWrite (key i s) old v b := by
  simp only [Dev.actOn, key_page i s hs, hi]

theorem objRow_histReadSeq : objRow (key 0x4451 0) = some (.mk 0x4451 1 1 0x0 1 .u32 .rw 0 .a 0 0 .any) := rfl
theorem objRow_histBlock : objRow 0x445200 = some (.mk 0x4452 1 1 0x0 1 .blob .ro 0 .a 0 0 (.blob 0)) := rfl

/-- A read pointer moved to another block: the GEN of HIST_BLOCK changes with the block it names (R38, R252). -/
theorem Dev.perWrite_histReadSeq {old v : Nat} {b : List Byte} {d : Dev} (h : old ≠ v) : d.perWrite (key 0x4451 0) old v b = d.histGen := by
  simp [Dev.perWrite, key, h]

theorem writes_histReadSeq (a : Access) (v : Nat) : writes (.histReadSeq a v) a 0x445100 v (fun d => d.get 0x445100 ≠ v) (fun d => (d.put 0x445100 v).histGen) :=
  writes_kept (w := v) (fun _ => rfl) objRow_histReadSeq (by simp) rfl rfl fun _ _ h =>
    (Dev.takeNow_put objRow_histReadSeq (actsOnly_rw rfl (by decide) (by decide)) rfl).trans
      ((Dev.actOn_perimeter rfl (by decide)).trans (Dev.perWrite_histReadSeq h))

/-! The history block read -/

/-- A read that takes the whole of HIST_BLOCK leaves the part as the segment that ends it does (R252). -/
theorem Dev.byteValue_histBlock {m : List Host.Cell} {e1 e2 : List Nat} {staged : Bool} {r : ObjRow} {n : Nat} {d : Dev} (ha : r.acc = .ro) (hc : d.sup.coreOn = true) (hn : d.histBytes.length ≤ n) :
    d.byteValue m e1 e2 staged (Obj.ofRow r 0x445200) 0x445200 0 n = ((d.histBytes.drop 0).take n, d.histAdvance) := by
  have ha' : (Obj.ofRow r 0x445200).acc = .ro := ha
  simp [Dev.byteValue, ha', hc, hn]

/-- With a block held at HIST_READ_SEQ, the pointer goes on to the next; at the live edge it would stay. -/
theorem Dev.histAdvance_held {d : Dev} (h : d.per.ring.any (fun b => b.seq == d.get 0x445100) = true) :
    d.histAdvance = (d.put 0x445100 ((d.get 0x445100 + 1) % 2 ^ 32)).histGen := if_pos h

/-! The crystal (R247) -/

theorem Dev.perCrystalLoss_running {d : Dev} (hx : d.per.xtal = true) (hon : d.per.on = true) (hm : d.per.media = false) :
    d.perCrystalLoss = (d.modPer (fun p => { p with xtal := false })).perAbandon.pdmApply.raise 93 := by
  simp [Dev.perCrystalLoss, Dev.modPer, hx, hon, hm]

theorem Dev.perCrystalReturn_running {d : Dev} (hx : d.per.xtal = false) (hon : d.per.on = true) (hm : d.per.media = false) :
    d.perCrystalReturn
      = ((d.modPer (fun p => { p with xtal := true, gap := true, suspUntil := d.now + d.pdmWake, blockTime := d.stamp, blockAt := d.now })).perSettle 3).pdmApply.raise 93 := by
  simp [Dev.perCrystalReturn, Dev.modPer, hx, hon, hm]
  rfl

/-! Stuck microphones (R250) -/

theorem Dev.perStuck_new {d : Dev} {m : Nat} (hm : m < 8) (hl : bit d.listenMics m = true) (hr : d.pdmRuns (d.lineClk (m / 2)) = true) (hs : d.bitOf 0x442600 m = false) :
    d.perStuck m true = (d.putBit 0x442600 m true).raise 94 := by
  simp [Dev.perStuck, hm, hl, hr, hs]

/-! What the end of a block leaves as it is -/

/-- The Perimeter without what the end of a history block changes: the ring and its event, and what describes the block in progress (R251, R252). -/
def Per.besideBlock (p : Per) : Per :=
  { p with ring := [], ev92 := none, lines := [], gap := false, syn := false, ovr := false, rate44 := false, blockTime := 0, blockAt := 0, heardAec := false, heardSubst := false, settle := [] }

theorem Dev.besideBlock_ev92 (d : Dev) : d.ev92.per.besideBlock = d.per.besideBlock := by
  unfold Dev.ev92
  extract_lets quiet
  split
  · rfl
  · rw [Dev.raise_per]
    rfl

/-- A block stored: the ring grows, and a full ring loses its oldest block, with EV92 where HIST_READ_SEQ named it. -/
theorem Dev.besideBlock_histStore (b : HBlock) (d : Dev) : (d.histStore b).per.besideBlock = d.per.besideBlock := by
  unfold Dev.histStore
  dsimp only
  split
  case h_1 =>
    split
    · rfl
    · split
      · rw [Dev.besideBlock_ev92]
        rfl
      · rfl
  case h_2 => rfl

theorem Dev.besideBlock_histEnd (x : HistIn) (d : Dev) : (d.histEnd x).per.besideBlock = d.per.besideBlock := by
  obtain ⟨b, hb⟩ : ∃ b, (d.histEnd x).per.besideBlock = (if d.inUse 0x440600 = 0 then d else d.histStore b).per.besideBlock := ⟨_, rfl⟩
  rw [hb]
  split
  · rfl
  · exact Dev.besideBlock_histStore b d

/-! A block completed -/

/-- A frame's input levels, counted as the runs of frames below SILENCE_LEVEL (R258). -/
def Dev.quietFrames (x : HistIn) (d : Dev) : Dev :=
  d.modPer (fun p => { p with rawQuiet := if x.rawQuiet then min 20 (p.rawQuiet + 1) else 0, aecQuiet := if x.aecQuiet then min 20 (p.aecQuiet + 1) else 0 })

/-- An input that is the one to be taken is not switched (R258). -/
theorem Dev.perSwitch_settled {d : Dev} (h : d.per.avail = d.per.aec) (resolved : Bool) : d.perSwitch resolved = d := if_pos h

/-- With the recogniser disabled, no switch, utterance or listening set waiting: the block ends, and the frame is counted. -/
theorem Dev.perBlock_plain {d : Dev} {x : HistIn} (hon : d.per.on = true) (hm : d.per.media = true) (hmode : d.mode ≠ 10) (hrec : d.get 0x441000 = 0) (hu : x.utter = none)
    (hset : d.per.setPend = false) (hav : d.per.avail = d.per.aec) : d.perBlock x = ((d.quietFrames x).histEnd x).modPer (fun p => { p with frame := p.frame + 1 }) := by
  have hkept : ((d.quietFrames x).histEnd x).per.besideBlock = (d.quietFrames x).per.besideBlock := Dev.besideBlock_histEnd x _
  have hav' : ((d.quietFrames x).histEnd x).per.avail = ((d.quietFrames x).histEnd x).per.aec := (congrArg Per.avail hkept).trans (hav.trans (congrArg Per.aec hkept).symm)
  have hset' : ((d.quietFrames x).histEnd x).per.setPend = false := (congrArg Per.setPend hkept).trans hset
  unfold Dev.perBlock
  rw [if_neg (by simp [hon, hm, hmode])]
  extract_lets settling live quiet ended
  have hlive : live = false := by simp [live, hrec]
  have hended : ended = (d.quietFrames x).histEnd x := rfl
  simp only [hlive, Bool.false_eq_true, if_false, hu, hended, Dev.perSwitch_settled hav']
  exact if_neg (by simpa [Dev.modPer] using hset')

/-- A block without a detection that wakes the device is all that its command does (R261). -/
theorem Dev.historyBlock_quiet {d : Dev} {x : HistIn} (h : (d.perBlock x).per.wakeReq = none) : d.historyBlock x = d.perBlock x := by
  simp [Dev.historyBlock, h]

theorem Dev.historyBlock_plain {d : Dev} {x : HistIn} (hon : d.per.on = true) (hm : d.per.media = true) (hmode : d.mode ≠ 10) (hrec : d.get 0x441000 = 0) (hu : x.utter = none)
    (hset : d.per.setPend = false) (hav : d.per.avail = d.per.aec) (hwake : d.per.wakeReq = none) :
    d.historyBlock x = ((d.quietFrames x).histEnd x).modPer (fun p => { p with frame := p.frame + 1 }) := by
  have hblock := Dev.perBlock_plain hon hm hmode hrec hu hset hav
  have hkept : ((d.quietFrames x).histEnd x).per.wakeReq = none := (congrArg Per.wakeReq (Dev.besideBlock_histEnd x (d.quietFrames x))).trans hwake
  rw [Dev.historyBlock_quiet (by rw [hblock]; exact hkept), hblock]

/-- Settles O26: the crystal and the microphones by their case of R247 and R250, the block by what its end leaves as it is, and the pointer by the block that it names. -/
theorem perimeterHistory : Obligations.PerimeterHistory := by
  unfold Obligations.PerimeterHistory
  refine ⟨?lost, ?returned, ?block, ?stuck, ?read, writes_histReadSeq⟩
  case lost => exact fun s hx hon hm => becomes_act rfl (Dev.perCrystalLoss_running hx hon hm)
  case returned => exact fun s hx hon hm => becomes_act rfl (Dev.perCrystalReturn_running hx hon hm)
  case block =>
    intro s x hon hm hmode hrec hu hset hav hwake
    exact becomes_act rfl (Dev.historyBlock_plain hon hm (by rw [hmode]; decide) hrec hu hset hav hwake)
  case stuck => exact fun s m hm hl hr hs => becomes_act rfl (Dev.perStuck_new hm hl hr hs)
  case read =>
    intro a _ ho
    refine readsBytes_row (fun _ => rfl) objRow_histBlock rfl fun m d ⟨hc, hn, hheld⟩ => ?_
    rw [ho, Dev.byteValue_histBlock rfl hc hn, Dev.histAdvance_held hheld]

end Sys2Proof.Machine
end

section
/-! SUPPORT. Enrolment, the templates and WAKE_OUT (R255, R260, R262). -/
namespace Sys2Proof.Machine

theorem objRow_enrol : objRow (key 0x4440 0) = some (.mk 0x4440 1 1 0x0 1 .u8 .cmd 0 .none 0 0 (.nat [(0, 7), (128, 135), (255, 255)])) := rfl
theorem objRow_wakeOutClear : objRow (key 0x4461 0) = some (.mk 0x4461 1 1 0x0 1 .bool .cmd 0 .none 0 0 (.nat [(0, 1)])) := rfl

theorem objRow_template (p : Nat) (h : p < 8) : objRow (key 0x4442 p) = some (.mk 0x4442 1 1 0x0 8 .blob .rw 0 .p 0 0 (.blob 3632)) := by
  rw [objRow_key _ _ (by omega)]
  simp [objPage, objs44, h]

/-! No partial match in progress -/

theorem Dev.perAbandon_none {d : Dev} (h : d.per.part = none) : d.perAbandon = d := by simp [Dev.perAbandon, h]

theorem Dev.perAbandonOn_none {d : Dev} (h : d.per.part = none) (ph : Nat) : d.perAbandonOn ph = d := by simp [Dev.perAbandonOn, h]

/-- An enrolment that starts with no partial match in progress (R260). -/
theorem Dev.enrolStart_free {d : Dev} (h : d.per.part = none) (ph : Nat) : d.enrolStart ph = (d.modPer (fun p => { p with enrol := some (ph, d.now) })).put 0x444100 (enrolStatus 0 ph 0 true) := by
  rw [Dev.enrolStart, Dev.perAbandon_none h]

/-- A template that takes its slot with no partial match in progress: its bytes, and its information (Table 10-9). -/
theorem Dev.templateSet_free {d : Dev} (h : d.per.part = none) (ph : Nat) (b : List Byte) (valid : Bool) :
    d.templateSet ph b valid = (d.putBlob (key 0x4442 ph) b).put (key 0x4443 ph) (if valid then Config.templateFrames b % 65536 + 65536 else 0) :=
  Dev.perAbandonOn_none (d := (d.putBlob (key 0x4442 ph) b).put (key 0x4443 ph) (if valid then Config.templateFrames b % 65536 + 65536 else 0)) h ph

/-! The end of an enrolment -/

theorem Dev.enrolEnd_running {d : Dev} {p t : Nat} (h : d.per.enrol = some (p, t)) (result : Nat) :
    d.enrolEnd result = ((d.modPer (fun x => { x with enrol := none })).put 0x444100 (enrolStatus (fld (d.get 0x444100) 3 0) p result false)).raise 91 := by
  rw [Dev.enrolEnd, h]
  rfl

theorem Dev.enrolTimeout_due {d : Dev} {p t : Nat} (h : d.per.enrol = some (p, t)) (ht : t + 10000000000 ≤ d.now) : d.enrolTimeout = d.enrolEnd 3 := by
  rw [Dev.enrolTimeout, h]
  exact if_pos ht

/-- The three utterances checked and averaged: slot p changes only when the store succeeds (R260). -/
theorem Dev.enrolStored_three {d : Dev} {p t : Nat} (h : d.per.enrol = some (p, t)) (hc : 3 ≤ fld (d.get 0x444100) 3 0) (result : Nat) (b : List Byte) :
    d.enrolStored result b = (if result = 1 then d.templateSet p b true else d).enrolEnd (if result = 1 || result = 2 then result else 5) := by
  rw [Dev.enrolStored, h]
  exact if_neg (Nat.not_lt.mpr hc)

/-! WAKE_OUT -/

theorem Dev.wakePulseEnd_due {d : Dev} {t : Nat} (h : d.per.wakeEnd = some t) (ht : t ≤ d.now) : d.wakePulseEnd = d.wakeOutOff := by
  rw [Dev.wakePulseEnd, h]
  exact if_pos ht

/-! Writes -/

/-- ENROL: a phrase to enrol, a slot to erase, or FFh to cancel (R260). -/
theorem Dev.perWrite_enrol (old v : Nat) (b : List Byte) (d : Dev) :
    d.perWrite (key 0x4440 0) old v b = if v < 8 then d.enrolStart v else if v = 0xFF then d.enrolEnd 4 else d.templateSet (v - 0x80) (zeros 3632) false := rfl

theorem Dev.perWrite_wakeOutClear (old : Nat) (b : List Byte) (d : Dev) : d.perWrite (key 0x4461 0) old 1 b = d.wakeOutOff := rfl

/-- A template written is valid, and a partial match on its phrase is abandoned (R255, R260). -/
theorem Dev.perWrite_template {p : Nat} (hp : p < 8) (old v : Nat) (b : List Byte) (d : Dev) :
    d.perWrite (key 0x4442 p) old v b = (d.put (key 0x4443 p) (Config.templateFrames b % 65536 + 65536)).perAbandonOn p := by
  have hk : key 0x4442 p ≠ 0x441000 ∧ key 0x4442 p ≠ 0x441600 ∧ key 0x4442 p ≠ 0x445100 ∧ key 0x4442 p ≠ 0x444000 := by unfold key; omega
  simp [Dev.perWrite, key_div 0x4442 p (by omega), key_mod 0x4442 p (by omega), hk]

theorem writes_enrol {i : Instr} {a : Access} {v : Nat} {h : Dev → Prop} {f : Dev → Dev} (hi : ∀ s, exec i s = .next (s.quiet (Dev.hostSet a 0x444000 v)))
    (hf : ∀ d, h d → (if v < 8 then d.enrolStart v else if v = 0xFF then d.enrolEnd 4 else d.templateSet (v - 0x80) (zeros 3632) false) = f d) : writes i a 0x444000 v h f :=
  writes_cmd hi objRow_enrol rfl rfl rfl fun _ d hd => ((Dev.actOn_perimeter (i := 0x4440) rfl (by decide)).trans (Dev.perWrite_enrol _ v [] d)).trans (hf d hd)

theorem writes_wakeOutClear (a : Access) : writes (.wakeOutClear a 1) a 0x446100 1 (fun _ => True) Dev.wakeOutOff :=
  writes_cmd (fun _ => rfl) objRow_wakeOutClear rfl rfl rfl fun _ d _ => (Dev.actOn_perimeter (i := 0x4461) rfl (by decide)).trans (Dev.perWrite_wakeOutClear _ [] d)

/-- A BLOB that keeps the bytes written, no action record: they stand, and then what the object's page starts runs. -/
theorem Dev.takeNow_putBlob {m : List Host.Cell} {p : Path} {o : Obj} {k v : Nat} {b : List Byte} {d : Dev} (ha : actsOnly o k = false) (hb : o.ty.isBytes = true)
    (h1 : k / 256 ≠ 0x1340) (h2 : k / 256 ≠ 0x1407) : d.takeNow m p o k v b = (d.putBlob k b).actOn m p k (d.get k) v b := by
  simp [Dev.takeNow, ha, hb, h1, h2]

theorem writesBytes_template (a : Access) (p : Nat) (b : List Byte) (hp : p < 8) :
    writesBytes (.template a p) a (key 0x4442 p) b (fun d => d.per.part = none)
      (fun d => (d.putBlob (key 0x4442 p) b).put (key 0x4443 p) (Config.templateFrames b % 65536 + 65536)) :=
  writesBytes_blob (fun s => by simp only [exec, execTemplate, Nat.mod_eq_of_lt (show p < 256 by omega)]) (objRow_template p hp) (by simp) fun m d h => by
    have hdiv : key 0x4442 p / 256 = 0x4442 := key_div _ _ (by omega)
    refine (Dev.takeNow_putBlob (actsOnly_rw rfl (by omega) (by decide)) rfl (by rw [hdiv]; decide) (by rw [hdiv]; decide)).trans ?_
    rw [Dev.actOn_perimeter rfl (by omega), Dev.perWrite_template hp]
    exact Dev.perAbandonOn_none (d := ((d.partDone a).putBlob (key 0x4442 p) b).put (key 0x4443 p) _) h p

/-- Settles O27: a write by what its object's value asks for, an enrolment's end by its result, and WAKE_OUT by what drives it low. -/
theorem enrolWakeOut : Obligations.EnrolWakeOut := by
  unfold Obligations.EnrolWakeOut
  refine ⟨?start, ?erase, ?cancel, ?timeout, ?inconsistent, ?stored, ?template, ?clear, ?pulse⟩
  case start =>
    intro a p hp
    refine writes_enrol (fun s => by simp only [exec, execEnrolSlot, Nat.mod_eq_of_lt (show p < 128 by omega)]) fun d h => ?_
    rw [if_pos hp]
    exact Dev.enrolStart_free h p
  case erase =>
    intro a p hp
    refine writes_enrol (fun s => by simp only [exec, execEnrolErase, Nat.mod_eq_of_lt (show p < 127 by omega)]) fun d h => ?_
    rw [if_neg (by omega), if_neg (by omega), Nat.add_sub_cancel_left]
    exact Dev.templateSet_free h p _ false
  case cancel => exact fun a p t => writes_enrol (fun _ => rfl) fun d h => Dev.enrolEnd_running h 4
  case timeout => exact fun s p t h ht => becomes_act rfl ((Dev.enrolTimeout_due h ht).trans (Dev.enrolEnd_running h 3))
  case inconsistent => exact fun s p t b h hc => becomes_act rfl ((Dev.enrolStored_three h hc 2 b).trans (Dev.enrolEnd_running h 2))
  case stored => exact fun s p t b h hc => becomes_act rfl (Dev.enrolStored_three h hc 1 b)
  case template => exact fun a p b hp => writesBytes_template a p b hp
  case clear => exact writes_wakeOutClear
  case pulse => exact fun s t h ht => becomes_act rfl (Dev.wakePulseEnd_due h ht)

end Sys2Proof.Machine
end

section
/-! SUPPORT. The task an engine runs: what an instruction acts on, and its loads, stores and flow (R289, R292, Tables 12-2 and 12-7). -/
namespace Sys2Proof.Machine

/-! The task an engine runs -/

/-- An instruction for an engine that the debugger does not hold acts on the task the engine runs. -/
theorem Dev.onTask_running {d : Dev} {e : Nat} {act : Bool} {b : Bank} {t : ImgTask} {r : TaskRun} (h : d.running e act b t r) (f : Bool → Bank → ImgTask → TaskRun → Dev → Dev) :
    d.onTask e f = f act b t r d := by
  obtain ⟨hcur, hheld⟩ := h
  simp [Dev.onTask, hcur, hheld]

/-! Lists made with free values -/

/-- A list each of whose elements needs no free value. -/
theorem Dev.each_pure {α β : Type} {f : α → Dev → β × Dev} {g : α → β} {l : List α} {d : Dev} (h : ∀ a ∈ l, f a d = (g a, d)) : Dev.each f l d = (l.map g, d) := by
  induction l with
  | nil => rfl
  | cons a t ih =>
    obtain ⟨ha, ht⟩ := List.forall_mem_cons.mp h
    simp [Dev.each, ha, ih ht]

/-! Loads -/

/-- A memory operand that has a local address is no sample of a port's block, and its word is that of local memory. -/
theorem Dev.loadWord_addr {d : Dev} {e i w : Nat} {b : Bank} {t : ImgTask} {r : TaskRun} {m : MemRef} (ha : r.ctx.addr m i = some w) :
    d.loadWord e b t r m i = (if b.inLocal w 4 then some (memWord b.mem w) else none, d) := by
  cases m with
  | loc a => simp only [Dev.loadWord, ha]
  | gen g => simp only [Dev.loadWord, ha]
  | inp p k => cases ha
  | out p k => cases ha

theorem Dev.loadWord_local {d : Dev} {e i w : Nat} {b : Bank} {t : ImgTask} {r : TaskRun} {m : MemRef} (ha : r.ctx.addr m i = some w) (hw : b.inLocal w 4 = true) :
    d.loadWord e b t r m i = (some (memWord b.mem w), d) := by
  rw [Dev.loadWord_addr ha, if_pos hw]

section
variable {d : Dev} {e : Nat} {act : Bool} {b : Bank} {t : ImgTask} {r : TaskRun} {m : MemRef} (h : d.running e act b t r)
include h

/-- A load whose words are all within the image's declarations. -/
theorem Dev.load_words {n : Nat} {g : Nat → Nat} (hw : ∀ i < n, d.loadWord e b t r m i = (some (g i), d)) (put : Ctx → List Nat → Ctx) :
    d.load e n m put = d.setRun e act { r with ctx := ((put r.ctx ((upto n).map g)).moveOn m).step } := by
  have heach : Dev.each (fun i d => d.loadWord e b t r m i) (upto n) d = ((upto n).map (fun i => some (g i)), d) :=
    Dev.each_pure fun i hi => hw i (List.mem_range.mp hi)
  rw [Dev.load, Dev.onTask_running h]
  simp [heach, List.filterMap_map, Function.comp_def]

/-- A load of one word outside the image's declarations is a BOUNDS fault. -/
theorem Dev.load_outside (hw : d.loadWord e b t r m 0 = (none, d)) (put : Ctx → List Nat → Ctx) : d.load e 1 m put = d.engFault e 2 r.ctx.pc t.num (!act) := by
  rw [Dev.load, Dev.onTask_running h]
  simp [upto, Dev.each, hw, Dev.taskFault]

/-! Stores -/

/-- A store through a memory operand that has local addresses. -/
theorem Dev.storeTo_addr {w : Nat} (ha : r.ctx.addr m 0 = some w) (get : Ctx → List Nat) :
    d.storeTo e m get =
      let as := (upto (get r.ctx).length).filterMap (fun i => r.ctx.addr m i)
      if as.all (fun a => b.inLocal a 4) then
        d.modBank e act (fun q => ((as.zip (get r.ctx)).foldl (fun (q : Bank) (x : Nat × Nat) => q.putWords x.1 [x.2]) q).setRun { r with ctx := (r.ctx.moveOn m).step })
      else d.engFault e 2 r.ctx.pc t.num (!act) := by
  rw [Dev.storeTo, Dev.onTask_running h]
  cases m with
  | loc a => rfl
  | gen g => rfl
  | inp p k => cases ha
  | out p k => cases ha

theorem Dev.storeTo_input (p k : Nat) (get : Ctx → List Nat) : d.storeTo e (.inp p k) get = d.engFault e 2 r.ctx.pc t.num (!act) :=
  (Dev.onTask_running h _).trans rfl

/-- A word stored to a sample of an output block of the task. -/
theorem Dev.storeTo_output {p k v : Nat} {get : Ctx → List Nat} (hp : bit t.outs p = true) (hk : k < t.block) (hv : get r.ctx = [v]) :
    d.storeTo e (.out p k) get = d.setRun e act { r with vals := assocPut (p * 64 + k) (toInt 32 v) r.vals, ctx := r.ctx.step } := by
  rw [Dev.storeTo, Dev.onTask_running h]
  simp [hv, hp, Nat.succ_le_of_lt hk, upto, Ctx.moveOn]

theorem Dev.storeTo_outputOther {p k : Nat} (hp : bit t.outs p = false) (get : Ctx → List Nat) : d.storeTo e (.out p k) get = d.engFault e 2 r.ctx.pc t.num (!act) := by
  rw [Dev.storeTo, Dev.onTask_running h]
  simp [hp, Dev.taskFault]

/-! Control -/

theorem Dev.loop_within {x last most : Nat} (hd : r.ctx.loops.length < 4) (hl : r.ctx.pc < last) (hm : assoc r.ctx.pc b.img.loops = some most) (hn : r.ctx.sreg x ≤ most) (h0 : 0 < r.ctx.sreg x) :
    d.loop e x last = d.setRun e act { r with ctx := { r.ctx with pc := r.ctx.pc + 1, loops := (r.ctx.pc + 1, last, r.ctx.sreg x) :: r.ctx.loops } } := by
  rw [Dev.loop, Dev.onTask_running h]
  simp [Nat.not_le.mpr hd, Nat.not_le.mpr hl, hm, Nat.not_lt.mpr hn, Nat.min_eq_left hn, Nat.ne_of_gt h0]

/-- A count above the manifest's maximum is held to it and counted. -/
theorem Dev.loop_held {x last most : Nat} (hd : r.ctx.loops.length < 4) (hl : r.ctx.pc < last) (hm : assoc r.ctx.pc b.img.loops = some most) (hn : most < r.ctx.sreg x) (h0 : 0 < most) :
    d.loop e x last = (d.inc (key (0x5400 + e) 0xE)).setRun e act { r with ctx := { r.ctx with pc := r.ctx.pc + 1, loops := (r.ctx.pc + 1, last, most) :: r.ctx.loops } } := by
  rw [Dev.loop, Dev.onTask_running h]
  simp [Nat.not_le.mpr hd, Nat.not_le.mpr hl, hm, hn, Nat.min_eq_right (Nat.le_of_lt hn), Nat.ne_of_gt h0]

/-- A loop of no turns skips its body. -/
theorem Dev.loop_none {x last : Nat} (hd : r.ctx.loops.length < 4) (hl : r.ctx.pc < last) (h0 : r.ctx.sreg x = 0) :
    d.loop e x last = d.setRun e act { r with ctx := ({ r.ctx with pc := last, loops := (r.ctx.pc + 1, last, 1) :: r.ctx.loops } : Ctx).step } := by
  rw [Dev.loop, Dev.onTask_running h]
  simp [Nat.not_le.mpr hd, Nat.not_le.mpr hl, h0]

theorem Dev.loop_tooDeep {x last : Nat} (hd : 4 ≤ r.ctx.loops.length) : d.loop e x last = d.engFault e 1 r.ctx.pc t.num (!act) := by
  rw [Dev.loop, Dev.onTask_running h]
  simp [hd, Dev.taskFault]

theorem Dev.branch_taken {mask target : Nat} (ht : r.ctx.pc < target) (hm : bit mask r.ctx.cmp = true) :
    d.branch e mask target = d.setRun e act { r with ctx := { r.ctx with pc := target, loops := r.ctx.loops.dropWhile (fun l => l.2.1 < target) } } := by
  rw [Dev.branch, Dev.onTask_running h]
  simp [Nat.not_le.mpr ht, hm]

theorem Dev.branch_passed {mask target : Nat} (ht : r.ctx.pc < target) (hm : bit mask r.ctx.cmp = false) : d.branch e mask target = d.setRun e act { r with ctx := r.ctx.step } := by
  rw [Dev.branch, Dev.onTask_running h]
  simp [Nat.not_le.mpr ht, hm]

theorem Dev.branch_back {mask target : Nat} (ht : target ≤ r.ctx.pc) : d.branch e mask target = d.engFault e 1 r.ctx.pc t.num (!act) := by
  rw [Dev.branch, Dev.onTask_running h]
  simp [ht, Dev.taskFault]

theorem Dev.call_within {target : Nat} (hc : r.ctx.calls.length < 8) : d.call e target = d.setRun e act { r with ctx := { r.ctx with pc := target, calls := r.ctx.pc :: r.ctx.calls } } := by
  rw [Dev.call, Dev.onTask_running h]
  simp [Nat.not_le.mpr hc]

theorem Dev.call_tooDeep {target : Nat} (hc : 8 ≤ r.ctx.calls.length) : d.call e target = d.engFault e 1 r.ctx.pc t.num (!act) := by
  rw [Dev.call, Dev.onTask_running h]
  simp [hc, Dev.taskFault]

theorem Dev.ret_back {p : Nat} {l : List Nat} (hc : r.ctx.calls = p :: l) : d.ret e = d.setRun e act { r with ctx := ({ r.ctx with pc := p, calls := l } : Ctx).step } := by
  rw [Dev.ret, Dev.onTask_running h]
  simp [hc]

theorem Dev.ret_noCall (hc : r.ctx.calls = []) : d.ret e = d.engFault e 1 r.ctx.pc t.num (!act) := by
  rw [Dev.ret, Dev.onTask_running h]
  simp [hc, Dev.taskFault]

end

/-! The address after an instruction -/

/-- Before the last address of the innermost loop an instruction goes on to the next. -/
theorem Ctx.step_inside {c : Ctx} {f l n : Nat} {t : List (Nat × Nat × Nat)} (hc : c.loops = (f, l, n) :: t) (hl : c.pc ≠ l) : c.step = { c with pc := c.pc + 1 } := by
  simp [Ctx.step, loopNext, hc, hl]

/-- At the last address with turns left it returns to the first. -/
theorem Ctx.step_again {c : Ctx} {f l n : Nat} {t : List (Nat × Nat × Nat)} (hc : c.loops = (f, l, n) :: t) (hl : c.pc = l) (hn : 1 < n) :
    c.step = { c with pc := f, loops := (f, l, n - 1) :: t } := by
  simp [Ctx.step, loopNext, hc, hl, hn]

/-- Settles O33: each instruction by the outcome its operands have: local memory, a sample of a port's block, a fault, or the address it goes on at. -/
theorem memoryOps : Obligations.MemoryOps := by
  unfold Obligations.MemoryOps
  refine ⟨?localMemory, ?blocks, ?loops, ?flow, fun c f l n t hc => ⟨Ctx.step_inside hc, Ctx.step_again hc⟩⟩
  case localMemory =>
    intro s e act b t r h x m
    refine ⟨?word, ?outside, ?vector⟩
    case word =>
      intro w ha hw
      exact ⟨becomes_act rfl (Dev.load_words h (g := fun _ => memWord b.mem w) (by simpa using Dev.loadWord_local ha hw) _),
        becomes_act rfl ((Dev.storeTo_addr h ha _).trans (by simp [upto, ha, hw]))⟩
    case outside =>
      intro w ha hw
      exact ⟨becomes_act rfl (Dev.load_outside h (by rw [Dev.loadWord_addr ha, hw]; rfl) _),
        becomes_act rfl ((Dev.storeTo_addr h ha _).trans (by simp [upto, ha, hw]))⟩
    case vector =>
      intro w0 w1 w2 w3 ha0 ha1 ha2 ha3 hw0 hw1 hw2 hw3
      have hwords : ∀ i < 4, s.dev.loadWord e b t r m i = (some (memWord b.mem (nthD 0 [w0, w1, w2, w3] i)), s.dev) := by
        intro i hi
        match i, hi with
        | 0, _ => exact Dev.loadWord_local ha0 hw0
        | 1, _ => exact Dev.loadWord_local ha1 hw1
        | 2, _ => exact Dev.loadWord_local ha2 hw2
        | 3, _ => exact Dev.loadWord_local ha3 hw3
      refine ⟨becomes_act rfl (Dev.load_words h hwords _), fun v0 v1 v2 v3 hv => becomes_act rfl ((Dev.storeTo_addr h ha0 _).trans ?_)⟩
      simp [hv, upto, List.range_succ, ha0, ha1, ha2, ha3, hw0, hw1, hw2, hw3]
  case blocks =>
    intro s e act b t r h x p k n
    refine ⟨?input, ?output, becomes_act rfl (Dev.storeTo_input h p k _), becomes_act rfl (Dev.storeTo_input h p k _), ?noInput, fun hp => becomes_act rfl (Dev.storeTo_outputOther h hp _)⟩
    case input =>
      intro hp hk hr
      exact becomes_act rfl (Dev.load_words h (g := fun _ => Smp.word (nthD {} ((s.dev.eng e).block p n t.block) k)) (by simp [Dev.loadWord, hp, hk, hr]) _)
    case output =>
      intro hp hk
      exact ⟨becomes_act rfl (Dev.storeTo_output h hp hk rfl),
        fun v hv => becomes_act rfl (Dev.load_words h (g := fun _ => ofInt 32 v) (by simp [Dev.loadWord, hp, hk, hv]) _)⟩
    case noInput => exact fun hp => becomes_act rfl (Dev.load_outside h (by simp [Dev.loadWord, hp]) _)
  case loops =>
    intro s e act b t r h x last hd hl
    exact ⟨fun most hm hn h0 => becomes_act rfl (Dev.loop_within h hd hl hm hn h0), fun most hm hn h0 => becomes_act rfl (Dev.loop_held h hd hl hm hn h0),
      fun h0 => becomes_act rfl (Dev.loop_none h hd hl h0)⟩
  case flow =>
    intro s e act b t r h x mask target
    exact ⟨fun hd => becomes_act rfl (Dev.loop_tooDeep h hd), fun ht hm => becomes_act rfl (Dev.branch_taken h ht hm), fun ht hm => becomes_act rfl (Dev.branch_passed h ht hm),
      fun ht => becomes_act rfl (Dev.branch_back h ht), fun hc => becomes_act rfl (Dev.call_within h hc), fun hc => becomes_act rfl (Dev.call_tooDeep h hc),
      fun p l hc => becomes_act rfl (Dev.ret_back h hc), fun hc => becomes_act rfl (Dev.ret_noCall h hc)⟩

end Sys2Proof.Machine
end

section
/-! SUPPORT. What Facet instructions share: free values counted, registers, blocks of samples, and shared memory (R293, R294, R302, R303, R410, R416). -/
namespace Sys2Proof.Machine

/-! Free values -/

/-- The part once `n` free values are taken (assumption log 3). -/
def Dev.took (n : Nat) (d : Dev) : Dev := { d with free := d.free + n }

theorem Dev.took_took (m n : Nat) (d : Dev) : (d.took m).took n = d.took (m + n) := by simp [Dev.took, Nat.add_assoc]

/-- A list each of whose elements takes one free value, `pos` the place of each: the elements take the free values in turn. -/
theorem Dev.each_free {α β : Type} {f : α → Dev → β × Dev} {g : α → Nat → β} {pos : α → Nat} {l : List α} {d : Dev} (hpos : l.map pos = upto l.length)
    (h : ∀ a ∈ l, ∀ d : Dev, f a d = (g a (Config.free d.free), d.took 1)) : Dev.each f l d = (l.map (fun a => g a (Config.free (d.free + pos a))), d.took l.length) := by
  suffices hgen : ∀ (l : List α) (k base : Nat) (d : Dev), l.map pos = List.range' k l.length → d.free = base + k → (∀ a ∈ l, ∀ d : Dev, f a d = (g a (Config.free d.free), d.took 1)) →
      Dev.each f l d = (l.map (fun a => g a (Config.free (base + pos a))), d.took l.length) from hgen l 0 d.free d (hpos.trans List.range_eq_range') rfl h
  intro l
  induction l with
  | nil => exact fun _ _ _ _ _ _ => rfl
  | cons a t ih =>
    intro k base d hp hd h
    obtain ⟨ha, ht⟩ := List.forall_mem_cons.mp h
    rw [List.map_cons, List.length_cons, List.range'_succ, List.cons.injEq] at hp
    obtain ⟨hk, hp⟩ := hp
    have htail := ih (k + 1) base (d.took 1) hp (congrArg (· + 1) hd) ht
    simp only [Dev.each, ha, htail, List.map_cons, List.length_cons, hd, hk, Dev.took_took, Nat.add_comm 1]

@[simp] theorem upto_length (n : Nat) : (upto n).length = n := List.length_range

theorem Dev.freeWords_eq (n : Nat) (d : Dev) : d.freeWords n = ((upto n).map (fun j => Config.free (d.free + j) % 2 ^ 32), d.took n) := by
  have h := Dev.each_free (f := fun (_ : Nat) (d : Dev) => (d.fresh.1 % 2 ^ 32, d.fresh.2)) (g := fun _ z => z % 2 ^ 32) (pos := id) (l := upto n) (d := d) (by simp) (fun _ _ _ => rfl)
  rw [upto_length] at h
  exact h

@[simp] theorem Bank.words_length (b : Bank) (a n : Nat) : (b.words a n).length = n := by simp [Bank.words]

/-! Locks of pool banks -/

theorem Dev.lockTake_granted {d : Dev} {k holder : Nat} (h : d.get (lockObj k) = 0xFF ∨ d.get (lockObj k) = holder) : (d.lockTake k holder).1 = true := by
  simp [Dev.lockTake, h]

theorem Dev.lockTake_held {d : Dev} {k holder : Nat} (hf : d.get (lockObj k) ≠ 0xFF) (ho : d.get (lockObj k) ≠ holder) : d.lockTake k holder = (false, d) := by
  simp [Dev.lockTake, hf, ho]

/-- A lock that is free is the taker's, for 50 µs. -/
theorem Dev.lockTake_free {d : Dev} {k holder : Nat} (h : d.get (lockObj k) = 0xFF) :
    (d.lockTake k holder).2.get (lockObj k) = holder ∧ assoc k (d.lockTake k holder).2.tes.lease = some (d.now + 50000) ∧ (d.lockTake k holder).2.fac = d.fac := by
  have htake : (d.lockTake k holder).2 = ({ d.lockRenew k with tes := { (d.lockRenew k).tes with lost := d.tes.lost.filter (fun e => e != (holder, k)) } } : Dev).put (lockObj k) holder := by
    simp [Dev.lockTake, h, Dev.lockRenew]
  rw [htake]
  exact ⟨Dev.get_put_same _ _ _, assoc_assocPut_same _ _ _, rfl⟩

/-! Transfers -/

/-- Words of memory none of which is bad, read with nothing in the way. -/
theorem Dev.dmaRead_clean {d : Dev} {a n : Nat} (hs : d.stores = []) (hb : ∀ i < n, d.wordBad (a + 4 * i) = false) (m : List Host.Cell) :
    d.dmaRead m {} a n = (none, (upto n).map (fun i => memWord m (a + 4 * i)), d) := by
  have hnone : ((upto n).map (fun i => a + 4 * i)).find? (fun w => d.wordBad w || ([] : List Nat).contains w) = none := by
    simpa [List.find?_eq_none, upto] using hb
  have hsame : ∀ l : List Nat, l.foldl (fun (d : Dev) w => if ([] : List Nat).contains w then d.eccFix w else d) d = d := by
    intro l
    induction l with
    | nil => rfl
    | cons w t ih => exact ih
  unfold Dev.dmaRead
  dsimp only
  rw [hnone, hs, hsame, List.map_map]
  rfl

theorem Dev.wordBad_none {d : Dev} (h : d.tes.bad = []) (a : Nat) : d.wordBad a = false := by simp [Dev.wordBad, h]

@[simp] theorem Dev.collision_stores (a loser : Nat) (d : Dev) : (d.collision a loser).stores = d.stores := by
  unfold Dev.collision
  extract_lets b d1 quiet
  simp [apply_ite Dev.stores, d1]

/-- A word written that meets no other write, whichever port has priority. -/
theorem Dev.dmaWrite_alone (d : Dev) (e a w : Nat) : d.dmaWrite e {} a [w] = d.store a (leBytes 4 w) := by
  simp [Dev.dmaWrite, upto, assoc, times]

/-- A word that loses its write and the retry is not stored (R410). -/
theorem Dev.dmaWrite_lost {d : Dev} {a : Nat} (h : d.portBWins a = false) (e w : Nat) : (d.dmaWrite e { hits := [(a, 2)] } a [w]).stores = d.stores := by
  simp [Dev.dmaWrite, upto, assoc, times, h]

section
variable {d : Dev} {e : Nat} {act : Bool} {b : Bank} {t : ImgTask} {r : TaskRun} (h : d.running e act b t r)
include h

/-! Registers -/

theorem Dev.onCtx_running (f : Ctx → Dev → Ctx × Dev) : d.onCtx e f = (f r.ctx d).2.setRun e act { r with ctx := (f r.ctx d).1.step } :=
  Dev.onTask_running h _

theorem Dev.facetLock_running (dst k : Nat) : d.facetLock e dst k = (d.lockTake k e).2.setRun e act { r with ctx := (r.ctx.setS dst (b2n (d.lockTake k e).1)).step } :=
  Dev.onCtx_running h _

theorem Dev.facetUnlock_running (k : Nat) : d.facetUnlock e k = (if d.get (lockObj k) = e then d.lockFree k else d).setRun e act { r with ctx := r.ctx.step } :=
  Dev.onCtx_running h _

/-! Tags -/

theorem Dev.tagRead_input {port n : Nat} (hp : bit t.ins port = true) (hr : r.rel = some n) (ht : t.block ≤ 32) (dst : Nat) :
    d.tagRead e dst port = d.setRun e act { r with ctx := (r.ctx.setV dst ((upto 4).map (tagWord (((d.eng e).block port n t.block).map (·.t))))).step } := by
  rw [Dev.tagRead, Dev.onTask_running h]
  simp [hp, hr, Nat.not_lt.mpr ht]

theorem Dev.tagRead_other {port : Nat} (hp : bit t.ins port = false) (dst : Nat) : d.tagRead e dst port = d.engFault e 2 r.ctx.pc t.num (!act) := by
  rw [Dev.tagRead, Dev.onTask_running h]
  simp [hp, Dev.taskFault]

/-- The first bits set for a sample of an output block. -/
theorem Dev.tagMark_set {port first bits : Nat} (hp : bit t.outs port = true) (hf : first < t.block) (hn : r.sets = []) (hb : bits < 16) :
    d.tagMark e port first 1 bits false = d.setRun e act { r with ctx := r.ctx.step, sets := [(port * 64 + first, bits)] } := by
  rw [Dev.tagMark, Dev.onTask_running h]
  simp [hp, Nat.succ_le_of_lt hf, hn, upto, assoc, assocPut, Nat.mod_eq_of_lt hb]

/-- The first bits cleared for a sample of an output block. -/
theorem Dev.tagMark_clear {port first bits : Nat} (hp : bit t.outs port = true) (hf : first < t.block) (hn : r.clrs = []) (hb : bits < 4) :
    d.tagMark e port first 1 bits true = d.setRun e act { r with ctx := r.ctx.step, clrs := [(port * 64 + first, bits)] } := by
  have hmask : bits &&& 3 = bits := and_mask_of_lt (n := 2) hb
  rw [Dev.tagMark, Dev.onTask_running h]
  simp [hp, Nat.succ_le_of_lt hf, hn, upto, assoc, assocPut, hmask]

theorem Dev.tagMark_other {port : Nat} (hp : bit t.outs port = false) (first count bits : Nat) (clear : Bool) :
    d.tagMark e port first count bits clear = d.engFault e 2 r.ctx.pc t.num (!act) := by
  rw [Dev.tagMark, Dev.onTask_running h]
  simp [hp, Dev.taskFault]

/-! User variables -/

theorem Dev.varRead_bound {p v : Nat} {y : ImgBind} (hy : b.img.binds[p]? = some y) (hv : assoc p r.snap = some v) (dst : Nat) :
    d.varRead e dst p = d.setRun e act { r with ctx := (if typeBytes y.ty = 8 then (r.ctx.setS dst v).setS (dst + 1) (v / 2 ^ 32) else r.ctx.setS dst v).step } := by
  rw [Dev.varRead, Dev.onTask_running h]
  simp [hy, hv]

/-- A value of at most 4 bytes for an object that only reads. -/
theorem Dev.varWrite_readOnly {p : Nat} {y : ImgBind} (hy : b.img.binds[p]? = some y) (ha : y.acc = 0) (h14 : y.ty ≠ 14) (h8 : typeBytes y.ty ≠ 8) (src : Nat) :
    d.varWrite e src p = d.modBank e act (fun q =>
      { q with mem := memPut q.mem y.var (leBytes (typeBytes y.ty) (r.ctx.sreg src)) }.setRun { r with ctx := r.ctx.step, publ := assocPut p (r.ctx.sreg src) r.publ }) := by
  rw [Dev.varWrite, Dev.onTask_running h]
  simp [hy, ha, h14, h8]

theorem Dev.varWrite_written {p : Nat} {y : ImgBind} (hy : b.img.binds[p]? = some y) (ha : y.acc ≠ 0) (src : Nat) : d.varWrite e src p = d.engFault e 2 r.ctx.pc t.num (!act) := by
  rw [Dev.varWrite, Dev.onTask_running h]
  simp [hy, ha, Dev.taskFault]

/-! Transfers of a task -/

theorem Dev.dmaIssue_within {x : Dma} {al : ImgAlloc} (ha : b.img.allocs[x.alloc]? = some al) (ho : x.off + 4 * x.words ≤ al.size) (hl : b.inLocal x.loc (4 * x.words) = true) :
    d.dmaIssue e x = (d.locksRenew e).setRun e act { r with ctx := ({ r.ctx with dma := r.ctx.dma ++ [x] } : Ctx).step } := by
  rw [Dev.dmaIssue, Dev.onTask_running h]
  simp [ha, ho, hl]

theorem Dev.dmaIssue_beyond {x : Dma} {al : ImgAlloc} (ha : b.img.allocs[x.alloc]? = some al) (ho : al.size < x.off + 4 * x.words) :
    d.dmaIssue e x = d.engFault e 2 r.ctx.pc t.num (!act) := by
  rw [Dev.dmaIssue, Dev.onTask_running h]
  simp [ha, Nat.not_le.mpr ho, Dev.taskFault]

/-- A read from Tessera memory that meets no bad word puts its words in local memory. -/
theorem Dev.dmaDo_read {m : List Host.Cell} {x : Dma} {al : ImgAlloc} (hs : d.stores = []) (hb : d.tes.bad = []) (ha : b.img.allocs[x.alloc]? = some al) (hl : al.loc = false) (hx : x.write = false) :
    d.dmaDo e m {} x = d.modBank e act (fun q => (q.putWords x.loc ((upto x.words).map (fun i => memWord m (al.addr + x.off + 4 * i)))).setRun { r with ctx := { r.ctx with dma := r.ctx.dma.drop 1 } }) := by
  rw [Dev.dmaDo, Dev.onTask_running h]
  simp [ha, hl, hx, Dev.dmaRead_clean hs (fun _ _ => Dev.wordBad_none hb _)]

/-! Primitives -/

/-- A primitive of one area: its words become free values. -/
theorem Dev.prim_within {w n : Nat} (hw : b.inLocal w (4 * n) = true) :
    d.prim e [(w, n)] = ((d.took n).modBank e act (fun q => q.putWords w ((upto n).map (fun j => Config.free (d.free + j) % 2 ^ 32)))).modBank e act
      (fun q => q.setRun { r with ctx := r.ctx.step }) := by
  rw [Dev.prim, Dev.onTask_running h]
  simp [hw, Dev.freeWords_eq]

theorem Dev.prim_outside {w n : Nat} (hw : b.inLocal w (4 * n) = false) : d.prim e [(w, n)] = d.engFault e 2 r.ctx.pc t.num (!act) := by
  rw [Dev.prim, Dev.onTask_running h]
  simp [hw, Dev.taskFault]

/-- A primitive over blocks that all lie in local memory. -/
theorem Dev.blockPrim_within {dst : Nat} {srcs : List Nat} {f : Nat → List (List Int) → Ctx → Dev → Option (List Int × Ctx × Dev)} {l : List Int} {c : Ctx} {d' : Dev}
    (hin : (dst :: srcs).all (fun a => b.inLocal a (4 * t.block)) = true) (hf : f t.block (srcs.map (fun a => (b.words a t.block).map (toInt 32))) r.ctx d = some (l, c, d')) :
    d.blockPrim e dst srcs f = d'.modBank e act (fun q => (q.putWords dst (l.map (ofInt 32))).setRun { r with ctx := c.step }) := by
  rw [Dev.blockPrim, Dev.onTask_running h]
  simp only [hin, hf]
  rfl

end
end Sys2Proof.Machine
end

section
/-! SUPPORT. The primitives over a block of samples, delay lines, and the instructions of tags, user variables and shared memory (R293, R294, R297, R300, R302, R303, R410, R416). -/
namespace Sys2Proof.Machine

/-! The samples of RAMP and XFADE -/

/-- A quotient takes one free value, for where it lies between two integers. -/
theorem Dev.quot_eq (n : Int) (k : Nat) (d : Dev) : d.quot n k = (quotOf n k (Config.free d.free), d.took 1) := rfl

/-- A sample of RAMP: `x` is the sample and its place in the block, `m` the samples left, `g0` and `g1` the gains. -/
def Dev.rampSample (m : Nat) (g0 g1 : Int) (cosine : Bool) (x : Int × Nat) (d : Dev) : Int × Dev :=
  if x.2 + 1 ≥ m then d.quot (x.1 * g1) (2 ^ 28)
  else if cosine then (toInt 32 d.fresh.1, d.fresh.2)
  else d.quot (x.1 * (g0 * m + (g1 - g0) * (x.2 + 1 : Nat))) (m * 2 ^ 28)

/-- The gain that RAMP leaves after a block of `n`. -/
def Dev.rampGain (m n : Nat) (g0 g1 : Int) (cosine : Bool) (d : Dev) : Int × Dev :=
  if n ≥ m then (g1, d.fresh.2) else if cosine then (toInt 32 d.fresh.1, d.fresh.2) else d.fresh.2.quot (g0 * m + (g1 - g0) * n) m

/-- A sample of XFADE: `x` is its place in the block and the samples of the two buffers, `p0` the position and `m` the length of the fade. -/
def Dev.xfadeSample (m p0 : Nat) (power : Bool) (x : Nat × Int × Int) (d : Dev) : Int × Dev :=
  if p0 + x.1 + 1 ≥ m then (x.2.2, d)
  else if power then (toInt 32 d.fresh.1, d.fresh.2)
  else d.quot (x.2.1 * (m - (p0 + x.1 + 1) : Nat) + x.2.2 * (p0 + x.1 + 1 : Nat)) m

theorem Dev.ramp_eq (e buf g target left : Nat) (cosine : Bool) (d : Dev) :
    d.ramp e buf g target left cosine = d.blockPrim e buf [buf] (fun n ins c d =>
      let l := Dev.each (Dev.rampSample (c.sreg left) (toInt 32 (c.sreg g)) (toInt 32 (c.sreg target)) cosine) ((nthD [] ins 0).zip (upto n)) d
      let gain := l.2.rampGain (c.sreg left) n (toInt 32 (c.sreg g)) (toInt 32 (c.sreg target)) cosine
      some (l.1, (c.setS g (ofInt 32 gain.1)).setS left (c.sreg left - n), gain.2)) := rfl

theorem Dev.xfade_eq (e dst x y pos len : Nat) (power : Bool) (d : Dev) :
    d.xfade e dst x y pos len power = d.blockPrim e dst [x, y] (fun n ins c d =>
      let l := Dev.each (Dev.xfadeSample (c.sreg len) (c.sreg pos) power) ((upto n).zip ((nthD [] ins 0).zip (nthD [] ins 1))) d
      some (l.1, c.setS pos (min (c.sreg len) (c.sreg pos + n)), l.2)) := rfl

theorem Dev.rampSample_last {m : Nat} {x : Int × Nat} (hx : m ≤ x.2 + 1) (g0 g1 : Int) (cosine : Bool) (d : Dev) :
    d.rampSample m g0 g1 cosine x = (quotOf (x.1 * g1) (2 ^ 28) (Config.free d.free), d.took 1) := by
  simp [Dev.rampSample, hx, Dev.quot_eq]

theorem Dev.rampSample_linear (m : Nat) (g0 g1 : Int) (x : Int × Nat) (d : Dev) :
    d.rampSample m g0 g1 false x = (if m ≤ x.2 + 1 then quotOf (x.1 * g1) (2 ^ 28) (Config.free d.free)
      else quotOf (x.1 * (g0 * m + (g1 - g0) * (x.2 + 1 : Nat))) (m * 2 ^ 28) (Config.free d.free), d.took 1) := by
  by_cases hx : m ≤ x.2 + 1
  · rw [Dev.rampSample_last hx, if_pos hx]
  · simp [Dev.rampSample, hx, Dev.quot_eq]

theorem Dev.rampGain_reached {m n : Nat} (h : m ≤ n) (g0 g1 : Int) (cosine : Bool) (d : Dev) : d.rampGain m n g0 g1 cosine = (g1, d.took 1) := if_pos h

theorem Dev.rampGain_linear (m n : Nat) (g0 g1 : Int) (d : Dev) :
    d.rampGain m n g0 g1 false = (if m ≤ n then g1 else quotOf (g0 * m + (g1 - g0) * n) m (Config.free (d.free + 1)), d.took (if n < m then 2 else 1)) := by
  by_cases h : m ≤ n
  · rw [Dev.rampGain_reached h, if_pos h, if_neg (Nat.not_lt.mpr h)]
  · rw [if_neg h, if_pos (Nat.not_le.mp h)]
    exact if_neg h

theorem Dev.xfadeSample_past {m p0 : Nat} (h : m ≤ p0) (power : Bool) (x : Nat × Int × Int) (d : Dev) : d.xfadeSample m p0 power x = (x.2.2, d) := if_pos (by omega)

theorem Dev.xfadeSample_linear {m p0 : Nat} {x : Nat × Int × Int} (h : p0 + x.1 + 1 < m) (d : Dev) :
    d.xfadeSample m p0 false x = (quotOf (x.2.1 * (m - (p0 + x.1 + 1) : Nat) + x.2.2 * (p0 + x.1 + 1 : Nat)) m (Config.free d.free), d.took 1) := if_neg (Nat.not_le.mpr h)

section
variable {d : Dev} {e : Nat} {act : Bool} {b : Bank} {t : ImgTask} {r : TaskRun} (h : d.running e act b t r) {buf : Nat} (hin : b.inLocal buf (4 * t.block) = true)
include h hin

/-- RAMP, by what its samples and its gain are: each sample takes one free value. -/
theorem Dev.ramp_samples {g target left k : Nat} {cosine : Bool} {sample : Int × Nat → Nat → Int} {gain : Int}
    (hs : ∀ (x : Int × Nat) (d : Dev), d.rampSample (r.ctx.sreg left) (toInt 32 (r.ctx.sreg g)) (toInt 32 (r.ctx.sreg target)) cosine x = (sample x (Config.free d.free), d.took 1))
    (hg : (d.took t.block).rampGain (r.ctx.sreg left) t.block (toInt 32 (r.ctx.sreg g)) (toInt 32 (r.ctx.sreg target)) cosine = (gain, (d.took t.block).took k)) :
    d.ramp e buf g target left cosine = ((d.took t.block).took k).modBank e act (fun q =>
      (q.putWords buf (((b.words buf t.block).zip (upto t.block)).map (fun v => ofInt 32 (sample (toInt 32 v.1, v.2) (Config.free (d.free + v.2)))))).setRun
        { r with ctx := ((r.ctx.setS g (ofInt 32 gain)).setS left (r.ctx.sreg left - t.block)).step }) := by
  have hlen : (((b.words buf t.block).map (toInt 32)).zip (upto t.block)).length = t.block := by simp
  have hplaces : (((b.words buf t.block).map (toInt 32)).zip (upto t.block)).map Prod.snd = upto (((b.words buf t.block).map (toInt 32)).zip (upto t.block)).length := by
    rw [hlen, List.map_snd_zip (by simp)]
  have hlist := Dev.each_free (d := d) hplaces (fun x _ => hs x)
  rw [hlen] at hlist
  rw [Dev.ramp_eq, Dev.blockPrim_within h (by simp [hin]) (by simp only [List.map_cons, nthD, hlist, hg]; rfl), List.zip_map_left, List.map_map, List.map_map]
  rfl

/-- XFADE past its end: the second buffer. -/
theorem Dev.xfade_past {x y pos len : Nat} (hx : b.inLocal x (4 * t.block) = true) (hy : b.inLocal y (4 * t.block) = true) (hl : r.ctx.sreg len ≤ r.ctx.sreg pos) (power : Bool) :
    d.xfade e buf x y pos len power = d.modBank e act (fun q =>
      (q.putWords buf (((b.words y t.block).map (toInt 32)).map (ofInt 32))).setRun { r with ctx := (r.ctx.setS pos (min (r.ctx.sreg len) (r.ctx.sreg pos + t.block))).step }) := by
  have hlist : ∀ l : List (Nat × Int × Int), Dev.each (Dev.xfadeSample (r.ctx.sreg len) (r.ctx.sreg pos) power) l d = (l.map (·.2.2), d) := fun l =>
    Dev.each_pure fun z _ => Dev.xfadeSample_past hl power z d
  have hsecond : ((upto t.block).zip (((b.words x t.block).map (toInt 32)).zip ((b.words y t.block).map (toInt 32)))).map (·.2.2) = (b.words y t.block).map (toInt 32) := by
    rw [show (fun z : Nat × Int × Int => z.2.2) = Prod.snd ∘ Prod.snd from rfl, ← List.map_map, List.map_snd_zip (by simp), List.map_snd_zip (by simp)]
  rw [Dev.xfade_eq, Dev.blockPrim_within h (by simp [hin, hx, hy]) (by simp only [List.map_cons, nthD, hlist, hsecond]; rfl)]

/-- XFADE of equal gain whose end lies beyond the block. -/
theorem Dev.xfade_linear {x y pos len : Nat} (hx : b.inLocal x (4 * t.block) = true) (hy : b.inLocal y (4 * t.block) = true) (hl : r.ctx.sreg pos + t.block < r.ctx.sreg len) :
    d.xfade e buf x y pos len false = (d.took t.block).modBank e act (fun q =>
      (q.putWords buf (((upto t.block).zip ((b.words x t.block).zip (b.words y t.block))).map (fun v => ofInt 32
        (quotOf (toInt 32 v.2.1 * (r.ctx.sreg len - (r.ctx.sreg pos + v.1 + 1) : Nat) + toInt 32 v.2.2 * (r.ctx.sreg pos + v.1 + 1 : Nat)) (r.ctx.sreg len) (Config.free (d.free + v.1)))))).setRun
        { r with ctx := (r.ctx.setS pos (r.ctx.sreg pos + t.block)).step }) := by
  have hlen : ((upto t.block).zip (((b.words x t.block).map (toInt 32)).zip ((b.words y t.block).map (toInt 32)))).length = t.block := by simp
  have hplaces : ((upto t.block).zip (((b.words x t.block).map (toInt 32)).zip ((b.words y t.block).map (toInt 32)))).map Prod.fst
      = upto ((upto t.block).zip (((b.words x t.block).map (toInt 32)).zip ((b.words y t.block).map (toInt 32)))).length := by
    rw [hlen, List.map_fst_zip (by simp)]
  have hlist := Dev.each_free (d := d) hplaces (f := Dev.xfadeSample (r.ctx.sreg len) (r.ctx.sreg pos) false) (fun z hz d => Dev.xfadeSample_linear (by
    have hlt := List.mem_range.mp (List.of_mem_zip (a := z.1) (b := z.2) hz).1
    omega) d)
  rw [hlen] at hlist
  rw [Dev.xfade_eq, Dev.blockPrim_within h (by simp [hin, hx, hy]) (by simp only [List.map_cons, nthD, hlist, Nat.min_eq_right (Nat.le_of_lt hl)]; rfl),
    List.zip_map, List.zip_map_right, List.map_map, List.map_map]
  rfl

/-! Envelopes, pilots and delay lines -/

/-- The peak of a buffer for the only ENV record. -/
theorem Dev.envExport_only (he : b.img.envs.length = 1) :
    d.envExport e buf [0] = d.setRun e act { r with ctx := r.ctx.step, envs := assocPut 0 (ceilDiv (((b.words buf t.block).foldl (fun m w => max m (toInt 32 w).natAbs) 0) * 65535) (2 ^ 31)) r.envs } := by
  rw [Dev.envExport, Dev.onTask_running h]
  simp [hin, he]

theorem Dev.pilotAdd_off {ch : Nat} (hp : d.pilotsOn ch = false) :
    d.pilotAdd e buf ch = d.modBank e act (fun q => (q.putWords buf (((b.words buf t.block).map (toInt 32)).map (ofInt 32))).setRun { r with ctx := r.ctx.step }) := by
  rw [Dev.pilotAdd, Dev.blockPrim_within h (by simp [hin]) (by simp only [hp, Bool.false_eq_true, if_false]; rfl)]
  rfl

theorem Dev.pilotAdd_on {ch : Nat} (hp : d.pilotsOn ch = true) :
    d.pilotAdd e buf ch =
      let l := Dev.each (fun (v : Int) (d : Dev) => (satS 32 (v + (d.pilotSum ch).1), (d.pilotSum ch).2)) ((b.words buf t.block).map (toInt 32)) d
      l.2.modBank e act (fun q => (q.putWords buf (l.1.map (ofInt 32))).setRun { r with ctx := r.ctx.step }) := by
  rw [Dev.pilotAdd, Dev.blockPrim_within h (by simp [hin]) (by simp only [hp, if_true]; rfl)]
  rfl

/-- A delay line of at least a block, in memory without a bad word: the block takes the place of the one that leaves. -/
theorem Dev.delayLine_ring {m : List Host.Cell} {k len : Nat} {al : ImgAlloc} (ha : b.img.allocs[k]? = some al) (hl : al.loc = false) (h0 : 0 < len) (hmax : len ≤ 262144) (hfit : 4 * len ≤ al.size)
    (hlen : t.block ≤ len) (hb : d.tes.bad = []) :
    d.delayLine e m buf k len =
      let p := match assoc al.addr d.fac.dly with | some p => p % len | none => 0
      let at_ := fun i => al.addr + 4 * ((p + i) % len)
      let d := ((b.words buf t.block).zip (upto t.block)).foldl (fun (d : Dev) x => d.store (at_ x.2) (leBytes 4 x.1)) d
      let d := { d with fac := { d.fac with dly := assocPut al.addr ((p + t.block) % len) d.fac.dly } }
      (d.locksRenew e).modBank e act (fun q => (q.putWords buf ((upto t.block).map (fun i => memWord m (at_ i)))).setRun { r with ctx := r.ctx.step }) := by
  have htake : (al.loc || decide (len = 0) || decide (len > 262144) || decide (4 * len > al.size) || !b.inLocal buf (4 * t.block)) = false := by
    simp [hl, hin, Nat.ne_of_gt h0, Nat.not_lt.mpr hmax, Nat.not_lt.mpr hfit]
  have hgood : ∀ l : List Nat, l.find? (fun w => d.wordBad w) = none := fun l => by simp [List.find?_eq_none, Dev.wordBad_none hb]
  rw [Dev.delayLine, Dev.onTask_running h]
  simp only [ha, htake, Bool.false_eq_true, if_false, Nat.min_eq_left hlen, Nat.sub_eq_zero_of_le hlen, List.take_zero, List.drop_zero, List.append_nil, List.map_map, hgood]
  rfl

end

/-! The commands -/

/-- The primitives whose arithmetic the spec does not fix (Table 12-3). -/
theorem exec_prim {e : Nat} {areas : List (Nat × Nat)} {i : Instr} (s : State)
    (hi : i ∈ [Instr.facetBiq e areas, .facetConv e areas, .facetFft e areas, .facetIfft e areas, .facetEnv e areas, .facetComp e areas, .facetLim e areas, .facetTlu e areas]) :
    exec i s = .next (s.act (Dev.prim e areas)) := by
  simp only [List.mem_cons, List.not_mem_nil, or_false] at hi
  rcases hi with rfl | rfl | rfl | rfl | rfl | rfl | rfl | rfl <;> rfl

/-- Settles O34: each instruction by the outcome its operands have; a primitive by the free values it takes. -/
theorem sharedOps : Obligations.SharedOps := by
  unfold Obligations.SharedOps
  refine ⟨?tags, ?issue, fun s e singles doubles hits => rfl, ?transfer, ?words, ?locks, ?prims, ?blocks, ?delay⟩
  case tags =>
    intro s e act b t r h x p first count bits n
    refine ⟨fun hp hr ht => becomes_act rfl (Dev.tagRead_input h hp hr ht x), fun hp => becomes_act rfl (Dev.tagRead_other h hp x),
      fun hp hf hn hb => becomes_act rfl (Dev.tagMark_set h hp hf hn hb), fun hp hf hn hb => becomes_act rfl (Dev.tagMark_clear h hp hf hn hb),
      fun hp => ⟨becomes_act rfl (Dev.tagMark_other h hp first count bits false), becomes_act rfl (Dev.tagMark_other h hp first count bits true)⟩, ?short, ?long,
      fun y hy ha h14 h8 => becomes_act rfl (Dev.varWrite_readOnly h hy ha h14 h8 x), fun y hy ha => becomes_act rfl (Dev.varWrite_written h hy ha x)⟩
    case short => exact fun y v hy hv h8 => becomes_act rfl ((Dev.varRead_bound h hy hv x).trans (by rw [if_neg h8]))
    case long => exact fun y v hy hv h8 => becomes_act rfl ((Dev.varRead_bound h hy hv x).trans (by rw [if_pos h8]))
  case issue =>
    intro s e act b t r h k off loc words al ha
    exact ⟨fun ho hl => ⟨becomes_act rfl (Dev.dmaIssue_within h ha ho hl), becomes_act rfl (Dev.dmaIssue_within h ha ho hl)⟩,
      fun ho => ⟨becomes_act rfl (Dev.dmaIssue_beyond h ha ho), becomes_act rfl (Dev.dmaIssue_beyond h ha ho)⟩⟩
  case transfer => exact fun d e m act b t r k off loc words al h hs hb ha hl => Dev.dmaDo_read h hs hb ha hl rfl
  case words =>
    intro m d a w hs h0 h1
    refine ⟨Dev.dmaRead_clean hs ?_ m, fun _ => Dev.dmaWrite_alone d w a 5, fun _ => Dev.dmaWrite_alone d w a 5, fun hw => Dev.dmaWrite_lost hw w 5⟩
    intro i hi
    match i, hi with
    | 0, _ => exact h0
    | 1, _ => exact h1
  case locks =>
    intro e k dst hk
    have hlock : ∀ s, exec (.facetLock e dst k) s = .next (s.act (Dev.facetLock e dst k)) := fun s => by simp only [exec, execFacetLock, Nat.mod_eq_of_lt hk]
    have hunlock : ∀ s, exec (.facetUnlock e k) s = .next (s.act (Dev.facetUnlock e k)) := fun s => by simp only [exec, execFacetUnlock, Nat.mod_eq_of_lt hk]
    refine ⟨fun s act b t r h => ⟨?granted, ?held, ?freed, ?notHeld⟩, fun d hf => ⟨Dev.lockTake_granted (.inl hf), Dev.lockTake_free hf⟩⟩
    case granted => exact fun hg => becomes_act (hlock s) ((Dev.facetLock_running h dst k).trans (by rw [Dev.lockTake_granted hg]; rfl))
    case held => exact fun hf ho => becomes_act (hlock s) ((Dev.facetLock_running h dst k).trans (by rw [Dev.lockTake_held hf ho]; rfl))
    case freed => exact fun ho => becomes_act (hunlock s) ((Dev.facetUnlock_running h k).trans (by rw [if_pos ho]))
    case notHeld => exact fun ho => becomes_act (hunlock s) ((Dev.facetUnlock_running h k).trans (by rw [if_neg ho]))
  case prims =>
    intro s e act b t r h w n
    exact ⟨fun hw i hi => becomes_act (exec_prim s hi) (Dev.prim_within h hw), fun hw i hi => becomes_act (exec_prim s hi) (Dev.prim_outside h hw)⟩
  case blocks =>
    intro s e act b t r h buf x y g target left pos len code hin
    refine ⟨?linear, ?reached, fun hx hy hl power => becomes_act rfl (Dev.xfade_past h hin hx hy hl power), fun hx hy hl => becomes_act rfl (Dev.xfade_linear h hin hx hy hl),
      fun he => becomes_act rfl (Dev.envExport_only h hin he), fun hp => becomes_act rfl (Dev.pilotAdd_off h hin hp), fun hp => becomes_act rfl (Dev.pilotAdd_on h hin hp),
      becomes_act rfl (Dev.onCtx_running h _)⟩
    case linear =>
      intro _ g0 g1 m
      exact becomes_act rfl (Dev.ramp_samples h hin
        (sample := fun x z => if m ≤ x.2 + 1 then quotOf (x.1 * g1) (2 ^ 28) z else quotOf (x.1 * (g0 * m + (g1 - g0) * (x.2 + 1 : Nat))) (m * 2 ^ 28) z)
        (Dev.rampSample_linear m g0 g1) (Dev.rampGain_linear m t.block g0 g1 _))
    case reached =>
      intro h0 cosine
      refine becomes_act rfl ((Dev.ramp_samples h hin (sample := fun x z => quotOf (x.1 * toInt 32 (r.ctx.sreg target)) (2 ^ 28) z)
        (fun x => Dev.rampSample_last (by omega) _ _ _) (Dev.rampGain_reached (by omega) _ _ _ _)).trans ?_)
      rw [h0, Nat.zero_sub]
      rfl
  case delay =>
    intro s e buf k len act b t r al h _ ha hl h0 hmax hfit hin hlen hb
    exact congrArg Host.Outcome.next (State.run_congr (Dev.delayLine_ring h hin ha hl h0 hmax hfit hlen hb))

end Sys2Proof.Machine
end

section
/-! SUPPORT. The loader and the boot store (R307, R308, R310, R311). -/
namespace Sys2Proof.Machine

/-! Writes of 5480h to 5493h -/

theorem objRow_loadStart : objRow 0x548002 = some (.mk 0x5480 1 1 0x2 1 .bool .cmd 0 .none 0 0 (.nat [(0, 1)])) := rfl
theorem objRow_loadChunk : objRow 0x548003 = some (.mk 0x5480 1 1 0x3 1 .blob .wo 0 .none 0 0 (.blob 1024)) := rfl
theorem objRow_loadFinish : objRow 0x548004 = some (.mk 0x5480 1 1 0x4 1 .bool .cmd 0 .none 0 0 (.nat [(0, 1)])) := rfl
theorem objRow_bootErase : objRow 0x549300 = some (.mk 0x5493 1 1 0x0 1 .u8 .cmd 0 .none 0 0 (.nat [(0, 7)])) := rfl

/-- A write to an object of 5400h to 54FFh acts by its key and the path's number. -/
theorem Dev.actOn_facet {m : List Host.Cell} {p : Path} {i s old v : Nat} {b : List Byte} {d : Dev} (hi : i / 256 = 0x54) (hs : s < 256) :
    d.actOn m p (key i s) old v b = d.facWrite (pathBuffer p) (key i s) v b := by
  simp only [Dev.actOn, key_page i s hs, hi]

theorem Dev.facWrite_loadStart (own : Nat) (b : List Byte) (d : Dev) :
    d.facWrite own (key 0x5480 2) 1 b = { d with fac := { d.fac with staged := [], owner := some own, chunkAt := d.now } } := rfl

theorem Dev.facWrite_loadChunk (own v : Nat) (b : List Byte) (d : Dev) :
    d.facWrite own (key 0x5480 3) v b = { d with fac := { d.fac with staged := d.fac.staged ++ b, chunkAt := d.now } } := rfl

theorem Dev.facWrite_loadFinish (own : Nat) (b : List Byte) (d : Dev) :
    d.facWrite own (key 0x5480 4) 1 b = (({ d with fac := { d.fac with checking := true, owner := none } } : Dev).put 0x548005 1).put 0x548006 0 := rfl

theorem Dev.facWrite_bootErase (own v : Nat) (b : List Byte) (d : Dev) : d.facWrite own (key 0x5493 0) v b = d.bootSet v none := rfl

/-- A command object of the loader: the write does what the Facet array does with its value. -/
theorem writes_loader {i : Instr} {a : Access} {ix sub v : Nat} {r : ObjRow} {f : Dev → Dev} (hi : ∀ s, exec i s = .next (s.quiet (Dev.hostSet a (key ix sub) v)))
    (hr : objRow (key ix sub) = some r) (hc : r.acc = .cmd) (hb : r.ty.isBytes = false) (hn : (Obj.ofRow r (key ix sub)).norm v = v) (hx : ix / 256 = 0x54) (hs : sub < 256)
    (hf : ∀ d : Dev, d.facWrite (pathBuffer a.path) (key ix sub) v [] = f d) : writes i a (key ix sub) v (fun _ => True) f :=
  writes_cmd hi hr hc hb hn fun _ d _ => (Dev.actOn_facet hx hs).trans (hf d)

theorem writesBytes_loadChunk (a : Access) (b : List Byte) :
    writesBytes (.loadChunk a) a 0x548003 b (fun _ => True) (fun d => { d with fac := { d.fac with staged := d.fac.staged ++ b, chunkAt := d.now } }) :=
  writesBytes_blob (fun _ => rfl) objRow_loadChunk (by decide) fun _ _ _ =>
    (Dev.takeNow_acts rfl).trans ((Dev.actOn_facet (i := 0x5480) (s := 3) rfl (by decide)).trans (Dev.facWrite_loadChunk _ _ _ _))

/-! The result of the checks -/

@[simp] theorem Dev.loadEnd_stores (code detail : Nat) (d : Dev) : (d.loadEnd code detail).stores = d.stores := by simp [Dev.loadEnd]

@[simp] theorem Dev.bootSet_stores (slot : Nat) (x : Option (List Byte × Verdict)) (d : Dev) : (d.bootSet slot x).stores = d.stores := by
  cases x <;> rfl

section
variable {d : Dev} (hc : d.fac.checking = true) (v : Verdict)
include hc

/-- An uncorrectable word of the staging area ends the load. -/
theorem Dev.loadResult_bad (o : Nat) : d.loadResult v (some o) = (d.eccBad (0x700000 + o)).loadEnd 3 o := by
  simp [Dev.loadResult, hc]

/-- A check that fails names itself. -/
theorem Dev.loadResult_refused {c x : Nat} (h : d.checkImage (d.get 0x548000) v d.fac.staged = .error (c, x)) : d.loadResult v none = d.loadEnd c x := by
  simp [Dev.loadResult, hc, h]

theorem Dev.loadResult_installed {i : Image} {t : Dev} (hdest : d.get 0x548001 = 0) (h : d.checkImage (d.get 0x548000) v d.fac.staged = .ok i)
    (ht : d.install (d.get 0x548000) i = .ok t) : d.loadResult v none = t.loadEnd 2 i.size := by
  simp [Dev.loadResult, hc, hdest, h, ht]

theorem Dev.loadResult_stored {i : Image} (hdest : d.get 0x548001 = 1) (hm : d.mode ≠ 10) (h : d.checkImage (d.get 0x548000) v d.fac.staged = .ok i) (hp : i.portBad = none)
    (hs : i.size ≤ 163840 - d.bootUsed (d.get 0x548000)) :
    d.loadResult v none = (d.bootSet (d.get 0x548000) (some (d.fac.staged.take i.size, v))).loadEnd 2 i.size := by
  simp [Dev.loadResult, hc, hdest, hm, h, hp, Nat.not_lt.mpr hs]

end

/-- The FORMAT check comes first, and gives the offset at fault. -/
theorem Dev.checkImage_format {d : Dev} {e o : Nat} {v : Verdict} {b : List Byte} (h : readImage v b = .error o) : d.checkImage e v b = .error (3, o) := by
  simp [Dev.checkImage, h]

/-! The loader's owner -/

theorem Dev.ownerTimeout_silent {d : Dev} (ho : d.fac.owner.isSome = true) (ht : d.fac.chunkAt + 10000000000 ≤ d.now) : d.ownerTimeout = { d with fac := { d.fac with owner := none } } := by
  simp [Dev.ownerTimeout, ho, ht, Dev.ownerEnd]

theorem Dev.ownerTimeout_early {d : Dev} (ht : d.now < d.fac.chunkAt + 10000000000) : d.ownerTimeout = d := by
  simp [Dev.ownerTimeout, Nat.not_le.mpr ht]

/-- Settles O35: the writes by what the loader does with their value, the result of the checks by what they found, and the owner by its silence. -/
theorem loader : Obligations.Loader := by
  unfold Obligations.Loader
  refine ⟨?start, writesBytes_loadChunk, ?finish, ?bad, ?refused, ?installed, ?stored, fun d e v b o => Dev.checkImage_format, ?timeout, ?erase⟩
  case start => exact fun a => writes_loader (ix := 0x5480) (sub := 2) (fun _ => rfl) objRow_loadStart rfl rfl rfl rfl (by decide) (Dev.facWrite_loadStart _ _)
  case finish => exact fun a => writes_loader (ix := 0x5480) (sub := 4) (fun _ => rfl) objRow_loadFinish rfl rfl rfl rfl (by decide) (Dev.facWrite_loadFinish _ _)
  case bad => exact fun s v o hc => congrArg Host.Outcome.next (State.run_congr (Dev.loadResult_bad hc v o))
  case refused => exact fun s v c x hc hs h => becomes_run rfl (Dev.loadResult_refused hc v h) (Dev.loadEnd_stores _ _ _) hs
  case installed => exact fun s v i t hc hdest h ht => congrArg Host.Outcome.next (State.run_congr (Dev.loadResult_installed hc v hdest h ht))
  case stored =>
    exact fun s v i hc hs hdest hm h hp hsize => becomes_run rfl (Dev.loadResult_stored hc v hdest (by rw [hm]; decide) h hp hsize) (by simp) hs
  case timeout => exact fun s => ⟨fun ho ht => becomes_act rfl (Dev.ownerTimeout_silent ho ht), fun ht => becomes_act rfl (Dev.ownerTimeout_early ht)⟩
  case erase => exact fun a v => writes_loader (ix := 0x5493) (sub := 0) (fun _ => rfl) objRow_bootErase rfl rfl rfl rfl (by decide) (Dev.facWrite_bootErase _ v _)

end Sys2Proof.Machine
end

section
/-! SUPPORT. The engines of the Facet array: their banks and objects, what stops and fences one, and the task that runs (R289, R302, R317, R318, R416). -/
namespace Sys2Proof.Machine

/-! An engine changed -/

theorem modNth_length {β : Type} (f : β → β) (l : List β) (n : Nat) : (modNth f l n).length = l.length := by
  induction l generalizing n with
  | nil => rfl
  | cons a t ih =>
    cases n with
    | zero => rfl
    | succ n => exact congrArg (· + 1) (ih n)

@[simp] theorem Dev.modEng_stores (e : Nat) (f : Eng → Eng) (d : Dev) : (d.modEng e f).stores = d.stores := rfl
@[simp] theorem Dev.get_modEng (e k : Nat) (f : Eng → Eng) (d : Dev) : (d.modEng e f).get k = d.get k := rfl
@[simp] theorem Dev.setRun_stores (e : Nat) (act : Bool) (r : TaskRun) (d : Dev) : (d.setRun e act r).stores = d.stores := rfl

@[simp] theorem Dev.modEng_engs_length (e : Nat) (f : Eng → Eng) (d : Dev) : (d.modEng e f).fac.engs.length = d.fac.engs.length := modNth_length f d.fac.engs e

theorem Dev.eng_modEng_same {e : Nat} {d : Dev} (h : e < d.fac.engs.length) (f : Eng → Eng) : (d.modEng e f).eng e = f (d.eng e) := nthD_modNth_same ({} : Eng) f d.fac.engs e h
theorem Dev.eng_modEng_other {e j : Nat} (h : j ≠ e) (f : Eng → Eng) (d : Dev) : (d.modEng e f).eng j = d.eng j := nthD_modNth_other ({} : Eng) f d.fac.engs h

/-- An engine beyond the list is an engine at rest. -/
theorem Dev.eng_beyond {e : Nat} {d : Dev} (h : d.fac.engs.length ≤ e) : d.eng e = {} := by
  suffices hgen : ∀ (l : List Eng) (e : Nat), l.length ≤ e → nthD {} l e = {} from hgen d.fac.engs e h
  intro l
  induction l with
  | nil => exact fun _ _ => rfl
  | cons a t ih =>
    intro e h
    cases e with
    | zero => exact absurd h (Nat.not_succ_le_zero _)
    | succ e => exact ih e (Nat.le_of_succ_le_succ h)

theorem Dev.lt_of_eng_ne {e : Nat} {d : Dev} (h : d.eng e ≠ {}) : e < d.fac.engs.length :=
  Nat.lt_of_not_le fun hlen => h (Dev.eng_beyond hlen)

theorem Dev.lt_of_active {e : Nat} {d : Dev} {b : Bank} (h : (d.eng e).active = some b) : e < d.fac.engs.length :=
  Dev.lt_of_eng_ne fun h0 => by rw [h0] at h; cases h

theorem Dev.lt_of_clkAt {e : Nat} {d : Dev} {p : Nat × Bool} (h : (d.eng e).clkAt = some p) : e < d.fac.engs.length :=
  Dev.lt_of_eng_ne fun h0 => by rw [h0] at h; cases h

theorem Dev.eng_of_engs {d x : Dev} (h : x.fac.engs = d.fac.engs) (e : Nat) : x.eng e = d.eng e := by rw [Dev.eng, Dev.eng, h]

/-! The objects of the engines, 5400h to 5407h -/

def engineKey (k : Nat) : Prop := 0x540000 ≤ k ∧ k < 0x540800

theorem engineKey_key {e s : Nat} (he : e < 8) (hs : s < 256) : engineKey (key (0x5400 + e) s) := by unfold engineKey key; omega

theorem engineKey.ne_modeRequest {j : Nat} (hj : engineKey j) : j ≠ kModeRequest := by
  rintro rfl
  exact absurd hj.1 (by decide)

theorem Dev.get_engine_put {j k : Nat} (hj : engineKey j) (hk : ¬ engineKey k) (v : Nat) (d : Dev) : (d.put k v).get j = d.get j :=
  Dev.get_put_other j k v d (fun h => hk (h ▸ hj)) (.inl hj.ne_modeRequest)

theorem Dev.get_engine_inc {j k : Nat} (hj : engineKey j) (hk : ¬ engineKey k) (d : Dev) : (d.inc k).get j = d.get j := Dev.get_engine_put hj hk _ d

theorem Dev.get_engine_raise {j e : Nat} (hj : engineKey j) (he : e < 128) (d : Dev) : (d.raise e).get j = d.get j :=
  Dev.get_raise e j d he (by unfold engineKey at hj; unfold fabricKey; omega)

theorem Dev.get_engine_bbMake {j : Nat} (hj : engineKey j) (kind severity code unit c0 c1 : Nat) (d : Dev) : (d.bbMake kind severity code unit c0 c1).get j = d.get j :=
  Dev.get_bbMake kind severity code unit c0 c1 j d (by unfold engineKey at hj; unfold fabricKey; omega) (by unfold engineKey at hj; unfold bbKey; omega)

theorem lockObj_not_engine (k : Nat) : ¬ engineKey (lockObj k) := by unfold engineKey lockObj key; omega

/-! Locks -/

@[simp] theorem Dev.lockFree_fac (k : Nat) (d : Dev) : (d.lockFree k).fac = d.fac := rfl
@[simp] theorem Dev.lockFree_stores (k : Nat) (d : Dev) : (d.lockFree k).stores = d.stores := rfl

theorem Dev.get_engine_lockFree {j : Nat} (hj : engineKey j) (k : Nat) (d : Dev) : (d.lockFree k).get j = d.get j := by
  have hlease : ¬ engineKey (key 0x5831 k) := by unfold engineKey key; omega
  unfold Dev.lockFree
  rw [Dev.get_engine_put hj hlease]
  exact Dev.get_engine_put hj (lockObj_not_engine k) _ d

/-- What freeing one lock leaves as it is, freeing a holder's locks does. -/
theorem Dev.locksFree_keeps {β : Type} {P : Dev → β} (h : ∀ (k : Nat) (d : Dev), P (d.lockFree k) = P d) (holder : Nat) (d : Dev) : P (d.locksFree holder) = P d :=
  foldl_keeps P _ (fun d k => (apply_ite P _ _ d).trans (by rw [h, ite_self])) _ d

@[simp] theorem Dev.locksFree_fac (holder : Nat) (d : Dev) : (d.locksFree holder).fac = d.fac := Dev.locksFree_keeps (P := Dev.fac) Dev.lockFree_fac holder d
@[simp] theorem Dev.locksFree_stores (holder : Nat) (d : Dev) : (d.locksFree holder).stores = d.stores := Dev.locksFree_keeps Dev.lockFree_stores holder d
theorem Dev.get_engine_locksFree {j : Nat} (hj : engineKey j) (holder : Nat) (d : Dev) : (d.locksFree holder).get j = d.get j :=
  Dev.locksFree_keeps (P := fun d => d.get j) (Dev.get_engine_lockFree hj) holder d

/-! Envelope slots -/

/-- What the objects 5601.00 and 5602.00 and an event leave as it is, a slot's missing bit does. -/
theorem Dev.envMissing_keeps {β : Type} {P : Dev → β} (hp : ∀ (v : Nat) (d : Dev), P (d.put 0x560100 v) = P d) (hc : ∀ (v : Nat) (d : Dev), P (d.put 0x560200 v) = P d) (hr : ∀ d : Dev, P (d.raise 97) = P d)
    (n : Nat) (miss : Bool) (d : Dev) : P (d.envMissing n miss) = P d := by
  unfold Dev.envMissing
  split
  · rfl
  · cases miss
    · exact (hr _).trans (hp _ d)
    · exact (hr _).trans ((hc _ _).trans (hp _ d))

@[simp] theorem Dev.envMissing_fac (n : Nat) (miss : Bool) (d : Dev) : (d.envMissing n miss).fac = d.fac :=
  Dev.envMissing_keeps (P := Dev.fac) (fun _ _ => rfl) (fun _ _ => rfl) (fun _ => Dev.raise_fac _ _) n miss d
@[simp] theorem Dev.envMissing_stores (n : Nat) (miss : Bool) (d : Dev) : (d.envMissing n miss).stores = d.stores :=
  Dev.envMissing_keeps (P := Dev.stores) (fun _ _ => rfl) (fun _ _ => rfl) (fun _ => Dev.raise_stores _ _) n miss d
theorem Dev.get_engine_envMissing {j : Nat} (hj : engineKey j) (n : Nat) (miss : Bool) (d : Dev) : (d.envMissing n miss).get j = d.get j :=
  Dev.envMissing_keeps (P := fun d => d.get j) (fun v d => Dev.get_engine_put hj (by unfold engineKey; omega) v d) (fun v d => Dev.get_engine_put hj (by unfold engineKey; omega) v d)
    (fun d => Dev.get_engine_raise hj (by decide) d) n miss d

/-- What one slot's missing bit leaves as it is, an image's slots do. -/
theorem Dev.envLose_keeps {β : Type} {P : Dev → β} (h : ∀ (n : Nat) (d : Dev), P (d.envMissing n true) = P d) (i : Image) (d : Dev) : P (d.envLose i) = P d :=
  foldl_keeps P _ (fun d x => (apply_ite P _ _ d).trans (by rw [h, ite_self])) _ d

/-- The slots of a task's ports, as its release ended: no engine changes, and nothing is stored. -/
theorem Dev.envEnd_keeps {β : Type} {P : Dev → β} (hm : ∀ (n : Nat) (miss : Bool) (d : Dev), P (d.envMissing n miss) = P d) (hp : ∀ (k v : Nat) (d : Dev), P (d.put k v) = P d)
    (hq : ∀ (l : List (Nat × Nat × Nat × Nat)) (d : Dev), P { d with fac := { d.fac with envQ := l } } = P d) (b : Bank) (t : ImgTask) (r : TaskRun) (n : Nat) (d : Dev) :
    P (d.envEnd b t r n) = P d := by
  refine foldl_keeps P _ (fun d x => ?_) _ d
  dsimp only
  split
  · rfl
  · split
    · exact (hq _ _).trans ((hm _ _ _).trans (hp _ _ d))
    · exact hm _ _ d

theorem Dev.envEnd_engs (b : Bank) (t : ImgTask) (r : TaskRun) (n : Nat) (d : Dev) : (d.envEnd b t r n).fac.engs = d.fac.engs :=
  Dev.envEnd_keeps (P := fun d => d.fac.engs) (fun n miss d => congrArg Fac.engs (d.envMissing_fac n miss)) (fun _ _ _ => rfl) (fun _ _ => rfl) b t r n d
@[simp] theorem Dev.envEnd_stores (b : Bank) (t : ImgTask) (r : TaskRun) (n : Nat) (d : Dev) : (d.envEnd b t r n).stores = d.stores :=
  Dev.envEnd_keeps (P := Dev.stores) Dev.envMissing_stores (fun _ _ _ => rfl) (fun _ _ => rfl) b t r n d

/-! ENGINE_STATE -/

@[simp] theorem Dev.setEng_fac (e s : Nat) (d : Dev) : (d.setEng e s).fac = d.fac := by
  unfold Dev.setEng
  split
  · rfl
  · exact Dev.raise_fac _ _

@[simp] theorem Dev.setEng_stores (e s : Nat) (d : Dev) : (d.setEng e s).stores = d.stores := by
  unfold Dev.setEng
  split
  · rfl
  · exact Dev.raise_stores _ _

theorem Dev.engState_setEng {e : Nat} (he : e < 8) (s : Nat) (d : Dev) : (d.setEng e s).engState e = s := by
  unfold Dev.setEng
  split
  case isTrue h => exact h
  case isFalse => exact (Dev.get_engine_raise (engineKey_key he (by decide)) (by decide) _).trans (Dev.get_put_same _ _ d)

/-- Another object of an engine stays as its state changes. -/
theorem Dev.get_engine_setEng {e j : Nat} (hj : engineKey j) (h : j ≠ key (0x5400 + e) 1) (s : Nat) (d : Dev) : (d.setEng e s).get j = d.get j := by
  unfold Dev.setEng
  split
  · rfl
  · exact (Dev.get_engine_raise hj (by decide) _).trans (Dev.get_put_other j _ s d h (.inl hj.ne_modeRequest))

/-! A running engine stops -/

/-- What a stop leaves as it is: whatever its engine, its locks, its envelope slots and its state leave. -/
theorem Dev.engHalt_keeps {β : Type} {P : Dev → β} {e : Nat} (hm : ∀ (f : Eng → Eng) (d : Dev), P (d.modEng e f) = P d) (hl : ∀ d : Dev, P (d.locksFree e) = P d)
    (hv : ∀ (i : Image) (d : Dev), P (d.envLose i) = P d) (hs : ∀ d : Dev, P (d.setEng e 1) = P d) (d : Dev) : P (d.engHalt e) = P d := by
  unfold Dev.engHalt
  extract_lets quiet d1 d2 d3
  have h3 : P d3 = P d2 := by
    simp only [d3]
    split
    · exact hv _ _
    · rfl
  exact (hs d3).trans (h3.trans ((hl d1).trans (hm _ d)))

theorem Dev.engHalt_engs_length (e : Nat) (d : Dev) : (d.engHalt e).fac.engs.length = d.fac.engs.length :=
  Dev.engHalt_keeps (P := fun d => d.fac.engs.length) (fun _ _ => Dev.modEng_engs_length _ _ _) (fun d => by rw [Dev.locksFree_fac])
    (fun i d => congrArg (fun f : Fac => f.engs.length) (Dev.envLose_keeps (P := Dev.fac) (fun _ _ => Dev.envMissing_fac _ _ _) i d)) (fun d => by rw [Dev.setEng_fac]) d

@[simp] theorem Dev.engHalt_stores (e : Nat) (d : Dev) : (d.engHalt e).stores = d.stores :=
  Dev.engHalt_keeps (fun _ _ => rfl) (Dev.locksFree_stores e) (Dev.envLose_keeps fun _ _ => Dev.envMissing_stores _ _ _) (Dev.setEng_stores e 1) d

theorem Dev.get_engine_engHalt {e j : Nat} (hj : engineKey j) (h : j ≠ key (0x5400 + e) 1) (d : Dev) : (d.engHalt e).get j = d.get j :=
  Dev.engHalt_keeps (P := fun d => d.get j) (fun _ _ => rfl) (Dev.get_engine_locksFree hj e) (Dev.envLose_keeps (P := fun d => d.get j) fun _ _ => Dev.get_engine_envMissing hj _ _ _) (Dev.get_engine_setEng hj h 1) d

/-! An action that fails -/

@[simp] theorem Dev.actionFail_fac (index sub code source : Nat) (d : Dev) : (d.actionFail index sub code source).fac = d.fac := by
  unfold Dev.actionFail
  extract_lets d1
  rw [apply_ite Dev.fac, Dev.raiseQuiet_fac, Dev.raise_fac, ite_self]
  rfl

@[simp] theorem Dev.actionFail_stores (index sub code source : Nat) (d : Dev) : (d.actionFail index sub code source).stores = d.stores := by
  unfold Dev.actionFail
  extract_lets d1
  rw [apply_ite Dev.stores, Dev.raiseQuiet_stores, Dev.raise_stores, ite_self]
  rfl

theorem Dev.get_engine_logError {j : Nat} (hj : engineKey j) (index sub code source session rule : Nat) (d : Dev) : (d.logError index sub code source session rule).get j = d.get j :=
  Dev.get_engine_inc hj (by unfold engineKey; decide) (d.putBlob _ _)

/-- The failure of an action of the Locus table. -/
theorem Dev.get_engine_actionFail {j : Nat} (hj : engineKey j) (index sub code : Nat) (d : Dev) : (d.actionFail index sub code 3).get j = d.get j :=
  (Dev.get_engine_raise hj (by decide) _).trans ((Dev.get_engine_inc hj (by unfold engineKey; omega) _).trans (Dev.get_engine_logError hj _ _ _ _ _ _ d))

end Sys2Proof.Machine
end

section
/-! SUPPORT. Engine faults, stage by stage, and the retry of AUTO_RECOVER (R316 to R318). -/
namespace Sys2Proof.Machine

/-! The stages of a fault -/

/-- A fault's cause and place in 5400+e.04 and 05, and its count. -/
def Dev.faultNote (e cause addr task : Nat) (standby : Bool) (d : Dev) : Dev :=
  d.does [Dev.put (key (0x5400 + e) 4) (d.get (key (0x5400 + e) 4) ||| 2 ^ cause), Dev.put (key (0x5400 + e) 5) (addr % 65536 + 65536 * task + 1048576 * b2n standby), Dev.inc (key (0x5400 + e) 0xF)]

/-- The lock `k` of the engine revoked. -/
def Dev.faultRevoke (e k : Nat) (d : Dev) : Dev := ((((d.lockFree k).inc 0x583200).bbMake 7 1 109 (e + 1) 1 k).raise 109).raise 5

/-- The engine stopped and fenced, a swap that waited for it dropped. -/
def Dev.faultFence (e : Nat) (d : Dev) : Dev := (d.engHalt e).modEng e (fun x => { x with fenced := true, swapAt := none, swapKey := none })

/-- The Locus entry, if any, whose swap a fault drops fails. -/
def Dev.faultSwap (pending : Bool) (slot : Option Nat) (d : Dev) : Dev :=
  match slot with | some k => if pending then d.actionFail (k / 256) (k % 256) eRange 3 else d | none => d

/-- The state FAULT, the record and EV99. -/
def Dev.faultRecord (e : Nat) (d : Dev) : Dev := ((d.setEng e 3).bbMake 6 2 99 e ((d.setEng e 3).get (key (0x5400 + e) 4)) ((d.setEng e 3).get (key (0x5400 + e) 5))).raise 99

/-- The recoveries of the last 60 s, and the next one where AUTO_RECOVER allows it (R318). -/
def Dev.faultRetry (e : Nat) (d : Dev) : Dev :=
  let recent := (d.eng e).recovers.filter (fun t => t + 60000000000 > d.now)
  if d.get (key (0x5400 + e) 9) = 1 && recent.length < 3 then d.modEng e (fun x => { x with recoverAt := some (d.now + 100000000), recovers := recent })
  else d.modEng e (fun x => { x with recoverAt := none, recovers := recent })

/-- The part once a running engine has noted its fault and lost its locks. -/
def Dev.faultBegun (e cause addr task : Nat) (standby : Bool) (d : Dev) : Dev :=
  ((upto 16).filter (fun k => (d.faultNote e cause addr task standby).get (lockObj k) == e)).foldl (fun (a : Dev) k => a.faultRevoke e k) (d.faultNote e cause addr task standby)

/-- A fault of an engine that runs. -/
theorem Dev.engFault_running {d : Dev} {e : Nat} (he : e < 8) (hs : d.engState e = 2) (cause addr task : Nat) (standby : Bool) :
    d.engFault e cause addr task standby =
      let x := d.faultBegun e cause addr task standby
      (((x.faultFence e).faultSwap (x.eng e).swapAt.isSome (x.eng e).swapKey).faultRecord e).faultRetry e := by
  have hgo : ¬ (decide (e ≥ 8) || decide (d.engState e ≠ 2)) = true := by simp [hs, he]
  exact if_neg hgo

theorem Dev.engFault_idle {d : Dev} {e : Nat} (h : ¬ (e < 8 ∧ d.engState e = 2)) (cause addr task : Nat) (standby : Bool) : d.engFault e cause addr task standby = d := by
  refine if_pos ?_
  rw [Bool.or_eq_true, decide_eq_true_eq, decide_eq_true_eq]
  by_cases he : e < 8
  · exact .inr fun hs => h ⟨he, hs⟩
  · exact .inl (Nat.not_lt.mp he)

/-! What each stage leaves as it is -/


theorem Dev.faultRevoke_fac (e k : Nat) (d : Dev) : (d.faultRevoke e k).fac = d.fac := by simp [Dev.faultRevoke]
theorem Dev.faultRevoke_stores (e k : Nat) (d : Dev) : (d.faultRevoke e k).stores = d.stores := by simp [Dev.faultRevoke]

theorem Dev.get_engine_faultRevoke {j : Nat} (hj : engineKey j) (e k : Nat) (d : Dev) : (d.faultRevoke e k).get j = d.get j := by
  have hcount : ¬ engineKey 0x583200 := by unfold engineKey; omega
  rw [Dev.faultRevoke, Dev.get_engine_raise hj (by decide), Dev.get_engine_raise hj (by decide), Dev.get_engine_bbMake hj, Dev.get_engine_inc hj hcount, Dev.get_engine_lockFree hj]

theorem Dev.faultBegun_fac (e cause addr task : Nat) (standby : Bool) (d : Dev) : (d.faultBegun e cause addr task standby).fac = d.fac :=
  foldl_keeps Dev.fac _ (fun d k => Dev.faultRevoke_fac e k d) _ (d.faultNote e cause addr task standby)

theorem Dev.faultBegun_stores (e cause addr task : Nat) (standby : Bool) (d : Dev) : (d.faultBegun e cause addr task standby).stores = d.stores :=
  foldl_keeps Dev.stores _ (fun d k => Dev.faultRevoke_stores e k d) _ (d.faultNote e cause addr task standby)

theorem Dev.get_engine_faultBegun {j : Nat} (hj : engineKey j) (e cause addr task : Nat) (standby : Bool) (d : Dev) :
    (d.faultBegun e cause addr task standby).get j = (d.faultNote e cause addr task standby).get j :=
  foldl_keeps (fun d => d.get j) _ (fun d k => Dev.get_engine_faultRevoke hj e k d) _ _

theorem Dev.faultFence_stores (e : Nat) (d : Dev) : (d.faultFence e).stores = d.stores := (Dev.modEng_stores e _ (d.engHalt e)).trans (Dev.engHalt_stores e d)

theorem Dev.get_engine_faultFence {e j : Nat} (hj : engineKey j) (h : j ≠ key (0x5400 + e) 1) (d : Dev) : (d.faultFence e).get j = d.get j :=
  (Dev.get_modEng e j _ (d.engHalt e)).trans (Dev.get_engine_engHalt hj h d)

theorem Dev.eng_faultFence {e : Nat} {d : Dev} (h : e < d.fac.engs.length) : ((d.faultFence e).eng e).fenced = true ∧ ((d.faultFence e).eng e).swapAt = none := by
  have hlen : e < (d.engHalt e).fac.engs.length := by rwa [Dev.engHalt_engs_length]
  rw [Dev.faultFence, Dev.eng_modEng_same hlen]
  exact ⟨rfl, rfl⟩

/-- What a failed action leaves as it is, the failure of the dropped swap does. -/
theorem Dev.faultSwap_keeps {β : Type} {P : Dev → β} (h : ∀ (i s c : Nat) (d : Dev), P (d.actionFail i s c 3) = P d) (pending : Bool) (slot : Option Nat) (d : Dev) : P (d.faultSwap pending slot) = P d := by
  unfold Dev.faultSwap
  split
  · split
    · exact h _ _ _ d
    · rfl
  · rfl

theorem Dev.faultRecord_fac (e : Nat) (d : Dev) : (d.faultRecord e).fac = d.fac := by simp [Dev.faultRecord]
theorem Dev.faultRecord_stores (e : Nat) (d : Dev) : (d.faultRecord e).stores = d.stores := by simp [Dev.faultRecord]

theorem Dev.get_engine_faultRecord {j : Nat} (hj : engineKey j) (e : Nat) (d : Dev) : (d.faultRecord e).get j = (d.setEng e 3).get j := by
  rw [Dev.faultRecord, Dev.get_engine_raise hj (by decide), Dev.get_engine_bbMake hj]

theorem Dev.faultRetry_stores (e : Nat) (d : Dev) : (d.faultRetry e).stores = d.stores := by
  unfold Dev.faultRetry
  extract_lets recent
  split <;> rfl

theorem Dev.get_faultRetry (e j : Nat) (d : Dev) : (d.faultRetry e).get j = d.get j := by
  unfold Dev.faultRetry
  extract_lets recent
  split <;> rfl

theorem Dev.eng_faultRetry {e : Nat} {d : Dev} (h : e < d.fac.engs.length) : ((d.faultRetry e).eng e).fenced = (d.eng e).fenced ∧ ((d.faultRetry e).eng e).swapAt = (d.eng e).swapAt := by
  unfold Dev.faultRetry
  extract_lets recent
  split <;> (rw [Dev.eng_modEng_same h]; exact ⟨rfl, rfl⟩)

/-! A fault as a whole -/

@[simp] theorem Dev.engFault_stores (e cause addr task : Nat) (standby : Bool) (d : Dev) : (d.engFault e cause addr task standby).stores = d.stores := by
  by_cases h : e < 8 ∧ d.engState e = 2
  · rw [Dev.engFault_running h.1 h.2]
    exact (Dev.faultRetry_stores _ _).trans ((Dev.faultRecord_stores _ _).trans ((Dev.faultSwap_keeps (P := Dev.stores) (fun _ _ _ => Dev.actionFail_stores _ _ _ 3) _ _ _).trans
      ((Dev.faultFence_stores _ _).trans (Dev.faultBegun_stores _ _ _ _ _ d))))
  · rw [Dev.engFault_idle h]

section
variable {d : Dev} {e : Nat} (he : e < 8) (hs : d.engState e = 2) (cause addr task : Nat) (standby : Bool)
include he hs

/-- An object of the engine beside its state is as the fault noted it. -/
theorem Dev.get_engFault {s : Nat} (hsub : s < 256) (h1 : s ≠ 1) : (d.engFault e cause addr task standby).get (key (0x5400 + e) s) = (d.faultNote e cause addr task standby).get (key (0x5400 + e) s) := by
  have hj : engineKey (key (0x5400 + e) s) := engineKey_key he hsub
  have hstate : key (0x5400 + e) s ≠ key (0x5400 + e) 1 := by unfold key; omega
  rw [Dev.engFault_running he hs]
  dsimp only
  rw [Dev.get_faultRetry, Dev.get_engine_faultRecord hj, Dev.get_engine_setEng hj hstate, Dev.faultSwap_keeps (P := fun d => d.get (key (0x5400 + e) s)) (Dev.get_engine_actionFail hj),
    Dev.get_engine_faultFence hj hstate, Dev.get_engine_faultBegun hj]

theorem Dev.engState_engFault : (d.engFault e cause addr task standby).engState e = 3 := by
  rw [Dev.engFault_running he hs]
  exact (Dev.get_faultRetry e _ _).trans ((Dev.get_engine_faultRecord (engineKey_key he (by decide)) e _).trans (Dev.engState_setEng he 3 _))

theorem Dev.eng_engFault (hlen : e < d.fac.engs.length) : ((d.engFault e cause addr task standby).eng e).fenced = true ∧ ((d.engFault e cause addr task standby).eng e).swapAt = none := by
  rw [Dev.engFault_running he hs]
  extract_lets x
  have hx : e < x.fac.engs.length := by rwa [Dev.faultBegun_fac]
  have hfac : ((((x.faultFence e).faultSwap (x.eng e).swapAt.isSome (x.eng e).swapKey).faultRecord e)).fac = (x.faultFence e).fac :=
    (Dev.faultRecord_fac e _).trans (Dev.faultSwap_keeps (P := Dev.fac) (fun _ _ _ _ => Dev.actionFail_fac _ _ _ 3 _) _ _ _)
  have hrecord : e < ((((x.faultFence e).faultSwap (x.eng e).swapAt.isSome (x.eng e).swapKey).faultRecord e)).fac.engs.length := by
    rw [hfac, Dev.faultFence, Dev.modEng_engs_length, Dev.engHalt_engs_length]
    exact hx
  rw [(Dev.eng_faultRetry hrecord).1, (Dev.eng_faultRetry hrecord).2, Dev.eng_of_engs (congrArg Fac.engs hfac)]
  exact Dev.eng_faultFence hx

theorem Dev.get_faultCause : (d.engFault e cause addr task standby).get (key (0x5400 + e) 4) = d.get (key (0x5400 + e) 4) ||| 2 ^ cause := by
  rw [Dev.get_engFault he hs _ _ _ _ (by decide) (by decide)]
  have hj : engineKey (key (0x5400 + e) 4) := engineKey_key he (by decide)
  refine (Dev.get_put_other _ _ _ _ (by unfold key; omega) (.inl hj.ne_modeRequest)).trans ?_
  exact (Dev.get_put_other _ _ _ _ (by unfold key; omega) (.inl hj.ne_modeRequest)).trans (Dev.get_put_same _ _ d)

theorem Dev.get_faultPlace (ha : addr < 65536) : (d.engFault e cause addr task standby).get (key (0x5400 + e) 5) = addr + 65536 * task + 1048576 * b2n standby := by
  rw [Dev.get_engFault he hs _ _ _ _ (by decide) (by decide)]
  have hj : engineKey (key (0x5400 + e) 5) := engineKey_key he (by decide)
  refine (Dev.get_put_other _ _ _ _ (by unfold key; omega) (.inl hj.ne_modeRequest)).trans ((Dev.get_put_same _ _ _).trans ?_)
  rw [Nat.mod_eq_of_lt ha]

end

end Sys2Proof.Machine
end

section
/-! SUPPORT. Releases of tasks: their start, their end, their deadline, and the clock of the engines (R288, R291, R296, R300, R316). -/
namespace Sys2Proof.Machine

/-! The task that runs -/

/-- What is picked out of a list, by a rule that keeps what it has or takes the next, is of the list. -/
theorem mem_of_foldl_pick {α : Type} {f : Option α → α → Option α} (hf : ∀ a c, f a c = a ∨ f a c = some c) {l : List α} {a : Option α} {m : α} (h : l.foldl f a = some m) : a = some m ∨ m ∈ l := by
  induction l generalizing a with
  | nil => exact .inl h
  | cons c t ih =>
    rcases ih h with h1 | h1
    · rcases hf a c with h2 | h2
      · exact .inl (h2.symm.trans h1)
      · exact .inr (List.mem_cons.mpr (.inl (Option.some.inj (h2.symm.trans h1)).symm))
    · exact .inr (List.mem_cons_of_mem _ h1)

/-- The task an engine runs is one of a bank's, of the active one where the flag says so, and the engine runs. -/
theorem Dev.current_some {d : Dev} {e : Nat} {act : Bool} {b : Bank} {t : ImgTask} {r : TaskRun} (h : d.current e = some (act, b, t, r)) :
    d.engState e = 2 ∧ (if act then (d.eng e).active else (d.eng e).standby) = some b := by
  unfold Dev.current at h
  extract_lets x of l at h
  split at h
  · cases h
  case isFalse hs =>
    refine ⟨Decidable.not_not.mp hs, ?_⟩
    have hof : ∀ (act' : Bool) (o : Option Bank), (act, b, t, r) ∈ of act' o → act = act' ∧ o = some b := by
      intro act' o hm
      cases o with
      | none => cases hm
      | some b' =>
        obtain ⟨t', -, ht⟩ := List.mem_filterMap.mp hm
        dsimp only at ht
        split at ht
        · cases ht; exact ⟨rfl, rfl⟩
        · cases ht
    have hmem := mem_of_foldl_pick (fun a c => ?_) h
    · rcases hmem with hnone | hmem
      · cases hnone
      · rcases List.mem_append.mp hmem with hm | hm
        · obtain ⟨rfl, ho⟩ := hof _ _ hm
          exact ho
        · obtain ⟨rfl, ho⟩ := hof _ _ hm
          exact ho
    · cases a with
      | none => exact .inr rfl
      | some m =>
        dsimp only
        split
        · exact .inr rfl
        · exact .inl rfl

/-! Commands of an engine's number -/

/-- A command of an engine's number acts on the part where there is such an engine. -/
theorem becomes_engine {i : Instr} {s : State} {e : Nat} {f : Dev → Dev} {d : Dev} (hi : exec i s = .next (s.act (fun d => d.when (e < 8) f))) (he : e < 8) (hf : f s.dev = d) :
    becomes i s d :=
  becomes_act hi (by simpa [he] using hf)

/-! The start of a release -/

/-- A task of the active image whose block is complete, and whose last release has ended. -/
theorem Dev.release_due {d : Dev} {e t n : Nat} {b : Bank} {k : ImgTask} (ha : (d.eng e).active = some b) (hk : b.task t = some k) (hn : n = d.med.index / k.block * k.block) (hsince : b.since + k.block ≤ n)
    (hs : d.engState e = 2) (hseen : (b.run t).seen ≠ some n) (hrel : (b.run t).rel = none) :
    d.release e t true =
      let snap : List (Nat × Nat) := (b.img.binds.zip (upto 256)).filterMap (fun x => if x.1.acc = 0 || x.1.ty = 14 then none else some (x.2, d.get x.1.obj))
      d.modBank e true (fun q =>
        { q with mem := snap.foldl (fun m (x : Nat × Nat) => match b.img.binds[x.1]? with | some y => memPut m y.var (leBytes (typeBytes y.ty) x.2) | none => m) q.mem }.setRun
          { (q.run t) with rel := some n, seen := some n, vals := [], sets := [], clrs := [], publ := [], envs := [], snap := snap, ctx := { (q.run t).ctx with pc := k.entry, loops := [], calls := [], dma := [] } }) := by
  have hgo : ¬ (decide (d.engState e ≠ 2) || !decide (n ≥ b.since + k.block) || decide ((b.run t).seen = some n)) = true := by simp [hs, hsince, hseen]
  subst hn
  unfold Dev.release
  simp only [if_true, ha, hk, hrel, Option.isSome_none, Bool.false_eq_true, if_false]
  exact (if_neg hgo).trans (if_neg (by simp [hs]))

/-! A deadline passed -/

/-- The part once a task's release is aborted at its deadline (R316). -/
def Dev.aborted (e : Nat) (act : Bool) (b : Bank) (k : ImgTask) (r : TaskRun) (n : Nat) (d : Dev) : Dev :=
  (((d.setRun e act { r with rel := none, excess := r.excess + 1, vals := [], sets := [], clrs := [], envs := [], publ := [] }).envEnd b k { r with envs := [] } n).inc (key (0x5400 + e) 6)).locksFree e

/-- EV98 of an engine, and its time. -/
def Dev.overrunEvent (e : Nat) (d : Dev) : Dev := (d.modEng e (fun y => { y with ev98 := some d.now })).raise 98

theorem Dev.aborted_stores (e : Nat) (act : Bool) (b : Bank) (k : ImgTask) (r : TaskRun) (n : Nat) (d : Dev) : (d.aborted e act b k r n).stores = d.stores := by simp [Dev.aborted]
theorem Dev.overrunEvent_stores (e : Nat) (d : Dev) : (d.overrunEvent e).stores = d.stores := by simp [Dev.overrunEvent]

/-- What an abort comes to: EV98 at most once per ms, and a fault at the eighth in a row. -/
def Dev.overrunEnd (e t : Nat) (act : Bool) (r : TaskRun) (d : Dev) : Dev :=
  let quiet : Bool := match (d.eng e).ev98 with | some x => decide (d.now < x + 1000000) | none => false
  let x := if quiet then d else d.overrunEvent e
  if r.excess + 1 ≥ 8 && !x.bitOf 0x200400 4 then x.engFault e 0 r.ctx.pc t (!act) else x

theorem Dev.overrunTask_eq {d : Dev} {e t n : Nat} {act : Bool} {b : Bank} {k : ImgTask} (hb : (if act then (d.eng e).active else (d.eng e).standby) = some b) (hk : b.task t = some k)
    (hr : (b.run t).rel = some n) : d.overrunTask e t act = if n + k.block > d.med.index + 1 || d.engState e ≠ 2 then d else (d.aborted e act b k (b.run t) n).overrunEnd e t act (b.run t) := by
  unfold Dev.overrunTask
  simp -zeta only [hb, hk, hr]
  refine ite_congr rfl (fun _ => rfl) fun _ => ?_
  extract_lets r _ _ x
  have hx : x = d.aborted e act b k (b.run t) n := rfl
  rw [← hx]
  clear_value x
  rfl

theorem Dev.overrunEnd_stores (e t : Nat) (act : Bool) (r : TaskRun) (d : Dev) : (d.overrunEnd e t act r).stores = d.stores := by
  unfold Dev.overrunEnd
  extract_lets quiet x
  have hx : x.stores = d.stores := by rw [apply_ite Dev.stores, Dev.overrunEvent_stores, ite_self]
  rw [apply_ite Dev.stores, Dev.engFault_stores, ite_self, hx]

theorem Dev.overrunTask_stores (e t : Nat) (act : Bool) (d : Dev) : (d.overrunTask e t act).stores = d.stores := by
  cases hb : (if act then (d.eng e).active else (d.eng e).standby) with
  | none => simp [Dev.overrunTask, hb]
  | some b =>
    cases hk : b.task t with
    | none => simp [Dev.overrunTask, hb, hk]
    | some k =>
      cases hr : (b.run t).rel with
      | none => simp [Dev.overrunTask, hb, hk, hr]
      | some n => rw [Dev.overrunTask_eq hb hk hr, apply_ite Dev.stores, Dev.overrunEnd_stores, Dev.aborted_stores, ite_self]

/-- A task of the active image past its deadline is aborted. -/
theorem Dev.overrunTask_due {d : Dev} {e t n : Nat} {b : Bank} {k : ImgTask} (hb : (d.eng e).active = some b) (hk : b.task t = some k) (hr : (b.run t).rel = some n)
    (hn : n + k.block ≤ d.med.index + 1) (hs : d.engState e = 2) : d.overrunTask e t true = (d.aborted e true b k (b.run t) n).overrunEnd e t true (b.run t) := by
  rw [Dev.overrunTask_eq (act := true) hb hk hr, if_neg (by simp [hs, hn])]

theorem Dev.overrunEnd_before {d : Dev} {e t : Nat} {act : Bool} {r : TaskRun} (hq : (d.eng e).ev98 = none) (hx : r.excess + 1 < 8) : d.overrunEnd e t act r = d.overrunEvent e := by
  simp [Dev.overrunEnd, hq, Nat.not_le.mpr hx]

theorem Dev.overrunEnd_eighth {d : Dev} {e t : Nat} {act : Bool} {r : TaskRun} (hq : (d.eng e).ev98 = none) (hx : 8 ≤ r.excess + 1) (hf : (d.overrunEvent e).bitOf 0x200400 4 = false) :
    d.overrunEnd e t act r = (d.overrunEvent e).engFault e 0 r.ctx.pc t (!act) := by
  simp [Dev.overrunEnd, hq, hx, hf]

/-! Faults and recovery -/

theorem Dev.engineFault_running {d : Dev} {e c : Nat} {act : Bool} {b : Bank} {t : ImgTask} {r : TaskRun} (he : e < 8) (hc : c < 7) (h : d.current e = some (act, b, t, r)) :
    d.engineFault e c = if c = 4 then ((d.engFault e c r.ctx.pc t.num (!act)).causeSet 5).outSettle else d.engFault e c r.ctx.pc t.num (!act) := by
  have hgo : ¬ (decide (e ≥ 8) || decide (c ≥ 7) || decide (d.engState e ≠ 2)) = true := by
    simp [(Dev.current_some h).1, he, hc]
  unfold Dev.engineFault
  rw [if_neg hgo]
  simp only [h]

theorem Dev.autoRecover_due {d : Dev} {e t : Nat} (hr : (d.eng e).recoverAt = some t) (ht : t ≤ d.now) (hs : d.engState e = 3) :
    d.autoRecover e = (d.modEng e (fun x => { x with recoverAt := none, recovers := x.recovers ++ [d.now] })).clearFault e := by
  simp [Dev.autoRecover, hr, ht, hs]

/-! The clock change of R291 -/

/-- One engine's clock at a boundary. -/
def Dev.ecoOne (e : Nat) (d : Dev) : Dev :=
  match (d.eng e).clkAt with
  | some (n, s) => if n ≤ d.med.index + 1 || !d.med.run then d.modEng e (fun x => { x with slow := s, clkAt := none }) else d
  | none => d

theorem Dev.ecoClock_eq (d : Dev) : d.ecoClock = (upto 8).foldl (fun a e => a.ecoOne e) d := rfl

theorem Dev.ecoOne_med (e : Nat) (d : Dev) : (d.ecoOne e).med = d.med := by
  unfold Dev.ecoOne
  split
  · split <;> rfl
  · rfl

theorem Dev.eng_ecoOne_other {e j : Nat} (h : j ≠ e) (d : Dev) : (d.ecoOne e).eng j = d.eng j := by
  unfold Dev.ecoOne
  split
  · split
    · exact Dev.eng_modEng_other h _ d
    · rfl
  · rfl

/-- What one engine's step does to it depends on the engine and the media clock alone. -/
theorem Dev.eng_ecoOne_congr {d x : Dev} {e : Nat} (hx : x.eng e = d.eng e) (hm : x.med = d.med) : (x.ecoOne e).eng e = (d.ecoOne e).eng e := by
  unfold Dev.ecoOne
  rw [hx, hm]
  cases hc : (d.eng e).clkAt with
  | none => exact hx
  | some p =>
    obtain ⟨n, s⟩ := p
    dsimp only
    split
    · rw [Dev.eng_modEng_same (Dev.lt_of_clkAt (hx ▸ hc)), Dev.eng_modEng_same (Dev.lt_of_clkAt hc), hx]
    · exact hx

theorem Dev.eng_ecoClock {e : Nat} (he : e < 8) (d : Dev) : (d.ecoClock.eng e) = (d.ecoOne e).eng e := by
  have hothers : ∀ (l : List Nat) (x : Dev), e ∉ l → (l.foldl (fun a j => Dev.ecoOne j a) x).eng e = x.eng e := by
    intro l
    induction l with
    | nil => exact fun _ _ => rfl
    | cons j t ih =>
      intro x hl
      rw [List.mem_cons, not_or] at hl
      exact (ih _ hl.2).trans (Dev.eng_ecoOne_other hl.1 x)
  have hmed : ∀ (l : List Nat) (x : Dev), (l.foldl (fun a j => Dev.ecoOne j a) x).med = x.med := fun l x => foldl_keeps Dev.med _ (fun d j => Dev.ecoOne_med j d) l x
  obtain ⟨before, after, hl⟩ := List.append_of_mem (List.mem_range.mpr he)
  have hnodup : (before ++ e :: after).Nodup := hl ▸ List.nodup_range
  obtain ⟨-, hafter, hdisj⟩ := List.nodup_append.mp hnodup
  have hb : e ∉ before := fun h => hdisj e h e List.mem_cons_self rfl
  have ha : e ∉ after := (List.nodup_cons.mp hafter).1
  rw [Dev.ecoClock_eq, upto, hl, List.foldl_append, List.foldl_cons, hothers _ _ ha]
  exact Dev.eng_ecoOne_congr (hothers _ _ hb) (hmed _ _)

theorem Dev.eng_ecoClock_due {d : Dev} {e n : Nat} {v : Bool} (he : e < 8) (hc : (d.eng e).clkAt = some (n, v)) (hn : n ≤ d.med.index + 1) :
    (d.ecoClock.eng e).slow = v ∧ (d.ecoClock.eng e).clkAt = none := by
  have hone : d.ecoOne e = d.modEng e (fun x => { x with slow := v, clkAt := none }) := by simp [Dev.ecoOne, hc, hn]
  rw [Dev.eng_ecoClock he, hone, Dev.eng_modEng_same (Dev.lt_of_clkAt hc)]
  exact ⟨rfl, rfl⟩

theorem Dev.eng_ecoClock_early {d : Dev} {e n : Nat} {v : Bool} (he : e < 8) (hc : (d.eng e).clkAt = some (n, v)) (hn : d.med.index + 1 < n) (hrun : d.med.run = true) :
    d.ecoClock.eng e = d.eng e := by
  have hone : d.ecoOne e = d := by simp [Dev.ecoOne, hc, Nat.not_le.mpr hn, hrun]
  rw [Dev.eng_ecoClock he, hone]

end Sys2Proof.Machine
end

section
/-! SUPPORT. The end of a release: its blocks on the output ports (R288, R296, R300, R302), and HALT. -/
namespace Sys2Proof.Machine

/-! The blocks that a release leaves -/

/-- Bits noted for a sample; none where none are. -/
def notedBits (k : Nat) (l : List (Nat × Nat)) : Nat := match assoc k l with | some x => x | none => 0

/-- A sample of an output block: what the release wrote, or a free value. -/
def Dev.outSample (r : TaskRun) (port : Nat) (a : List (Int × Nat × Nat) × Dev) (i : Nat) : List (Int × Nat × Nat) × Dev :=
  match assoc (port * 64 + i) r.vals with
  | some v => (a.1 ++ [(v, notedBits (port * 64 + i) r.sets, notedBits (port * 64 + i) r.clrs)], a.2)
  | none => (a.1 ++ [(toInt 32 a.2.fresh.1, notedBits (port * 64 + i) r.sets, notedBits (port * 64 + i) r.clrs)], a.2.fresh.2)

/-- The block of an output port from the boundary `first` on. -/
def Dev.outBlock (r : TaskRun) (first len : Nat) (acc : List (Nat × Nat × List (Int × Nat × Nat)) × Dev) (p : ImgPort) : List (Nat × Nat × List (Int × Nat × Nat)) × Dev :=
  let l := (upto len).foldl (Dev.outSample r p.port) ([], acc.2)
  (acc.1 ++ [(p.port, first, l.1)], l.2)

/-- A bank once a release of the task that runs has ended with the blocks `outs`. -/
def Bank.released (r : TaskRun) (index cycles : Nat) (outs : List (Nat × Nat × List (Int × Nat × Nat))) (b : Bank) : Bank :=
  { b with outs := b.outs.filter (fun (o : Nat × Nat × List (Int × Nat × Nat)) => o.2.1 + o.2.2.length > index) ++ outs }.setRun
    { r with rel := none, excess := 0, vals := [], sets := [], clrs := [], envs := [], publ := [], observed := max r.observed cycles }

/-- The values published as a release of the active image ends (R300). -/
def Dev.publish (b : Bank) (act : Bool) (l : List (Nat × Nat)) (d : Dev) : Dev :=
  l.foldl (fun (a : Dev) x => match b.img.binds[x.1]? with | some y => if act then a.put y.obj (x.2 % 256 ^ typeBytes y.ty) else a | none => a) d

/-- A release that ends before its deadline. -/
theorem Dev.finish_inTime {d : Dev} {e cycles n : Nat} {act : Bool} {b : Bank} {t : ImgTask} {r : TaskRun} (hc : d.current e = some (act, b, t, r)) (hr : r.rel = some n) (hn : d.med.index < n + t.block) :
    d.finish e cycles =
      let x := (b.img.ports.filter (fun p => p.task == t.num)).foldl (Dev.outBlock r (n + t.block) t.block) ([], d)
      ((((x.2.modBank e act (Bank.released r x.2.med.index cycles x.1)).publish b act r.publ).envEnd b t r n).locksFree e) := by
  unfold Dev.finish
  simp only [hc, hr]
  rw [if_neg (Nat.not_le.mpr hn)]
  rfl

/-! What the blocks hold -/

/-- A block whose samples are those that the release wrote, wherever it wrote them. -/
def wrote (r : TaskRun) (port : Nat) : List Nat → List (Int × Nat × Nat) → Prop
  | [], [] => True
  | i :: places, x :: block => (∀ v, assoc (port * 64 + i) r.vals = some v → x.1 = v) ∧ wrote r port places block
  | _, _ => False

/-- One sample: it goes last, and takes at most a free value. -/
theorem Dev.outSample_eq (r : TaskRun) (port i : Nat) (a : List (Int × Nat × Nat) × Dev) :
    ∃ x k, Dev.outSample r port a i = (a.1 ++ [x], a.2.took k) ∧ ∀ v, assoc (port * 64 + i) r.vals = some v → x.1 = v := by
  unfold Dev.outSample
  cases assoc (port * 64 + i) r.vals with
  | some v => exact ⟨_, 0, rfl, fun w hw => Option.some.inj hw⟩
  | none => exact ⟨_, 1, rfl, fun w hw => nomatch hw⟩

theorem Dev.outSamples (r : TaskRun) (port : Nat) (l : List Nat) (acc : List (Int × Nat × Nat) × Dev) :
    ∃ vs k, l.foldl (Dev.outSample r port) acc = (acc.1 ++ vs, acc.2.took k) ∧ wrote r port l vs := by
  induction l generalizing acc with
  | nil => exact ⟨[], 0, by rw [List.append_nil]; rfl, trivial⟩
  | cons i t ih =>
    obtain ⟨x, k, hone, hx⟩ := Dev.outSample_eq r port i acc
    obtain ⟨vs, k', hrest, hw⟩ := ih (acc.1 ++ [x], acc.2.took k)
    exact ⟨x :: vs, k + k', by rw [List.foldl_cons, hone, hrest, Dev.took_took, List.append_assoc, List.singleton_append], hx, hw⟩

theorem Dev.outBlocks (r : TaskRun) (first len : Nat) (l : List ImgPort) (acc : List (Nat × Nat × List (Int × Nat × Nat)) × Dev) :
    ∃ os k, l.foldl (Dev.outBlock r first len) acc = (acc.1 ++ os, acc.2.took k) ∧ ∀ p ∈ l, ∃ vs, (p.port, first, vs) ∈ os ∧ wrote r p.port (upto len) vs := by
  induction l generalizing acc with
  | nil => exact ⟨[], 0, by rw [List.append_nil]; rfl, fun p hp => absurd hp List.not_mem_nil⟩
  | cons p t ih =>
    obtain ⟨vs, k, hblock, hw⟩ := Dev.outSamples r p.port (upto len) ([], acc.2)
    have hone : Dev.outBlock r first len acc p = (acc.1 ++ [(p.port, first, vs)], acc.2.took k) := by
      simp only [Dev.outBlock, hblock, List.nil_append]
    obtain ⟨os, k', hrest, hall⟩ := ih (acc.1 ++ [(p.port, first, vs)], acc.2.took k)
    refine ⟨(p.port, first, vs) :: os, k + k', ?_, fun q hq => ?_⟩
    · rw [List.foldl_cons, hone, hrest, Dev.took_took, List.append_assoc, List.singleton_append]
    · rcases List.mem_cons.mp hq with rfl | hq
      · exact ⟨vs, List.mem_cons_self, hw⟩
      · obtain ⟨ws, hm, hws⟩ := hall q hq
        exact ⟨ws, List.mem_cons_of_mem _ hm, hws⟩

/-- Each sample at its place, of as many as there are places. -/
theorem wrote_places {r : TaskRun} {port : Nat} {l : List Nat} {vs : List (Int × Nat × Nat)} (h : wrote r port l vs) :
    vs.length = l.length ∧ ∀ j i, l[j]? = some i → ∀ v, assoc (port * 64 + i) r.vals = some v → (nthD (0, 0, 0) vs j).1 = v := by
  induction l generalizing vs with
  | nil =>
    cases vs with
    | nil => exact ⟨rfl, fun j i hi => nomatch hi⟩
    | cons x vs => exact h.elim
  | cons k t ih =>
    cases vs with
    | nil => exact h.elim
    | cons x vs =>
      obtain ⟨hx, hrest⟩ := h
      obtain ⟨hlen, hat⟩ := ih hrest
      refine ⟨congrArg (· + 1) hlen, fun j i hi => ?_⟩
      cases j with
      | zero => exact Option.some.inj hi ▸ hx
      | succ j => exact hat j i hi

/-- Each sample of a block at its place. -/
theorem wrote_nthD {r : TaskRun} {port len : Nat} {vs : List (Int × Nat × Nat)} (h : wrote r port (upto len) vs) :
    vs.length = len ∧ ∀ i < len, ∀ v, assoc (port * 64 + i) r.vals = some v → (nthD (0, 0, 0) vs i).1 = v := by
  obtain ⟨hlen, hat⟩ := wrote_places h
  exact ⟨hlen.trans (upto_length len), fun i hi => hat i i (List.getElem?_range hi)⟩

/-! The end of a release -/

/-- What one object leaves as it is, the values published do. -/
theorem Dev.publish_keeps {β : Type} {P : Dev → β} (h : ∀ (k v : Nat) (d : Dev), P (d.put k v) = P d) (b : Bank) (act : Bool) (l : List (Nat × Nat)) (d : Dev) : P (d.publish b act l) = P d := by
  refine foldl_keeps P _ (fun d x => ?_) l d
  split
  · split
    · exact h _ _ d
    · rfl
  · rfl

theorem Dev.finish_stores (e cycles : Nat) (d : Dev) : (d.finish e cycles).stores = d.stores := by
  cases hc : d.current e with
  | none => simp [Dev.finish, hc]
  | some z =>
    obtain ⟨act, b, t, r⟩ := z
    cases hr : r.rel with
    | none => simp [Dev.finish, hc, hr]
    | some n =>
      by_cases hn : d.med.index < n + t.block
      · obtain ⟨os, k, hblocks, -⟩ := Dev.outBlocks r (n + t.block) t.block (b.img.ports.filter (fun p => p.task == t.num)) ([], d)
        rw [Dev.finish_inTime hc hr hn]
        dsimp only
        rw [hblocks, Dev.locksFree_stores, Dev.envEnd_stores, Dev.publish_keeps (P := Dev.stores) (fun _ _ _ => rfl)]
        rfl
      · have hlate : d.finish e cycles = d.overrunTask e t.num act := by simp [Dev.finish, hc, hr, Nat.not_lt.mp hn]
        rw [hlate, Dev.overrunTask_stores]

/-- A release of the active image that ends before its deadline leaves a block of each of its output ports in the bank. -/
theorem Dev.finish_outs {d : Dev} {e cycles n : Nat} {b : Bank} {t : ImgTask} {r : TaskRun} (hc : d.current e = some (true, b, t, r)) (hr : r.rel = some n) (hn : d.med.index < n + t.block) :
    ∃ b', ((d.finish e cycles).eng e).active = some b' ∧ b'.img = b.img ∧ ∀ p ∈ b.img.ports, p.task = t.num → ∃ vs, (p.port, n + t.block, vs) ∈ b'.outs ∧ wrote r p.port (upto t.block) vs := by
  obtain ⟨os, k, hblocks, hall⟩ := Dev.outBlocks r (n + t.block) t.block (b.img.ports.filter (fun p => p.task == t.num)) ([], d)
  have hactive : (d.eng e).active = some b := (Dev.current_some hc).2
  have hlen : e < (d.took k).fac.engs.length := Dev.lt_of_active hactive
  refine ⟨b.released r d.med.index cycles os, ?_, rfl, fun p hp ht => ?_⟩
  · rw [Dev.finish_inTime hc hr hn]
    dsimp only
    rw [hblocks]
    have hengs := (congrArg Fac.engs (Dev.locksFree_fac e _)).trans ((Dev.envEnd_engs b t r n _).trans (Dev.publish_keeps (P := fun d => d.fac.engs) (fun _ _ _ => rfl) b true r.publ
      ((d.took k).modBank e true (Bank.released r (d.took k).med.index cycles ([] ++ os)))))
    rw [Dev.eng_of_engs hengs, Dev.modBank, Dev.eng_modEng_same hlen]
    exact congrArg (Option.map _) hactive
  · obtain ⟨vs, hm, hw⟩ := hall p (List.mem_filter.mpr ⟨hp, beq_iff_eq.mpr ht⟩)
    exact ⟨vs, List.mem_append_right _ hm, hw⟩

/-- HALT of a task with no transfer outstanding. -/
theorem Dev.halt_noTransfer {d : Dev} {e : Nat} {act : Bool} {b : Bank} {t : ImgTask} {r : TaskRun} (h : d.running e act b t r) (hd : r.ctx.dma = []) (cycles : Nat) (m : List Host.Cell) :
    d.halt e cycles m = d.finish e cycles := by
  have hall : d.dmaAll e m {} = d := by simp [Dev.dmaAll, h.1, hd]
  rw [Dev.halt, Dev.onTask_running h]
  simp [hall, (Dev.current_some h.1).1]

/-- Settles O30: each command by its due case, a fault by what its stages leave, and the end of a release by the blocks it leaves. -/
theorem releases : Obligations.Releases := by
  unfold Obligations.Releases
  refine ⟨?release, ?overrun, ?fault, ?faulted, ?recover, fun s => becomes_act rfl rfl, ?clock, ?halt, ?ports⟩
  case release => exact fun s e t n b k he ha hk hn hsince hs hseen hrel => becomes_engine rfl he (Dev.release_due ha hk hn hsince hs hseen hrel)
  case overrun =>
    intro s e t n b k he hb hk hr hn hs r x hq
    have hdue := Dev.overrunTask_due hb hk hr hn hs
    exact ⟨fun hx => becomes_engine rfl he (hdue.trans (Dev.overrunEnd_before hq hx)), fun hx hf => becomes_engine rfl he (hdue.trans (Dev.overrunEnd_eighth hq hx hf))⟩
  case fault => exact fun s e c act b t r he hc h => becomes_act rfl (Dev.engineFault_running he hc h)
  case faulted =>
    intro d e c a t sb he hlen hs _ ha _ x
    obtain ⟨hfenced, hswap⟩ := Dev.eng_engFault he hs c a t sb hlen
    exact ⟨Dev.engState_engFault he hs c a t sb, hfenced, hswap, Dev.get_faultCause he hs c a t sb, Dev.get_faultPlace he hs c a t sb ha⟩
  case recover =>
    intro s e t he hr ht hs
    refine congrArg Host.Outcome.next (State.run_congr ?_)
    rw [decide_eq_true he]
    exact Dev.autoRecover_due hr ht hs
  case clock => exact fun d e n v he hc => ⟨Dev.eng_ecoClock_due he hc, Dev.eng_ecoClock_early he hc⟩
  case halt => exact fun s e cycles act b t r h hd hm => becomes_run rfl (Dev.halt_noTransfer h hd cycles s.mem) (Dev.finish_stores e cycles s.dev) hm
  case ports =>
    intro d e cycles n b t r hc hr hn
    obtain ⟨b', hactive, himg, houts⟩ := Dev.finish_outs (cycles := cycles) hc hr hn
    refine ⟨b', hactive, himg, fun p hp ht => ?_⟩
    obtain ⟨vs, hm, hw⟩ := houts p hp ht
    exact ⟨vs, hm, wrote_nthD hw⟩

end Sys2Proof.Machine
end

section
/-! SUPPORT. The power stage: what a write of its objects starts, and what a step of a channel leaves as it is (R324, R325, R331, R338, R345). -/
namespace Sys2Proof.Machine

/-! A channel changed -/

@[simp] theorem Dev.get_modPch (n k : Nat) (f : PwrCh → PwrCh) (d : Dev) : (d.modPch n f).get k = d.get k := rfl

theorem Dev.pch_modPch_same {n : Nat} {d : Dev} (h : n < d.pwr.chans.length) (f : PwrCh → PwrCh) : (d.modPch n f).pch n = f (d.pch n) :=
  nthD_modNth_same ({} : PwrCh) f d.pwr.chans n h

/-- A command of one of the eight channels becomes what its function makes of the part. -/
theorem becomes_channel {i : Instr} {s : State} {n : Nat} {f : Dev → Dev} {d : Dev} (hi : exec i s = .next (s.act (fun d => d.when (n < 8) f))) (hn : n < 8) (hf : f s.dev = d) : becomes i s d :=
  becomes_act hi (by simpa [hn] using hf)

/-! The objects of the power stage and the boost, 6000h to 62FFh -/

def powerKey (k : Nat) : Prop := 0x600000 ≤ k ∧ k < 0x630000

theorem powerKey_pk {n s : Nat} (hn : n < 8) (hs : s < 256) : powerKey (pk n s) := by unfold powerKey pk key; omega
theorem powerKey_zk {n s : Nat} (hn : n < 8) (hs : s < 256) : powerKey (zk n s) := by unfold powerKey zk key; omega

theorem pk_ne {n s t : Nat} (h : s ≠ t) : pk n s ≠ pk n t := by unfold pk key; omega
theorem zk_ne {n s t : Nat} (h : s ≠ t) : zk n s ≠ zk n t := by unfold zk key; omega

theorem powerKey.ne_modeRequest {j : Nat} (hj : powerKey j) : j ≠ kModeRequest := by
  rintro rfl
  exact absurd hj.1 (by decide)

theorem Dev.get_power_put {j k : Nat} (hj : powerKey j) (h : j ≠ k) (v : Nat) (d : Dev) : (d.put k v).get j = d.get j :=
  Dev.get_put_other j k v d h (.inl hj.ne_modeRequest)

theorem Dev.get_power_raise {j e : Nat} (hj : powerKey j) (he : e < 128) (d : Dev) : (d.raise e).get j = d.get j :=
  Dev.get_raise e j d he (by unfold powerKey at hj; unfold fabricKey; omega)

theorem Dev.get_power_bbMake {j : Nat} (hj : powerKey j) (kind severity code unit c0 c1 : Nat) (d : Dev) : (d.bbMake kind severity code unit c0 c1).get j = d.get j :=
  Dev.get_bbMake kind severity code unit c0 c1 j d (by unfold powerKey at hj; unfold fabricKey; omega) (by unfold powerKey at hj; unfold bbKey; omega)

/-! Rows -/

theorem objRow_channel : ∀ n < 8, ∀ s < 2, (objRow (pk n s)).any ObjRow.keepsNumber = true := by decide
theorem objRow_modFreq : (objRow (key 0x6100 0)).any ObjRow.keepsNumber = true := by decide
theorem objRow_clearLatch : ∀ n < 8, objRow (pk n 0x25) = some (.mk 0x6000 16 8 0x25 1 .bool .cmd 0 .none 0 0 (.nat [(0, 1)])) := by decide
theorem objRow_reCapture : ∀ n < 8, objRow (zk n 8) = some (.mk 0x6130 1 8 0x8 1 .bool .cmd 0 .none 0 0 (.nat [(0, 1)])) := by decide

/-! What a write starts -/

/-- A write to an object of 6000h to 61FFh acts by its key. -/
theorem Dev.actOn_power {m : List Host.Cell} {p : Path} {i s old v : Nat} {b : List Byte} {d : Dev} (hi : i / 256 = 0x60 ∨ i / 256 = 0x61) (hs : s < 256) :
    d.actOn m p (key i s) old v b = d.pwrWrite (key i s) v := by
  rcases hi with hi | hi <;> simp only [Dev.actOn, key_page i s hs, hi]

theorem Dev.pwrWrite_enable {n : Nat} (hn : n < 8) (v : Nat) (d : Dev) : d.pwrWrite (pk n 0) v = d.chSettle (d.pwrGov n) := by
  have hrange : 0x6000 + 16 * n < 0x6080 := by omega
  simp [Dev.pwrWrite, pk, key_div, key_mod, hrange]

theorem Dev.pwrWrite_fullScale {n : Nat} (hn : n < 8) (v : Nat) (d : Dev) : d.pwrWrite (pk n 1) v = d := by
  have hrange : 0x6000 + 16 * n < 0x6080 := by omega
  simp [Dev.pwrWrite, pk, key_div, key_mod, hrange]

theorem Dev.pwrWrite_clearLatch {n : Nat} (hn : n < 8) (d : Dev) : d.pwrWrite (pk n 0x25) 1 = d.clearLatch n := by
  have hrange : 0x6000 + 16 * n < 0x6080 := by omega
  simp [Dev.pwrWrite, pk, key_div, key_mod, hrange]

theorem Dev.pwrWrite_modFreq (v : Nat) (d : Dev) : d.pwrWrite (key 0x6100 0) v = d.raise 80 := rfl

theorem Dev.pwrWrite_reCapture {n : Nat} (hn : n < 8) (d : Dev) : d.pwrWrite (zk n 8) 1 = d.put (zk n 5) (d.get (zk n 2)) := by
  have hrange : 0x6130 + n < 0x6138 := by omega
  have hchannel : ¬ 0x6130 + n < 0x6080 := by omega
  have hfreq : zk n 8 ≠ 0x610000 := by unfold zk key; omega
  simp [Dev.pwrWrite, key_div, key_mod, hrange, hchannel, hfreq]

/-- A number written to an object of the power stage: it stands, and then what it starts runs. -/
theorem writes_power {i : Instr} {a : Access} {n s v : Nat} (hi : ∀ t, exec i t = .next (t.quiet (Dev.hostSet a (key n s) v)))
    (hr : (objRow (key n s)).any ObjRow.keepsNumber = true) (hn : n / 256 = 0x60 ∨ n / 256 = 0x61) (hs : s < 256) :
    writes i a (key n s) v (fun _ => True) (fun d => (d.put (key n s) v).pwrWrite (key n s) v) := by
  obtain ⟨r, hrow, hkeeps⟩ := (Option.any_eq_true _ _).mp hr
  obtain ⟨hacc, hbytes, hnorm⟩ := ObjRow.of_keepsNumber hkeeps
  have hact : n ∉ actingIndices := by
    simp only [actingIndices, List.mem_cons, List.not_mem_nil, or_false]
    omega
  exact writes_kept hi hrow (by simp [hacc]) hbytes (hnorm _ v) fun _ _ _ => by
    rw [Dev.takeNow_put hrow (actsOnly_rw hacc hs hact) hbytes, Dev.actOn_power hn hs]

/-- CH_ENABLE and FULL_SCALE_V of a channel. -/
theorem writes_channel {i : Instr} {a : Access} {n s v : Nat} (hi : ∀ t, exec i t = .next (t.quiet (Dev.hostSet a (pk (n % 8) s) v))) (hn : n < 8) (hs : s < 2) :
    writes i a (pk n s) v (fun _ => True) (fun d => (d.put (pk n s) v).pwrWrite (pk n s) v) :=
  writes_power (fun t => by rw [hi, Nat.mod_eq_of_lt hn]) (objRow_channel n hn s hs) (by omega) (by omega)

theorem writes_clearLatch (a : Access) (n : Nat) (hn : n < 8) : writes (.clearLatch a n 1) a (pk n 0x25) 1 (fun _ => True) (Dev.clearLatch n) :=
  writes_cmd (fun s => by simp only [exec, execClearLatch, Nat.mod_eq_of_lt hn]) (objRow_clearLatch n hn) rfl rfl rfl
    (fun _ _ _ => by rw [Dev.actOn_power (by omega) (by decide), Dev.pwrWrite_clearLatch hn])

theorem writes_reCapture (a : Access) (n : Nat) (hn : n < 8) : writes (.reCapture a n) a (zk n 8) 1 (fun _ => True) (fun d => d.put (zk n 5) (d.get (zk n 2))) :=
  writes_cmd (fun s => by simp only [exec, execReCapture, Nat.mod_eq_of_lt hn]) (objRow_reCapture n hn) rfl rfl rfl
    (fun _ _ _ => by rw [Dev.actOn_power (by omega) (by decide), Dev.pwrWrite_reCapture hn])

end Sys2Proof.Machine
end

section
/-! SUPPORT. The states of a power channel: what is required of it, its ramps, the reconfiguration of a pair (R327 to R332). -/
namespace Sys2Proof.Machine

/-! What a state of Table 13-3 requires -/

section
variable {d : Dev} {n : Nat}

theorem Dev.chSettle_latched (h : d.chState n = 7) : d.chSettle n = d := by simp [Dev.chSettle, h]

section
variable (hw : d.chWanted n = true)
include hw

theorem Dev.chSettle_retryWait (h : d.chState n = 6) : d.chSettle n = d := by simp [Dev.chSettle, hw, h]

theorem Dev.chSettle_hiz (hz : d.mustHiz n = true) (h : d.chState n < 5) : d.chSettle n = d.chRest n 5 := by
  have h5 : d.chState n ≠ 5 := by omega
  have h6 : d.chState n ≠ 6 := by omega
  have h7 : d.chState n ≠ 7 := by omega
  simp [Dev.chSettle, hw, hz, h5, h6, h7]

variable (hz : d.mustHiz n = false)
include hz

theorem Dev.chSettle_start (h : d.chState n = 0) : d.chSettle n = d.chStart n false := by simp [Dev.chSettle, hw, hz, h]
theorem Dev.chSettle_restart (h : d.chState n = 5) : d.chSettle n = d.chStart n true := by simp [Dev.chSettle, hw, hz, h]

theorem Dev.chSettle_muted (h : d.chState n = 2) : d.chSettle n = if d.signalOk n then d.chRamp n true else d := by
  simp [Dev.chSettle, hw, hz, h]

theorem Dev.chSettle_mute (h : d.chState n = 3) (hs : (d.pch n).stop = false) (hr : (d.pch n).ramping = false) (ho : d.signalOk n = false) : d.chSettle n = d.chRamp n false := by
  simp [Dev.chSettle, hw, hz, h, hs, hr, ho]

end

section
variable (hw : d.chWanted n = false)
include hw

theorem Dev.chSettle_unwanted_commonMode (h : d.chState n = 1 ∨ d.chState n = 2) : d.chSettle n = d.chDown n := by
  rcases h with h | h <;> simp [Dev.chSettle, hw, h]

theorem Dev.chSettle_unwanted_hiz (h : d.chState n = 5 ∨ d.chState n = 6) : d.chSettle n = d.chRest n 0 := by
  rcases h with h | h <;> simp [Dev.chSettle, hw, h]

theorem Dev.chSettle_unwanted_playing (h : d.chState n = 3) (hr : (d.pch n).ramping = false) :
    d.chSettle n = (d.chRamp n false).modPch n (fun c => { c with stop := true }) := by
  simp [Dev.chSettle, hw, h, hr]

end

/-! A ramp that ends -/

theorem Dev.chDue_of {t : Nat} (ht : (d.pch n).due = some t) (hn : t ≤ d.now) : d.chDue n = true := by simp [Dev.chDue, ht, hn]

section
variable (hd : d.chDue n = true)
include hd

theorem Dev.cmUpDone_due (h : d.chState n = 1) : d.cmUpDone n = ((d.setCh n 2).modPch n (fun c => { c with due := none })).chSettle n := by simp [Dev.cmUpDone, h, hd]
theorem Dev.cmDownDone_due (h : d.chState n = 4) : d.cmDownDone n = (d.chRest n 0).chSettle n := by simp [Dev.cmDownDone, h, hd]

theorem Dev.muteDone_due (h : d.chState n = 3) (hr : (d.pch n).ramping = true) :
    d.muteDone n = if (d.pch n).up then d.modPch n (fun c => { c with due := none, ramping := false, gain := samplesIn d.fs 5000 })
      else if (d.pch n).stop then d.chDown n
      else ((d.setCh n 2).modPch n (fun c => { c with due := none, ramping := false, gain := 0 })).chSettle n := by
  simp [Dev.muteDone, h, hr, hd]

end

theorem Dev.softDone_playing (hs : (d.pch n).soft = true) (hr : (d.pch n).ramping = false) (h : d.chState n = 3) (hp : (d.pch n).stop = false) :
    d.softDone n = (d.modPch n (fun c => { c with soft := false })).raise 73 := by
  simp [Dev.softDone, hs, hr, h, hp]

end

/-! Pairs (R332) -/

/-- The pair stands at common mode or plays: the reconfiguration is complete. -/
theorem Dev.bridgeReconfig_complete {d : Dev} {k : Nat} (hr : nthD 0 d.pwr.recon k = 2) (h0 : d.chSteady (2 * k) = true) (h1 : d.chSteady (2 * k + 1) = true) :
    d.bridgeReconfig k = ({ d with pwr := { d.pwr with recon := modNth (fun _ => 0) d.pwr.recon k } } : Dev).raise 80 := by
  have hall : ([2 * k, 2 * k + 1].filter (fun n => d.pwrGov n == n)).all (fun n => d.chSteady n) = true := by
    simp only [List.all_filter, List.all_cons, List.all_nil, h0, h1, Bool.or_true, Bool.and_true]
  simp only [Dev.bridgeReconfig, hr, hall, if_true]

/-- A pair to be split stands still: both channels take their own objects and start; they do not stand at once. -/
theorem Dev.bridgeReconfig_split {d : Dev} {k : Nat} (hr : nthD 0 d.pwr.recon k = 1) (h0 : d.chState (2 * k) = 0) (h1 : d.chState (2 * k + 1) = 0) (hb : d.get (pk (2 * k) 0x0A) = 0) {x : Dev}
    (hx : x = ({ d with pwr := { d.pwr with pairs := modNth (fun _ => false) d.pwr.pairs k, recon := modNth (fun _ => 2) d.pwr.recon k } } : Dev).pwrSettle)
    (hs : x.chSteady (2 * k) = false) (hg : x.pwrGov (2 * k) = 2 * k) : d.bridgeReconfig k = x := by
  have hall : ([2 * k, 2 * k + 1].filter (fun n => d.pwrGov n == n)).all (fun n => decide (d.chState n = 0) || decide (5 ≤ d.chState n)) = true := by
    simp only [List.all_filter, List.all_cons, List.all_nil, h0, h1, decide_true, Bool.true_or, Bool.or_true, Bool.and_true]
  have hmoving : [2 * k, 2 * k + 1].all (fun n => x.pwrGov n != n || x.chSteady n) = false := by
    simp [hg, hs]
  subst hx
  simp only [Dev.bridgeReconfig, hr, ge_iff_le, hall, if_true, hb, Nat.zero_ne_one, decide_false, Bool.false_eq_true, if_false, hmoving]

/-- Settles O36: the writes by what their objects start, each state by what is required of the channel, each ramp by its end, a pair by its steps. -/
theorem powerChannels : Obligations.PowerChannels := by
  unfold Obligations.PowerChannels
  refine ⟨?enable, ?states, ?ramps, fun s die hd => becomes_act rfl (by simp [hd, Dev.dieCut]), ?modFreq, ?fullScale, ?complete, ?split, ?soft⟩
  case enable =>
    exact fun a n v hn => (writes_channel (fun _ => rfl) hn (by decide)).congr (fun _ _ => trivial) fun d hg => by
      rw [Dev.pwrWrite_enable hn, show (d.put (pk n 0) v).pwrGov n = n from hg]
  case states =>
    refine fun d n => ⟨Dev.chSettle_latched, fun hw hz => ⟨Dev.chSettle_start hw hz, Dev.chSettle_restart hw hz, Dev.chSettle_retryWait hw, fun h ho => ?_, fun h ho => ?_, Dev.chSettle_mute hw hz⟩,
      Dev.chSettle_hiz, fun hw => ⟨Dev.chSettle_unwanted_commonMode hw, Dev.chSettle_unwanted_hiz hw, Dev.chSettle_unwanted_playing hw⟩⟩
    · rw [Dev.chSettle_muted hw hz h, if_pos ho]
    · rw [Dev.chSettle_muted hw hz h, if_neg (by simp [ho])]
  case ramps =>
    intro s n t hn ht hnow
    have hd := Dev.chDue_of ht hnow
    refine ⟨fun h => becomes_channel rfl hn (Dev.cmUpDone_due hd h), fun h => becomes_channel rfl hn (Dev.cmDownDone_due hd h), fun h hr hu => becomes_channel rfl hn ?_,
      fun h hr hu hs => becomes_channel rfl hn ?_, fun h hr hu hs => becomes_channel rfl hn ?_⟩
    · rw [Dev.muteDone_due hd h hr, if_pos hu]
    · rw [Dev.muteDone_due hd h hr, if_neg (by simp [hu]), if_pos hs]
    · rw [Dev.muteDone_due hd h hr, if_neg (by simp [hu]), if_neg (by simp [hs])]
  case modFreq => exact fun a v => (writes_power (fun _ => rfl) objRow_modFreq (.inr rfl) (by decide)).congr (fun _ _ => trivial) fun _ _ => Dev.pwrWrite_modFreq v _
  case fullScale => exact fun a n v hn => (writes_channel (fun _ => rfl) hn (by decide)).congr (fun _ _ => trivial) fun _ _ => Dev.pwrWrite_fullScale hn v _
  case complete => exact fun s k hk hr h0 h1 => becomes_act rfl (by simpa [hk] using Dev.bridgeReconfig_complete hr h0 h1)
  case split => exact fun s k hk hr h0 h1 hb hs hg => becomes_act rfl (by simpa [hk] using Dev.bridgeReconfig_split hr h0 h1 hb rfl hs hg)
  case soft => exact fun s n hn hs hr h hp => becomes_channel rfl hn (Dev.softDone_playing hs hr h hp)

end Sys2Proof.Machine
end

section
/-! SUPPORT. Faults of the power stage: a counted fault and its retry, the cycle limit, gate-drive supplies, PVDD_OV, CLEAR_LATCH, a die's temperature (R334 to R338, R343). -/
namespace Sys2Proof.Machine

/-! What an event, a record and a state leave as it is -/

theorem Dev.pwrGov_of_pwr {d x : Dev} (h : x.pwr = d.pwr) (n : Nat) : x.pwrGov n = d.pwrGov n := by rw [Dev.pwrGov, Dev.bridged, h, Dev.pwrGov, Dev.bridged]
theorem Dev.pch_of_pwr {d x : Dev} (h : x.pwr = d.pwr) (n : Nat) : x.pch n = d.pch n := by rw [Dev.pch, h, Dev.pch]

theorem Dev.pwrGov_lt {n : Nat} (hn : n < 8) (d : Dev) : d.pwrGov n < 8 := by
  unfold Dev.pwrGov
  split <;> omega

/-- The circumstances that make a channel wanted are those of the stage and of its CH_ENABLE. -/
theorem Dev.chWanted_of_pwr {d x : Dev} {n : Nat} (h : x.pwr = d.pwr) (he : x.get (pk (d.pwrGov n) 0) = d.get (pk (d.pwrGov n) 0)) : x.chWanted n = d.chWanted n := by
  rw [Dev.chWanted, Dev.chEnabled, Dev.pwrGov_of_pwr h, he, h, Dev.chWanted, Dev.chEnabled]

theorem Dev.chState_raise {n e : Nat} (hn : n < 8) (he : e < 128) (d : Dev) : (d.raise e).chState n = d.chState n := Dev.get_power_raise (powerKey_pk hn (by decide)) he d

theorem Dev.chDriven_raise {n e : Nat} (hn : n < 8) (he : e < 128) (d : Dev) : (d.raise e).chDriven n = d.chDriven n := by
  rw [Dev.chDriven, Dev.pwrGov_of_pwr (Dev.raise_pwr e d), Dev.chState_raise (d.pwrGov_lt hn) he, Dev.chDriven]

theorem Dev.boostState_raise {e : Nat} (he : e < 128) (d : Dev) : (d.raise e).boostState = d.boostState := Dev.get_power_raise (by simp [powerKey]) he d
theorem Dev.boostState_setBflag (i : Nat) (b : Bool) (d : Dev) : (d.setBflag i b).boostState = d.boostState := Dev.get_power_put (by simp [powerKey]) (by decide) _ d

/-! A counted fault (R336, R338) -/

/-- The state in which a counted fault leaves channel n: RETRY_WAIT with its deadline, or LATCHED at the eighth retry. -/
def Dev.chStopped (n : Nat) (d : Dev) : Dev :=
  if 8 ≤ d.retries n then ((d.chRest n 6).setCh n 7).put (pk n 0x24) 1
  else (d.chRest n 6).modPch n (fun c => { c with retryAt := some (d.now + d.get (pk n 4) * 1000000) })

/-- The report of fault `i` of channel n: FAULT_CAUSE, FAULT_COUNT, the events and the records. -/
def Dev.chReported (n i : Nat) (latch : Bool) (d : Dev) : Dev :=
  let x := d.does [Dev.put (pk n 0x22) (2 ^ i), Dev.inc (pk n 0x26), Dev.raise 72, Dev.chRecord n 72]
  if latch then x.does [Dev.raise 74, Dev.chRecord n 74] else x

theorem Dev.chRecord_pwr (n code : Nat) (d : Dev) : (d.chRecord n code).pwr = d.pwr := Dev.bbMake_pwr ..
theorem Dev.get_chRecord {j : Nat} (hj : powerKey j) (n code : Nat) (d : Dev) : (d.chRecord n code).get j = d.get j := Dev.get_power_bbMake hj ..

theorem Dev.chReported_pwr (n i : Nat) (latch : Bool) (d : Dev) : (d.chReported n i latch).pwr = d.pwr := by
  cases latch <;> simp [Dev.chReported, Dev.chRecord_pwr]

theorem Dev.get_chReported {n j : Nat} (hj : powerKey j) (h22 : j ≠ pk n 0x22) (h26 : j ≠ pk n 0x26) (i : Nat) (latch : Bool) (d : Dev) : (d.chReported n i latch).get j = d.get j := by
  cases latch <;>
    simp [Dev.chReported, Dev.get_chRecord hj, Dev.get_power_raise hj, Dev.inc, Dev.bump, Dev.get_power_put hj h22, Dev.get_power_put hj h26]

theorem Dev.get_faultCause_chReported {n : Nat} (hn : n < 8) (i : Nat) (latch : Bool) (d : Dev) : (d.chReported n i latch).get (pk n 0x22) = 2 ^ i := by
  have hj : powerKey (pk n 0x22) := powerKey_pk hn (by decide)
  have hcount : pk n 0x22 ≠ pk n 0x26 := pk_ne (by decide)
  cases latch <;> simp [Dev.chReported, Dev.get_chRecord hj, Dev.get_power_raise hj, Dev.inc, Dev.bump, Dev.get_power_put hj hcount]

theorem Dev.get_chRest {n j : Nat} (hj : powerKey j) (h : j ≠ pk n 0x20) (st : Nat) (d : Dev) : (d.chRest n st).get j = d.get j := Dev.get_power_put hj h st d

theorem Dev.chState_chRest (n st : Nat) (d : Dev) : (d.chRest n st).chState n = st := Dev.get_put_same (pk n 0x20) st d

section
variable {d : Dev} {n : Nat}

theorem Dev.get_chStopped {j : Nat} (hj : powerKey j) (h20 : j ≠ pk n 0x20) (h24 : j ≠ pk n 0x24) : (d.chStopped n).get j = d.get j := by
  unfold Dev.chStopped
  split
  · rw [Dev.get_power_put hj h24, Dev.setCh, Dev.get_power_put hj h20, Dev.get_chRest hj h20]
  · rw [Dev.get_modPch, Dev.get_chRest hj h20]

/-- A channel that a fault stops stays wanted. -/
theorem Dev.chWanted_chStopped (hn : n < 8) : (d.chStopped n).chWanted n = d.chWanted n := by
  have hj : powerKey (pk (d.pwrGov n) 0) := powerKey_pk (d.pwrGov_lt hn) (by decide)
  have henable : (d.chStopped n).get (pk (d.pwrGov n) 0) = d.get (pk (d.pwrGov n) 0) := Dev.get_chStopped hj (by unfold pk key; omega) (by unfold pk key; omega)
  have hstage : (d.chStopped n).pwr.on = d.pwr.on ∧ (d.chStopped n).pwr.go = d.pwr.go ∧ (d.chStopped n).pwr.cut = d.pwr.cut ∧ (d.chStopped n).pwr.recon = d.pwr.recon
      ∧ (d.chStopped n).pwrGov n = d.pwrGov n := by
    unfold Dev.chStopped
    split <;> exact ⟨rfl, rfl, rfl, rfl, rfl⟩
  obtain ⟨hon, hgo, hcut, hrecon, hgov⟩ := hstage
  rw [Dev.chWanted, Dev.chEnabled, hon, hgo, hcut, hrecon, hgov, henable, Dev.chWanted, Dev.chEnabled]

theorem Dev.chStopped_latched (hn : n < 8) (h : 8 ≤ d.retries n) : (d.chStopped n).chState n = 7 ∧ (d.chStopped n).get (pk n 0x24) = 1 := by
  rw [Dev.chStopped, if_pos h, Dev.chState, Dev.get_power_put (powerKey_pk hn (by decide)) (pk_ne (by decide))]
  exact ⟨Dev.get_put_same .., Dev.get_put_same ..⟩

theorem Dev.chState_chStopped_retry (h : ¬ 8 ≤ d.retries n) : (d.chStopped n).chState n = 6 := by
  rw [Dev.chStopped, if_neg h, Dev.chState, Dev.get_modPch]
  exact Dev.chState_chRest n 6 d

variable (hlen : n < d.pwr.chans.length)
include hlen

theorem Dev.pch_chRest (st : Nat) :
    (d.chRest n st).pch n = { d.pch n with due := none, ramping := false, gain := 0, soft := false, stop := false, retryAt := if st = 6 then (d.pch n).retryAt else none } :=
  Dev.pch_modPch_same (d := d.setCh n st) hlen _

theorem Dev.retries_chRest (st : Nat) : (d.chRest n st).retries n = d.retries n := by
  rw [Dev.retries, Dev.pch_chRest hlen, Dev.retries]
  rfl

theorem Dev.pch_chStopped_retry (h : ¬ 8 ≤ d.retries n) : (d.chStopped n).pch n = { (d.chRest n 6).pch n with retryAt := some (d.now + d.get (pk n 4) * 1000000) } := by
  have hkeep : n < (d.chRest n 6).pwr.chans.length := (modNth_length _ d.pwr.chans n).symm ▸ hlen
  rw [Dev.chStopped, if_neg h, Dev.pch_modPch_same hkeep]

theorem Dev.ramping_chStopped : ((d.chStopped n).pch n).ramping = false := by
  by_cases h : 8 ≤ d.retries n
  · have hpch : (d.chStopped n).pch n = (d.chRest n 6).pch n := by
      rw [Dev.chStopped, if_pos h, Dev.setCh, Dev.pch_of_pwr (Dev.put_pwr ..), Dev.pch_of_pwr (Dev.put_pwr ..)]
    rw [hpch, Dev.pch_chRest hlen]
  · rw [Dev.pch_chStopped_retry hlen h, Dev.pch_chRest hlen]

variable (hn : n < 8) (hg : d.pwrGov n = n)
include hn hg

theorem Dev.chFault_stages (i : Nat) : d.chFault n i true = ((d.chStopped n).chReported n i (decide (8 ≤ d.retries n))).chSettle n := by
  have hdelay : (d.chRest n 6).get (pk n 4) = d.get (pk n 4) := Dev.get_chRest (powerKey_pk hn (by decide)) (pk_ne (by decide)) 6 d
  simp only [Dev.chFault, hg, if_true, Bool.true_and, ge_iff_le, Dev.retries_chRest hlen, hdelay, Dev.chStopped, Dev.chReported, decide_eq_true_eq]
  rfl

/-- A wanted channel stays as a counted fault stops it: what is required of it changes nothing. -/
theorem Dev.chFault_eq (hw : d.chWanted n = true) (i : Nat) : d.chFault n i true = (d.chStopped n).chReported n i (decide (8 ≤ d.retries n)) := by
  have hstate : ((d.chStopped n).chReported n i (decide (8 ≤ d.retries n))).chState n = (d.chStopped n).chState n :=
    Dev.get_chReported (powerKey_pk hn (by decide)) (pk_ne (by decide)) (pk_ne (by decide)) _ _ _
  rw [Dev.chFault_stages hlen hn hg]
  by_cases h : 8 ≤ d.retries n
  · exact Dev.chSettle_latched (hstate.trans (Dev.chStopped_latched hn h).1)
  · have hgov : (d.chStopped n).pwrGov n < 8 := Dev.pwrGov_lt hn _
    have hwanted : ((d.chStopped n).chReported n i (decide (8 ≤ d.retries n))).chWanted n = true := by
      rw [Dev.chWanted_of_pwr (Dev.chReported_pwr ..) (Dev.get_chReported (powerKey_pk hgov (by decide)) (by unfold pk key; omega) (by unfold pk key; omega) _ _ _), Dev.chWanted_chStopped hn, hw]
    exact Dev.chSettle_retryWait hwanted (hstate.trans (Dev.chState_chStopped_retry h))

end

/-! PVDD_OV, gate-drive supplies and temperature (R335, R343) -/

theorem foldl_fixed_of_mem {α β : Type} {f : β → α → β} {b : β} {l : List α} (h : ∀ a ∈ l, f b a = b) : l.foldl f b = b := by
  induction l with
  | nil => rfl
  | cons a t ih => rw [List.foldl_cons, h a List.mem_cons_self, ih fun x hx => h x (List.mem_cons_of_mem a hx)]

/-- A fault changes nothing where no channel is driven or at high impedance. -/
theorem Dev.chFaultIf_calm {d : Dev} (i : Nat) (h : ∀ n < 8, d.chDriven n = false ∧ d.chState n ≠ 5) :
    d.pwrOwn.foldl (fun (a : Dev) n => a.chFaultIf n i false (a.chDriven n || a.chState n = 5)) d = d := by
  refine foldl_fixed_of_mem fun n hn => ?_
  have hlt : n < 8 := List.mem_range.mp (List.mem_of_mem_filter hn)
  obtain ⟨hdriven, hhiz⟩ := h n hlt
  simp [Dev.chFaultIf, hdriven, hhiz]

section
variable {d : Dev}

theorem Dev.chTrip_driven {n i : Nat} {ok : Dev → Bool} (hn : n < 8) (hd : d.chDriven n = true) (ho : ok d = true) : d.chTrip n i ok = d.chFault n i true := by simp [Dev.chTrip, hn, hd, ho]
theorem Dev.chTrip_undriven {n i : Nat} {ok : Dev → Bool} (hd : d.chDriven n = false) : d.chTrip n i ok = d := by simp [Dev.chTrip, hd]
theorem Dev.cycleCut_driven {n : Nat} (hn : n < 8) (hd : d.chDriven n = true) :
    d.cycleCut n = (d.add64 (pk (d.pwrGov n) 0x28) 1).modPch (d.pwrGov n) (fun c => { c with cutAt := some d.now }) := by simp [Dev.cycleCut, hn, hd]
theorem Dev.cycleCut_undriven {n : Nat} (hd : d.chDriven n = false) : d.cycleCut n = d := by simp [Dev.cycleCut, hd]

theorem Dev.gateDown_channel {u : Nat} (hu : u < 8) (ho : d.pwr.on = true) (hg : (d.pch u).gate = false) (hd : d.chDriven u = true) :
    d.gateDown u = (d.modPch u (fun c => { c with gate := true })).chFault u 5 false := by
  simp [Dev.gateDown, ho, hu, hg, hd, Dev.chFaultIf]

theorem Dev.gateDown_phase {p : Nat} (hp : p < 4) (ho : d.pwr.on = true) (hg : bit d.bst.gates p = false) :
    d.gateDown (8 + p) = (({ d with bst := { d.bst with gates := setBit d.bst.gates p true } } : Dev).boostFault 4).phaseReport := by
  have hunit : 8 + p < 12 := by omega
  simp [Dev.gateDown, ho, hunit, hg]

theorem Dev.gateUp_channel {u : Nat} (hu : u < 8) (hg : (d.pch u).gate = true) : d.gateUp u = (d.modPch u (fun c => { c with gate := false })).chSettle (d.pwrGov u) := by
  simp [Dev.gateUp, hu, hg]

theorem Dev.gateUp_phase {p : Nat} (hp : p < 4) (hg : bit d.bst.gates p = true) :
    d.gateUp (8 + p) = (({ d with bst := { d.bst with gates := setBit d.bst.gates p false } } : Dev).phaseReport).raise 86 := by
  have hunit : 8 + p < 12 := by omega
  simp [Dev.gateUp, hunit, hg]

/-- PVDD_OV noted: its flag set and EV77 raised. -/
def Dev.ovRaised (d : Dev) : Dev := ({ d with pwr := { d.pwr with ov := true } } : Dev).raise 77

/-- Then the fault of every channel at work. -/
def Dev.ovFaulted (d : Dev) : Dev := d.ovRaised.pwrOwn.foldl (fun (a : Dev) n => a.chFaultIf n 7 false (a.chDriven n || a.chState n = 5)) d.ovRaised

section
variable (ho : d.pwr.on = true) (hv : d.pwr.ov = false)
include ho hv

theorem Dev.pvddOv_first :
    d.pvddOv = if d.ovFaulted.boostState = 0 then d.ovFaulted
      else ((if d.ovFaulted.boostState = 7 then d.ovFaulted else d.ovFaulted.setBoost 6).boostFault 2).setBflag 5 (d.ovFaulted.bst.vin ≤ 2900) := by
  rw [Dev.pvddOv, if_neg (by simp [ho, hv])]
  rfl

theorem Dev.pvddOv_calm (hb : d.boostState = 0) (h : ∀ n < 8, d.chDriven n = false ∧ d.chState n ≠ 5) : d.pvddOv = d.ovRaised := by
  have hcalm : ∀ n < 8, d.ovRaised.chDriven n = false ∧ d.ovRaised.chState n ≠ 5 := fun n hn => by
    rw [Dev.ovRaised, Dev.chDriven_raise hn (by decide), Dev.chState_raise hn (by decide)]
    exact h n hn
  have hfaulted : d.ovFaulted = d.ovRaised := Dev.chFaultIf_calm 7 hcalm
  have hboost : d.ovRaised.boostState = 0 := (Dev.boostState_raise (by decide) _).trans hb
  rw [Dev.pvddOv_first ho hv, hfaulted, if_pos hboost]

theorem Dev.pvddOv_boost (h0 : d.ovFaulted.boostState ≠ 0) (h7 : d.ovFaulted.boostState ≠ 7) :
    d.pvddOv = ((d.ovFaulted.setBoost 6).boostFault 2).setBflag 5 (d.ovFaulted.bst.vin ≤ 2900) := by
  rw [Dev.pvddOv_first ho hv, if_neg h0, if_neg h7]

end

theorem Dev.pvddOvEnd_noFault (hv : d.pwr.ov = true) (hb : d.boostState ≠ 6) :
    d.pvddOvEnd = ((({ d with pwr := { d.pwr with ov := false } } : Dev).raise 77).setBflag 5 false).pwrSettle := by
  have hkeep : ((({ d with pwr := { d.pwr with ov := false } } : Dev).raise 77).setBflag 5 false).boostState ≠ 6 := by
    rw [Dev.boostState_setBflag, Dev.boostState_raise (by decide)]
    exact hb
  simp [Dev.pvddOvEnd, hv, hkeep]

theorem Dev.chRetry_due {n t : Nat} (hr : (d.pch n).retryAt = some t) (ht : t ≤ d.now) (hs : d.chState n = 6) (hw : d.chWanted n = true) (hz : d.mustHiz n = false) :
    d.chRetry n = (d.chStart n true).modPch n (fun c => { c with retries := d.now :: c.retries.filter (fun t => decide (d.now < t + 60000000000)) }) := by
  simp [Dev.chRetry, hr, ht, hs, hw, hz]

theorem Dev.clearLatch_unlatched {n : Nat} (h : d.get (pk n 0x24) = 0) : d.clearLatch n = d := by simp [Dev.clearLatch, h]

theorem Dev.clearLatch_latched {n : Nat} (h : d.get (pk n 0x24) = 1) :
    d.clearLatch n = let x := ((d.put (pk n 0x24) 0).modPch n (fun c => { c with retries := [] })).raise 74; (x.chRest n (if x.chWanted n then 5 else 0)).chSettle n := by
  rw [Dev.clearLatch, if_pos h]

/-! A die's temperature -/

theorem dieFactor_hot {t : Int} (h : 125000 ≤ t) : dieFactor t = (max 25000 (100000 - 3 * (t - 125000))).toNat := by
  unfold dieFactor clampI
  omega

/-- At 125 °C or above, with WARN set, nothing changes but the factor, the shutdown and the recovery. -/
theorem Dev.dieTemp_hot {die : Nat} {t : Int} (hd : die < 2) (ho : d.pwr.on = true) (ht : 125000 ≤ t) (hw : d.bitOf (key 0x6105 die) 0 = true) :
    d.dieTemp die t = let x : Dev := { d with pwr := { d.pwr with fdie := modNth (fun _ => (max 25000 (100000 - 3 * (t - 125000))).toNat) d.pwr.fdie die } }
      if decide (160000 ≤ t) && !d.bitOf (key 0x6105 die) 1 then x.dieShut die else if decide (t < 140000) && d.bitOf (key 0x6105 die) 1 then x.dieBack die else x := by
  have hbit : ∀ i, ({ d with pwr := { d.pwr with fdie := modNth (fun _ => dieFactor t) d.pwr.fdie die } } : Dev).bitOf (key 0x6105 die) i = d.bitOf (key 0x6105 die) i := fun _ => rfl
  rw [← dieFactor_hot ht, Dev.dieTemp, if_neg (by simp [ho, hd])]
  simp only [hbit, hw, ht, decide_true, cond_true, BEq.rfl, if_true]

end

/-- Settles O37: a counted fault by the state and the report it leaves, every other protection by what it starts. -/
theorem powerFaults : Obligations.PowerFaults := by
  unfold Obligations.PowerFaults
  refine ⟨?driven, ?undriven, ?counted, fun s u hu ho hg hd => becomes_act rfl (Dev.gateDown_channel hu ho hg hd), fun s p hp ho hg => becomes_act rfl (Dev.gateDown_phase hp ho hg),
    fun s u hu hg => becomes_act rfl (Dev.gateUp_channel hu hg), fun s p hp hg => becomes_act rfl (Dev.gateUp_phase hp hg), fun s ho hv hb h => becomes_act rfl (Dev.pvddOv_calm ho hv hb h),
    fun s hv hb => becomes_act rfl (Dev.pvddOvEnd_noFault hv hb), fun s ho hv _ h0 h7 => becomes_act rfl (Dev.pvddOv_boost ho hv h0 h7),
    fun s n t hn hr ht hs hw hz => becomes_channel rfl hn (Dev.chRetry_due hr ht hs hw hz),
    
    fun a n hn => (writes_clearLatch a n hn).congr (fun _ _ => trivial) fun _ h => Dev.clearLatch_unlatched h,
    fun a n hn => (writes_clearLatch a n hn).congr (fun _ _ => trivial) fun _ h => Dev.clearLatch_latched h, ?warm, ?shut⟩
  case driven =>
    intro s n hn hd
    exact ⟨becomes_act rfl (Dev.chTrip_driven hn hd rfl), becomes_act rfl (Dev.chTrip_driven hn hd rfl), becomes_act rfl (Dev.chTrip_driven hn hd rfl),
      fun h => becomes_act rfl (Dev.chTrip_driven hn hd (decide_eq_true h)), fun h => becomes_act rfl (Dev.chTrip_driven hn hd (decide_eq_true h)), becomes_act rfl (Dev.cycleCut_driven hn hd)⟩
  case undriven =>
    intro s n hd
    simp only [List.forall_mem_cons]
    exact ⟨becomes_act rfl (Dev.chTrip_undriven hd), becomes_act rfl (Dev.chTrip_undriven hd), becomes_act rfl (Dev.chTrip_undriven hd), becomes_act rfl (Dev.chTrip_undriven hd),
      becomes_act rfl (Dev.chTrip_undriven hd), becomes_act rfl (Dev.cycleCut_undriven hd), fun _ h => absurd h List.not_mem_nil⟩
  case counted =>
    intro d n i hn hlen hg hw _
    have hkeep : ∀ s < 256, s ≠ 0x22 → s ≠ 0x26 → ((d.chStopped n).chReported n i (decide (8 ≤ d.retries n))).get (pk n s) = (d.chStopped n).get (pk n s) :=
      fun s hs h22 h26 => Dev.get_chReported (powerKey_pk hn hs) (pk_ne h22) (pk_ne h26) i _ _
    have hpch : ((d.chStopped n).chReported n i (decide (8 ≤ d.retries n))).pch n = (d.chStopped n).pch n := Dev.pch_of_pwr (Dev.chReported_pwr ..) n
    rw [Dev.chFault_eq hlen hn hg hw i, hpch]
    refine ⟨fun h => ⟨?_, ?_⟩, fun h => ⟨?_, ?_⟩, Dev.get_faultCause_chReported hn i _ _, Dev.ramping_chStopped hlen⟩
    · exact (hkeep 0x20 (by decide) (by decide) (by decide)).trans (Dev.chState_chStopped_retry (by omega))
    · rw [Dev.pch_chStopped_retry hlen (by omega)]
    · exact (hkeep 0x20 (by decide) (by decide) (by decide)).trans (Dev.chStopped_latched hn h).1
    · exact (hkeep 0x24 (by decide) (by decide) (by decide)).trans (Dev.chStopped_latched hn h).2
  case warm =>
    intro s die t hd ho hlow hhigh hw
    refine becomes_act rfl ((Dev.dieTemp_hot hd ho (by omega) hw).trans ?_)
    have hshut : ¬ 160000 ≤ t := by omega
    have hback : ¬ t < 140000 := by omega
    simp only [hshut, hback, decide_false, Bool.false_and, Bool.false_eq_true, if_false]
  case shut =>
    intro s die t hd ho ht hw hs
    refine becomes_act rfl ((Dev.dieTemp_hot hd ho (by omega) hw).trans ?_)
    simp only [ht, hs, decide_true, Bool.not_false, Bool.and_self, if_true]

end Sys2Proof.Machine
end

section
/-! SUPPORT. The power limit and the pilots (R339 to R341, R344, R345, R361). -/
namespace Sys2Proof.Machine

/-! Signed values and bits of a word -/

theorem fitsS_iff {w : Nat} {i : Int} : fitsS w i = true ↔ -(2 ^ (w - 1) : Nat) ≤ i ∧ i < (2 ^ (w - 1) : Nat) := by
  cases i with
  | ofNat n => simp only [fitsS, decide_eq_true_eq, Int.ofNat_eq_natCast]; omega
  | negSucc n => simp only [fitsS, decide_eq_true_eq]; omega

theorem fitsS_satS (w : Nat) (i : Int) : fitsS w (satS w i) = true := by
  have hpos := Nat.two_pow_pos (w - 1)
  unfold satS
  split
  · assumption
  · cases i with
    | ofNat n => dsimp only; rw [fitsS_iff]; omega
    | negSucc n => dsimp only; rw [fitsS_iff]; omega

/-- A signed value that fits is read back as it was written. -/
theorem toInt_ofInt {w : Nat} {i : Int} (hw : 0 < w) (h : fitsS w i = true) : toInt w (ofInt w i) = i := by
  have hpow : 2 ^ w = 2 * 2 ^ (w - 1) := by rw [← Nat.pow_succ', Nat.succ_eq_add_one, Nat.sub_add_cancel hw]
  obtain ⟨hlo, hhi⟩ := fitsS_iff.mp h
  have hmod : ofInt w i % 2 ^ w = ofInt w i := Nat.mod_eq_of_lt (by unfold ofInt; omega)
  rw [toInt, hmod]
  unfold ofInt
  rcases Int.lt_or_le i 0 with hneg | hpos
  · have hwrap : i % ((2 ^ w : Nat) : Int) = i + (2 ^ w : Nat) := by
      rw [← Int.add_emod_right, Int.emod_eq_of_lt (by omega) (by omega)]
    rw [hwrap, if_neg (by omega)]
    omega
  · rw [Int.emod_eq_of_lt hpos (by omega), if_pos (by omega)]
    omega

/-- The bits below a bit that is set or cleared stay. -/
theorem bit_setBit_below {i j : Nat} (h : j < i) (v : Nat) (b : Bool) : bit (setBit v i b) j = bit v j := by
  have hle : fld v i i * 2 ^ i ≤ v := by
    rw [fld, Nat.shiftRight_eq_div_pow]
    exact (Nat.mul_le_mul_right _ (Nat.mod_le _ _)).trans (Nat.div_mul_le_self v (2 ^ i))
  have hlow : setBit v i b % 2 ^ i = v % 2 ^ i := by
    rw [setBit, setFld, Nat.add_mul_mod_self_right, Nat.mul_comm, Nat.sub_mul_mod (by rwa [Nat.mul_comm])]
  have hbit : ∀ x, bit x j = (x % 2 ^ i).testBit j := fun x => by simp [bit, Nat.testBit_mod_two_pow, h]
  rw [hbit, hbit, hlow]

/-! One step of an integrator and its gain (R340, R341) -/

/-- The limit in force, P_a: the peak limit while the integrator is below its ceiling, the continuous one from there. -/
def limitInForce (p : Int) (cont peak : Nat) (c : PwrCh) : Nat := if ((c.e : Int) + p - cont).toNat < (peak - cont) * 2000 then peak else cont

/-- A gain that falls, towards its product with the root of P_a over the power. -/
def gainDown (p : Int) (pa x g : Nat) : Nat :=
  let lo := max 1 (min g (g * root (pa * 10 ^ 18 / p.toNat) / 1000000000))
  lo + x % (g - lo + 1)

/-- A gain that rises, at 10 dB per second. -/
def gainUp (x g : Nat) : Nat :=
  let lo := g * 1000115 / 1000000
  min 1000000000 (lo + x % (g * 1000116 / 1000000 - lo + 1))

theorem limitStep_eq (p : Int) (cont peak x : Nat) (c : PwrCh) : limitStep p cont peak x c =
    { c with e := ((c.e : Int) + p - cont).toNat, lim := cont, g := if (limitInForce p cont peak c : Int) < p then gainDown p (limitInForce p cont peak c) x c.g else gainUp x c.g } := by
  unfold limitStep
  dsimp only
  by_cases h : (limitInForce p cont peak c : Int) < p
  · rw [if_pos h]
    exact if_pos h
  · rw [if_neg h]
    exact if_neg h

theorem limitInForce_or (p : Int) (cont peak : Nat) (c : PwrCh) : limitInForce p cont peak c = peak ∨ limitInForce p cont peak c = cont := by
  unfold limitInForce
  split <;> simp

theorem gainDown_le (p : Int) (pa x g : Nat) : gainDown p pa x g ≤ max 1 g := by
  have h := Nat.mod_lt x (show 0 < g - max 1 (min g (g * root (pa * 10 ^ 18 / p.toNat) / 1000000000)) + 1 by omega)
  unfold gainDown
  dsimp only
  omega

theorem gainUp_le (x g : Nat) : gainUp x g ≤ 1000000000 := Nat.min_le_left ..

theorem le_gainUp {g : Nat} (h : g ≤ 1000000000) (x : Nat) : g ≤ gainUp x g := by
  unfold gainUp
  dsimp only
  omega

/-- A step of a gain that is at most 1 (10^9 of 10^-9): the integrator, and the gain by the power and the limits. -/
theorem limitStep_law (p : Int) (cont peak x : Nat) (c : PwrCh) (hg : c.g ≤ 1000000000) :
    ((limitStep p cont peak x c).e : Int) = max 0 ((c.e : Int) + p - cont) ∧ (limitStep p cont peak x c).lim = cont ∧ (limitStep p cont peak x c).g ≤ 1000000000 ∧
    (p ≤ min cont peak → c.g ≤ (limitStep p cont peak x c).g) ∧ ((max cont peak : Nat) < p → (limitStep p cont peak x c).g ≤ max 1 c.g) := by
  have hforce := limitInForce_or p cont peak c
  have hdown := gainDown_le p (limitInForce p cont peak c) x c.g
  have hcap := gainUp_le x c.g
  have hup := le_gainUp hg x
  rw [limitStep_eq]
  refine ⟨by dsimp only; omega, rfl, ?_, fun hp => ?_, fun hp => ?_⟩
  · dsimp only
    split <;> omega
  · dsimp only
    rw [if_neg (by omega)]
    exact hup
  · dsimp only
    rw [if_pos (by omega)]
    exact hdown

/-! The 0.1 ms step -/

section
variable {d : Dev} {powers : List Int} {vin pvdd iin : Nat}

theorem Dev.limitStepAll_off (h : d.pwr.on = false) : d.limitStepAll powers vin pvdd iin = d := by simp [Dev.limitStepAll, h]

/-- Measurements that fit their objects are stored as they are, before the factor of the boost. -/
theorem Dev.limitStepAll_on (h : d.pwr.on = true) (hv : vin < 65536) (hp : pvdd < 65536) (hi : iin < 65536) :
    d.limitStepAll powers vin pvdd iin =
      let x := (((d.put 0x621003 pvdd).put 0x621004 vin).put 0x621005 iin)
      let y : Dev := { x with bst := { x.bst with factor := (x.boostFactor vin).1 } }
      (if y.bflag 1 = (x.boostFactor vin).2 then y else (y.setBflag 1 (x.boostFactor vin).2).raise 85).powerStep powers (x.boostFactor vin).1 := by
  have hvin : min vin 65535 = vin := by omega
  have hpvdd : min pvdd 65535 = pvdd := by omega
  have hiin : min iin 65535 = iin := by omega
  rw [Dev.limitStepAll, if_neg (by simp [h]), hvin, hpvdd, hiin]
  rfl

end

/-! Pilot windows (R344, R345) -/

section
variable {d : Dev} {n mag : Nat} {phase : Int}

theorem Dev.zResult_invalid : d.zResult n false mag phase = d.putBit (zk n 4) 0 false := by simp [Dev.zResult]
theorem Dev.reResult_invalid : d.reResult n false mag = d.putBit (zk n 4) 1 false := by simp [Dev.reResult]

/-- A window of a channel on its own objects, while the stage has power. -/
theorem Dev.pilotResult_own (hn : n < 8) (hg : d.pwrGov n = n) (ho : d.pwr.on = true) (kind : Nat) (valid : Bool) :
    d.pilotResult n kind valid mag phase = if kind = 0 then d.zResult n (valid && d.chState n = 3) mag phase else d.reResult n (valid && d.chState n = 3) mag := by
  simp [Dev.pilotResult, hn, hg, ho]

/-- A sub-audio result with no reference: RE and its VALID bit. -/
theorem Dev.reResult_noReference (hn : n < 8) (he : d.bitOf 0x612000 (8 + n) = true) (hr : d.get (zk n 5) = 0) (hm : mag < 2 ^ 32) :
    d.reResult n true mag = (d.put (zk n 2) mag).putBit (zk n 4) 1 true := by
  have hj : powerKey (zk n 5) := powerKey_zk hn (by decide)
  have href : ((d.put (zk n 2) mag).putBit (zk n 4) 1 true).get (zk n 5) = 0 := by
    rw [Dev.putBit, Dev.get_power_put hj (zk_ne (by decide)), Dev.get_power_put hj (zk_ne (by decide)), hr]
  simp only [Dev.reResult, he, Bool.true_and, if_true, Nat.mod_eq_of_lt hm, href]

theorem Dev.get_zFlag {j i : Nat} (hj : powerKey j) (h : j ≠ zk n 4) (b : Bool) : (d.zFlag n i b).get j = d.get j := by
  unfold Dev.zFlag
  split
  · rfl
  · rw [Dev.get_power_raise hj (by decide), Dev.putBit, Dev.get_power_put hj h]

theorem Dev.bitOf_zFlag_below {i j : Nat} (hn : n < 8) (h : j < i) (b : Bool) : (d.zFlag n i b).bitOf (zk n 4) j = d.bitOf (zk n 4) j := by
  unfold Dev.zFlag
  split
  · rfl
  · rw [Dev.bitOf, Dev.get_power_raise (powerKey_zk hn (by decide)) (by decide), Dev.putBit, Dev.get_put_same, bit_setBit_below h, Dev.bitOf]

/-- The results of an ultrasonic window stored: Z_MAG, Z_PHASE and the VALID bit. -/
def Dev.zStored (n mag : Nat) (phase : Int) (d : Dev) : Dev := ((d.put (zk n 0) mag).putI 16 (zk n 1) phase).putBit (zk n 4) 0 true

/-- Beside them a valid window changes its channel's runs and sets Z_LOW and Z_HIGH alone. -/
theorem Dev.zResult_valid (he : d.bitOf 0x612000 n = true) (hf : d.usFits = true) (hm : mag < 2 ^ 32) :
    ∃ (f : PwrCh → PwrCh) (low high : Bool), d.zResult n true mag phase = ((((d.zStored n mag phase).modPch n f).zFlag n 2 low).zFlag n 3 high) := by
  simp only [Dev.zResult, he, hf, Bool.true_and, if_true, Nat.mod_eq_of_lt hm]
  exact ⟨_, _, _, rfl⟩

theorem Dev.get_zStored {j : Nat} (hj : powerKey j) (h0 : j ≠ zk n 0) (h1 : j ≠ zk n 1) (h4 : j ≠ zk n 4) : (d.zStored n mag phase).get j = d.get j := by
  rw [Dev.zStored, Dev.putBit, Dev.get_power_put hj h4, Dev.putI, Dev.get_power_put hj h1, Dev.get_power_put hj h0]

theorem Dev.zStored_results (hn : n < 8) : (d.zStored n mag phase).get (zk n 0) = mag ∧ (d.zStored n mag phase).getI 16 (zk n 1) = satS 16 phase ∧ (d.zStored n mag phase).bitOf (zk n 4) 0 = true := by
  have h0 : powerKey (zk n 0) := powerKey_zk hn (by decide)
  have h1 : powerKey (zk n 1) := powerKey_zk hn (by decide)
  refine ⟨?_, ?_, ?_⟩
  · rw [Dev.zStored, Dev.putBit, Dev.get_power_put h0 (zk_ne (by decide)), Dev.putI, Dev.get_power_put h0 (zk_ne (by decide)), Dev.get_put_same]
  · rw [Dev.getI, Dev.zStored, Dev.putBit, Dev.get_power_put h1 (zk_ne (by decide)), Dev.putI, Dev.get_put_same, toInt_ofInt (by decide) (fitsS_satS 16 phase)]
  · rw [Dev.bitOf, Dev.zStored, Dev.putBit, Dev.get_put_same, bit_setBit_same]

end

/-- Settles O38: the step by its stages, an integrator and its gain by the law of one step, a window by the results it stores and the flags that leave them. -/
theorem powerLimits : Obligations.PowerLimits := by
  unfold Obligations.PowerLimits
  refine ⟨fun s powers vin pvdd iin ho hv hp hi => becomes_act rfl (Dev.limitStepAll_on ho hv hp hi), fun s powers vin pvdd iin ho => becomes_act rfl (Dev.limitStepAll_off ho), limitStep_law,
    ?invalid, ?subAudio, ?ultrasonic, writes_reCapture⟩
  case invalid =>
    intro s n mag phase valid hn hg ho hv
    have hok : (valid && decide (s.dev.chState n = 3)) = false := by
      rcases hv with hv | hv <;> simp [hv]
    constructor
    · refine becomes_channel rfl hn ?_
      rw [Dev.pilotResult_own hn hg ho, if_pos rfl, hok, Dev.zResult_invalid]
    · refine becomes_channel rfl hn ?_
      rw [Dev.pilotResult_own hn hg ho, if_neg (by decide), hok, Dev.reResult_invalid]
  case subAudio =>
    intro s n mag phase hn hg ho hs he hr hm
    refine becomes_channel rfl hn ?_
    rw [Dev.pilotResult_own hn hg ho, if_neg (by decide), Bool.true_and, decide_eq_true hs, Dev.reResult_noReference hn he hr hm]
  case ultrasonic =>
    intro s n mag phase hn hg ho hs he hf hm
    obtain ⟨f, low, high, hz⟩ := Dev.zResult_valid (mag := mag) (phase := phase) he (show s.dev.usFits = true from decide_eq_true hf) hm
    have hres : s.dev.pilotResult n 0 true mag phase = ((((s.dev.zStored n mag phase).modPch n f).zFlag n 2 low).zFlag n 3 high) := by
      rw [Dev.pilotResult_own hn hg ho, if_pos rfl, Bool.true_and, decide_eq_true hs, hz]
    have hkeep : ∀ t < 256, t ≠ 4 → ((((s.dev.zStored n mag phase).modPch n f).zFlag n 2 low).zFlag n 3 high).get (zk n t) = (s.dev.zStored n mag phase).get (zk n t) := fun t ht h4 => by
      rw [Dev.get_zFlag (powerKey_zk hn ht) (zk_ne h4), Dev.get_zFlag (powerKey_zk hn ht) (zk_ne h4), Dev.get_modPch]
    obtain ⟨hmag, hphase, hvalid⟩ := Dev.zStored_results (d := s.dev) (mag := mag) (phase := phase) hn
    have hbit : ((((s.dev.zStored n mag phase).modPch n f).zFlag n 2 low).zFlag n 3 high).bitOf (zk n 4) 0 = true := by
      rw [Dev.bitOf_zFlag_below hn (by decide), Dev.bitOf_zFlag_below hn (by decide), Dev.bitOf, Dev.get_modPch]
      exact hvalid
    refine (becomes_channel rfl hn hres).gives ⟨?_, ?_, ?_, ?_⟩
    · exact (hkeep 0 (by decide) (by decide)).trans hmag
    · exact (congrArg (toInt 16) (hkeep 1 (by decide) (by decide))).trans hphase
    · exact hbit
    · exact (hkeep 2 (by decide) (by decide)).trans (Dev.get_zStored (powerKey_zk hn (by decide)) (zk_ne (by decide)) (zk_ne (by decide)) (zk_ne (by decide)))

end Sys2Proof.Machine
end

section
/-! SUPPORT. The channels of PLAY-ECO: the refusal of a write of CH_ENABLE, and what is counted (R331, R332). -/
namespace Sys2Proof.Machine

/-! Codes that apply to a write -/

/-- Where RANGE applies and no other code does, the answer is RANGE. -/
theorem firstError_range {l : List Nat} (hm : eRange ∈ l) (h : ∀ c ∈ l, c = eRange) : firstError l = eRange := by
  have hcontains : ∀ e, l.contains e = (e == eRange) := fun e => by
    rw [Bool.eq_iff_iff, List.contains_iff_mem, beq_iff_eq]
    exact ⟨h e, fun he => he ▸ hm⟩
  simp only [firstError, hcontains]
  decide

/-- A fifth channel enabled in PLAY-ECO is a RANGE of the object's own (R331). -/
theorem Dev.pwrCheck_eco {d : Dev} {n : Nat} (hn : n < 8) (hm : d.effMode = 7) (he : d.chEnabled n = false) (hc : 4 < d.chCount + (if d.bridged n then 2 else 1)) :
    eRange ∈ d.pwrCheck (pk n 0) 1 := by
  have hrange : 0x6000 + 16 * n < 0x6080 := by omega
  simp [Dev.pwrCheck, pk, key_div, key_mod, hrange, hm, he, hc, errIf]

/-- The row of CH_ENABLE. -/
def enableRow : ObjRow := .mk 0x6000 16 8 0x0 1 .bool .rw 1 .o 0 0 (.nat [(0, 1)])

theorem objRow_enable : ∀ n < 8, objRow (pk n 0) = some enableRow := by decide

theorem Dev.payload_enable {n : Nat} (hn : n < 8) (a : Access) (d : Dev) : (d.payload (numAccess a (pk n 0) 1) (Obj.ofRow enableRow (pk n 0)) (pk n 0)).1 = .num 1 := by
  have hbytes : keyBytes (pk n 0) = 1 := by rw [keyBytes, objRow_enable n hn]; rfl
  rw [numAccess, hbytes]
  rfl

/-- A write of 1 to CH_ENABLE that is not refused for its type meets the object's own checks. -/
theorem Dev.pwrCheck_sub_writeCodes {d : Dev} {a : Access} {n : Nat} (hn : n < 8) (ho : d.objAt (pk n 0) ≠ none) (ht : eType ∉ d.writeCodes (numAccess a (pk n 0) 1) (pk n 0)) :
    d.pwrCheck (pk n 0) 1 ⊆ d.writeCodes (numAccess a (pk n 0) 1) (pk n 0) := by
  rcases hpay : d.payload (numAccess a (pk n 0) 1) (Obj.ofRow enableRow (pk n 0)) (pk n 0) with ⟨p, c⟩
  obtain rfl : p = .num 1 := by rw [← Dev.payload_enable hn a d, hpay]
  have hplain : d.plainCodes (numAccess a (pk n 0) 1) (pk n 0)
      = d.gateCodes a.path (Obj.ofRow enableRow (pk n 0)) (pk n 0) ++ c ++ (if c.contains eType then [] else d.ownCodes a.path (Obj.ofRow enableRow (pk n 0)) (pk n 0) 1 []) := by
    simp only [Dev.plainCodes, Dev.objAt_row (objRow_enable n hn) ho, hpay]
    rfl
  have hown : d.ownCodes a.path (Obj.ofRow enableRow (pk n 0)) (pk n 0) 1 [] = errIf (d.regionFull (Obj.ofRow enableRow (pk n 0)) (pk n 0)) eBusy ++ d.pwrCheck (pk n 0) 1 := by
    have hpage : (0x6000 + 16 * n) / 256 = 0x60 := by omega
    simp only [Dev.ownCodes, key_page (0x6000 + 16 * n) 0 (by decide), hpage]
  have hfit : eType ∉ c := fun hc => ht (by simp [Dev.writeCodes, hplain, hc])
  intro e he
  simp [Dev.writeCodes, hplain, hfit, hown, he]

/-! The write that is refused -/

/-- A write by SPI that a code refuses changes the error log and the answer alone (R41, R44). -/
theorem Dev.hostSet_refused {d : Dev} {m : List Host.Cell} {a : Access} {i s v c : Nat} (hp : a.path = .spi) (hup : d.pathUp .spi = true) (hcap : d.sup.capture = false) (hs : s < 256)
    (ho : d.objAt (key i s) ≠ none) (hc : firstError (d.writeCodes (numAccess a (key i s) v) (key i s)) = c) (hok : c ≠ eOk) (hag : c ≠ eAgree) :
    Dev.hostSet a (key i s) v m d = (d.logError i s c 0 0xFF 0).answer .spi { status := c } := by
  have hpath : (numAccess a (key i s) v).path = .spi := hp
  obtain ⟨o, hobj⟩ := Option.ne_none_iff_exists'.mp ho
  have hw : d.writeObj m [] (numAccess a (key i s) v) (key i s) = (c, d.logError i s c 0 0xFF 0) := by
    simp [Dev.writeObj, hobj, hc, hok, hag, Dev.logWrite, hpath, pathSource, key_div i s hs, key_mod i s hs]
  change d.hostWriteAt m [] (numAccess a (key i s) v) (key i s) = _
  rw [Dev.hostWriteAt, hpath, if_pos hup, hcap, hw]
  rfl

/-- A fifth channel enabled in PLAY-ECO: answered RANGE, which RESEND repeats, and logged. -/
theorem becomes_chEnable_eco {s : State} {a : Access} {n : Nat} (hp : a.path = .spi) (hn : n < 8) (hup : s.dev.pathUp .spi = true) (hcap : s.dev.sup.capture = false) (hm : s.dev.effMode = 7)
    (he : s.dev.chEnabled n = false) (hc : 4 < s.dev.chCount + (if s.dev.bridged n then 2 else 1))
    (hall : ∀ c ∈ s.dev.writeCodes (numAccess a (pk n 0) 1) (pk n 0), c = eRange) :
    becomes (.chEnable a n 1) s ((s.dev.logError (0x6000 + 16 * n) 0 eRange 0 0xFF 0).answer .spi { status := eRange }) := by
  have hobj : s.dev.objAt (pk n 0) ≠ none := fun hnone => absurd (hall eNoObject (by simp [Dev.writeCodes, Dev.plainCodes, hnone])) (by decide)
  have htype : eType ∉ s.dev.writeCodes (numAccess a (pk n 0) 1) (pk n 0) := fun h => absurd (hall eType h) (by decide)
  have hrange := Dev.pwrCheck_sub_writeCodes hn hobj htype (Dev.pwrCheck_eco hn hm he hc)
  refine becomes_quiet (f := Dev.hostSet a (pk n 0) 1) (by simp only [exec, execChEnable, Nat.mod_eq_of_lt hn]) ?_
  exact Dev.hostSet_refused hp hup hcap (by decide) hobj (firstError_range hrange hall) (by decide) (by decide)

/-! What is counted -/

theorem Dev.stepRefusal_channels {d : Dev} (h : 4 < d.chCount) : d.stepRefusal 7 = some 2 := by simp [Dev.stepRefusal, h]

/-- Both channels of a bridged pair read the even channel's CH_ENABLE (R332). -/
theorem Dev.chEnabled_pair {d : Dev} {k : Nat} (h : d.bridged (2 * k) = true) : d.chEnabled (2 * k + 1) = d.chEnabled (2 * k) := by
  have hpair : (2 * k + 1) / 2 = 2 * k / 2 := by omega
  have hodd : d.bridged (2 * k + 1) = true := by rwa [Dev.bridged, hpair]
  simp only [Dev.chEnabled, Dev.pwrGov, h, hodd, if_true, hpair]

/-- Settles O59: the write by the one code that applies to it, the refusal of the step and the pairs by what is counted. -/
theorem ecoChannels : Obligations.EcoChannels := by
  unfold Obligations.EcoChannels
  exact ⟨fun s a n hp hn hup hcap _ hm he hc hall => becomes_chEnable_eco hp hn hup hcap hm he hc hall, fun d h => Dev.stepRefusal_channels h, fun d k _ h => Dev.chEnabled_pair h, fun _ => rfl⟩

end Sys2Proof.Machine
end

section
/-! SUPPORT. The block as a whole: the effect of every command, what every step keeps, the queue, the state after reset, and a request cut short (R78, R405, R411, R480). -/
namespace Sys2Proof.Machine

/-! The effect of a command -/

/-- A command that may store answers with its stores made in memory. -/
theorem exec_run {i : Instr} (h : mayStore i = true) (s : State) : ∃ f, exec i s = .next (s.run f) := by
  cases i <;> simp only [mayStore, Bool.false_eq_true] at h <;> exact ⟨_, rfl⟩

/-- Every other command answers with memory as it was. -/
theorem exec_quiet {i : Instr} (h : mayStore i = false) (s : State) : ∃ f, exec i s = .next (s.quiet f) := by
  cases i <;> simp only [mayStore, Bool.true_eq_false] at h <;> exact ⟨_, rfl⟩

/-- Settles O54, for a command that may store and for one that may not. -/
theorem commandsComplete : Obligations.CommandsComplete := by
  unfold Obligations.CommandsComplete
  intro i s
  cases h : mayStore i with
  | true =>
    obtain ⟨f, hf⟩ := exec_run h s
    exact ⟨s.run f, hf, s.run_pending f, fun hn => absurd hn (by decide)⟩
  | false =>
    obtain ⟨f, hf⟩ := exec_quiet h s
    exact ⟨s.quiet f, hf, s.quiet_pending f, fun _ => ⟨s.quiet_mem f, s.quiet_stores f⟩⟩

/-! The form of the state -/

/-- Stores are made by the rules of memory, which keep its canonical form, and none is left to wait. -/
theorem State.run_inv {s : State} (h : s.inv) (f : List Host.Cell → Dev → Dev) : (s.run f).inv := by
  obtain ⟨hmem, -⟩ := h
  refine ⟨?_, s.run_stores f⟩
  rw [State.run_mem]
  exact memWriteAll_wf _ _ hmem

theorem State.quiet_inv {s : State} (h : s.inv) (f : List Host.Cell → Dev → Dev) : (s.quiet f).inv := h

theorem exec_inv {i : Instr} {s t : State} (h : s.inv) (he : exec i s = .next t) : t.inv := by
  cases hm : mayStore i with
  | true =>
    obtain ⟨f, hf⟩ := exec_run hm s
    obtain rfl : s.run f = t := by simpa [hf] using he
    exact State.run_inv h f
  | false =>
    obtain ⟨f, hf⟩ := exec_quiet hm s
    obtain rfl : s.quiet f = t := by simpa [hf] using he
    exact State.quiet_inv h f

/-! The queue -/

theorem step_empty {s : State} (h : s.pending = []) : step s = .next s := by simp [step, h]

theorem step_front {s : State} {c : Instr} {rest : List Instr} (h : s.pending = c :: rest) : step s = exec c { s with pending := rest } := by simp [step, h]

/-- Settles O55: an empty queue changes nothing, and every command keeps the form, whatever the queue. -/
theorem stepKeepsForm : Obligations.StepKeepsForm := by
  unfold Obligations.StepKeepsForm
  intro s t h hs
  cases hp : s.pending with
  | nil =>
    obtain rfl : s = t := by simpa [step_empty hp] using hs
    exact h
  | cons c rest =>
    rw [step_front hp] at hs
    exact exec_inv (s := { s with pending := rest }) h hs

/-- Settles O53. -/
theorem queueStep : Obligations.QueueStep := by
  unfold Obligations.QueueStep
  exact ⟨fun c s rest => step_front rfl, fun s => step_empty, fun s n w => rfl⟩

/-! The state after reset -/

/-- Settles O56: memory lists nothing, so it is canonical and every byte reads as an unlisted one; the mode is listed. -/
theorem resetForm : Obligations.ResetForm := by
  unfold Obligations.ResetForm
  exact ⟨⟨rfl, rfl⟩, rfl, fun a => rfl, by decide, rfl⟩

/-! A request cut short -/

/-- Settles O57: the counter and the answer are the equation of a request cut short, and the response kept is not among what it changes. -/
theorem spiCutShort : Obligations.SpiCutShort := by
  unfold Obligations.SpiCutShort
  intro s hup
  obtain ⟨hresend, -⟩ := busAnswers
  have hcut : becomes .spiAborted s _ := becomes_act rfl (Dev.cutShort_up (i2c := false) hup)
  exact ⟨_, hcut, rfl, Dev.get_put_same _ _ s.dev, fun r hr => hresend _ r hup hr⟩

end Sys2Proof.Machine
end

section
/-! SUPPORT. What a write that is taken says of the object's own checks (R41), for every page. -/
namespace Sys2Proof.Machine

/-- A row's condition may use that the write is taken. -/
theorem writes.taken {i : Instr} {a : Access} {k v : Nat} {h : Dev → Prop} {f : Dev → Dev} (w : writes i a k v (fun d => d.takesNum a k v ∧ h d) f) : writes i a k v h f :=
  fun s ht hh => w s ht ⟨ht, hh⟩

/-- What the payload of a number's row carries. -/
theorem Dev.payload_num {d : Dev} {a : Access} {k v : Nat} {r : ObjRow} (h : d.takesNum a k v) (hb : r.ty.isBytes = false) :
    (d.payload (numAccess a k v) (Obj.ofRow r k) k).1 = .num ((Obj.ofRow r k).norm v) := by
  have hblob : (Obj.ofRow r k).ty ≠ .blob := fun e => by rw [show r.ty = .blob from e] at hb; exact absurd hb (by decide)
  have hstr : (Obj.ofRow r k).ty ≠ .str := fun e => by rw [show r.ty = .str from e] at hb; exact absurd hb (by decide)
  simp only [Dev.payload, hblob, hstr, if_false, numAccess, leNat_leBytes _ _ h.2]

/-- A number that is taken meets none of its object's own refusals. -/
theorem Dev.ownCodes_of_takesNum {d : Dev} {a : Access} {k v : Nat} {r : ObjRow} (h : d.takesNum a k v) (hr : objRow k = some r) (hb : r.ty.isBytes = false) :
    d.ownCodes a.path (Obj.ofRow r k) k ((Obj.ofRow r k).norm v) [] = [] := by
  have ho := Dev.objAt_row hr (Dev.takes_obj h.1)
  rcases hpay : d.payload (numAccess a k v) (Obj.ofRow r k) k with ⟨p, c⟩
  obtain rfl : p = .num ((Obj.ofRow r k).norm v) := by rw [← Dev.payload_num h hb, hpay]
  obtain ⟨⟨-, -, hcodes, -⟩, -⟩ := h
  simp only [Dev.writeCodes, List.append_eq_nil_iff] at hcodes
  have hplain := hcodes.1
  simp only [Dev.plainCodes, ho, hpay, List.append_eq_nil_iff] at hplain
  obtain ⟨⟨-, rfl⟩, hown⟩ := hplain
  simpa [numAccess] using hown

end Sys2Proof.Machine
end

section
/-! SUPPORT. The housekeeping converter: the corrections of a code, the rows that write or read its objects, the sequence, the monitor, urgent requests and the calibration (R391 to R401). -/
namespace Sys2Proof.Machine

/-! Corrections -/

/-- A rounded quotient lies within half a divisor of what is divided. -/
theorem roundDiv_near (n : Int) {d : Nat} (hd : 0 < d) : 2 * (roundDiv n d * d - n).natAbs ≤ d := by
  have hnat (m : Nat) : 2 * (m : Int) ≤ 2 * ((((2 * m + d) / (2 * d) : Nat) : Int) * d) + d ∧ 2 * ((((2 * m + d) / (2 * d) : Nat) : Int) * d) ≤ 2 * m + d := by
    have hlow := Nat.div_mul_le_self (2 * m + d) (2 * d)
    have hhigh := Nat.lt_div_mul_add (a := 2 * m + d) (b := 2 * d) (by omega)
    rw [Nat.mul_left_comm] at hlow hhigh
    rw [← Int.natCast_mul]
    omega
  unfold roundDiv
  rw [if_neg (by omega)]
  split
  · have h := hnat n.toNat
    omega
  · have h := hnat (-n).toNat
    rw [Int.neg_mul]
    omega

/-- A correction is clamped; where it did not have to be, it is the quotient to the nearest, and where it did, the quotient lies beyond the bound (R393). -/
theorem correct_spec (x o : Int) (g : Nat) : 0 ≤ (correct x o g).1 ∧ (correct x o g).1 ≤ 65535 ∧
    ((correct x o g).2 = false → 2 * ((correct x o g).1 * 32768 - (x - o) * g).natAbs ≤ 32768) ∧
    ((correct x o g).2 = true → ((correct x o g).1 = 0 ∧ (x - o) * g < 0) ∨ ((correct x o g).1 = 65535 ∧ 65535 * 32768 < (x - o) * g)) := by
  have hnear := roundDiv_near ((x - o) * g) (d := 32768) (by decide)
  simp only [correct]
  generalize (x - o) * (g : Int) = n at hnear ⊢
  generalize roundDiv n 32768 = y at hnear ⊢
  simp only [clampI, decide_eq_false_iff_not, decide_eq_true_eq, Bool.or_eq_true]
  split_ifs <;> simp <;> omega

/-- Settles O60: the bounds and the rounding of one correction, and the two made one after the other. -/
theorem corrections : Obligations.Corrections := by
  unfold Obligations.Corrections
  exact ⟨correct_spec, fun d input raw => rfl⟩

/-! What a write starts -/

/-- The row of a command of the converter: what the write does is what its object starts. -/
theorem writes_hka {i : Instr} {a : Access} {k v : Nat} {r : ObjRow} {h : Dev → Prop} {f : Dev → Dev} (hi : ∀ s, exec i s = .next (s.quiet (Dev.hostSet a k v))) (hr : objRow k = some r)
    (hc : r.acc = .cmd) (hb : r.ty.isBytes = false) (hk : k / 0x10000 = 0x63) (hn : (Obj.ofRow r k).norm v = v) (hf : ∀ d, h d → d.hkaWrite k v = f d) : writes i a k v h f :=
  writes_cmd hi hr hc hb hn fun m d hh => by
    have hpage : d.actOn m a.path k (d.get k) v [] = d.hkaWrite k v := by simp only [Dev.actOn, hk]
    rw [hpage, hf d hh]

theorem objRow_seqStart : objRow 0x630001 = some (.mk 0x6300 1 1 0x1 1 .bool .cmd 0 .none 0 0 (.nat [(0, 1)])) := rfl
theorem objRow_seqStop : objRow 0x630002 = some (.mk 0x6300 1 1 0x2 1 .bool .cmd 0 .none 0 0 (.nat [(0, 1)])) := rfl
theorem objRow_urgent : objRow 0x635000 = some (.mk 0x6350 1 1 0x0 1 .u16 .cmd 0 .none 0 0 (.mask 0xff1f)) := rfl
theorem objRow_calibrate : objRow 0x634000 = some (.mk 0x6340 1 1 0x0 1 .bool .cmd 0 .none 0 0 (.nat [(0, 1)])) := rfl
theorem objRow_result (q : Nat) (h : q < 32) : objRow (key 0x6320 q) = some (.mk 0x6320 1 1 0x0 32 .u32 .ro 0 .o 0 0 .any) := by
  rw [objRow_key _ _ (by omega)]
  simp [objPage, objs63, h]
theorem objRow_windowStatus : objRow 0x632300 = some (.mk 0x6323 1 1 0x0 1 .bits32 .ro 0x0 .o 0 0 .any) := rfl

theorem writes_seqStart {a : Access} {h : Dev → Prop} {f : Dev → Dev} (hf : ∀ d, h d → d.seqStart = f d) : writes (.seqStart a) a 0x630001 1 h f :=
  writes_hka (fun _ => rfl) objRow_seqStart rfl rfl rfl rfl hf

theorem writes_seqStop {a : Access} {h : Dev → Prop} {f : Dev → Dev} (hf : ∀ d, h d → d.seqStop = f d) : writes (.seqStop a) a 0x630002 1 h f :=
  writes_hka (fun _ => rfl) objRow_seqStop rfl rfl rfl rfl hf

theorem writes_urgent {a : Access} {v : Nat} {h : Dev → Prop} {f : Dev → Dev} (hv : v &&& 0xFF1F = v) (hf : ∀ d, h d → d.urgentStart v = f d) : writes (.urgent a v) a 0x635000 v h f :=
  writes_hka (fun _ => rfl) objRow_urgent rfl rfl rfl hv hf

/-- CALIBRATE is refused while a calibration waits or runs (R401). -/
theorem writes_calibrate {a : Access} {h : Dev → Prop} {f : Dev → Dev} (hf : ∀ d, d.hka.calAt = none → h d → d.calStart = f d) : writes (.calibrate a) a 0x634000 1 h f := by
  refine writes.taken (writes_hka (fun _ => rfl) objRow_calibrate rfl rfl rfl rfl ?_)
  rintro d ⟨ht, hh⟩
  have hown := Dev.ownCodes_of_takesNum ht objRow_calibrate rfl
  obtain ⟨-, -, hcal⟩ : d.regionFull (Obj.ofRow (.mk 0x6340 1 1 0x0 1 .bool .cmd 0 .none 0 0 (.nat [(0, 1)])) 0x634000) 0x634000 = false ∧ d.hka.calWait = false ∧ d.hka.calAt = none := by
    simpa [Dev.ownCodes, Dev.hkaCheck, errIf, show (Obj.ofRow (.mk 0x6340 1 1 0x0 1 .bool .cmd 0 .none 0 0 (.nat [(0, 1)])) 0x634000).norm 1 = 1 from rfl] using hown
  exact hf d hcal hh

/-! The sequence: triggers -/

theorem Dev.seqStart_single {d : Dev} (ht : d.get 0x631000 = 1) (hp : d.hka.pass = none) (ha : d.hka.again = false) (hc : d.hka.calAt = none) : d.seqStart = d.passStart := by
  simp [Dev.seqStart, ht, hp, ha, hc]

theorem Dev.seqStart_skipped {d : Dev} (ht : d.get 0x631000 = 1) (hp : d.hka.pass ≠ none) : d.seqStart = d.trigSkip := by
  simp [Dev.seqStart, ht, Option.isSome_iff_ne_none, hp]

theorem Dev.seqStart_off {d : Dev} (ht : d.get 0x631000 = 0) : d.seqStart = d := by simp [Dev.seqStart, ht]

theorem Dev.seqStop_running {d : Dev} {q : Nat} (h : d.hka.conv = some (.seq q)) : d.seqStop = d.modHka (fun h => { h with active := false, stop := true, again := false }) := by
  simp [Dev.seqStop, h]

theorem Dev.seqStop_idle {d : Dev} (h : d.hka.conv = none) : d.seqStop = d.modHka (fun h => { h with active := false, pass := none, again := false }) := by
  simp [Dev.seqStop, h]

/-- The tick at which the counter enters a new period. -/
theorem Dev.periodic_due {d : Dev} (ht : d.get 0x631000 = 3) (ha : d.hka.active = true) (hr : d.hkaRuns = true) (hn : d.time64 / (d.get 0x631001 * 1000) ≠ d.hka.trig) :
    d.periodic =
      let x := d.modHka (fun h => { h with trig := d.time64 / (d.get 0x631001 * 1000) })
      if d.hka.pass.isSome || d.hka.calAt.isSome then x.trigSkip else x.passStart := by
  simp only [Dev.periodic, ht, ha, hr, bne_iff_ne.mpr hn]
  rfl

/-! Conversions -/

/-- A conversion within range: its code, and the flag of a recovery from the conversion before. -/
theorem Dev.convDone_within {d : Dev} {c : Conv} {raw : Nat} (hraw : raw < 65536) (hr : d.hkaRuns = true) (hc : d.hka.conv = some c) (ho : d.hka.out = false) :
    d.convDone raw false false =
      (let x := d.modHka (fun h => { h with out := false })
       match c with
       | .seq q => x.seqDone q raw 0
       | .urgent i a => x.urgentDone i a raw 0
       | .monitor m => x.monDone m raw 0).hkaNext := by
  simp only [Dev.convDone, hr, hc, ho, Nat.mod_eq_of_lt hraw]
  rfl

theorem Dev.convDone_none {d : Dev} {raw : Nat} {o u : Bool} (h : d.hka.conv = none ∨ d.hkaRuns = false) : d.convDone raw o u = d := by
  rcases h with h | h
  · simp [Dev.convDone, h]
  · simp [Dev.convDone, h]

/-- The result word of a code that passes the corrections, of a conversion within range (Table 16-3). -/
def Dev.wordWithin (d : Dev) (input acq raw : Nat) : Nat :=
  (d.corrected input raw).1 + 2 ^ 18 * b2n (!d.settles input acq) + 2 ^ 20 * b2n (d.corrected input raw).2 + 2 ^ 21 + 2 ^ 24 * (d.get 0x630003 % 256)

theorem Dev.resultWord_within (d : Dev) (input acq raw : Nat) : d.resultWord input raw 0 (!d.settles input acq) false = ((d.corrected input raw).1, d.wordWithin input acq raw) := by
  simp [Dev.resultWord, Dev.wordWithin]

theorem Dev.refCheck_other {d : Dev} {input x : Nat} (h : input ≠ 23) : d.refCheck input x = d := by simp [Dev.refCheck, h]

theorem roundDiv_one (n : Nat) : roundDiv n 1 = n := by
  simp [roundDiv]
  omega

theorem Dev.window_outside {d : Dev} {q x : Nat} (h : x < fld (d.get (key 0x6322 q)) 15 0 ∨ fld (d.get (key 0x6322 q)) 31 16 < x) (hb : d.bitOf 0x632300 q = false) :
    d.window q x = (d.putBit 0x632300 q true).raise 126 := by
  simp [Dev.window, h, hb]

theorem Dev.window_hka (q x : Nat) (d : Dev) : (d.window q x).hka = d.hka := by
  simp only [Dev.window]
  split
  · simp
  · rfl

theorem Dev.get_window {q x k : Nat} {d : Dev} (hf : ¬ fabricKey k) (hk : k ≠ kModeRequest) (hw : k ≠ 0x632300) : (d.window q x).get k = d.get k := by
  simp only [Dev.window]
  split
  · rw [Dev.get_raise _ _ _ (by decide) hf, Dev.putBit, Dev.get_put hk, if_neg hw]
  · rfl

/-- The pass goes on to the next entry that is in use. -/
theorem Dev.passOn_next {d : Dev} {q : Nat} (hs : d.hka.stop = false) (hq : q + 1 < d.get 0x631200) : d.passOn q true = d.modHka (fun h => { h with pass := some (q + 1) }) := by
  simp [Dev.passOn, hs, hq]

/-- What a result changes of the part neither stops the pass nor shortens the sequence. -/
theorem Dev.passOn_result {d : Dev} {q x w t : Nat} (hs : d.hka.stop = false) (hq : q + 1 < d.get 0x631200) :
    Dev.passOn q true (((d.put (key 0x6320 q) w).put (key 0x6321 q) t).window q x) = (((d.put (key 0x6320 q) w).put (key 0x6321 q) t).window q x).modHka (fun h => { h with pass := some (q + 1) }) := by
  refine Dev.passOn_next ?_ ?_
  · rw [Dev.window_hka]
    exact hs
  · rw [Dev.get_window (by simp [fabricKey]) (by decide) (by decide), Dev.get_put (by decide), if_neg (by unfold key; omega), Dev.get_put (by decide), if_neg (by unfold key; omega)]
    exact hq

/-- A result of an entry with AVG 0 whose input is not the reference: stored with its time, held to its window; the pass goes on to the next entry. -/
theorem Dev.seqDone_single {d : Dev} {q raw input acq : Nat} (he : d.entry q = (input, acq, 0)) (hv : d.hka.void = false) (hd : d.hka.done = 0) (hs : d.hka.sum = 0) (hf : d.hka.flags = 0)
    (h23 : input ≠ 23) (hstop : d.hka.stop = false) (hq : q + 1 < d.get 0x631200) :
    d.seqDone q raw 0 =
      ((((d.modHka (fun h => { h with conv := none })).put (key 0x6320 q) (d.wordWithin input acq raw)).put (key 0x6321 q) (d.stamp - 600)).window q (d.corrected input raw).1).modHka
        (fun h => { h with pass := some (q + 1) }) := by
  rw [← Dev.passOn_result (d := d.modHka (fun h => { h with conv := none })) hstop hq]
  simp [Dev.seqDone, he, hv, hd, hs, hf, roundDiv_one, Dev.resultWord_within, Dev.refCheck_other h23]
  rfl

theorem Dev.urgentDone_within {d : Dev} {input acq raw : Nat} (h23 : input ≠ 23) :
    d.urgentDone input acq raw 0 = (((d.modHka (fun h => { h with conv := none })).put 0x635001 (d.wordWithin input acq raw)).put 0x635002 (d.stamp - 600)).raise 125 := by
  simp [Dev.urgentDone, Dev.resultWord_within, Dev.refCheck_other h23]

/-- A monitor conversion of an input that is not a temperature of the part's own dies. -/
theorem Dev.monDone_within {d : Dev} {m raw : Nat} (hm : m < 4) : d.monDone m raw 0 = (d.modHka (fun h => { h with conv := none })).put (key 0x6360 m) (d.corrected (monInput m) raw).1 := by
  simp [Dev.monDone, show m ≠ 4 by omega, show m ≠ 5 by omega]

/-! Requests -/

theorem Dev.monRequest_due {d : Dev} (hr : d.hkaRuns = true) (hn : (d.time64 + 25000) / 50000 ≠ d.hka.mon) :
    d.monRequest = (d.modHka (fun h => { h with mon := (d.time64 + 25000) / 50000, mons := h.mons ++ [h.cycle], cycle := (h.cycle + 1) % 8 })).hkaNext := by
  simp only [Dev.monRequest, hr, bne_iff_ne.mpr hn]
  rfl

/-- An urgent request aborts a conversion of the sequence; its entry restarts. -/
theorem Dev.urgentStart_abort {d : Dev} {v q : Nat} (hc : d.hka.conv = some (.seq q)) (hv : d.hka.void = false) (hs : d.hka.stop = false) :
    d.urgentStart v = (((d.modHka (fun h => { h with urgent := some (fld v 4 0, fld v 15 8) })).inc 0x630005).modHka (fun h => { h with conv := none, stop := false })).hkaNext := by
  simp [Dev.urgentStart, Dev.modHka, hc, hv, hs]

theorem Dev.urgentStart_free {d : Dev} {v : Nat} (hc : d.hka.conv = none) (hcal : d.hka.calAt = none) :
    d.urgentStart v = d.modHka (fun h => { h with conv := some (.urgent (fld v 4 0) (fld v 15 8)), urgent := none }) := by
  simp [Dev.urgentStart, Dev.modHka, Dev.hkaNext, hc, hcal]

/-! Calibration -/

theorem Dev.calStart_free {d : Dev} (hcal : d.hka.calAt = none) (hc : d.hka.conv = none) (hu : d.hka.urgent = none) (hm : d.hka.mons = []) :
    d.calStart = (d.put 0x634005 1).modHka (fun h => { h with calWait := false, calAt := some d.now, again := h.pass.isSome, pass := none }) := by
  simp [Dev.calStart, Dev.modHka, Dev.hkaNext, hc, hcal, hu, hm]
  rfl

theorem Dev.calDone_within {d : Dev} {t g : Nat} {o : Int} (hcal : d.hka.calAt = some t) (ht : t + 3200000 ≤ d.now) (ha : d.hka.again = false) (h1 : -256 ≤ o) (h2 : o ≤ 256) (h3 : 32113 ≤ g) (h4 : g ≤ 33423) :
    d.calDone o g = (((((((d.putI 16 0x634001 o).put 0x634002 g).put 0x634003 d.stamp).putI 16 0x634004 (roundDiv (d.get 0x636005 : Nat) 25 - 500)).put 0x634005 2).modHka
      (fun h => { h with calAt := none, again := false })).raise 127).hkaNext := by
  simp [Dev.calDone, hcal, ht, ha, h1, h2, h3, h4]

theorem Dev.calDone_failed {d : Dev} {t g : Nat} {o : Int} (hcal : d.hka.calAt = some t) (ht : t + 3200000 ≤ d.now) (ha : d.hka.again = false) (hbad : o < -256 ∨ 256 < o ∨ g < 32113 ∨ 33423 < g) :
    d.calDone o g = (((d.put 0x634005 3).modHka (fun h => { h with calAt := none, again := false })).raise 127).hkaNext := by
  have hnot : ¬ ((-256 ≤ o ∧ o ≤ 256) ∧ 32113 ≤ g ∧ g ≤ 33423) := by omega
  simp [Dev.calDone, hcal, ht, ha, hnot]

/-! Reads that clear -/

/-- No ledger lies past the capture's (R24). -/
theorem ledgerOf_high {k : Nat} (h : 0x440000 ≤ k) : ledgerOf k = none := by
  have hi : 0x4400 ≤ k / 256 := by omega
  simp [ledgerOf, show ¬ k / 256 < 0x3410 by omega, show ¬ k / 256 < 0x3510 by omega, show ¬ k / 256 < 0x4040 by omega, show k / 256 ≠ 0x4101 by omega, show k / 256 ≠ 0x4111 by omega,
    show ¬ k / 256 < 0x432E by omega, show ¬ k / 256 < 0x3233 by omega, show ¬ k / 256 < 0x3237 by omega, show ¬ k / 256 < 0x3318 by omega]

/-- A number of the converter that the host reads and does not write is what is committed. -/
theorem Dev.numValue_hka {r : ObjRow} {k : Nat} {staged : Bool} {d : Dev} (hk : k / 0x10000 = 0x63) (h0 : k ≠ 0x630000) (hs : staged = false) (hc : d.sup.coreOn = true) (ha : r.acc = .ro) :
    d.numValue staged (Obj.ofRow r k) k = d.get k := by
  have ha' : (Obj.ofRow r k).acc = .ro := ha
  have hbig : 0x440000 ≤ k := by omega
  simp [Dev.numValue, ha', hs, hc, Dev.liveValue, Dev.ledgerValue, ledgerOf_high hbig, hk, Dev.hkaValue, h0]

theorem Dev.touch_hka {k : Nat} {d : Dev} (hk : k / 0x10000 = 0x63) : d.touch k = d.hkaTouch k := by
  have h0 : k ≠ 0x220000 := by omega
  simp [Dev.touch, hk, h0]

/-- Settles O42: SEQ_START and SEQ_STOP by trigger and by the conversion that runs, a conversion by what its kind of request does with its code, a calibration by its two ends, and a read by what it clears. -/
theorem houseKeeping : Obligations.HouseKeeping := by
  unfold Obligations.HouseKeeping
  refine ⟨?single, ?skipped, ?off, ?stopRunning, ?stopIdle, ?periodic, ?seq, ?monitor, ?urgentEnds, fun s raw o u h => becomes_act rfl (Dev.convDone_none h), fun s hr hn => becomes_act rfl (Dev.monRequest_due hr hn),
    ?urgentAborts, ?urgentFree, ?calibrate, ?calibrated, ?result, ?windowStatus, fun d q x h hb => Dev.window_outside h hb⟩
  case single => exact fun a => writes_seqStart fun d ⟨ht, hp, ha, hc⟩ => Dev.seqStart_single ht hp ha hc
  case skipped => exact fun a => writes_seqStart fun d ⟨ht, hp⟩ => Dev.seqStart_skipped ht hp
  case off => exact fun a => writes_seqStart fun d ht => Dev.seqStart_off ht
  case stopRunning => exact fun a q => writes_seqStop fun d h => Dev.seqStop_running h
  case stopIdle => exact fun a => writes_seqStop fun d h => Dev.seqStop_idle h
  case periodic =>
    intro s ht ha hr hn
    have hdue := Dev.periodic_due ht ha hr hn
    refine ⟨fun hp hc => becomes_act rfl (hdue.trans ?_), fun hp => becomes_act rfl (hdue.trans ?_)⟩
    · simp [hp, hc, Dev.passStart]
    · simp [Option.isSome_iff_ne_none, hp, Dev.trigSkip]
  case seq =>
    intro s q raw input acq hraw hr hc he hv hd hs hf ho hstop hq h23
    refine becomes_act rfl ?_
    rw [Dev.convDone_within hraw hr hc ho]
    dsimp only
    rw [Dev.seqDone_single (d := s.dev.modHka (fun h => { h with out := false })) he hv hd hs hf h23 hstop hq]
    rfl
  case monitor =>
    intro s raw m hraw hr hc hm ho
    refine becomes_act rfl ?_
    rw [Dev.convDone_within hraw hr hc ho]
    dsimp only
    rw [Dev.monDone_within hm]
    rfl
  case urgentEnds =>
    intro s raw input acq hraw hr hc h23 ho
    refine becomes_act rfl ?_
    rw [Dev.convDone_within hraw hr hc ho]
    dsimp only
    rw [Dev.urgentDone_within h23]
    rfl
  case urgentAborts => exact fun a v q hv => writes_urgent hv fun d ⟨hc, hvoid, hs⟩ => Dev.urgentStart_abort hc hvoid hs
  case urgentFree => exact fun a v hv => writes_urgent hv fun d ⟨hc, hcal⟩ => Dev.urgentStart_free hc hcal
  case calibrate => exact fun a => writes_calibrate fun d hcal ⟨hc, hu, hm⟩ => Dev.calStart_free hcal hc hu hm
  case calibrated =>
    intro s t o g hcal ht ha
    exact ⟨fun h1 h2 h3 h4 => becomes_act rfl (Dev.calDone_within hcal ht ha h1 h2 h3 h4), fun hbad => becomes_act rfl (Dev.calDone_failed hcal ht ha hbad)⟩
  case result =>
    intro a q hq hs
    have hk : key 0x6320 q / 0x10000 = 0x63 := by unfold key; omega
    have hi (t : State) : exec (.result a q) t = .next (t.quiet (Dev.hostRead a (key 0x6320 (q % 256)))) := rfl
    rw [Nat.mod_eq_of_lt (show q < 256 by omega)] at hi
    refine readsNum_row hi (objRow_result q hq) rfl ?ledger (fun d hc => Dev.numValue_hka hk (by unfold key; omega) hs hc rfl) fun d _ => ?touch
    case ledger => exact ledgerOf_high (by unfold key; omega)
    case touch => simp [Dev.touch_hka hk, Dev.hkaTouch, key_div 0x6320 q (by omega)]
  case windowStatus =>
    exact fun a hs => readsNum_row (fun _ => rfl) objRow_windowStatus rfl rfl (fun d hc => Dev.numValue_hka rfl (by decide) hs hc rfl) fun d _ => (Dev.touch_hka rfl).trans rfl

end Sys2Proof.Machine
end

section
/-! SUPPORT. Scalar and vector instructions (Table 12-2): a result made lane by lane, each lane of a known value or of the next free one. -/
namespace Sys2Proof.Machine

/-! Lanes -/

/-- One lane made: a lane that is marked takes a free value, any other takes none. -/
def Dev.fillLane {α : Type} (m : Bool × (Nat → α)) (d : Dev) : α × Dev := if m.1 then (m.2 (Config.free d.free), d.took 1) else (m.2 0, d)

/-- A list made lane by lane is its lanes filled from the next free value on. -/
theorem Dev.each_fillLanes {α β : Type} {f : α → Dev → β × Dev} {g : α → Bool × (Nat → β)} (h : ∀ a d, f a d = Dev.fillLane (g a) d) (l : List α) (d : Dev) :
    Dev.each f l d = (fillLanes d.free (l.map g), d.took ((l.map g).filter (·.1)).length) := by
  induction l generalizing d with
  | nil => rfl
  | cons a t ih =>
    rcases hg : g a with ⟨_ | _, v⟩
    · simp [Dev.each, h, Dev.fillLane, hg, ih, fillLanes]
    · simp [Dev.each, h, Dev.fillLane, hg, ih, fillLanes, Dev.took_took, Nat.add_comm]
      rfl

/-- The words that a scalar operation, a fixed-point lane and an accumulator's lane leave. -/
theorem Dev.fit32_eq (u v : Int) (d : Dev) : d.fit32 u v = Dev.fillLane (wordOf u v) d := by
  unfold Dev.fit32 wordOf
  split_ifs <;> rfl

theorem Dev.lane_eq (v : Int) (d : Dev) : d.lane v = Dev.fillLane (laneOf v) d := by
  unfold Dev.lane laneOf
  split_ifs <;> rfl

theorem Dev.accLane_eq (v : Int) (d : Dev) : d.accLane v = Dev.fillLane (accOf v) d := by
  unfold Dev.accLane accOf
  split_ifs <;> rfl

/-- A lane of VEXT: a tie takes a free value. -/
theorem extLane_eq (v : Int) (d : Dev) : extLane v d = Dev.fillLane (
    if v - floorDiv v (2 ^ 31) * 2 ^ 31 = 2 ^ 30 then (true, fun z => ofInt 32 (satS 32 (floorDiv v (2 ^ 31) + (z % 2 : Nat))))
    else (false, fun _ => ofInt 32 (satS 32 (if v - floorDiv v (2 ^ 31) * 2 ^ 31 > 2 ^ 30 then floorDiv v (2 ^ 31) + 1 else floorDiv v (2 ^ 31))))) d := by
  unfold extLane
  extract_lets q r
  by_cases h : r = 2 ^ 30
  · rw [if_pos h, if_pos h]
    rfl
  · rw [if_neg h, if_neg h]
    rfl

theorem zip_self_map {α β : Type} (l : List α) (g : α × α → β) : (l.zip l).map g = l.map (fun a => g (a, a)) := by
  induction l with
  | nil => rfl
  | cons a t ih => simp [ih]

/-! Instructions -/

theorem Dev.onCtx_idle {d : Dev} {e : Nat} (h : d.current e = none) (f : Ctx → Dev → Ctx × Dev) : d.onCtx e f = d := by
  simp [Dev.onCtx, Dev.onTask, h]

/-- An instruction that changes registers and takes no free value. -/
theorem computes_onCtx {i : Instr} {e : Nat} {F : Ctx → Dev → Ctx × Dev} {f : Ctx → Ctx} (hi : ∀ s, exec i s = .next (s.act (Dev.onCtx e F))) (h : ∀ c d, F c d = (f c, d)) :
    computes i e (fun _ => True) f :=
  fun s act b t r hr _ => becomes_act (hi s) (by rw [Dev.onCtx_running hr, h])

/-- An instruction that changes registers, and its lanes. -/
theorem computesLanes_onCtx {α : Type} {i : Instr} {e : Nat} {F : Ctx → Dev → Ctx × Dev} {put : Ctx → List α → Ctx} {g : Ctx → List (Bool × (Nat → α))}
    (hi : ∀ s, exec i s = .next (s.act (Dev.onCtx e F))) (h : ∀ c d, F c d = (put c (fillLanes d.free (g c)), d.took ((g c).filter (·.1)).length)) : computesLanes i e put g :=
  fun s act b t r hr => becomes_act (hi s) (by rw [Dev.onCtx_running hr, h]; rfl)

/-- A scalar operation, by the lane its result is. -/
theorem computesLanes_scalar {i : Instr} {e dst x y : Nat} {f : Nat → Nat → Dev → Nat × Dev} {g : Ctx → Bool × (Nat → Nat)} (hi : ∀ s, exec i s = .next (s.act (Dev.scalar e dst x y f)))
    (h : ∀ c d, f (c.sreg x) (c.sreg y) d = Dev.fillLane (g c) d) : computesLanes i e (fun c l => c.setS dst (nthD 0 l 0)) (fun c => [g c]) :=
  computesLanes_onCtx hi fun c d => by
    rw [h]
    rcases g c with ⟨_ | _, v⟩ <;> rfl

/-- A scalar operation that takes no free value. -/
theorem computes_scalar {i : Instr} {e dst x y : Nat} {f : Nat → Nat → Dev → Nat × Dev} {g : Nat → Nat → Nat} (hi : ∀ s, exec i s = .next (s.act (Dev.scalar e dst x y f)))
    (h : ∀ p q d, f p q d = (g p q, d)) : computes i e (fun _ => True) (fun c => c.setS dst (g (c.sreg x) (c.sreg y))) :=
  computes_onCtx hi fun c d => by rw [h]

/-- A vector operation, by what it makes of two lanes. -/
theorem computesLanes_vector {i : Instr} {e dst x y : Nat} {f : Nat → Nat → Dev → Nat × Dev} {g : Nat × Nat → Bool × (Nat → Nat)} (hi : ∀ s, exec i s = .next (s.act (Dev.vector e dst x y f)))
    (h : ∀ p q d, f p q d = Dev.fillLane (g (p, q)) d) : computesLanes i e (fun c l => c.setV dst l) (fun c => ((c.vreg x).zip (c.vreg y)).map g) :=
  computesLanes_onCtx hi fun c d => by rw [Dev.each_fillLanes (g := g) fun p d => h p.1 p.2 d]

/-- A vector operation of one register. -/
theorem computesLanes_vector1 {i : Instr} {e dst x : Nat} {f : Nat → Nat → Dev → Nat × Dev} {g : Nat → Bool × (Nat → Nat)} (hi : ∀ s, exec i s = .next (s.act (Dev.vector e dst x x f)))
    (h : ∀ p q d, f p q d = Dev.fillLane (g p) d) : computesLanes i e (fun c l => c.setV dst l) (fun c => (c.vreg x).map g) :=
  computesLanes_onCtx hi fun c d => by rw [Dev.each_fillLanes (g := fun p : Nat × Nat => g p.1) fun p d => h p.1 p.2 d, zip_self_map]

/-- VMUL, VMAC and VMSU, by the number that each lane is. -/
theorem computesLanes_vmac {i : Instr} {e acc x y : Nat} {k s : Int} {v : Int × Nat × Nat → Int} (hi : ∀ t, exec i t = .next (t.act (Dev.vmac e acc x y k s)))
    (h : ∀ p : Int × Nat × Nat, k * p.1 + s * (toInt 32 p.2.1 * toInt 32 p.2.2) = v p) :
    computesLanes i e (fun c l => c.setA acc l) (fun c => ((c.acc acc).zip ((c.vreg x).zip (c.vreg y))).map (fun p => accOf (v p))) :=
  computesLanes_onCtx hi fun c d => by rw [Dev.each_fillLanes (g := fun p => accOf (v p)) fun p d => by rw [h, Dev.accLane_eq]]

/-! Registers -/

theorem modNth_getElem? {β : Type} (f : β → β) (l : List β) (n : Nat) : (modNth f l n)[n]? = l[n]?.map f := by
  induction l generalizing n with
  | nil => simp [modNth]
  | cons a t ih => cases n with
    | zero => rfl
    | succ n => simpa [modNth] using ih n

/-- Settles O31: each instruction by the lane its result is, or by the registers it writes. -/
theorem scalarOps : Obligations.ScalarOps := by
  unfold Obligations.ScalarOps
  refine ⟨fun e x y dst => ⟨?add, ?sub, ?mul, ?and, ?or, ?xor, ?shl, ?shr, ?min, ?max, ?cmp, ?mov, ?li⟩, fun e g f x => ⟨?movGen, ?liGen⟩, ?gen, ?idle⟩
  case add => exact computesLanes_scalar (fun _ => rfl) fun c d => by rw [opAdd, Dev.fit32_eq, Nat.cast_add]
  case sub => exact computesLanes_scalar (fun _ => rfl) fun c d => Dev.fit32_eq _ _ d
  case mul => exact computesLanes_scalar (fun _ => rfl) fun c d => by rw [opMul, Dev.fit32_eq, Nat.cast_mul]
  case and => exact computes_scalar (fun _ => rfl) fun p q d => rfl
  case or => exact computes_scalar (fun _ => rfl) fun p q d => rfl
  case xor => exact computes_scalar (fun _ => rfl) fun p q d => rfl
  case shl =>
    refine computesLanes_scalar (fun _ => rfl) fun c d => ?_
    by_cases hy : c.sreg y < 32
    · simp [opShl, Dev.shiftBy, Dev.fillLane, hy, Nat.mod_eq_of_lt hy]
    · simp [opShl, Dev.shiftBy, Dev.fillLane, hy, Dev.fresh, Dev.took]
  case shr =>
    refine computesLanes_scalar (fun _ => rfl) fun c d => ?_
    by_cases hy : c.sreg y < 32
    · simp [opShr, Dev.shiftBy, Dev.fillLane, hy, Nat.mod_eq_of_lt hy]
    · simp [opShr, Dev.shiftBy, Dev.fillLane, hy, Dev.fresh, Dev.took]
  case min => exact computes_scalar (g := fun p q => if ordS p ≤ ordS q then p else q) (fun _ => rfl) fun p q d => rfl
  case max => exact computes_scalar (g := fun p q => if ordS p ≤ ordS q then q else p) (fun _ => rfl) fun p q d => rfl
  case cmp => exact computes_onCtx (fun _ => rfl) fun c d => rfl
  case mov => exact computes_onCtx (fun _ => rfl) fun c d => rfl
  case li => exact computes_onCtx (fun _ => rfl) fun c d => rfl
  case movGen => exact computes_onCtx (fun _ => rfl) fun c d => rfl
  case liGen => exact computes_onCtx (fun _ => rfl) fun c d => rfl
  case gen =>
    intro c g v q hq
    refine ⟨?_, ?_, ?_, ?_⟩ <;> simp [Ctx.setDest, modNth_getElem?, hq]
  case idle =>
    intro s e dst x y hnone
    simp only [List.forall_mem_cons]
    exact ⟨becomes_act rfl (Dev.onCtx_idle hnone _), becomes_act rfl (Dev.onCtx_idle hnone _), becomes_act rfl (Dev.onCtx_idle hnone _), becomes_act rfl (Dev.onCtx_idle hnone _), becomes_act rfl (Dev.onCtx_idle hnone _),
      becomes_act rfl (Dev.onCtx_idle hnone _), becomes_act rfl (Dev.onCtx_idle hnone _), becomes_act rfl (Dev.onCtx_idle hnone _), becomes_act rfl (Dev.onCtx_idle hnone _), becomes_act rfl (Dev.onCtx_idle hnone _),
      becomes_act rfl (Dev.onCtx_idle hnone _), becomes_act rfl (Dev.onCtx_idle hnone _), becomes_act rfl (Dev.onCtx_idle hnone _), fun _ h => absurd h (List.not_mem_nil)⟩

/-- Settles O32: each instruction by what it makes of the lanes it reads. -/
theorem vectorOps : Obligations.VectorOps := by
  unfold Obligations.VectorOps
  refine ⟨fun e dst x y => ⟨?vadd, ?vsub, ?vabs, ?vmax, ?vshr, ?vmul, ?vmac, ?vmsu, ?vext⟩, fun e dst x y => ⟨?fmul, ?fadd, ?fsub, ?fmax, ?fabs, ?toFixed, ?toFloat, ?frcp, ?frsq, ?flog2, ?fexp2, ?fmac⟩⟩
  case vadd => exact computesLanes_vector (fun _ => rfl) fun p q d => Dev.lane_eq _ d
  case vsub => exact computesLanes_vector (fun _ => rfl) fun p q d => Dev.lane_eq _ d
  case vabs => exact computesLanes_vector1 (fun _ => rfl) fun p _ d => Dev.lane_eq _ d
  case vmax =>
    exact computes_onCtx (fun _ => rfl) fun c d => by
      rw [Dev.each_pure (f := fun (x : Nat × Nat) d => lvMax x.1 x.2 d) (g := fun p : Nat × Nat => if toInt 32 p.1 ≤ toInt 32 p.2 then p.2 else p.1) fun p _ => rfl]
  case vshr =>
    refine computesLanes_vector1 (fun _ => rfl) fun p _ d => ?_
    by_cases hy : 32 ≤ y
    · simp [lvShr, hy, Dev.fillLane, Dev.fresh, Dev.took]
    · simp [lvShr, hy, Dev.fillLane, Dev.fresh, Dev.took]
  case vmul => exact computesLanes_vmac (fun _ => rfl) fun p => by omega
  case vmac => exact computesLanes_vmac (fun _ => rfl) fun p => by omega
  case vmsu => exact computesLanes_vmac (fun _ => rfl) fun p => by omega
  case vext => exact computesLanes_onCtx (fun _ => rfl) fun c d => by rw [Dev.each_fillLanes extLane_eq]
  case fmul => exact computesLanes_vector (fun _ => rfl) fun p q d => rfl
  case fadd => exact computesLanes_vector (fun _ => rfl) fun p q d => rfl
  case fsub => exact computesLanes_vector (fun _ => rfl) fun p q d => rfl
  case fmax => exact computesLanes_vector (fun _ => rfl) fun p q d => rfl
  case fabs => exact computesLanes_vector1 (fun _ => rfl) fun p _ d => rfl
  case toFixed => exact computesLanes_vector1 (fun _ => rfl) fun p _ d => rfl
  case toFloat => exact computesLanes_vector1 (fun _ => rfl) fun p _ d => by simp [float2, Dev.fillLane, Dev.fresh, Dev.took]
  case frcp => exact computesLanes_vector1 (fun _ => rfl) fun p _ d => rfl
  case frsq => exact computesLanes_vector1 (fun _ => rfl) fun p _ d => rfl
  case flog2 => exact computesLanes_vector1 (fun _ => rfl) fun p _ d => rfl
  case fexp2 => exact computesLanes_vector1 (fun _ => rfl) fun p _ d => rfl
  case fmac =>
    exact computesLanes_onCtx (fun _ => rfl) fun c d => by
      rw [Dev.each_fillLanes (f := fun (x : Nat × Nat × Nat) d => let (y, d) := d.fresh; (fltFma y x.2.1 x.2.2 x.1, d)) (g := fun p => (true, fun z => fltFma z p.2.1 p.2.2 p.1)) fun p d => rfl]

end Sys2Proof.Machine
end

section
/-! SUPPORT. An occurrence of an event (R471, R473, R475): what its counter, its flags and the pins' settling leave as it is. -/
namespace Sys2Proof.Machine

/-- Settling the pins changes their levels alone. -/
theorem Dev.get_irqSettle_off {k : Nat} (hk : k / 256 ≠ 0x1317) (d : Dev) : d.irqSettle.get k = d.get k := by
  have hstep (d : Dev) (n v : Nat) : n ∈ upto 4 → (d.put (key 0x1317 n) v).get k = d.get k := fun hn =>
    Dev.get_put_other _ _ _ _ (fun e => hk (e ▸ key_div 0x1317 n (by simp [upto] at hn; omega))) (.inr (by unfold key kBootMode; omega))
  simp only [Dev.irqSettle, show upto 4 = [0, 1, 2, 3] from rfl, List.foldl_cons, List.foldl_nil]
  iterate 4 rw [hstep _ _ _ (by decide)]

theorem Dev.get_pulseOn (n k : Nat) (d : Dev) : (d.pulseOn n).get k = d.get k := by
  unfold Dev.pulseOn
  split <;> rfl

theorem Dev.blob_pulseOn (n : Nat) (d : Dev) : (d.pulseOn n).st.blob = d.st.blob := by
  unfold Dev.pulseOn
  split <;> rfl

/-- An occurrence that reaches its flag changes that flag and the pins alone. -/
theorem Dev.get_route {k : Nat} (hk : k / 256 ≠ 0x1317) (e : Nat) (d : Dev) : (d.route e).get k = (d.putBit (key 0x1302 (e / 32)) (e % 32) true).get k := by
  unfold Dev.route
  rw [Dev.get_irqSettle_off hk]
  refine foldl_keeps (fun d => d.get k) _ (fun d n => ?_) _ _
  split
  · exact Dev.get_pulseOn n k d
  · rfl

theorem Dev.blob_irqSettle (d : Dev) : d.irqSettle.st.blob = d.st.blob := by
  unfold Dev.irqSettle
  apply foldl_keeps (fun d : Dev => d.st.blob)
  exact fun _ _ => rfl

theorem Dev.blob_route (e : Nat) (d : Dev) : (d.route e).st.blob = d.st.blob := by
  unfold Dev.route
  rw [Dev.blob_irqSettle]
  refine (foldl_keeps (fun d : Dev => d.st.blob) _ (fun d n => ?_) _ _).trans rfl
  split
  · exact Dev.blob_pulseOn n d
  · rfl

theorem Dev.blob_countEvent (e : Nat) (d : Dev) : (d.countEvent e).st.blob = d.st.blob := by
  simp only [Dev.countEvent]
  split <;> rfl

theorem Dev.now_route (e : Nat) (d : Dev) : (d.route e).now = d.now := by
  have h := congrArg Dev.now (Dev.rest_route e d)
  exact h

theorem Dev.now_countEvent (e : Nat) (d : Dev) : (d.countEvent e).now = d.now := by
  have h := congrArg Dev.now (Dev.rest_countEvent e d)
  exact h

/-- The entries bound to an event follow from their records and the time alone. -/
theorem Dev.e2aFor_congr {c d : Dev} (hb : c.st.blob = d.st.blob) (hn : c.now = d.now) (e : Nat) : c.e2aFor e = d.e2aFor e := by
  have hblob (k : Nat) : c.blobOf k = d.blobOf k := by simp only [Dev.blobOf, hb]
  simp only [Dev.e2aFor, hblob, hn]

theorem Dev.get_countEvent_other {e k : Nat} {d : Dev} (h0 : k ≠ key 0x1300 e) (h1 : k ≠ key 0x1301 (e / 32)) : (d.countEvent e).get k = d.get k := by
  have hboot : ∀ i j, 0x1300 ≤ i → key i j ≠ kBootMode := fun i j hi => by unfold key kBootMode; omega
  simp only [Dev.countEvent]
  split
  · exact Dev.get_put_other _ _ _ _ h1 (.inr (hboot _ _ (by decide)))
  · exact Dev.get_put_other _ _ _ _ h0 (.inr (hboot _ _ (by decide)))

theorem Dev.countEvent_ready {d : Dev} {e i : Nat} : (d.countEvent e).ready i = d.ready i := by
  simp only [Dev.ready, Dev.bitOf]
  rw [Dev.get_countEvent_other (by unfold key kReady; omega) (by unfold key kReady; omega)]

/-- An occurrence that no enabled entry is bound to, with EVENTS set, is counted and reaches its flag. -/
theorem Dev.raise_routed {d : Dev} {e : Nat} (hr : d.ready 28 = true) (h : d.e2aFor e = []) : d.raise e = (d.countEvent e).route e := by
  have hnone : ((d.countEvent e).route e).e2aFor e = [] := by
    rw [Dev.e2aFor_congr ((Dev.blob_route e _).trans (Dev.blob_countEvent e d)) ((Dev.now_route e _).trans (Dev.now_countEvent e d)), h]
  simp [Dev.raise, Dev.countEvent_ready, hr, Dev.trigger, hnone]

/-- With EVENTS clear an occurrence is counted and held. -/
theorem Dev.raise_held {d : Dev} {e : Nat} (hr : d.ready 28 = false) : d.raise e = { d.countEvent e with evt := { (d.countEvent e).evt with held := (d.countEvent e).evt.held ++ [e] } } := by
  simp [Dev.raise, Dev.countEvent_ready, hr]

theorem Dev.countEvent_below {d : Dev} {e : Nat} (h : d.get (key 0x1300 e) < 0xFFFFFFFF) : d.countEvent e = d.put (key 0x1300 e) (d.get (key 0x1300 e) + 1) := by
  simp [Dev.countEvent, show d.get (key 0x1300 e) ≠ 0xFFFFFFFF by omega]

theorem Dev.countEvent_top {d : Dev} {e : Nat} (h : d.get (key 0x1300 e) = 0xFFFFFFFF) : d.countEvent e = d.putBit (key 0x1301 (e / 32)) (e % 32) true := by
  simp [Dev.countEvent, h]

/-- Settles O17: an occurrence is its count and its way to its flag, each of which changes its own objects alone. -/
theorem eventOccurs : Obligations.EventOccurs := by
  unfold Obligations.EventOccurs
  refine ⟨fun d e he hr hnone => ?_, fun d e he hr hlow => by rw [Dev.raise_held hr, Dev.countEvent_below hlow]; rfl⟩
  rw [Dev.raise_routed hr hnone]
  have hpage (i j : Nat) (hj : j < 256) (hi : i ≠ 0x1317) : key i j / 256 ≠ 0x1317 := by rwa [key_div i j hj]
  have hcount : ((d.countEvent e).route e).get (key 0x1300 e) = (d.countEvent e).get (key 0x1300 e) := by
    rw [Dev.get_route (hpage _ _ (by omega) (by decide)), Dev.putBit, Dev.get_put_other _ _ _ _ (by unfold key; omega) (.inl (by unfold key kModeRequest; omega))]
  refine ⟨?flag, fun hlow => ?_, fun htop => ⟨?_, ?_⟩, fun k hk => ?other⟩
  case flag =>
    rw [Dev.bitOf, Dev.get_route (hpage _ _ (by omega) (by decide)), Dev.putBit, Dev.get_put_same, bit_setBit_same]
  · rw [hcount, Dev.countEvent_below hlow, Dev.get_put_same]
  · rw [hcount, Dev.countEvent_top htop, Dev.putBit, Dev.get_put_other _ _ _ _ (by unfold key; omega) (.inl (by unfold key kModeRequest; omega)), htop]
  · rw [Dev.bitOf, Dev.get_route (hpage _ _ (by omega) (by decide)), Dev.putBit, Dev.get_put_other _ _ _ _ (by unfold key; omega) (.inl (by unfold key kModeRequest; omega)), Dev.countEvent_top htop, Dev.putBit,
      Dev.get_put_same, bit_setBit_same]
  case other =>
    simp only [List.mem_cons, List.not_mem_nil, or_false, not_or] at hk
    obtain ⟨h0, h1, h2, h7⟩ := hk
    have hne (i j : Nat) (hj : j < 256) (hi : k / 256 ≠ i) : k ≠ key i j := fun h => hi (h ▸ key_div i j hj)
    rw [Dev.get_route h7, Dev.putBit, Dev.get_put_other _ _ _ _ (hne _ _ (by omega) h2) (.inr (by unfold key kBootMode; omega)),
      Dev.get_countEvent_other (hne _ _ (by omega) h0) (hne _ _ (by omega) h1)]

end Sys2Proof.Machine
end

section
/-! SUPPORT. The black box (R464 to R467): a record stored, read and cleared. -/
namespace Sys2Proof.Machine

/-! A record stored -/

theorem Dev.get_genUp (j k : Nat) (d : Dev) : (d.genUp k).get j = d.get j := rfl

/-- The ring after a record is stored: the record in its slot, and the one it overwrites gone. -/
theorem Dev.bbStore_ring (r : List Byte) (d : Dev) :
    (d.bbStore r).bb.ring = assocPut (d.get 0x720000) r (if d.get 0x720000 < 2016 then d.bb.ring else assocDel (d.get 0x720000 - 2016) d.bb.ring) := by
  simp only [Dev.bbStore]
  split_ifs <;> simp

/-- The count moves on, and what follows it leaves it as it is. -/
theorem Dev.bbStore_count (r : List Byte) (d : Dev) : (d.bbStore r).get 0x720000 = satAdd 32 (d.get 0x720000) 1 := by
  have hraise (x : Dev) : assoc 0x720000 (x.raise 122).st.obj = assoc 0x720000 x.st.obj := Dev.keepsObj_raise 122 x (by decide) _ (by simp [fabricKey])
  have hput (x : Dev) (k v : Nat) : assoc 0x720000 (x.put k v).st.obj = if k = 0x720000 then some v else assoc 0x720000 x.st.obj := by
    split
    case isTrue hk => rw [hk, Dev.put, assoc_assocPut_same]
    case isFalse hk => exact assoc_assocPut_other _ k v _ (Ne.symm hk)
  have hgen (x : Dev) (k : Nat) : (x.genUp k).st.obj = x.st.obj := rfl
  have hcount : assoc 0x720000 (d.bbStore r).st.obj = some (satAdd 32 (d.get 0x720000) 1) := by
    simp only [Dev.bbStore]
    split_ifs <;> simp [hraise, hput, hgen]
  rw [Dev.get, hcount]

theorem Dev.get_bbStore {k : Nat} (hf : ¬ fabricKey k) (hb : ¬ bbKey k) (r : List Byte) (d : Dev) : (d.bbStore r).get k = d.get k :=
  Dev.get_eq _ _ _ (Dev.keepsBb_bbStore r d k hf hb) (Dev.keepsBb_bbStore r d _ (by simp [fabricKey, kBootMode]) (by simp [bbKey, kBootMode]))

theorem Dev.bbWrite_empty {d : Dev} (h : d.bb.queue = []) : d.bbWrite = d := by simp [Dev.bbWrite, h]

/-- The record at the head of the queue is stored; a twin of a pair sends it on. -/
theorem Dev.bbWrite_head {d : Dev} {r : List Byte} {l : List (List Byte)} (h : d.bb.queue = r :: l) :
    d.bbWrite = if d.twinState = 3 then (({ d with bb := { d.bb with queue := l } } : Dev).bbStore r).chordSend 5 r else ({ d with bb := { d.bb with queue := l } } : Dev).bbStore r := by
  have htwin : (({ d with bb := { d.bb with queue := l } } : Dev).bbStore r).twinState = d.twinState := Dev.get_bbStore (by simp [fabricKey]) (by simp [bbKey]) r _
  simp [Dev.bbWrite, h, htwin]

/-! Reads -/

theorem objRow_bbRecord : objRow 0x720200 = some (.mk 0x7202 1 1 0x0 1 .blob .ro 0 .p 0 0 (.blob 32)) := rfl
theorem objRow_bbClear : objRow 0x720600 = some (.mk 0x7206 1 1 0x0 1 .bool .cmd 0 .none 0 0 (.nat [(0, 1)])) := rfl

/-- The bytes of BB_RECORD: its read moves on with the segment that ends it. -/
theorem Dev.byteValue_bbRecord (m : List Host.Cell) (staged : Bool) (off n : Nat) (d : Dev) :
    d.byteValue m [] [] staged (Obj.ofRow (.mk 0x7202 1 1 0x0 1 .blob .ro 0 .p 0 0 (.blob 32)) 0x720200) 0x720200 off n
      = ((d.bbTake.1.drop off).take n, if off + n ≥ d.bbTake.1.length then d.bbTake.2 else d) := by
  have hacc : (Obj.ofRow (.mk 0x7202 1 1 0x0 1 .blob .ro 0 .p 0 0 (.blob 32)) 0x720200).acc = .ro := rfl
  have hret : (Obj.ofRow (.mk 0x7202 1 1 0x0 1 .blob .ro 0 .p 0 0 (.blob 32)) 0x720200).ret = .p := rfl
  simp [Dev.byteValue, hacc, hret]

theorem Dev.bbTake_held {d : Dev} (h : d.get 0x720100 < d.get 0x720000) : d.bbTake = (d.bbAt (d.get 0x720100), (d.put 0x720100 (d.get 0x720100 + 1)).genUp 0x720200) := by
  simp [Dev.bbTake, h]

theorem Dev.bbTake_count {d : Dev} (h : d.get 0x720000 ≤ d.get 0x720100) : d.bbTake = (zeros 32, d) := by
  simp [Dev.bbTake, h]

/-! BB_CLEAR -/

theorem Dev.bbClear_unpinned {d : Dev} (h : d.bb.pinned = []) :
    d.bbClear = (((((({ d with bb := { d.bb with ring := [], pinned := [], cleared := d.get 0x720000 } } : Dev).put 0x720300 (d.get 0x720000)).put 0x720500 0).put 0x720100 (max (d.get 0x720000) (d.get 0x720100))).genUp 0x720200).bbMake
      13 0 0xFF 0 (d.get 0x720000 - d.get 0x720300) 0) := by
  simp only [Dev.bbClear, h]
  rfl

/-- Settles O49: the queue's head by what storing a record leaves, a read by the record at BB_READ, and BB_CLEAR by what its object starts. -/
theorem blackBox : Obligations.BlackBox := by
  unfold Obligations.BlackBox
  refine ⟨fun s r l hq ht => becomes_act rfl ((Dev.bbWrite_head hq).trans (if_neg ht)), fun s r l hq ht => becomes_act rfl ((Dev.bbWrite_head hq).trans (if_pos ht)), fun s hq => becomes_act rfl (Dev.bbWrite_empty hq),
    ?stored, ?record, ?count, ?clear⟩
  case stored =>
    intro d r
    refine ⟨by rw [Dev.bbStore_ring, assoc_assocPut_same], fun hlow => ?_⟩
    rw [Dev.bbStore_count, satAdd]
    omega
  case record =>
    refine fun a => readsBytes_row (fun _ => rfl) objRow_bbRecord rfl fun m d ⟨hlow, hlen⟩ => ?_
    rw [Dev.byteValue_bbRecord, Dev.bbTake_held hlow, if_pos hlen]
  case count =>
    refine fun a => readsBytes_row (fun _ => rfl) objRow_bbRecord rfl fun m d hge => ?_
    rw [Dev.byteValue_bbRecord, Dev.bbTake_count hge, ite_self]
    rfl
  case clear =>
    exact fun a => writes_cmd (fun _ => rfl) objRow_bbClear rfl rfl rfl fun m d h => (show d.actOn m a.path 0x720600 (d.get 0x720600) 1 [] = d.bbClear from rfl).trans (Dev.bbClear_unpinned h)

end Sys2Proof.Machine
end

section
/-! SUPPORT. The background tester and the locks of the pool banks (R413 to R417, R32). -/
namespace Sys2Proof.Machine

/-! The tester -/

theorem Dev.bgTest_off {d : Dev} (h : d.sup.coreOn = false ∨ d.ready 20 = false ∨ d.get 0x582000 ≠ 1) (l1 l2 : List Nat) (b : Bool) : d.bgTest l1 l2 b = d := by
  rcases h with h | h | h
  · simp [Dev.bgTest, h]
  · simp [Dev.bgTest, h]
  · simp [Dev.bgTest, h]

/-- A slot of a tester that runs: the words found, the region's own test, and the next slot or the end of the pass. -/
theorem Dev.bgTest_on {d : Dev} (hc : d.sup.coreOn = true) (hr : d.ready 20 = true) (he : d.get 0x582000 = 1) (singles doubles : List Nat) (fails : Bool) :
    d.bgTest singles doubles fails =
      (let b := (bgSlot (d.get 0x582200)).1
       let r := (bgSlot (d.get 0x582200)).2
       let x := singles.foldl (fun (a : Dev) j => a.eccFix (regionWord b r (j % 16))) d
       let y := doubles.foldl (fun (a : Dev) j => a.eccBad (regionWord b r (j % 16))) x
       let z := if fails then y.regionFail b r else y
       if d.get 0x582200 + 1 < 131072 then z.put 0x582200 (d.get 0x582200 + 1) else ((z.put 0x582200 0).inc 0x582100).raise 108) := by
  simp only [Dev.bgTest, hc, hr, he]
  rfl

/-- A region that fails while a spare is left is remapped to it. -/
theorem Dev.regionFail_spare {d : Dev} {b r : Nat} (hb : b < 20) (h : d.get (key 0x5824 b) < 16) :
    (d.regionFail b r).tes.remap = d.tes.remap ++ [(b, r, d.get (key 0x5824 b))] ∧ (d.regionFail b r).get (key 0x5824 b) = d.get (key 0x5824 b) + 1 := by
  have hspares : (d.inc (key 0x5823 b)).get (key 0x5824 b) = d.get (key 0x5824 b) := Dev.get_put_other _ _ _ _ (by unfold key; omega) (.inl (by unfold key kModeRequest; omega))
  have hf : ¬ fabricKey (key 0x5824 b) := by unfold fabricKey key; omega
  have hbb : ¬ bbKey (key 0x5824 b) := by unfold bbKey key; omega
  simp [Dev.regionFail, hspares, h, Dev.get_raise _ _ _ _ hf, Dev.get_bbMake _ _ _ _ _ _ _ _ hf hbb]

/-- A region that fails with no spare left sets MEM_FAULT. -/
theorem Dev.regionFail_full {d : Dev} {b r : Nat} (hb : b < 20) (h : 16 ≤ d.get (key 0x5824 b)) : (d.regionFail b r).tes.remap = d.tes.remap ∧ (d.regionFail b r).bitOf 0x582500 0 = true := by
  have hspares : (d.inc (key 0x5823 b)).get (key 0x5824 b) = d.get (key 0x5824 b) := Dev.get_put_other _ _ _ _ (by unfold key; omega) (.inl (by unfold key kModeRequest; omega))
  have hf : ¬ fabricKey 0x582500 := by simp [fabricKey]
  have hbb : ¬ bbKey 0x582500 := by simp [bbKey]
  simp [Dev.regionFail, hspares, Nat.not_lt.mpr h, Dev.bitOf, Dev.get_raise _ _ _ _ hf, Dev.get_bbMake _ _ _ _ _ _ _ _ hf hbb, Dev.putBit, bit_setBit_same]

/-! Locks -/

theorem objRow_lockTake (k : Nat) (h : k < 16) : objRow (key 0x5831 k) = some (.mk 0x5831 1 1 0x0 16 .bool .rw 0 .o 0 0 (.nat [(0, 1)])) := by
  rw [objRow_key _ _ (by omega)]
  simp [objPage, objs58, h]

theorem Dev.lockWrite_take {d : Dev} {k slot : Nat} (h : d.get (lockObj k) = 0xFF ∨ d.get (lockObj k) = 0x20 + slot) :
    d.lockWrite slot k 1
      = ({ d with tes := { d.tes with lease := assocPut k (d.now + 50000) d.tes.lease, lost := d.tes.lost.filter (fun e => e != (0x20 + slot, k)) } } : Dev).put (lockObj k) (0x20 + slot) := by
  simp [Dev.lockWrite, Dev.lockTake, h, Dev.lockRenew]

/-- What a session writes to LOCK_TAKE takes or frees the lock. -/
theorem writes_lock {a : Access} {k slot v : Nat} {h : Dev → Prop} {f : Dev → Dev} (ha : a.path = .tdt slot) (hk : k < 16) (hf : ∀ d, h d → d.lockWrite slot k v = f d) :
    writes (.lockTake a k v) a (key 0x5831 k) v h f := by
  have h256 : k < 256 := by omega
  refine writes_num (fun t => ?_) (objRow_lockTake k hk) (by simp) rfl (fun _ => rfl) fun m d hh => ?_
  · have hi : exec (.lockTake a k v) t = .next (t.quiet (Dev.hostSet a (key 0x5831 (k % 256)) v)) := rfl
    rwa [Nat.mod_eq_of_lt h256] at hi
  · rw [Dev.takeNow_acts (by simp [actsOnly, key_div _ _ h256]), ← hf _ hh]
    simp [Dev.actOn, key_page _ _ h256, ha, key_div _ _ h256, key_mod _ _ h256]

theorem Dev.lockFree_free (k : Nat) (d : Dev) : (d.lockFree k).get (lockObj k) = 0xFF ∧ (d.lockFree k).get (key 0x5831 k) = 0 := by
  refine ⟨?_, Dev.get_put_same _ _ _⟩
  rw [Dev.lockFree, Dev.get_put_other _ _ _ _ (by unfold lockObj key; omega) (.inr (by unfold key kBootMode; omega))]
  exact Dev.get_put_same _ _ _

theorem Dev.leaseOver_due {d : Dev} {k t : Nat} (h : assoc k d.tes.lease = some t) (ht : t ≤ d.now) (hh : d.get (lockObj k) ≠ 0xFF) : d.leaseOver k = some (d.get (lockObj k)) := by
  simp [Dev.leaseOver, h, ht, hh]

/-- A session's lock revoked. -/
theorem Dev.leaseEnds_session {d : Dev} {k h : Nat} (ho : d.leaseOver k = some h) (hh : 0x20 ≤ h) :
    d.leaseEnds k =
      let x := (d.lockFree k).inc 0x583200
      ((({ x with tes := { x.tes with lost := x.tes.lost ++ [(h, k)] } } : Dev).bbMake 7 1 109 0 1 k).raise 109).raise 5 := by
  simp [Dev.leaseEnds, Dev.lockRevoke, ho, hh, show ¬ h < 8 by omega]

/-- An engine's lock revoked: the engine faults. -/
theorem Dev.leaseEnds_engine {d : Dev} {k h : Nat} (ho : d.leaseOver k = some h) (hh : h < 8) :
    d.leaseEnds k = (((((d.lockFree k).inc 0x583200).bbMake 7 1 109 (h + 1) 1 k).raise 109).raise 5).engineFault h 5 := by
  simp [Dev.leaseEnds, Dev.lockRevoke, ho, hh, show ¬ 0x20 ≤ h by omega]

/-- Settles O50: a slot of the tester by the words and the region it tests, a lock by its holder, and a lease that runs out by whose it was. -/
theorem testerAndLocks : Obligations.TesterAndLocks := by
  unfold Obligations.TesterAndLocks
  refine ⟨fun s l1 l2 b h => becomes_act rfl (Dev.bgTest_off h l1 l2 b), ?slot, fun d b r hb => ⟨fun h => Dev.regionFail_spare hb h, fun h => Dev.regionFail_full hb h⟩, ?take, ?free, fun d k _ => Dev.lockFree_free k d, ?revoked⟩
  case slot =>
    intro s hc hr he
    have hslot := Dev.bgTest_on hc hr he
    refine ⟨fun hlow => ?_, fun hlast => becomes_act rfl ?_⟩
    · have hnext : s.dev.get 0x582200 + 1 < 131072 := by omega
      refine ⟨becomes_act rfl ?_, becomes_act rfl ?_, fun j hj => ⟨becomes_act rfl ?_, becomes_act rfl ?_⟩⟩
      · simp [hslot, hnext]
      · simp [hslot, hnext]
      · simp [hslot, hnext, Nat.mod_eq_of_lt hj]
      · simp [hslot, hnext, Nat.mod_eq_of_lt hj]
    · simp [hslot, hlast]
  case take => exact fun a k slot ha hk => writes_lock ha hk fun d h => Dev.lockWrite_take h
  case free => exact fun a k slot ha hk => writes_lock ha hk fun d _ => rfl
  case revoked =>
    intro s k t hk hlease ht
    refine ⟨fun h20 hFF => becomes_act rfl ?_, fun h8 => becomes_act rfl ?_⟩
    · simpa [hk] using Dev.leaseEnds_session (Dev.leaseOver_due hlease ht hFF) h20
    · simpa [hk] using Dev.leaseEnds_engine (Dev.leaseOver_due hlease ht (by omega)) h8

end Sys2Proof.Machine
end

section
/-! SUPPORT. The boost (R349 to R362): what its commands leave of its state and its measurements, its start, its faults and their ends. -/
namespace Sys2Proof.Machine

/-! What the boost reports and measures -/

/-- The boost's state, its command, and what it measured last. -/
structure BoostView where
  state : Nat
  cmd : Nat
  vin : Nat
  pvdd : Nat
  iin : Nat

def Dev.boostView (d : Dev) : BoostView := { state := d.boostState, cmd := d.bst.cmd, vin := d.bst.vin, pvdd := d.bst.pvdd, iin := d.bst.iin }

theorem Dev.boostView_put {k : Nat} (h : k ≠ 0x621000) (v : Nat) (d : Dev) : (d.put k v).boostView = d.boostView := by
  simp [Dev.boostView, Dev.boostState, Dev.get_put_other _ _ _ _ h.symm]

theorem Dev.boostView_raise {e : Nat} (he : e < 128) (d : Dev) : (d.raise e).boostView = d.boostView := by
  simp [Dev.boostView, Dev.boostState_raise he]

theorem Dev.boostView_setBflag (i : Nat) (b : Bool) (d : Dev) : (d.setBflag i b).boostView = d.boostView := Dev.boostView_put (by decide) _ d

theorem Dev.boostView_setBflag84 (i : Nat) (b : Bool) (d : Dev) : (d.setBflag84 i b).boostView = d.boostView := by
  unfold Dev.setBflag84
  split
  · rfl
  · rw [Dev.boostView_raise (by decide), Dev.boostView_setBflag]

theorem Dev.boostView_phaseReport (d : Dev) : d.phaseReport.boostView = d.boostView := by
  simp only [Dev.phaseReport, Dev.putFld]
  rw [Dev.boostView_put (by decide), Dev.boostView_put (by decide)]

theorem Dev.boostView_setCh (n st : Nat) (d : Dev) : (d.setCh n st).boostView = d.boostView := Dev.boostView_put (by unfold pk key; omega) st d
theorem Dev.boostView_modPch (n : Nat) (f : PwrCh → PwrCh) (d : Dev) : (d.modPch n f).boostView = d.boostView := rfl

/-- Whatever a channel is brought to, the boost is as it was. -/
theorem Dev.boostView_chSettle (n : Nat) (d : Dev) : (d.chSettle n).boostView = d.boostView := by
  have hdown : (d.chDown n).boostView = d.boostView := Dev.boostView_setCh n 4 d
  have hrest (st : Nat) : (d.chRest n st).boostView = d.boostView := Dev.boostView_setCh n st d
  have hstart (soft : Bool) : (d.chStart n soft).boostView = d.boostView := Dev.boostView_setCh n 1 d
  have hramp (up : Bool) : (d.chRamp n up).boostView = d.boostView := Dev.boostView_setCh n 3 d
  unfold Dev.chSettle
  dsimp only
  repeat' split
  all_goals simp only [Dev.boostView_modPch, hdown, hrest, hstart, hramp]

theorem Dev.boostView_pwrSettle (d : Dev) : d.pwrSettle.boostView = d.boostView := by
  rw [Dev.pwrSettle, foldl_keeps Dev.boostView _ (fun a n => a.boostView_chSettle n)]
  split <;> rfl

/-- BOOST_STATE taken is the state it says: what follows the change reports it, and leaves the boost as it is. -/
theorem Dev.boostView_setBoost (st : Nat) (d : Dev) : (d.setBoost st).boostView = { state := st, cmd := d.bst.cmd, vin := d.bst.vin, pvdd := d.bst.pvdd, iin := d.bst.iin } := by
  unfold Dev.setBoost
  extract_lets old pair quiet d1 d2 b2 d3 d4 d5 b5 d6 b6 d7 b7 d8
  by_cases h : old = st
  · rw [if_pos h, ← h]
    rfl
  · rw [if_neg h]
    have h1 : d1.boostView = { state := st, cmd := d.bst.cmd, vin := d.bst.vin, pvdd := d.bst.pvdd, iin := d.bst.iin } := by simp [d1, Dev.boostView, Dev.boostState]
    have h2 : d2.boostView = d1.boostView := by
      unfold d2
      split
      · rfl
      · exact Dev.boostView_raise (by decide) d1
    have h3 : d3.boostView = d2.boostView := by
      unfold d3
      split <;> rfl
    have h4 : d4.boostView = d3.boostView := by
      unfold d4
      split
      · rfl
      · rw [Dev.boostView_setBflag, Dev.boostView_setBflag, Dev.boostView_setBflag84]
    have h5 : d5.boostView = d4.boostView := by
      unfold d5
      split
      · rfl
      · exact Dev.boostView_setBflag 3 false d4
    have h7 : d7.boostView = d6.boostView := by
      unfold d7
      split <;> rfl
    have h8 : d8.boostView = d7.boostView := by
      unfold d8
      split
      · rw [Dev.boostView_raise (by decide)]
        rfl
      · rfl
    calc d8.phaseReport.pwrSettle.boostView = d5.boostView := by rw [Dev.boostView_pwrSettle, Dev.boostView_phaseReport, h8, h7]; rfl
      _ = d1.boostView := by rw [h5, h4, h3, h2]
      _ = _ := h1

theorem Dev.setBoost_state (st : Nat) (d : Dev) : (d.setBoost st).boostState = st := congrArg BoostView.state (Dev.boostView_setBoost st d)

theorem Dev.setBoost_same {d : Dev} {st : Nat} (h : d.boostState = st) : d.setBoost st = d := by
  unfold Dev.setBoost
  exact if_pos h

theorem Dev.boostView_railWatch (d : Dev) : d.railWatch.boostView = d.boostView := by
  have hclear (o : Option Nat) : ({ d with bst := { d.bst with goodAt := o } } : Dev).boostView = d.boostView := rfl
  unfold Dev.railWatch
  split_ifs
  · rfl
  · exact hclear none
  · split
    case h_1 => exact hclear (some d.now)
    case h_2 t _ =>
      split
      · rw [Dev.boostView_setBflag84, hclear]
      · rfl

/-! The 10 us step -/

/-- A boost that does not switch and does not bypass takes the measurements alone. -/
theorem Dev.boostCommand_off {d : Dev} (h : d.boostState < 2 ∨ 4 < d.boostState) (vin pvdd iin : Nat) :
    d.boostCommand vin pvdd iin = ({ d with bst := { d.bst with vin := vin, pvdd := pvdd, iin := iin } } : Dev).prune := by
  unfold Dev.boostCommand
  extract_lets b0 x state before old fall d1 d2 d3 d4 d5 d6 d7 b7 d8
  have hstate : state = d.boostState := rfl
  exact if_pos (by simp [hstate]; omega)

/-- In BYPASS and TRACKING the command rises and falls at its slews, and the boost is in one of the two. -/
theorem Dev.boostCommand_on {d : Dev} (h : d.boostState = 3 ∨ d.boostState = 4) (vin pvdd iin : Nat) :
    let x := ({ d with bst := { d.bst with vin := vin, pvdd := pvdd, iin := iin } } : Dev).prune
    ∃ st, (st = 3 ∨ st = 4) ∧ (d.boostCommand vin pvdd iin).boostView =
      { state := st, cmd := min (max x.cmdUp (if x.cmdHeld then x.bst.cmd else x.bst.cmd - x.get 0x620101 * 1000)) (x.bst.cmd + x.get 0x620100 * 1000), vin := vin, pvdd := pvdd, iin := iin } := by
  intro x
  have hx : x.boostState = d.boostState := rfl
  have hgo : ¬ (!(decide (x.boostState = 2) || decide (x.boostState = 3) || decide (x.boostState = 4))) = true := by
    simp [hx]
    omega
  unfold Dev.boostCommand
  extract_lets b0 x' state before old fall d1 d2 d3 d4 d5 d6 d7 b7 d8
  rw [if_neg hgo]
  have h2 : ¬ state = 2 := by
    have hs : state = d.boostState := rfl
    omega
  have h1 : d1 = x.setCmd (min (max x.cmdUp fall) (old + x.get 0x620100 * 1000)) := if_neg h2
  have hcmd : d2.bst = { x.bst with cmd := min (max x.cmdUp fall) (old + x.get 0x620100 * 1000) } := by
    rw [show d2.bst = d1.bst from rfl, h1]
    rfl
  have hview : (d8.phaseReport.railWatch).boostView = d3.boostView := by
    rw [Dev.boostView_railWatch, Dev.boostView_phaseReport, show d8.boostView = d7.boostView from rfl, Dev.boostView_setBflag84, Dev.boostView_setBflag, Dev.boostView_setBflag, Dev.boostView_setBflag]
  have h3 : ∃ st, (st = 3 ∨ st = 4) ∧ d3 = d2.setBoost st := by
    unfold d3
    rw [if_neg h2]
    split
    · exact ⟨3, .inl rfl, rfl⟩
    · exact ⟨4, .inr rfl, rfl⟩
  obtain ⟨st, hst, hset⟩ := h3
  refine ⟨st, hst, ?_⟩
  rw [hview, hset, Dev.boostView_setBoost, hcmd]
  rfl

/-! Faults -/

theorem Dev.railLow_clear {d : Dev} (hs : d.switching = true) (hf : d.bflag 4 = false) : d.railLow = (((d.inc 0x621101).setBflag 4 true)).raise 84 := by
  have hkeep : (d.inc 0x621101).bflag 4 = false := by
    rw [Dev.bflag, Dev.bitOf, Dev.inc, Dev.bump, Dev.get_put_other _ _ _ _ (by decide) (.inl (by decide))]
    exact hf
  simp [Dev.railLow, Dev.setBflag84, hs, hf, hkeep]

theorem Dev.railLow_none {d : Dev} (h : d.switching = false ∨ d.bflag 4 = true) : d.railLow = d := by
  rcases h with h | h <;> simp [Dev.railLow, h]

/-- A short's fault: the boost waits 100 ms, and the shorts of the last 10 s are counted with it. -/
def Dev.boostShort (d : Dev) : Dev :=
  (({ d with bst := { d.bst with restartAt := some (d.now + 100000000), shorts := d.now :: d.bst.shorts.filter (fun t => decide (d.now < t + 10000000000)) } } : Dev).setBoost 6).boostFault 0

theorem Dev.railShort_switching {d : Dev} (h : d.switching = true) : d.railShort = d.boostShort := if_pos h

theorem Dev.boostStart_short {d : Dev} {pvdd vin : Nat} (hs : d.boostState = 1) (h : pvdd + 300 < vin) :
    d.boostStart pvdd vin = ({ d with bst := { d.bst with pvdd := pvdd, vin := vin } } : Dev).boostShort := by
  have hstate : ({ d with bst := { d.bst with pvdd := pvdd, vin := vin } } : Dev).boostState = 1 := hs
  unfold Dev.boostStart
  dsimp only
  rw [hstate, if_neg (by decide), if_pos h]
  rfl

theorem Dev.boostStart_charged {d : Dev} {pvdd vin : Nat} (hs : d.boostState = 1) (h : vin ≤ pvdd + 300) :
    d.boostStart pvdd vin =
      let x := ({ d with bst := { d.bst with pvdd := pvdd, vin := vin } } : Dev)
      let y := x.setCmd x.railMin
      if y.bypassOk vin then y.boostUp 3 else (y.setCmd (min y.railMin (pvdd * 10000))).setBoost 2 := by
  have hstate : ({ d with bst := { d.bst with pvdd := pvdd, vin := vin } } : Dev).boostState = 1 := hs
  unfold Dev.boostStart
  dsimp only
  rw [hstate, if_neg (by decide), if_neg (by omega)]

theorem Dev.shortRestart_latched {d : Dev} {t : Nat} (hr : d.bst.restartAt = some t) (ht : t ≤ d.now) (hs : d.boostState = 6) (hl : 4 ≤ d.bst.shorts.length) :
    d.shortRestart = (({ d with bst := { d.bst with restartAt := none } } : Dev).setBoost 7).raise 86 := by
  simp [Dev.shortRestart, hr, ht, hs, hl]

/-- No SAFE cause stops the boost: it begins with step 1. -/
theorem Dev.boostBegin_free {d : Dev} (h1 : d.cause 1 = false) (h2 : d.cause 2 = false) : d.boostBegin = ({ d with bst := { d.bst with restartAt := none } } : Dev).setBoost 1 := by
  simp [Dev.boostBegin, h1, h2]

theorem Dev.shortRestart_again {d : Dev} {t : Nat} (hr : d.bst.restartAt = some t) (ht : t ≤ d.now) (hs : d.boostState = 6) (hl : d.bst.shorts.length < 4) : d.shortRestart = d.boostBegin := by
  simp [Dev.shortRestart, hr, ht, hs, Nat.not_le.mpr hl]

theorem Dev.imbalance_phase {d : Dev} {p : Nat} (hp : p < 4) (hs : d.switching = true) (hn : 2 ≤ bitsSet (fld (d.get kBoostStatus) 9 6)) (hb : bit (fld (d.get kBoostStatus) 9 6) p = true) :
    d.imbalance p = ((({ d with bst := { d.bst with disabled := setBit d.bst.disabled p true } } : Dev).boostFault 1).raise 87).phaseReport := by
  simp [Dev.imbalance, hp, hs, hn, hb]

/-- BOOST_CLEAR on a latched boost that nothing holds. -/
theorem Dev.boostClear_latched {d : Dev} (hon : d.pwr.on = true) (hs : d.boostState = 7) (hv : d.pwr.ov = false) (hd : d.bst.disabled = 0) (h1 : d.cause 1 = false) (h2 : d.cause 2 = false) :
    d.boostClear = ({ d with bst := { d.bst with restartAt := none } } : Dev).setBoost 1 := by
  rw [← Dev.boostBegin_free h1 h2]
  simp [Dev.boostClear, Dev.phasesBack, hd, hon, hs, hv]

/-! Envelope records -/

theorem Dev.envArrive_empty {d : Dev} (h : d.fac.envQ = []) : d.envArrive = d := by simp [Dev.envArrive, h]

/-- The front of the records that wait is in its channel's store. -/
def Dev.envStored (n k b e : Nat) (rest : List (Nat × Nat × Nat × Nat)) (d : Dev) : Dev :=
  let x := ({ d with fac := { d.fac with envQ := rest } } : Dev).prune
  { x with bst := { x.bst with recs := modNth (fun l => if l.length ≥ 512 then recMerge e l else recInsert (k, k + b - 1, e) l) x.bst.recs n, await := x.bst.await.filter (fun m => m != n) } }

/-- The first late record for 100 ms raises its event; one in time changes nothing more. -/
theorem Dev.envArrive_front {d : Dev} {n k b e : Nat} {rest : List (Nat × Nat × Nat × Nat)} (hq : d.fac.envQ = (n, k, b, e) :: rest) (hn : n < 8) (hs : d.boostState ≠ 0) :
    let y := d.envStored n k b e rest
    (y.needOf n e ≤ y.bst.cmd + y.riseTo k → d.envArrive = y) ∧
    (y.bst.cmd + y.riseTo k < y.needOf n e → y.bst.ev83 = none → d.envArrive = ({ (y.inc 0x621100) with bst := { y.bst with ev83 := some y.now } } : Dev).raise 83) := by
  intro y
  have hgo : ¬ (decide ((({ d with fac := { d.fac with envQ := rest } } : Dev).prune).boostState = 0) || decide (n ≥ 8)) = true := by
    have hstate : (({ d with fac := { d.fac with envQ := rest } } : Dev).prune).boostState = d.boostState := rfl
    simp [hstate, hs, hn]
  have harrive : d.envArrive = if y.needOf n e > y.bst.cmd + y.riseTo k then
      (if (match y.bst.ev83 with | some t => decide (y.now < t + 100000000) | none => false) = true then y.inc 0x621100 else (({ y.inc 0x621100 with bst := { (y.inc 0x621100).bst with ev83 := some (y.inc 0x621100).now } } : Dev)).raise 83) else y := by
    unfold Dev.envArrive
    rw [hq]
    dsimp only
    rw [if_neg hgo]
    rfl
  refine ⟨fun h => harrive.trans (if_neg (by omega)), fun h hev => harrive.trans ((if_pos h).trans ?_)⟩
  rw [hev]
  rfl

/-! The objects -/

theorem objRow_boostClear : objRow 0x621104 = some (.mk 0x6211 1 1 0x4 1 .bool .cmd 0 .none 0 0 (.nat [(0, 1)])) := rfl

theorem writes_boostClear {a : Access} {v : Nat} {h : Dev → Prop} {f : Dev → Dev} (hf : ∀ d, h d → d.bstWrite 0x621104 v = f d) : writes (.boostClear a v) a 0x621104 v h f :=
  writes_cmd (fun _ => rfl) objRow_boostClear rfl rfl rfl fun m d hh => (show d.actOn m a.path 0x621104 (d.get 0x621104) v [] = d.bstWrite 0x621104 v from rfl).trans (hf d hh)

/-- Settles O39: a record by the store it goes to, the 10 us step by what it leaves of the boost's state, a fault and its end by the states of Table 14-4, and BOOST_CLEAR by what its object starts. -/
theorem boostSupply : Obligations.BoostSupply := by
  unfold Obligations.BoostSupply
  refine ⟨fun s h => becomes_act rfl (Dev.envArrive_empty h), ?stored, fun s vin pvdd iin h => becomes_act rfl (Dev.boostCommand_off h vin pvdd iin), ?step, fun s hs hf => becomes_act rfl (Dev.railLow_clear hs hf),
    fun s h => becomes_act rfl (Dev.railLow_none h), ?charged, fun s pvdd vin hs h => becomes_act rfl (Dev.boostStart_short hs h), fun s h => becomes_act rfl (Dev.railShort_switching h), ?restart, ?imbalance,
    fun a => writes_boostClear fun d ⟨hon, hs, hv, hd, h1, h2⟩ => Dev.boostClear_latched hon hs hv hd h1 h2, fun a => writes_boostClear fun d _ => rfl, fun d st h => Dev.setBoost_same h, fun d st _ => Dev.setBoost_state st d⟩
  case stored =>
    intro s n k b e rest hq hn hs
    obtain ⟨hintime, hlate⟩ := Dev.envArrive_front hq hn hs
    exact ⟨fun h => becomes_act rfl (hintime h), fun h hev => becomes_act rfl (hlate h hev)⟩
  case step =>
    intro s vin pvdd iin h x
    obtain ⟨st, hst, hview⟩ := Dev.boostCommand_on h vin pvdd iin
    have hstate : (s.dev.boostCommand vin pvdd iin).boostState = st := congrArg BoostView.state hview
    exact becomes.gives (becomes_act rfl rfl) ⟨congrArg BoostView.cmd hview, by rcases hst with hst | hst; exacts [.inl (hstate.trans hst), .inr (hstate.trans hst)], congrArg BoostView.vin hview, congrArg BoostView.pvdd hview,
      congrArg BoostView.iin hview⟩
  case charged =>
    intro s pvdd vin hs h x
    have hstart := Dev.boostStart_charged hs h
    exact ⟨fun hb => becomes_act rfl (hstart.trans (if_pos hb)), fun hb => becomes_act rfl (hstart.trans (if_neg (by rw [hb]; decide)))⟩
  case restart =>
    intro s t hr ht hs
    exact ⟨fun hl => becomes_act rfl (Dev.shortRestart_latched hr ht hs hl), fun hl h1 h2 => becomes_act rfl ((Dev.shortRestart_again hr ht hs hl).trans (Dev.boostBegin_free h1 h2))⟩
  case imbalance => exact fun s p hp hs hn hb => becomes_act rfl (by rw [decide_eq_true hp, Dev.when_true, Dev.imbalance_phase hp hs hn hb])

end Sys2Proof.Machine
end

section
/-! SUPPORT. The headphone and line outputs and the jack (R367 to R376): starts, stops and faults, the volumes' steps, a plug's presence, and what its current tells. -/
namespace Sys2Proof.Machine

/-! The writes -/

theorem objRow_hpObject : ∀ k ∈ [0x450000, 0x450001, 0x451000], (objRow k).any ObjRow.keepsNumber = true := by decide

/-- A number written to an object of the headphone or line output: it stands, and then what it starts runs. -/
theorem writes_hp {i : Instr} {a : Access} {n s v : Nat} (hi : ∀ t, exec i t = .next (t.quiet (Dev.hostSet a (key n s) v))) (hr : (objRow (key n s)).any ObjRow.keepsNumber = true) (hn : n / 256 = 0x45)
    (hs : s < 256) : writes i a (key n s) v (fun _ => True) (fun d => (d.put (key n s) v).hpWrite (key n s) (d.get (key n s)) v) := by
  obtain ⟨r, hrow, hkeeps⟩ := (Option.any_eq_true _ _).mp hr
  obtain ⟨hacc, hbytes, hnorm⟩ := ObjRow.of_keepsNumber hkeeps
  have hact : n ∉ actingIndices := by
    simp only [actingIndices, List.mem_cons, List.not_mem_nil, or_false]
    omega
  exact writes_kept hi hrow (by simp [hacc]) hbytes (hnorm _ v) fun _ _ _ => by
    rw [Dev.takeNow_put hrow (actsOnly_rw hacc hs hact) hbytes]
    simp only [Dev.actOn, key_page n s hs, hn]

theorem Dev.outState_put {o k v : Nat} {d : Dev} (h : ok_ o 4 ≠ k) : (d.put k v).outState o = d.outState o :=
  Dev.get_put_other _ _ _ _ h (.inl (by unfold ok_ key kModeRequest; omega))

/-- HP_RANGE changes by a mute while the headphone is on. -/
theorem Dev.hpWrite_range {d : Dev} {v : Nat} (hv : d.get 0x450001 ≠ v) (h : d.outState 0 = 2) : (d.put 0x450001 v).hpWrite 0x450001 (d.get 0x450001) v = (d.put 0x450001 v).modOut 0 (fun c => { c with stage := 1 }) := by
  have hon : (d.put 0x450001 v).outState 0 = 2 := (Dev.outState_put (by decide)).trans h
  simp [Dev.hpWrite, hv, hon]

/-! Starts and stops (Table 15-2) -/

section
variable {d : Dev} {o : Nat}

theorem Dev.outSettleOne_start (hs : d.outState o = 0) (hw : d.outWanted o = true) : d.outSettleOne o = d.outStart o false := by simp [Dev.outSettleOne, hs, hw]
theorem Dev.outSettleOne_off (hs : d.outState o = 0) (hw : d.outWanted o = false) : d.outSettleOne o = d := by simp [Dev.outSettleOne, hs, hw]
theorem Dev.outSettleOne_on (hs : d.outState o = 2) (hw : d.outWanted o = true) : d.outSettleOne o = d := by simp [Dev.outSettleOne, hs, hw]
theorem Dev.outSettleOne_stop (hs : d.outState o = 2) (hw : d.outWanted o = false) : d.outSettleOne o = (d.put (ok_ o 4) 3).modOut o (fun c => { c with since := d.now }) := by simp [Dev.outSettleOne, hs, hw]

theorem Dev.outState_outStart (d : Dev) (o : Nat) (again : Bool) : (d.outStart o again).outState o = 1 := Dev.get_put_same _ _ _

theorem Dev.outStarted_first (ho : o < 2) (hs : d.outState o = 1) (hr : (d.outCh o).retry = false) (ht : (d.outCh o).since + (if o = 0 then 7000000 else 26000000) ≤ d.now) :
    d.outStarted o = (d.put (ok_ o 4) 2).modOut o (fun c => { c with gain := d.ramp5, retry := false }) := by
  simp [Dev.outStarted, ho, hs, hr, ht]

theorem Dev.outStopped_due (ho : o < 2) (hs : d.outState o = 3) (ht : (d.outCh o).since + (if o = 0 then 6000000 else 26000000) ≤ d.now) :
    d.outStopped o = ((d.put (ok_ o 4) 0).modOut o (fun c => { c with gain := 0 })).outSettleOne o := by
  simp [Dev.outStopped, ho, hs, ht]

/-- An output that is on and faults. -/
theorem Dev.outFault_on (ho : o < 2) (hs : d.outState o = 2) :
    d.outFault o =
      (let x := ((((d.put (ok_ o 4) 4).putBit (ok_ o 5) 4 true).inc (ok_ o 6)).modOut o (fun c => { c with gain := 0, retry := false, retryAt := some (d.now + 1000000000) })).raise 69
       (x.bbMake 11 1 69 o (x.get (ok_ o 5) ||| 1) (x.get (ok_ o 6))).outSettleOne o) := by
  simp [Dev.outFault, ho, hs]

theorem Dev.outRetry_due {t : Nat} (ho : o < 2) (hr : (d.outCh o).retryAt = some t) (ht : t ≤ d.now) (hs : d.outState o = 4) : d.outRetry o = (d.putBit (ok_ o 5) 4 false).outStart o true := by
  simp [Dev.outRetry, ho, hr, ht, hs]

end

/-! The volumes -/

/-- One step of 0.5 dB towards a target. -/
def volToward (v t : Int) : Int := if v < t then v + 1 else if v > t then v - 1 else v

theorem Dev.outCh_modOut_same {d : Dev} {o : Nat} (h : o < d.hp.outs.length) (f : OutCh → OutCh) : (d.modOut o f).outCh o = f (d.outCh o) := nthD_modNth_same ({} : OutCh) f d.hp.outs o h
theorem Dev.outCh_modOut_other {d : Dev} {o j : Nat} (h : j ≠ o) (f : OutCh → OutCh) : (d.modOut o f).outCh j = d.outCh j := nthD_modNth_other ({} : OutCh) f d.hp.outs h

/-- An output's volumes each a step nearer to its object. -/
def Dev.volOne (o : Nat) (d : Dev) : Dev :=
  d.modOut o (fun c => { c with vols := [volToward (nthD 0 c.vols 0) (d.getI 16 (ok_ o 2)), volToward (nthD 0 c.vols 1) (d.getI 16 (ok_ o 3))] })

theorem Dev.volStep_eq (d : Dev) : d.volStep = (d.volOne 0).volOne 1 := rfl

theorem Dev.volOne_vols {d : Dev} {o : Nat} {l r : Int} (hlen : o < d.hp.outs.length) (hv : (d.outCh o).vols = [l, r]) :
    ((d.volOne o).outCh o).vols = [volToward l (d.getI 16 (ok_ o 2)), volToward r (d.getI 16 (ok_ o 3))] := by
  rw [Dev.volOne, Dev.outCh_modOut_same hlen]
  simp [hv, nthD]

theorem Dev.volStep_vols {d : Dev} {o : Nat} {l r : Int} (ho : o < 2) (hlen : o < d.hp.outs.length) (hv : (d.outCh o).vols = [l, r]) :
    (d.volStep.outCh o).vols = [volToward l (d.getI 16 (ok_ o 2)), volToward r (d.getI 16 (ok_ o 3))] := by
  rw [Dev.volStep_eq]
  obtain rfl | rfl : o = 0 ∨ o = 1 := by omega
  · rw [Dev.volOne, Dev.outCh_modOut_other (by decide)]
    exact Dev.volOne_vols hlen hv
  · have hlen' : 1 < (d.volOne 0).hp.outs.length := by
      rw [show (d.volOne 0).hp.outs.length = d.hp.outs.length from modNth_length _ _ _]
      exact hlen
    refine Dev.volOne_vols hlen' ?_
    rw [Dev.volOne, Dev.outCh_modOut_other (by decide), hv]

/-! The jack -/

theorem Dev.mode_raise {e : Nat} (he : e < 128) (d : Dev) : (d.raise e).mode = d.mode := Dev.get_raise e kMode d he (by simp [fabricKey, kMode])

theorem Dev.mode_outSettleOne (o : Nat) (d : Dev) : (d.outSettleOne o).mode = d.mode := by
  have hput (v : Nat) : (d.put (ok_ o 4) v).mode = d.mode := Dev.mode_put (by unfold ok_ key kMode; omega)
  unfold Dev.outSettleOne
  dsimp only
  split_ifs
  · exact hput 1
  · exact hput 3
  · exact hput 0
  · rfl

theorem Dev.mode_hpSettle (d : Dev) : d.hpSettle.mode = d.mode := (Dev.mode_outSettleOne 1 _).trans (Dev.mode_outSettleOne 0 d)

/-- Neither LISTEN nor STANDBY: nothing wakes. -/
theorem Dev.wake_awake {d : Dev} (h2 : d.mode ≠ 2) (h3 : d.mode ≠ 3) (bits : Nat) (phrase : Bool) : d.wake bits phrase = d := by
  simp [Dev.wake, h2, h3]

/-- A declaration of the jack with the part awake is what it does to the jack. -/
theorem Dev.jackDeclare_awake {f : Dev → Dev} {d : Dev} (hm : (f d).mode = d.mode) (h2 : d.mode ≠ 2) (h3 : d.mode ≠ 3) (bits : Nat) : d.jackDeclare f bits = f d := by
  rw [← hm] at h2 h3
  unfold Dev.jackDeclare
  dsimp only
  rw [Dev.wake_awake h2 h3, ite_self]

/-- The part after a change of the raw switch states, before JD_STATE follows. -/
theorem Dev.jackRaw_eq {d : Dev} {raw : Nat} (hraw : raw < 4) (hon : d.jackOn = true) :
    d.jackRaw raw =
      (let x := d.put 0x452002 raw
       let st := d.get 0x452001
       let y := x.put 0x452001 (if x.jackAbsent then (if st = 1 then 0 else if st = 2 then 3 else st) else if st = 0 then 1 else if st = 3 then 2 else st)
       if x.jackAbsent then (if d.outState 0 = 1 || d.outState 0 = 2 then y.modOut 0 (fun c => { c with jack := true }) else y)
       else if y.jackIn then y.modOut 0 (fun c => { c with jack := false }) else y) := by
  have hon' : (d.put 0x452002 raw).jackOn = true := by
    rw [Dev.jackOn, Dev.get_put_other _ _ _ _ (by decide) (.inl (by decide))]
    exact hon
  have hst : (d.put 0x452002 raw).get 0x452001 = d.get 0x452001 := Dev.get_put_other _ _ _ _ (by decide) (.inl (by decide))
  have habsent (v : Nat) : ((d.put 0x452002 raw).put 0x452001 v).jackAbsent = (d.put 0x452002 raw).jackAbsent := by
    rw [Dev.jackAbsent, Dev.get_put_other _ _ _ _ (by decide) (.inl (by decide)), Dev.get_put_other 0x452002 0x452001 _ _ (by decide) (.inl (by decide))]
    rfl
  have hout (v : Nat) : ((d.put 0x452002 raw).put 0x452001 v).outState 0 = d.outState 0 := (Dev.outState_put (by decide)).trans (Dev.outState_put (by decide))
  simp only [Dev.jackRaw, Nat.mod_eq_of_lt hraw, hon', hst, habsent, hout]
  rfl

/-- A used switch opens: a headphone that is on is muted. -/
theorem Dev.jackRaw_mute {d : Dev} {raw : Nat} (hraw : raw < 4) (hon : d.jackOn = true) (ha : (d.put 0x452002 raw).jackAbsent = true) (hst : d.get 0x452001 = 2) (ho : d.outState 0 = 2) :
    d.jackRaw raw = ((d.put 0x452002 raw).put 0x452001 3).modOut 0 (fun c => { c with jack := true }) := by
  simp [Dev.jackRaw_eq hraw hon, ha, hst, ho]

/-- It closes before a removal is declared: the headphone is unmuted. -/
theorem Dev.jackRaw_back {d : Dev} {raw : Nat} (hraw : raw < 4) (hon : d.jackOn = true) (ha : (d.put 0x452002 raw).jackAbsent = false) (hst : d.get 0x452001 = 3) :
    d.jackRaw raw = ((d.put 0x452002 raw).put 0x452001 2).modOut 0 (fun c => { c with jack := false }) := by
  simp [Dev.jackRaw_eq hraw hon, ha, hst, Dev.jackIn]

/-- An insertion that asks for no identification. -/
theorem Dev.jackInsert_plain {d : Dev} (hon : d.jackOn = true) (hin : d.jackIn = false) (hid : d.bitOf 0x452000 5 = false) :
    d.jackInsert = (((((d.put 0x452002 (d.get 0x452002 ||| d.get 0x452000 % 4)).put 0x452001 2).inc 0x452005).raise 66).modOut 0 (fun c => { c with jack := false })).hpSettle := by
  have hid' : ((((((d.put 0x452002 (d.get 0x452002 ||| d.get 0x452000 % 4)).put 0x452001 2).inc 0x452005).raise 66).modOut 0 (fun c => { c with jack := false }))).bitOf 0x452000 5 = false := by
    show (Dev.raise 66 _).bitOf 0x452000 5 = false
    rw [Dev.bitOf, Dev.get_raise _ _ _ (by decide) (by simp [fabricKey]), Dev.inc, Dev.bump]
    simp only [Dev.get_put (show 0x452000 ≠ kModeRequest by decide)]
    exact hid
  simp [Dev.jackInsert, hon, hin, hid']

/-- A removal with no type told, no bias connected and the headphone off. -/
theorem Dev.jackRemove_plain {d : Dev} {raw : Nat} (hraw : raw < 4) (hon : d.jackOn = true) (ha : (d.put 0x452002 raw).jackAbsent = true) (hst : d.get 0x452001 = 3) (ht : d.get 0x452003 = 0)
    (hb : d.hp.biasJack = false) (ho : d.outState 0 = 0) :
    d.jackRemove raw =
      (let x := ((((d.put 0x452002 raw).put 0x452001 0).raise 66).put 0x452004 0)
       ({ x with hp := { x.hp with ident := none } } : Dev).hpSettle) := by
  have hkeep (k : Nat) (h1 : k ≠ 0x452001) (h2 : k ≠ 0x452002) (hf : ¬ fabricKey k) : (((d.put 0x452002 raw).put 0x452001 0).raise 66).get k = d.get k := by
    rw [Dev.get_raise _ _ _ (by decide) hf, Dev.get_put_other _ _ _ _ h1 (.inr (by decide)), Dev.get_put_other _ _ _ _ h2 (.inr (by decide))]
  have hon' : (d.put 0x452002 raw).jackOn = true := by
    rw [Dev.jackOn, Dev.get_put_other _ _ _ _ (by decide) (.inl (by decide))]
    exact hon
  have hin : (d.put 0x452002 raw).jackIn = true := by simp [Dev.jackIn, Dev.get_put_other _ _ _ _ (show 0x452001 ≠ 0x452002 by decide), hst]
  have htype : (((d.put 0x452002 raw).put 0x452001 0).raise 66).get 0x452003 = 0 := (hkeep _ (by decide) (by decide) (by simp [fabricKey])).trans ht
  have hopen (x : Dev) (h : x.hp.biasJack = false) : x.jackOpen = x := by simp [Dev.jackOpen, h]
  have hstate (v : Nat) (p : Hp) : (({ ((((d.put 0x452002 raw).put 0x452001 0).raise 66).put 0x452004 v) with hp := p } : Dev)).outState 0 = 0 :=
    (Dev.outState_put (d := ((d.put 0x452002 raw).put 0x452001 0).raise 66) (by decide)).trans ((hkeep _ (by decide) (by decide) (by simp [fabricKey, ok_, key])).trans ho)
  unfold Dev.jackRemove
  rw [Nat.mod_eq_of_lt hraw]
  extract_lets x y y1 y2 p1 y4 y5 z
  rw [if_neg (by simp [x, hon', hin, ha])]
  have h1 : y1 = y := if_pos htype
  have h4 : y4 = ({ y.put 0x452004 0 with hp := { y.hp with ident := none } } : Dev) := by
    unfold y4 y2 p1
    rw [h1]
    exact hopen _ ((congrArg Hp.biasJack (Dev.raise_hp 66 _)).trans hb)
  have h5 : y5 = y4 := if_neg (by rw [h4, hstate]; decide)
  rw [h5, h4]
  rfl

/-! What the jack's current tells -/

theorem Dev.jackIdentify_due {d : Dev} {t ua : Nat} (hi : d.hp.ident = some t) (ht : t + 30000000 ≤ d.now) :
    d.jackIdentify ua =
      (let x := ({ d with hp := { d.hp with ident := none } } : Dev)
       if d.jackClass ua = 3 then x.setJack 3 else (x.setJack (d.jackClass ua)).jackOpen) := by
  simp only [Dev.jackIdentify, hi, if_pos ht]
  split
  case isTrue h => rw [h]
  case isFalse h => rfl

theorem Dev.button_pressed {d : Dev} {ua k : Nat} (ht : d.get 0x452003 = 3) (hb : d.hp.biasJack = true) (hold : d.get 0x452004 = 0)
    (hk : (if ua ≥ d.get 0x452100 then 1 else if ua ≥ d.get 0x452101 then 2 else if ua ≥ d.get 0x452102 then 4 else 0) = k) : d.button ua = if k = 0 then d else (d.put 0x452004 k).raise 68 := by
  simp only [Dev.button, ht, hb, hold, hk]
  by_cases h0 : k = 0
  · simp [h0]
  · simp [h0, Ne.symm h0]

/-- Settles O40: an output by the case of Table 15-2 it is in, a volume by one step towards its object, the jack by what its switches say, and a current by the thresholds it lies between. -/
theorem headphoneJack : Obligations.HeadphoneJack := by
  unfold Obligations.HeadphoneJack
  refine ⟨?hpEnable, ?loutEnable, ?settle, ?started, ?stopped, ?range, fun s => becomes_act rfl rfl, ?vols, ?fault, ?retry, ?jack, ?identify, ?button⟩
  case hpEnable => exact fun a v => (writes_hp (n := 0x4500) (s := 0) (fun _ => rfl) (objRow_hpObject _ (by decide)) rfl (by decide)).congr (fun _ _ => trivial) fun _ _ => rfl
  case loutEnable => exact fun a v => (writes_hp (n := 0x4510) (s := 0) (fun _ => rfl) (objRow_hpObject _ (by decide)) rfl (by decide)).congr (fun _ _ => trivial) fun _ _ => rfl
  case settle => exact fun d o => ⟨Dev.outSettleOne_start, Dev.outSettleOne_off, Dev.outSettleOne_on, Dev.outSettleOne_stop, Dev.outState_outStart d o false⟩
  case started => exact fun s o ho hs hr ht => becomes_act rfl (by rw [decide_eq_true ho, Dev.when_true, Dev.outStarted_first ho hs hr ht])
  case stopped => exact fun s o ho hs ht => becomes_act rfl (by rw [decide_eq_true ho, Dev.when_true, Dev.outStopped_due ho hs ht])
  case range =>
    exact fun a v => (writes_hp (n := 0x4500) (s := 1) (fun _ => rfl) (objRow_hpObject _ (by decide)) rfl (by decide)).congr (fun _ _ => trivial) fun d ⟨hv, ho⟩ => Dev.hpWrite_range hv ho
  case vols =>
    intro d o l r ho hlen hv
    refine ⟨_, _, Dev.volStep_vols ho hlen hv, ?_⟩
    unfold volToward
    split_ifs <;> omega
  case fault => exact fun s o ho hs => becomes_act rfl (by rw [decide_eq_true ho, Dev.when_true, Dev.outFault_on ho hs])
  case retry => exact fun s o t ho hr ht hs => becomes_act rfl (by rw [decide_eq_true ho, Dev.when_true, Dev.outRetry_due ho hr ht hs])
  case jack =>
    intro s raw hraw hlow hdown hon
    have halive : s.dev.alive = true := by simp [Dev.alive, hlow, hdown]
    refine ⟨fun ha hst ho => becomes_act rfl ?_, fun ha hst => becomes_act rfl ?_, fun hin hid h2 h3 => becomes_act rfl ?_, fun ha hst ht hb ho h2 h3 => becomes_act rfl ?_⟩
    · simp only [halive, Nat.mod_eq_of_lt hraw, ha, Bool.and_self, Dev.when_true, Dev.jackRaw_mute hraw hon ha hst ho]
    · simp only [halive, Nat.mod_eq_of_lt hraw, ha, Bool.not_false, Bool.and_self, Dev.when_true, Dev.jackRaw_back hraw hon ha hst]
    · have hmode : s.dev.jackInsert.mode = s.dev.mode := by
        rw [Dev.jackInsert_plain hon hin hid, Dev.mode_hpSettle]
        refine (Dev.mode_raise (by decide) _).trans ?_
        simp [Dev.inc, Dev.bump, Dev.mode_put]
      rw [halive, Dev.when_true, Dev.jackDeclare_awake hmode h2 h3, Dev.jackInsert_plain hon hin hid]
    · have hmode : (s.dev.jackRemove raw).mode = s.dev.mode := by
        rw [Dev.jackRemove_plain hraw hon ha hst ht hb ho]
        refine (Dev.mode_hpSettle _).trans ((Dev.mode_put (d := ((s.dev.put 0x452002 raw).put 0x452001 0).raise 66) (by decide)).trans ?_)
        rw [Dev.mode_raise (by decide), Dev.mode_put (by decide), Dev.mode_put (by decide)]
      rw [halive, Dev.when_true, Dev.jackDeclare_awake hmode h2 h3, Dev.jackRemove_plain hraw hon ha hst ht hb ho]
  case identify =>
    intro s t ua hi ht
    have hdue := Dev.jackIdentify_due (ua := ua) hi ht
    refine ⟨fun h => becomes_act rfl (hdue.trans ?_), fun h1 h2 => becomes_act rfl (hdue.trans ?_), fun h1 h2 => becomes_act rfl (hdue.trans ?_)⟩
    · simp [Dev.jackClass, h, Dev.setJack]
    · simp [Dev.jackClass, Nat.not_le.mpr h1, h2, Dev.setJack]
    · simp [Dev.jackClass, Nat.not_le.mpr h1, Nat.not_lt.mpr h2, Dev.setJack]
  case button =>
    intro s ua ht hb hold
    refine ⟨fun hA => becomes_act rfl ?_, fun hA hB => becomes_act rfl ?_, fun hA hB hC => becomes_act rfl ?_, fun hA hB hC => becomes_act rfl ?_⟩
    · exact Dev.button_pressed (k := 1) ht hb hold (if_pos hA)
    · exact Dev.button_pressed (k := 2) ht hb hold (by simp [Nat.not_le.mpr hA, hB])
    · exact Dev.button_pressed (k := 4) ht hb hold (by simp [Nat.not_le.mpr hA, Nat.not_le.mpr hB, hC])
    · exact Dev.button_pressed (k := 0) ht hb hold (by simp [Nat.not_le.mpr hA, Nat.not_le.mpr hB, Nat.not_le.mpr hC])

end Sys2Proof.Machine
end

section
/-! SUPPORT. The objects of the twin and the bits of TWIN_STATUS (Table 18-1): what a change of one leaves of the others. -/
namespace Sys2Proof.Machine

/-- The bits above a bit that is set or cleared stay. -/
theorem bit_setBit_above {i j : Nat} (h : i < j) (v : Nat) (b : Bool) : bit (setBit v i b) j = bit v j := by
  have hw : i + 1 - i = 1 := by omega
  have hb : (if b then 1 else 0) % 2 = b.toNat := by cases b <;> rfl
  have hdiv : (v - v / 2 ^ i % 2 * 2 ^ i + b.toNat * 2 ^ i) / 2 ^ i = v / 2 ^ i - v / 2 ^ i % 2 + b.toNat := by
    rw [Nat.add_mul_div_right _ _ (Nat.two_pow_pos i), Nat.mul_comm, Nat.sub_mul_div]
  have hhigh : setBit v i b / 2 ^ (i + 1) = v / 2 ^ (i + 1) := by
    rw [setBit, setFld, fld, hw, Nat.pow_one, Nat.shiftRight_eq_div_pow, hb, Nat.pow_succ, ← Nat.div_div_eq_div_mul, hdiv, ← Nat.div_div_eq_div_mul]
    generalize v / 2 ^ i = q
    have hle := b.toNat_le
    omega
  have hbit (x : Nat) : bit x j = (x / 2 ^ (i + 1)).testBit (j - (i + 1)) := by rw [Nat.testBit_div_two_pow, bit, Nat.sub_add_cancel h]
  rw [hbit, hbit, hhigh]

/-- A bit other than the one that is set or cleared stays. -/
theorem bit_setBit_other {i j : Nat} (h : j ≠ i) (v : Nat) (b : Bool) : bit (setBit v i b) j = bit v j := by
  rcases Nat.lt_or_gt_of_ne h with h | h
  · exact bit_setBit_below h v b
  · exact bit_setBit_above h v b

/-! Objects of 7000h to 70FFh -/

def twinKey (k : Nat) : Prop := 0x700000 ≤ k ∧ k < 0x710000

theorem Dev.get_twin_put {j k : Nat} (hj : twinKey j) (h : j ≠ k) (v : Nat) (d : Dev) : (d.put k v).get j = d.get j :=
  Dev.get_put_other j k v d h (.inl (by unfold twinKey at hj; unfold kModeRequest; omega))

theorem Dev.get_twin_raise {j e : Nat} (hj : twinKey j) (he : e < 128) (d : Dev) : (d.raise e).get j = d.get j :=
  Dev.get_raise e j d he (by unfold twinKey at hj; unfold fabricKey; omega)

theorem Dev.tbit_setTbit_same (i : Nat) (b : Bool) (d : Dev) : (d.setTbit i b).tbit i = b := by
  rw [Dev.tbit, Dev.bitOf, Dev.setTbit, Dev.putBit, Dev.get_put_same, bit_setBit_same]

theorem Dev.tbit_setTbit_other {i j : Nat} (h : j ≠ i) (b : Bool) (d : Dev) : (d.setTbit i b).tbit j = d.tbit j := by
  rw [Dev.tbit, Dev.bitOf, Dev.setTbit, Dev.putBit, Dev.get_put_same, bit_setBit_other h]
  rfl

theorem Dev.tbit_put {k v i : Nat} {d : Dev} (h : k ≠ 0x700303) : (d.put k v).tbit i = d.tbit i := by
  rw [Dev.tbit, Dev.bitOf, Dev.get_put_other _ _ _ _ h.symm (.inl (by decide))]
  rfl

theorem Dev.tbit_raise {e i : Nat} (he : e < 128) (d : Dev) : (d.raise e).tbit i = d.tbit i := by
  rw [Dev.tbit, Dev.bitOf, Dev.get_twin_raise (by simp [twinKey]) he]
  rfl

theorem Dev.get_setTbit {k i : Nat} {b : Bool} {d : Dev} (hk : twinKey k) (h : k ≠ 0x700303) : (d.setTbit i b).get k = d.get k := Dev.get_twin_put hk h _ d

/-! SHADOW_READY and TWIN_STATE, whose changes raise events -/

theorem Dev.get_setReady114 {k i : Nat} {b : Bool} {d : Dev} (hk : twinKey k) (h : k ≠ 0x700303) : (d.setReady114 i b).get k = d.get k := by
  unfold Dev.setReady114
  split
  · rfl
  · rw [Dev.get_twin_raise hk (by decide), Dev.get_setTbit hk h]

theorem Dev.tbit_setReady114_same (i : Nat) (b : Bool) (d : Dev) : (d.setReady114 i b).tbit i = b := by
  unfold Dev.setReady114
  split
  case isTrue h => exact h
  case isFalse => rw [Dev.tbit_raise (by decide), Dev.tbit_setTbit_same]

theorem Dev.tbit_setReady114_other {i j : Nat} (h : j ≠ i) (b : Bool) (d : Dev) : (d.setReady114 i b).tbit j = d.tbit j := by
  unfold Dev.setReady114
  split
  · rfl
  · rw [Dev.tbit_raise (by decide), Dev.tbit_setTbit_other h]

theorem Dev.setReady114_twin (i : Nat) (b : Bool) (d : Dev) : (d.setReady114 i b).twin = d.twin := by
  unfold Dev.setReady114
  split
  · rfl
  · simp [Dev.setTbit]

theorem Dev.twinState_setTwin (s : Nat) (d : Dev) : (d.setTwin s).twinState = s := by
  unfold Dev.setTwin
  split
  case isTrue h => exact h
  case isFalse => rw [Dev.twinState, Dev.get_twin_raise (by simp [twinKey]) (by decide), Dev.get_put_same]

theorem Dev.get_setTwin {k s : Nat} {d : Dev} (hk : twinKey k) (h : k ≠ 0x700300) : (d.setTwin s).get k = d.get k := by
  unfold Dev.setTwin
  split
  · rfl
  · rw [Dev.get_twin_raise hk (by decide), Dev.get_twin_put hk h]

theorem Dev.tbit_setTwin (s i : Nat) (d : Dev) : (d.setTwin s).tbit i = d.tbit i := congrArg (bit · i) (Dev.get_setTwin (by simp [twinKey]) (by decide))

theorem Dev.setTwin_twin (s : Nat) (d : Dev) : (d.setTwin s).twin = d.twin := by
  unfold Dev.setTwin
  split
  · rfl
  · simp

/-! Writes of 7002h -/

theorem objRow_twinCommand : ∀ s < 3, objRow (key 0x7002 s) = some (.mk 0x7002 1 1 s 1 .bool .cmd 0 .none 0 0 (.nat [(0, 1)])) := by decide

/-- A command of the twin written: it does what its object starts. -/
theorem writes_twin {i : Instr} {a : Access} {s v : Nat} {h : Dev → Prop} {f : Dev → Dev} (hs : s < 3) (hi : ∀ t, exec i t = .next (t.quiet (Dev.hostSet a (key 0x7002 s) v)))
    (hf : ∀ d, h d → d.twinWrite (key 0x7002 s) v = f d) : writes i a (key 0x7002 s) v h f :=
  writes_cmd hi (objRow_twinCommand s hs) rfl rfl rfl fun m d hh => by
    rw [← hf d hh]
    simp only [Dev.actOn, key_page 0x7002 s (by omega)]

end Sys2Proof.Machine
end

section
/-! SUPPORT. Fencing and claims (R433 to R437, R440). -/
namespace Sys2Proof.Machine

theorem Dev.fenceEnter_held {d : Dev} (h : d.twin.fenceIn = true ∨ (d.twin.fenceOut = true ∧ d.twin.id = false ∧ d.now ≤ d.twin.fenceOutAt + 1200)) : d.fenceEnter = d := by
  rcases h with h | ⟨ho, hid, ht⟩
  · simp [Dev.fenceEnter, h]
  · simp [Dev.fenceEnter, ho, hid, ht]

/-- A twin that was not fenced takes the fence, unless it fenced its partner within the last microsecond and is the one that stays. -/
theorem Dev.fenceEnter_fenced {d : Dev} (hin : d.twin.fenceIn = false) (hout : d.twin.fenceOut = true → d.twin.id = true ∨ d.twin.fenceOutAt + 1200 < d.now) :
    d.fenceEnter =
      (let x := (((((d.modTwin (fun t => { t with fenceIn := true, fenceOut := false, hand := none, failover := false, flags := 0 })).setTbit 4 true).setTbit 3 false).holdEnd false).setTbit 8 false |>.setTbit 0 false).setTbit 1 false
       let y := ((((((x.raise 115).twinRecord 115).setReady114 2 false).setTwin 6).put 0x700301 0).linkSet 0 0).linkSet 1 0
       if y.sup.coreOn then (y.causeSet 6).outSettle else y) := by
  have hgo : ¬ (d.twin.fenceIn || (d.twin.fenceOut && !d.twin.id && decide (d.now ≤ d.twin.fenceOutAt + 1200))) = true := by
    simp only [hin, Bool.false_or, Bool.and_eq_true, Bool.not_eq_true', decide_eq_true_eq, not_and, Nat.not_le]
    rintro ⟨ho, hid⟩
    rcases hout ho with h | h
    · exact absurd (h.symm.trans hid) (by decide)
    · exact h
  exact if_neg hgo

theorem Dev.fenceLeave_fenced {d : Dev} (hin : d.twin.fenceIn = true) :
    d.fenceLeave =
      (let x := (((((d.modTwin (fun t => { t with fenceIn := false, barred := true })).setTbit 4 false).raise 115).causeClear 6).outSettle)
       if x.chordUp then x.setTwin 1 else x.setTwin 0) := if_pos hin

theorem Dev.fenceRelease_out {d : Dev} (h : d.twin.fenceOut = true) : d.fenceRelease = ((d.modTwin (fun t => { t with fenceOut := false })).setTbit 3 false).raise 115 := if_pos h

theorem Dev.autoRejoin_due {d : Dev} (hs : d.get 0x700003 ≠ 0) (ho : d.twin.fenceOut = true) (ht : d.twin.fenceOutAt + d.get 0x700003 * 1000000000 ≤ d.now) : d.autoRejoin = d.fenceRelease := by
  simp [Dev.autoRejoin, hs, ho, ht]

theorem Dev.claimWait_due {d : Dev} (hu : d.chordUp = true) (hs : d.twinState = 1 ∨ d.twinState = 2) (ht : d.twin.upAt + (d.get 0x700004 + b2n d.twin.id) * 1000000 ≤ d.now) :
    d.claimWait = if d.twin.barred then d.setTwin 5 else (d.fenceAssert.standAlone).claimed 5 2 500 := by
  simp [Dev.claimWait, hu, hs, ht]

theorem Dev.twinRole_raise {e : Nat} (he : e < 128) (d : Dev) : (d.raise e).twinRole = d.twinRole := Dev.get_twin_raise (by simp [twinKey]) he d

/-- Heartbeats that stop are a takeover for the SHADOW. -/
theorem Dev.beatLost_shadow {d : Dev} (hs : d.twinState = 3) (hf : d.twin.fenceIn = false) (hr : d.twinRole = 2) (ht : d.twin.beatAt + 100000 ≤ d.now) :
    d.beatLost = ((d.raise 112).fenceAssert.standAlone).claimed 1 2 500 := by
  simp [Dev.beatLost, Dev.fenceTake, hs, hf, hr, ht, Dev.twinRole_raise]

/-- For the ACTIVE they are not. -/
theorem Dev.beatLost_active {d : Dev} (hs : d.twinState = 3) (hf : d.twin.fenceIn = false) (hr : d.twinRole = 1) (ht : d.twin.beatAt + 300000 ≤ d.now) :
    d.beatLost = (d.raise 112).fenceAssert.standAlone := by
  simp [Dev.beatLost, Dev.fenceTake, hs, hf, hr, ht, Dev.twinRole_raise]

/-- An ACTIVE that no grandmaster role concerns keeps its role alone, with every lease. -/
theorem Dev.standAlone_active {d : Dev} (hr : d.twinRole = 1) (hg : bit d.twin.flags 2 = false) (h8 : d.tbit 8 = false) :
    d.standAlone = ((((d.put 0x700301 1).holdEnd true).modTwin (fun t => { t with hand := none, failover := false, launchFrom := 0, launchTo := 0, flags := 0 })).setReady114 2 false).setTwin 4 := by
  have hgm : ((d.put 0x700301 1).holdEnd true).tbit 8 = false := by
    rw [Dev.holdEnd, Dev.tbit_setTbit_other (by decide), Dev.tbit_setTbit_other (by decide), Dev.tbit_put (by decide), h8]
  simp [Dev.standAlone, hr, hg, hgm]

theorem Dev.standAlone_holds {d : Dev} (hr : d.twinRole = 1) (hg : bit d.twin.flags 2 = false) (h8 : d.tbit 8 = false) :
    d.standAlone.twinState = 4 ∧ d.standAlone.twinRole = 1 ∧ d.standAlone.tbit 6 = true ∧ d.standAlone.tbit 7 = true ∧ d.standAlone.tbit 2 = false ∧ d.standAlone.twin.hand = none := by
  rw [Dev.standAlone_active hr hg h8]
  refine ⟨Dev.twinState_setTwin 4 _, ?_, ?_, ?_, ?_, ?_⟩
  · rw [Dev.twinRole, Dev.get_setTwin (by simp [twinKey]) (by decide), Dev.get_setReady114 (by simp [twinKey]) (by decide)]
    show (Dev.holdEnd true (d.put 0x700301 1)).get 0x700301 = 1
    rw [Dev.holdEnd, Dev.get_setTbit (by simp [twinKey]) (by decide), Dev.get_setTbit (by simp [twinKey]) (by decide), Dev.get_put_same]
  · rw [Dev.tbit_setTwin, Dev.tbit_setReady114_other (by decide)]
    exact (Dev.tbit_setTbit_other (by decide) true _).trans (Dev.tbit_setTbit_same 6 true _)
  · rw [Dev.tbit_setTwin, Dev.tbit_setReady114_other (by decide)]
    exact Dev.tbit_setTbit_same 7 true _
  · rw [Dev.tbit_setTwin, Dev.tbit_setReady114_same]
  · rw [Dev.setTwin_twin, Dev.setReady114_twin]
    rfl

theorem Dev.openProceed_none {d : Dev} (h : d.sec.opening = none) (m : List Host.Cell) : d.openProceed m = d := by simp [Dev.openProceed, h]

/-- Settles O43: the fence's two levels and its release by what each changes, a claim by whether it is barred, and heartbeats that stop by the role they leave alone. -/
theorem fencing : Obligations.Fencing := by
  unfold Obligations.Fencing
  refine ⟨fun s h => becomes_act rfl (Dev.fenceEnter_held h), ?enter, ?leave, fun a => writes_twin (s := 1) (by decide) (fun _ => rfl) fun d h => Dev.fenceRelease_out h, ?rejoin,
    fun a => writes_twin (s := 2) (by decide) (fun _ => rfl) fun d _ => rfl, ?claim, ?lost, fun d => rfl, fun d hr hg h8 => Dev.standAlone_holds hr hg h8, fun d m h => Dev.openProceed_none h m⟩
  case enter =>
    intro s hin hout x y
    have henter := Dev.fenceEnter_fenced hin hout
    exact ⟨fun hc => becomes_act rfl (henter.trans (if_neg (by rw [hc]; decide))), fun hc => becomes_act rfl (henter.trans (if_pos hc))⟩
  case leave =>
    intro s hin x
    have hleave := Dev.fenceLeave_fenced hin
    exact ⟨fun hu => becomes_act rfl (hleave.trans (if_pos hu)), fun hu => becomes_act rfl (hleave.trans (if_neg (by rw [hu]; decide)))⟩
  case rejoin => exact fun s hs ho ht => becomes_act rfl ((Dev.autoRejoin_due hs ho ht).trans (Dev.fenceRelease_out ho))
  case claim =>
    intro s hu hs ht
    have hdue := Dev.claimWait_due hu hs ht
    exact ⟨fun hb => becomes_act rfl (hdue.trans (if_pos hb)), fun hb => becomes_act rfl (hdue.trans (if_neg (by rw [hb]; decide)))⟩
  case lost =>
    intro s hs hf
    exact ⟨fun hr ht => congrArg Host.Outcome.next (State.run_congr (congrArg (Dev.openProceed s.mem) (Dev.beatLost_shadow hs hf hr ht))),
      fun hr ht => congrArg Host.Outcome.next (State.run_congr (congrArg (Dev.openProceed s.mem) (Dev.beatLost_active hs hf hr ht)))⟩

end Sys2Proof.Machine
end

section
/-! SUPPORT. The Chord link (R427 to R430, R439): its lanes, pairing, heartbeats and samples. -/
namespace Sys2Proof.Machine

/-! Lanes and pairing -/

theorem Dev.laneSet_fault {d : Dev} {lane : Nat} (hl : lane < 2) (hu : d.chordUp = true) (ht : d.tbit lane = true) : d.laneSet lane false = ((d.setTbit lane false).inc 0x700405).raise 116 := by
  simp [Dev.laneSet, hl, hu, ht]

theorem Dev.laneSet_good {d : Dev} {lane : Nat} (hl : lane < 2) (hu : d.chordUp = true) (ht : d.tbit lane = false) : d.laneSet lane true = (d.setTbit lane true).raise 116 := by
  simp [Dev.laneSet, hl, hu, ht]

theorem Dev.chordTrained_joins {d : Dev} (hu : d.chordUp = true) (hs : d.twinState = 1 ∨ d.twinState = 5) : d.chordTrained = ((d.setTbit 0 true).setTbit 1 true).setTwin 2 := by
  rcases hs with hs | hs <;> simp [Dev.chordTrained, hu, hs]

theorem Dev.chordTrained_alone {d : Dev} (hu : d.chordUp = true) (hs : d.twinState = 4) : d.chordTrained = (d.setTbit 0 true).setTbit 1 true := by
  simp [Dev.chordTrained, hu, hs]

section
variable {d : Dev} (hu : d.chordUp = true) (hs : d.twinState = 2)
include hu hs

/-- A partner of another model, variant or revision, or of this twin's own identity, is refused. -/
theorem Dev.hello_refused {model variant rev : Nat} {twin holds : Bool} (h : model ≠ d.get 0x100000 ∨ variant ≠ d.get 0x100100 ∨ rev ≠ d.get 0x100200 ∨ twin = d.twin.id) :
    d.hello model variant rev twin holds = ((d.setTbit 9 true).setTwin 7).raise 118 := by
  have hbad : (model != d.get 0x100000 || variant != d.get 0x100100 || rev != d.get 0x100200 || decide (twin = d.twin.id)) = true := by
    simp only [Bool.or_eq_true, bne_iff_ne, decide_eq_true_eq]
    tauto
  have hgo : ¬ (!(d.chordUp && (decide (d.twinState = 2) || decide (d.twinState = 4) && d.tbit 0))) = true := by simp [hu, hs]
  exact (if_neg hgo).trans (if_pos hbad)

/-- A partner is paired with; who holds the shared identity, or the choice by TWIN_ID, gives the roles. -/
theorem Dev.hello_pairs {twin : Bool} (ht : twin ≠ d.twin.id) (holds : Bool) :
    d.hello (d.get 0x100000) (d.get 0x100100) (d.get 0x100200) twin holds
      = if d.tbit 6 then (d.setTbit 9 false).rolePaired true else if holds then (d.setTbit 9 false).rolePaired false else (d.setTbit 9 false).rolePaired (decide (b2n d.twin.id = d.get 0x700001)) := by
  have hchoice : (d.setTbit 9 false).get 0x700001 = d.get 0x700001 := Dev.get_setTbit (by simp [twinKey]) (by decide)
  have hid : (d.setTbit 9 false).twin.id = d.twin.id := rfl
  simp [Dev.hello, hu, hs, ht, Dev.tbit_setTbit_other, hchoice, hid]

end

/-! Heartbeats -/

theorem Dev.beatBytes_length (d : Dev) : d.beatBytes.length = 64 := by
  simp [Dev.beatBytes, leBytes_length, zeros, upto, List.length_flatMap]

theorem Dev.beatSend_up {d : Dev} (hu : d.chordUp = true) (h2 : 2 ≤ d.twinState) (h4 : d.twinState ≤ 4) :
    d.beatSend = d.modTwin (fun t => { t with wire := [2, 64, 0] ++ leBytes 2 t.sent ++ d.beatBytes, sent := (t.sent + 1) % 65536 }) := by
  simp only [Dev.beatSend, hu, h2, h4, Dev.chordSend, Dev.beatBytes_length]
  rfl

theorem Dev.get_ev117 {k : Nat} (hk : twinKey k) (d : Dev) : d.ev117.get k = d.get k := by
  unfold Dev.ev117
  extract_lets quiet
  split
  · rfl
  · exact Dev.get_twin_raise hk (by decide) _

theorem Dev.now_ev117 (d : Dev) : d.ev117.now = d.now := by
  unfold Dev.ev117
  extract_lets quiet
  split
  · rfl
  · exact Dev.raise_now 117 _

/-- The watch over the partner's boundaries moves ALIGN_FAULT and its own counts alone. -/
theorem Dev.alignWatch_keeps {β : Type} {P : Dev → β} (htwin : ∀ (f : Twin → Twin) (d : Dev), P (d.modTwin f) = P d) (hbit : ∀ (b : Bool) (d : Dev), P (d.setTbit 5 b) = P d) (hev : ∀ d : Dev, P d.ev117 = P d) (b : Nat) (d : Dev) :
    P (d.alignWatch b) = P d := by
  unfold Dev.alignWatch
  dsimp only
  split
  · split
    · rw [hev, hbit, htwin]
    · rw [htwin]
  · split
    · split
      · rw [hev, hbit, htwin]
      · rw [htwin]
    · rw [htwin]

theorem Dev.get_alignWatch {k : Nat} (hk : twinKey k) (h : k ≠ 0x700303) (b : Nat) (d : Dev) : (d.alignWatch b).get k = d.get k :=
  Dev.alignWatch_keeps (P := fun d => d.get k) (fun _ _ => rfl) (fun _ _ => Dev.get_setTbit hk h) (Dev.get_ev117 hk) b d

theorem Dev.now_alignWatch (b : Nat) (d : Dev) : (d.alignWatch b).now = d.now := Dev.alignWatch_keeps (P := Dev.now) (fun _ _ => rfl) (fun _ _ => rfl) Dev.now_ev117 b d

/-- The part once a heartbeat that does not hold the grandmaster role is taken, before what it brings its receiver by its role. -/
def Dev.beatTaken (h : Heart) (d : Dev) : Dev := ((d.modTwin (fun t => { t with beatAt := d.now, flags := h.flags })).put 0x700304 h.mode).alignWatch h.boundary

theorem Dev.beatTaken_role (h : Heart) (d : Dev) : (d.beatTaken h).twinRole = d.twinRole := by
  rw [Dev.twinRole, Dev.beatTaken, Dev.get_alignWatch (by simp [twinKey]) (by decide), Dev.get_twin_put (by simp [twinKey]) (by decide)]
  rfl

theorem Dev.beatTaken_now (h : Heart) (d : Dev) : (d.beatTaken h).now = d.now := Dev.now_alignWatch _ _

section
variable {d : Dev} {h : Heart} (hu : d.chordUp = true) (hs : d.twinState = 3) (h2 : bit h.flags 2 = false)
include hu hs h2

theorem Dev.beat_active (hr : d.twinRole = 1) : d.beat h = (d.beatTaken h).setReady114 2 (bit h.flags 4) := by
  have hrole : (d.beatTaken h).twinRole ≠ 2 := by
    rw [Dev.beatTaken_role, hr]
    decide
  have hgo : ¬ (!(d.chordUp && decide (d.twinState = 3))) = true := by simp [hu, hs]
  unfold Dev.beat
  rw [if_neg hgo]
  extract_lets old d1 d2 d3 d4
  have htaken : d4 = d.beatTaken h := by simp [d4, d3, d2, d1, Dev.beatTaken, h2]
  clear_value d4
  rw [htaken, if_neg hrole]

/-- The SHADOW's endpoint lease runs 200 us from a heartbeat that holds both endpoint leases; the talkers' reports and what was launched are taken, and SHADOW_READY follows. -/
theorem Dev.beat_shadow (hr : d.twinRole = 2) (h0 : bit h.flags 0 = true) (h1 : bit h.flags 1 = true) (h3 : bit h.flags 3 = false) :
    let y := h.starts.foldl (fun (a : Dev) (v : Nat × Nat × Nat × Nat) => a.modTalker v.1 (fun t => { t with report := some v.2 })) ((d.beatTaken h).modTwin (fun t => { t with endLease := d.now + 200000 }))
    (y.retire h.launched).ready 5 = false → d.beat h = (y.retire h.launched).shadowCheck h.offset := by
  intro y hready
  have hrole : (d.beatTaken h).twinRole = 2 := (Dev.beatTaken_role h d).trans hr
  have hnow : (d.beatTaken h).now = d.now := Dev.beatTaken_now h d
  have hgo : ¬ (!(d.chordUp && decide (d.twinState = 3))) = true := by simp [hu, hs]
  unfold Dev.beat
  rw [if_neg hgo]
  extract_lets old d1 d2 d3 d4 d5 d6 d7 d8 d9 bnd
  have htaken : d4 = d.beatTaken h := by simp [d4, d3, d2, d1, Dev.beatTaken, h2]
  clear_value d4
  have hreports : d6 = y := by simp [d6, d5, y, htaken, hnow, h0, h1]
  clear_value d6
  have hlocked : d8 = y.retire h.launched := by simp [d8, d7, hreports, hready]
  rw [htaken, if_pos hrole]
  simp [d9, hlocked, h3]

end

/-! Samples -/

theorem Dev.samplesIn_paired {d : Dev} (hu : d.chordUp = true) (hs : d.twinState = 3) (n : Nat) (l : List (Int × Nat)) :
    d.samplesIn_ n l = d.modTwin (fun t => { t with channels := l.length, frames := (n, l) :: t.frames.filter (fun f => f.1 != n && decide (d.med.index ≤ f.1 + 2)) }) := by
  simp [Dev.samplesIn_, hu, hs]

theorem Dev.samplesSend_paired {d : Dev} (hu : d.chordUp = true) (hs : d.twinState = 3) (hm : d.med.run = true) :
    d.samplesSend = d.chordSend 3 (leBytes 8 d.med.index ++ (upto (d.get 0x700800)).flatMap (fun c => leBytes 4 (d.sinkSample (0x80 + c)).word ++ leBytes 1 (d.sinkSample (0x80 + c)).t)) := by
  simp [Dev.samplesSend, hu, hs, hm]

theorem Dev.ev117_first {d : Dev} (h : d.twin.ev117 = none) : d.ev117 = (d.modTwin (fun t => { t with ev117 := some d.now })).raise 117 := by
  simp [Dev.ev117, h]

theorem Dev.ev117_again {d : Dev} {t : Nat} (h : d.twin.ev117 = some t) (ht : d.now < t + 1000000) : d.ev117 = d := by
  simp [Dev.ev117, h, ht]

theorem Dev.samplesLost_paired {d : Dev} (hu : d.chordUp = true) (hs : d.twinState = 3) (crc : Bool) : d.samplesLost crc = (d.inc (if crc then 0x700403 else 0x700404)).ev117 := by
  simp [Dev.samplesLost, hu, hs]

/-- Settles O44: each command by the state of the twin and the role it needs. -/
theorem chordLink : Obligations.ChordLink := by
  unfold Obligations.ChordLink
  refine ⟨fun s lane hl hu ht => becomes_act rfl (Dev.laneSet_fault hl hu ht), fun s lane hl hu ht => becomes_act rfl (Dev.laneSet_good hl hu ht), fun s hu hs => becomes_act rfl (Dev.chordTrained_joins hu hs),
    fun s hu hs => becomes_act rfl (Dev.chordTrained_alone hu hs), fun s model variant rev twin holds hu hs h => becomes_act rfl (Dev.hello_refused hu hs h), ?pairs,
    fun s hu h2 h4 => ⟨Dev.beatBytes_length s.dev, becomes_act rfl (Dev.beatSend_up hu h2 h4)⟩, fun s h hu hs hr h2 => becomes_act rfl (Dev.beat_active hu hs h2 hr), ?shadow,
    fun s n l hu hs => becomes_act rfl (Dev.samplesIn_paired hu hs n l), fun s hu hs hm => becomes_act rfl (Dev.samplesSend_paired hu hs hm), ?missing, ?missingAgain⟩
  case pairs =>
    intro s twin holds hu hs ht
    have hpair := Dev.hello_pairs hu hs ht holds
    refine ⟨fun h6 => becomes_act rfl (hpair.trans (if_pos h6)), fun h6 hh => becomes_act rfl (hpair.trans ?_), fun h6 hh => becomes_act rfl (hpair.trans ?_)⟩
    · simp [h6, hh]
    · simp [h6, hh]
  case shadow =>
    intro s h hu hs hr h0 h1 h2 h3 _ x y hready
    exact becomes_act rfl (Dev.beat_shadow hu hs h2 hr h0 h1 h3 hready)
  case missing =>
    exact fun s hu hs hev => ⟨becomes_act rfl ((Dev.samplesLost_paired hu hs true).trans (Dev.ev117_first hev)), becomes_act rfl ((Dev.samplesLost_paired hu hs false).trans (Dev.ev117_first hev))⟩
  case missingAgain => exact fun s t crc hu hs hev ht => becomes_act rfl ((Dev.samplesLost_paired hu hs crc).trans (Dev.ev117_again hev ht))

end Sys2Proof.Machine
end

section
/-! SUPPORT. Mirrored writes, takeover triggers and the handover (R424, R425, R431, R437, R438). -/
namespace Sys2Proof.Machine

/-- A command of the twin while no open of the debug port waits for it: it becomes what it does. -/
theorem becomes_proceed {i : Instr} {s : State} {f : Dev → Dev} {d : Dev} (hi : exec i s = .next (s.run (fun m x => (f x).openProceed m))) (hf : f s.dev = d)
    (hsec : d.sec = s.dev.sec) (hst : d.stores = s.dev.stores) (ho : s.dev.sec.opening = none) (hs : s.dev.stores = []) : becomes i s d :=
  becomes_run hi (by rw [hf, Dev.openProceed_none (by rw [hsec, ho])]) hst hs

theorem Dev.get_modTwin (k : Nat) (f : Twin → Twin) (d : Dev) : (d.modTwin f).get k = d.get k := rfl

theorem Dev.tbit_modTwin (i : Nat) (f : Twin → Twin) (d : Dev) : (d.modTwin f).tbit i = d.tbit i := rfl

theorem Dev.modTwin_sec (f : Twin → Twin) (d : Dev) : (d.modTwin f).sec = d.sec := rfl

theorem Dev.modTwin_stores (f : Twin → Twin) (d : Dev) : (d.modTwin f).stores = d.stores := rfl

theorem Dev.setReady114_sec (i : Nat) (b : Bool) (d : Dev) : (d.setReady114 i b).sec = d.sec := by
  unfold Dev.setReady114
  split
  · rfl
  · simp [Dev.setTbit]

theorem Dev.setReady114_stores (i : Nat) (b : Bool) (d : Dev) : (d.setReady114 i b).stores = d.stores := by
  unfold Dev.setReady114
  split
  · rfl
  · simp [Dev.setTbit]

theorem Dev.setTwin_sec (s : Nat) (d : Dev) : (d.setTwin s).sec = d.sec := by
  unfold Dev.setTwin
  split
  · rfl
  · simp

theorem Dev.setTwin_stores (s : Nat) (d : Dev) : (d.setTwin s).stores = d.stores := by
  unfold Dev.setTwin
  split
  · rfl
  · simp

theorem Dev.claimed_sec (cause lo hi : Nat) (d : Dev) : (d.claimed cause lo hi).sec = d.sec := by
  simp [Dev.claimed, Dev.fresh, Dev.does, Dev.twinRecord]

theorem Dev.claimed_stores (cause lo hi : Nat) (d : Dev) : (d.claimed cause lo hi).stores = d.stores := by
  simp [Dev.claimed, Dev.fresh, Dev.does, Dev.twinRecord]

/-- What retiring the kept packets leaves alone: whatever the streams' bookkeeping and their counts do not reach. -/
theorem Dev.retireAll_keeps {β : Type} (P : Dev → β) (htalker : ∀ (n : Nat) (f : Talker → Talker) (d : Dev), P (d.modTalker n f) = P d) (hcount : ∀ (n : Nat) (f : QFrame) (d : Dev), P (d.tsRetire n f) = P d) (d : Dev) :
    P d.retireAll = P d :=
  foldl_keeps P _ (fun b n => (htalker n _ _).trans (foldl_keeps P _ (fun c f => hcount n f c) _ b)) _ d

theorem Dev.retireAll_sec (d : Dev) : d.retireAll.sec = d.sec := Dev.retireAll_keeps Dev.sec (fun _ _ _ => rfl) (fun _ _ _ => rfl) d

theorem Dev.retireAll_stores (d : Dev) : d.retireAll.stores = d.stores := Dev.retireAll_keeps Dev.stores (fun _ _ _ => rfl) (fun _ _ _ => rfl) d

/-! Mirrored writes -/

theorem Dev.chordWrite_waits {d : Dev} (ht : d.takesMirror = true) (hr : d.med.run = true) {time : Nat} (h0 : time ≠ 0) (r : AccessRecord) (m : List Host.Cell) :
    d.chordWrite r time m = d.modTwin (fun t => { t with mirror := t.mirror ++ [{ at_ := boundaryAt d.fs time, key := key r.index r.sub, access := chordAccess r, own := false }] }) := by
  simp [Dev.chordWrite, ht, hr, h0]

theorem Dev.chordWrite_acts {d : Dev} (ht : d.takesMirror = true) {time : Nat} (h : d.med.run = false ∨ time = 0) (r : AccessRecord) (m : List Host.Cell) :
    d.chordWrite r time m = d.mirrorAct m { at_ := boundaryAt d.fs time, key := key r.index r.sub, access := chordAccess r, own := false } := by
  rcases h with h | h <;> simp [Dev.chordWrite, ht, h]

theorem Dev.chordWrite_other {d : Dev} (ht : d.takesMirror = false) (r : AccessRecord) (time : Nat) (m : List Host.Cell) : d.chordWrite r time m = d := by
  simp [Dev.chordWrite, ht]

theorem Dev.mirrorData_waits {d : Dev} (ht : d.takesMirror = true) (hr : d.med.run = true) (l : List AccessRecord) (m : List Host.Cell) :
    d.mirrorData l m = d.modTwin (fun t => { t with mirror := t.mirror ++ d.transfer (d.med.index + 1) l }) := by
  simp [Dev.mirrorData, ht, hr]

theorem Dev.mirrorData_other {d : Dev} (ht : d.takesMirror = false) (l : List AccessRecord) (m : List Host.Cell) : d.mirrorData l m = d := by
  simp [Dev.mirrorData, ht]

/-! The handover's frames and its boundary -/

section
variable {d : Dev} (hs : d.twinState = 3)
include hs

theorem Dev.handRequest_granted (hu : d.chordUp = true) (hh : d.twin.hand = none) (n cause : Nat) :
    d.handRequest n cause = (d.modTwin (fun t => { t with hand := some { s := n, cause := cause, granted := true } })).chordSend 6 (leBytes 1 2 ++ leBytes 8 n) := by
  simp [Dev.handRequest, Dev.handSend, hu, hs, hh]

theorem Dev.handGrant_asked (hu : d.chordUp = true) {h : Hand} (hh : d.twin.hand = some h) : d.handGrant h.s = d.modTwin (fun t => { t with hand := some { h with granted := true } }) := by
  simp [Dev.handGrant, hu, hs, hh]

theorem Dev.handGrant_failover (hu : d.chordUp = true) (hh : d.twin.hand = none) (hf : d.twin.failover = true) (n : Nat) :
    d.handGrant n = d.modTwin (fun t => { t with hand := some { s := n, cause := 2, granted := true } }) := by
  simp [Dev.handGrant, hu, hs, hh, hf]

section
variable {h : Hand} (hh : d.twin.hand = some h) (hg : h.granted = true) (hp : h.passed = false) (ht : h.s ≤ d.med.index + 1)
include hh hg hp ht

theorem Dev.handBoundary_active (hr : d.twinRole = 1) :
    d.handBoundary =
      ((((((d.put 0x700301 (if h.leaving then 0 else 2)).holdEnd false).setTbit 8 false).modTwin
        (fun t => { t with hand := none, failover := false, launchTo := h.s, launchFrom := if h.leaving then h.s + 2 ^ 62 else 0 })).chordSend 6 (leBytes 1 3 ++ leBytes 8 h.s)).setReady114 2 false) := by
  simp [Dev.handBoundary, Dev.handSend, hh, hg, hp, hs, ht, hr]

/-- The SHADOW without the partner's grandmaster role to take. -/
theorem Dev.handBoundary_shadow (hr : d.twinRole = 2) (h2 : bit d.twin.flags 2 = false) :
    d.handBoundary = ((((d.retireAll).put 0x700301 1).holdEnd true).modTwin (fun t => { t with launchFrom := h.s, launchTo := 0, hand := some { h with passed := true } })).setReady114 2 false := by
  simp [Dev.handBoundary, hh, hg, hp, hs, ht, hr, h2]

/-- It is the ACTIVE with the endpoint leases from then on. -/
theorem Dev.handBoundary_claims (hr : d.twinRole = 2) (h2 : bit d.twin.flags 2 = false) :
    let e := d.handBoundary
    e.twinRole = 1 ∧ e.tbit 6 = true ∧ e.tbit 7 = true ∧ e.tbit 2 = false ∧ e.twin.launchFrom = h.s ∧ e.twin.launchTo = 0 ∧ e.twin.hand = some { h with passed := true } := by
  dsimp only
  rw [Dev.handBoundary_shadow hs hh hg hp ht hr h2]
  generalize d.retireAll = r
  refine ⟨?_, ?_, ?_, Dev.tbit_setReady114_same 2 false _, ?_, ?_, ?_⟩
  · rw [Dev.twinRole, Dev.get_setReady114 (by simp [twinKey]) (by decide), Dev.get_modTwin, Dev.holdEnd, Dev.get_setTbit (by simp [twinKey]) (by decide), Dev.get_setTbit (by simp [twinKey]) (by decide), Dev.get_put_same]
  · rw [Dev.tbit_setReady114_other (by decide), Dev.tbit_modTwin, Dev.holdEnd, Dev.tbit_setTbit_other (by decide), Dev.tbit_setTbit_same]
  · rw [Dev.tbit_setReady114_other (by decide), Dev.tbit_modTwin, Dev.holdEnd, Dev.tbit_setTbit_same]
  all_goals rw [Dev.setReady114_twin]; rfl

theorem Dev.handBoundary_shadow_sec (hr : d.twinRole = 2) (h2 : bit d.twin.flags 2 = false) : d.handBoundary.sec = d.sec := by
  rw [Dev.handBoundary_shadow hs hh hg hp ht hr h2, Dev.setReady114_sec, Dev.modTwin_sec]
  simp [Dev.holdEnd, Dev.setTbit, d.retireAll_sec]

theorem Dev.handBoundary_shadow_stores (hr : d.twinRole = 2) (h2 : bit d.twin.flags 2 = false) : d.handBoundary.stores = d.stores := by
  rw [Dev.handBoundary_shadow hs hh hg hp ht hr h2, Dev.setReady114_stores, Dev.modTwin_stores]
  simp [Dev.holdEnd, Dev.setTbit, d.retireAll_stores]

end

theorem Dev.handTimeout_shadow {h : Hand} (hh : d.twin.hand = some h) (hg : h.granted = true) (hr : d.twinRole = 2) (ht : boundaryTime d.fs h.s + 50000 ≤ d.time64) :
    d.handTimeout = d.fenceAssert.standAlone.claimed h.cause 2 500 := by
  simp [Dev.handTimeout, hh, hg, hs, hr, ht]

theorem Dev.leave_paired (hu : d.chordUp = true) :
    d.leave = (((((d.put 0x700301 1).holdEnd true).modTwin (fun t => { t with hand := none, failover := false, flags := 0 })).setTbit 8 (d.tbit 8)).setReady114 2 false).setTwin 4 := by
  simp [Dev.leave, hu, hs]

/-- An enabled trigger arises: a SAFE cause, a link lost that the partner has, or a fault of the board. -/
theorem Dev.failover_arises {i : Nat} (hi : i < 3) (hr : d.twinRole = 1) (hon : d.bitOf 0x700005 i = true) (h0 : i = 0 → d.cause 0 = true ∨ d.cause 5 = true)
    (h1 : i = 1 → bit d.twin.flags 5 = true ∧ d.linkUp = false) : d.failover i = d.modTwin (fun t => { t with failover := true }) := by
  match i, hi with
  | 0, _ =>
    have hcause := h0 rfl
    simp [Dev.failover, hs, hr, hon, hcause]
  | 1, _ =>
    obtain ⟨hpartner, hlink⟩ := h1 rfl
    simp [Dev.failover, hs, hr, hon, hpartner, hlink]
  | 2, _ => simp [Dev.failover, hs, hr, hon]

theorem Dev.gmExpire_takes (h2 : bit d.twin.flags 2 = true) (ht : d.twin.gmLease ≤ d.now) (hc : d.get 0x222500 = 1) (h8 : d.tbit 8 = false) :
    d.gmExpire = (((d.setTbit 8 true).becomeGm d.pairIdent).raise 119).raise 5 := by
  simp [Dev.gmExpire, Dev.gmTake, hs, h2, ht, hc, h8]

end

theorem Dev.handDone_passed {d : Dev} {h : Hand} (hh : d.twin.hand = some h) (hp : h.passed = true) : d.handDone = (d.modTwin (fun t => { t with hand := none })).claimed h.cause 0 500 := by
  simp [Dev.handDone, hh, hp]

/-- Settles O45: the mirrored writes by whether they wait, the handover by its frames, and its boundary by the role that ends there. -/
theorem handovers : Obligations.Handovers := by
  unfold Obligations.Handovers
  refine ⟨?write, fun s l ht hr hst => becomes_run rfl (Dev.mirrorData_waits ht hr l s.mem) rfl hst,
    fun s r l time ht hst => ⟨becomes_run rfl (Dev.chordWrite_other ht r time s.mem) rfl hst, becomes_run rfl (Dev.mirrorData_other ht l s.mem) rfl hst⟩, ?record,
    fun s n cause hu hs hh => becomes_act rfl (Dev.handRequest_granted hs hu hh n cause), fun s h hu hs hh => becomes_act rfl (Dev.handGrant_asked hs hu hh),
    fun s n hu hs hh hf => becomes_act rfl (Dev.handGrant_failover hs hu hh hf n), ?boundary, ?done, ?timeout, ?leave, ?switchover,
    fun s i hi hs hr hon h0 h1 => becomes_act rfl (Dev.failover_arises hs hi hr hon h0 h1), fun s hs h2 ht hc h8 => becomes_act rfl (Dev.gmExpire_takes hs h2 ht hc h8)⟩
  case write =>
    exact fun s r time ht => ⟨fun hr h0 hst => becomes_run rfl (Dev.chordWrite_waits ht hr h0 r s.mem) rfl hst, fun h => congrArg Host.Outcome.next (State.run_congr (Dev.chordWrite_acts ht h r s.mem))⟩
  case record => exact fun s r hu hs => becomes_act rfl (by simp [Dev.when, hu, hs])
  case boundary =>
    intro s h hh hg hp hs ht ho hst
    refine ⟨fun hr => becomes_proceed rfl (Dev.handBoundary_active hs hh hg hp ht hr) (Dev.setReady114_sec 2 false _) (Dev.setReady114_stores 2 false _) ho hst, fun hr h2 _ => ?_⟩
    have hbecomes := becomes_proceed (i := .handoverBoundary) rfl rfl (Dev.handBoundary_shadow_sec hs hh hg hp ht hr h2) (Dev.handBoundary_shadow_stores hs hh hg hp ht hr h2) ho hst
    exact hbecomes.gives (Dev.handBoundary_claims hs hh hg hp ht hr h2)
  case done => exact fun s h hh hp ho hst => becomes_proceed rfl (Dev.handDone_passed hh hp) (Dev.claimed_sec h.cause 0 500 _) (Dev.claimed_stores h.cause 0 500 _) ho hst
  case timeout => exact fun s h hh hg hs hr ht => congrArg Host.Outcome.next (State.run_congr (congrArg (Dev.openProceed s.mem) (Dev.handTimeout_shadow hs hh hg hr ht)))
  case leave =>
    exact fun s hu hs ho hst => becomes_proceed rfl (Dev.leave_paired hs hu) ((Dev.setTwin_sec 4 _).trans (Dev.setReady114_sec 2 false _)) ((Dev.setTwin_stores 4 _).trans (Dev.setReady114_stores 2 false _)) ho hst
  case switchover => exact fun a => writes_twin (s := 0) (by decide) (fun _ => rfl) fun d _ => rfl

end Sys2Proof.Machine
end

section
/-! SUPPORT. Security (R445 to R460): the writes of 7100h to 71FFh, and what the end of a session and an event leave alone. -/
namespace Sys2Proof.Machine

/-! Writes of 7100h to 71FFh: what their page starts runs, and then an open of the debug port that waits -/

/-- A number written by a command that may store: the write does what taking the number does. -/
theorem Dev.hostSet_cmd {d e : Dev} {m : List Host.Cell} {a : Access} {k v : Nat} {r : ObjRow} (ht : d.takesNum a k v) (hr : objRow k = some r) (hc : r.acc = .cmd) (hb : r.ty.isBytes = false)
    (hn : (Obj.ofRow r k).norm v = v) (hf : d.actOn m a.path k (d.get k) v [] = e) : Dev.hostSet a k v m d = e.ok a := by
  rw [Dev.hostSet_num ht hr (by simp [hc]) (by intro h; simp [h, Ty.isBytes] at hb) (by intro h; simp [h, Ty.isBytes] at hb), hn, Dev.takeNow_cmd hc, hf]
  rfl

theorem Dev.ok_stores (a : Access) (d : Dev) : (d.ok a).stores = d.stores := by
  unfold Dev.ok Dev.answer
  split <;> rfl

/-- The row of a command object whose command may store, where nothing waits to be stored and its effect stores nothing. -/
theorem writes_cmd_run {i : Instr} {a : Access} {k v : Nat} {r : ObjRow} {h : Dev → Prop} {f : Dev → Dev} (hi : ∀ s, exec i s = .next (s.run (Dev.hostSet a k v))) (hr : objRow k = some r)
    (hc : r.acc = .cmd) (hb : r.ty.isBytes = false) (hn : (Obj.ofRow r k).norm v = v) (hst : ∀ d, h d → d.stores = [] ∧ (f d).stores = d.stores)
    (hf : ∀ (m : List Host.Cell) (d : Dev), h d → d.actOn m a.path k (d.get k) v [] = f d) : writes i a k v h f := by
  intro s ht hh
  obtain ⟨hnone, hkeeps⟩ := hst _ hh
  exact becomes_run (hi s) (Dev.hostSet_cmd ht hr hc hb hn (hf _ _ hh)) ((Dev.ok_stores a _).trans hkeeps) hnone

/-- The same of a BLOB whose last segment is written. -/
theorem writesBytes_run {i : Instr} {a : Access} {k : Nat} {b : List Byte} {r : ObjRow} {h : Dev → Prop} {f : Dev → Dev} (hi : ∀ s, exec i s = .next (s.run (Dev.hostWrite a k))) (hr : objRow k = some r)
    (hs : r.acc ≠ .st) (hst : ∀ d, h d → d.stores = [] ∧ (f (d.partDone a)).stores = d.stores)
    (hf : ∀ (m : List Host.Cell) (d : Dev), h d → (d.partDone a).takeNow m a.path (Obj.ofRow r k) k 0 b = f (d.partDone a)) : writesBytes i a k b h f := by
  intro s ht hh
  obtain ⟨hnone, hkeeps⟩ := hst _ hh
  have hw : Dev.hostWrite a k s.mem s.dev = (f (s.dev.partDone a)).ok a := by
    rw [← hf s.mem _ hh, ← Dev.hostWriteAt_blob ht hr hs]
    rfl
  exact becomes_run (hi s) hw ((Dev.ok_stores a _).trans hkeeps) hnone

theorem Dev.actOn_security {m : List Host.Cell} {p : Path} {k old v : Nat} {b : List Byte} {d : Dev} (hk : k / 0x10000 = 0x71) : d.actOn m p k old v b = (d.secWrite p k v b).openProceed m := by
  simp only [Dev.actOn, hk]

theorem Dev.actOn_security_done {m : List Host.Cell} {p : Path} {k old v : Nat} {b : List Byte} {d e : Dev} (hk : k / 0x10000 = 0x71) (hf : d.secWrite p k v b = e) (ho : e.sec.opening = none) :
    d.actOn m p k old v b = e := by rw [Dev.actOn_security hk, hf, Dev.openProceed_none ho]

theorem objRow_lifecycleCommand : objRow 0x710100 = some (.mk 0x7101 1 1 0x0 1 .u32 .cmd 0 .none 0 0 .any) := by decide

theorem objRow_unlockRequest : objRow 0x712100 = some (.mk 0x7121 1 1 0x0 1 .u8 .cmd 0 .none 0 0 (.nat [(1, 4)])) := by decide

theorem objRow_token : objRow 0x712300 = some (.mk 0x7123 1 1 0x0 1 .blob .wo 0 .none 0 0 (.blob 64)) := by decide

theorem objRow_keyRevoke : ∀ n ∈ [1, 2, 3, 4], objRow (key 0x7113 n) = some (.mk 0x7113 1 1 0x1 4 .bool .cmd 0 .none 0 0 (.nat [(0, 1)])) := by decide

theorem objRow_keyPublic : ∀ n ∈ [1, 2, 3, 4, 9], (objRow (key 0x7111 n)).map (fun r => (r.acc, r.ty)) = some (.rw, .blob) := by decide

theorem objRow_keySecret : ∀ n ∈ [5, 6, 7, 8, 10, 11], (objRow (key 0x7112 n)).map (fun r => (r.acc, r.ty)) = some (.wo, .blob) := by decide

/-! The end of sessions -/

section
variable {β : Type} {P : Dev → β} (hbus : ∀ (b : Bus) (d : Dev), P { d with bus := b } = P d) (hfac : ∀ (f : Fac) (d : Dev), P { d with fac := f } = P d) (hraise : ∀ d : Dev, P (d.raise 5) = P d)
include hbus hfac hraise

/-- What the end of a session leaves alone: whatever the transports, the loader and EV5 do not reach. -/
theorem Dev.endSession_keeps (slot : Nat) (d : Dev) : P (d.endSession slot) = P d := by
  unfold Dev.endSession
  extract_lets held bus d1 d2
  have h1 : P d1 = P d := hbus _ d
  have h2 : P d2 = P d := by
    unfold d2
    split
    · exact (hfac _ d1).trans h1
    · exact h1
  unfold Dev.when Dev.lockFreed
  split
  · split
    · rw [hraise, hbus, h2]
    · exact h2
  · exact h2

theorem Dev.endSessions_keeps (c : Session → Bool) (d : Dev) : P (d.endSessions c) = P d :=
  foldl_keeps P _ (fun b s => by
    split
    · exact Dev.endSession_keeps hbus hfac hraise s.slot b
    · rfl) _ d

end

theorem Dev.endSessions_sec (c : Session → Bool) (d : Dev) : (d.endSessions c).sec = d.sec := Dev.endSessions_keeps (P := Dev.sec) (fun _ _ => rfl) (fun _ _ => rfl) (fun d => Dev.raise_sec 5 d) c d

theorem Dev.endSessions_stores (c : Session → Bool) (d : Dev) : (d.endSessions c).stores = d.stores :=
  Dev.endSessions_keeps (P := Dev.stores) (fun _ _ => rfl) (fun _ _ => rfl) (fun d => Dev.raise_stores 5 d) c d

theorem Dev.get_endSessions {k : Nat} (hk : ¬ fabricKey k) (c : Session → Bool) (d : Dev) : (d.endSessions c).get k = d.get k :=
  Dev.endSessions_keeps (P := fun d => d.get k) (fun _ _ => rfl) (fun _ _ => rfl) (fun d => Dev.get_raise 5 k d (by decide) hk) c d

theorem Dev.endSession_sessions (slot : Nat) (d : Dev) : (d.endSession slot).bus.sessions = d.bus.sessions.filter (fun s => s.slot != slot) := by
  unfold Dev.endSession
  extract_lets held bus d1 d2
  have h2 : d2.bus.sessions = d.bus.sessions.filter (fun s => s.slot != slot) := by
    unfold d2
    split <;> rfl
  unfold Dev.when Dev.lockFreed
  split
  · split
    · rw [Dev.raise_bus, ← h2]
    · exact h2
  · exact h2

/-- A session that the end of some of a list leaves stood before and has none of their slots. -/
theorem Dev.mem_sessions_foldl_end (c : Session → Bool) (l : List Session) (d : Dev) {y : Session} (hy : y ∈ (l.foldl (fun (a : Dev) s => if c s then a.endSession s.slot else a) d).bus.sessions) :
    y ∈ d.bus.sessions ∧ ∀ s ∈ l, c s = true → y.slot ≠ s.slot := by
  induction l generalizing d with
  | nil => exact ⟨hy, by simp⟩
  | cons s t ih =>
    obtain ⟨hstood, htail⟩ := ih _ hy
    dsimp only at hstood
    by_cases hs : c s = true
    · rw [if_pos hs, Dev.endSession_sessions, List.mem_filter] at hstood
      obtain ⟨hbefore, hslot⟩ := hstood
      refine ⟨hbefore, List.forall_mem_cons.mpr ⟨fun _ => by simpa using hslot, htail⟩⟩
    · rw [if_neg hs] at hstood
      exact ⟨hstood, List.forall_mem_cons.mpr ⟨fun h => absurd h hs, htail⟩⟩

/-- No session of which the condition holds is left. -/
theorem Dev.not_of_mem_endSessions {c : Session → Bool} {d : Dev} {y : Session} (hy : y ∈ (d.endSessions c).bus.sessions) : c y = false := by
  obtain ⟨hstood, hslots⟩ := Dev.mem_sessions_foldl_end c d.bus.sessions d hy
  by_contra hc
  exact hslots y hstood (by simpa using hc) rfl

end Sys2Proof.Machine
end

section
/-! SUPPORT. The lifecycle and the keys (R445 to R449, R453). -/
namespace Sys2Proof.Machine

/-! Keys -/

theorem Dev.keyStored_sec (n : Nat) (b : List Byte) (d : Dev) : (d.keyStored n b).sec = d.sec := by simp [Dev.keyStored, Dev.endSessions_sec]

theorem Dev.keyStored_stores (n : Nat) (b : List Byte) (d : Dev) : (d.keyStored n b).stores = d.stores := by simp [Dev.keyStored, Dev.endSessions_stores]

/-- No session opened with the key's slot is left, and the slot is VALID under the key's digest. -/
theorem Dev.keyStored_holds (d : Dev) (n : Nat) (b : List Byte) :
    (∀ y ∈ (d.keyStored n b).bus.sessions, y.keySlot ≠ n) ∧ (n < 256 → (d.keyStored n b).get (key 0x7110 n) = 1 ∧ (d.keyStored n b).get (key 0x7114 n) = keyDigest b) := by
  refine ⟨fun y hy => ?_, fun hn => ⟨?_, ?_⟩⟩
  · simpa using Dev.not_of_mem_endSessions hy
  · have hkey : ¬ fabricKey (key 0x7110 n) := by unfold fabricKey key; omega
    rw [Dev.keyStored, Dev.get_endSessions hkey, Dev.get_raise _ _ _ (by decide) hkey, Dev.get_put_other _ _ _ _ (by unfold key; omega) (.inl (by unfold key kModeRequest; omega)), Dev.get_put_same]
  · have hkey : ¬ fabricKey (key 0x7114 n) := by unfold fabricKey key; omega
    rw [Dev.keyStored, Dev.get_endSessions hkey, Dev.get_raise _ _ _ (by decide) hkey, Dev.get_put_same]

/-! A transition -/

/-- The part as a transition reaches a state: the state stands, it is counted, EV120 has occurred and a record tells it. -/
def Dev.transited (t : Nat) (d : Dev) : Dev := (((d.put kLifecycle t).inc 0x710500).raise 120).bbMake 12 0 120 t (min (d.get 0x710500 + 1) (2 ^ 32 - 1)) (d.get 0x712400)

theorem Dev.transition_eq (t : Nat) (d : Dev) : d.transition t = (d.transited t).when (decide (3 ≤ t)) (Dev.endSessions (fun _ => true)) := by
  have hother {k : Nat} (hk : k ≠ kLifecycle) (hm : k ≠ kModeRequest) : (d.put kLifecycle t).get k = d.get k := Dev.get_put_other k kLifecycle t d hk (.inl hm)
  have hcount : ((d.put kLifecycle t).inc 0x710500).get 0x710500 = min (d.get 0x710500 + 1) (2 ^ 32 - 1) := by rw [Dev.inc, Dev.bump, Dev.get_put_same, hother (by decide) (by decide), satAdd]
  have hfails : ((d.put kLifecycle t).inc 0x710500).get 0x712400 = d.get 0x712400 := by rw [Dev.inc, Dev.bump, Dev.get_put_other _ _ _ _ (by decide) (.inl (by decide)), hother (by decide) (by decide)]
  rw [Dev.transition, hcount, hfails]
  rfl

theorem Dev.transited_life (t : Nat) (d : Dev) : (d.transited t).life = t := by
  rw [Dev.life, Dev.transited, Dev.get_bbMake _ _ _ _ _ _ _ _ (by simp [fabricKey, kLifecycle]) (by simp [bbKey, kLifecycle]), Dev.get_raise _ _ _ (by decide) (by simp [fabricKey, kLifecycle]), Dev.inc, Dev.bump,
    Dev.get_put_other _ _ _ _ (by decide) (.inl (by decide)), Dev.get_put_same]

theorem Dev.transition_low {t : Nat} (h : t < 3) (d : Dev) : d.transition t = d.transited t := by simp [Dev.transition_eq, Dev.when, h]

theorem Dev.transition_high {t : Nat} (h : 3 ≤ t) (d : Dev) : d.transition t = (d.transited t).endSessions (fun _ => true) := by simp [Dev.transition_eq, Dev.when, h]

theorem Dev.transition_life (t : Nat) (d : Dev) : (d.transition t).life = t := by
  rcases Nat.lt_or_ge t 3 with h | h
  · rw [Dev.transition_low h, Dev.transited_life]
  · rw [Dev.transition_high h, Dev.life, Dev.get_endSessions (by simp [fabricKey, kLifecycle])]
    exact Dev.transited_life t d

theorem Dev.transition_sessions {t : Nat} (h : 3 ≤ t) (d : Dev) : (d.transition t).bus.sessions = [] := by
  rw [Dev.transition_high h]
  exact List.eq_nil_iff_forall_not_mem.mpr fun y hy => absurd (Dev.not_of_mem_endSessions hy) (by decide)

theorem Dev.transition_sec (t : Nat) (d : Dev) : (d.transition t).sec = d.sec := by
  have h : (d.transited t).sec = d.sec := by simp [Dev.transited]
  rcases Nat.lt_or_ge t 3 with ht | ht
  · rw [Dev.transition_low ht, h]
  · rw [Dev.transition_high ht, Dev.endSessions_sec, h]

theorem Dev.transition_stores (t : Nat) (d : Dev) : (d.transition t).stores = d.stores := by
  have h : (d.transited t).stores = d.stores := by simp [Dev.transited]
  rcases Nat.lt_or_ge t 3 with ht | ht
  · rw [Dev.transition_low ht, h]
  · rw [Dev.transition_high ht, Dev.endSessions_stores, h]

/-! The secret region cleared, and an erase -/

/-- What the erase of keys, images and templates leaves alone: the security of the part, and what waits to be stored. -/
def Dev.secured (d : Dev) : Sec × List (Nat × Byte) := (d.sec, d.stores)

theorem Dev.keyEmpty_secured (n : Nat) (d : Dev) : (d.keyEmpty n).secured = d.secured := by
  unfold Dev.keyEmpty
  dsimp only
  split <;> rfl

theorem Dev.bootSet_secured (slot : Nat) (b : Option (List Byte × Verdict)) (d : Dev) : (d.bootSet slot b).secured = d.secured := by cases b <;> rfl

theorem Dev.perAbandonOn_secured (ph : Nat) (d : Dev) : (d.perAbandonOn ph).secured = d.secured := by
  unfold Dev.perAbandonOn Dev.perAbandon
  split
  · split
    · split
      · simp [Dev.secured, Dev.modPer]
      · rfl
    · rfl
  · rfl

theorem Dev.templateSet_secured (ph : Nat) (b : List Byte) (valid : Bool) (d : Dev) : (d.templateSet ph b valid).secured = d.secured := by
  unfold Dev.templateSet
  rw [Dev.perAbandonOn_secured]
  rfl

theorem Dev.storesGone_secured (d : Dev) : d.storesGone.secured = d.secured := by
  unfold Dev.storesGone
  extract_lets d1 d2 sup fac
  have h1 : d1.secured = d.secured := foldl_keeps Dev.secured _ (fun d n => Dev.keyEmpty_secured n d) _ d
  have h2 : d2.secured = d1.secured := foldl_keeps Dev.secured _ (fun d e => (Dev.templateSet_secured e _ _ _).trans (Dev.bootSet_secured e none d)) _ d1
  exact h2.trans h1

theorem Dev.secretsGone_secured (d : Dev) : d.secretsGone.secured = ({ d.sec with root := none, secrets := [] }, d.stores) :=
  foldl_keeps Dev.secured _ (fun d n => Dev.keyEmpty_secured n d) _ (d.modSec (fun s => { s with root := none, secrets := [] }))

theorem Dev.secretsGone_sec (d : Dev) : d.secretsGone.sec = { d.sec with root := none, secrets := [] } := congrArg Prod.fst d.secretsGone_secured

theorem Dev.secretsGone_stores (d : Dev) : d.secretsGone.stores = d.stores := congrArg Prod.snd d.secretsGone_secured

theorem Dev.erase_bad {d : Dev} (h : d.sec.eraseBad = true) (t : Nat) :
    d.erase t = (({ d with sec := { d.sec with pending := some t, failed := true } } : Dev).raise 121).bbMake 12 3 121 t (d.get 0x710500) (d.get 0x712400) := if_pos h

/-- The part with everything an erase to a state clears gone, before the state is reached. -/
def Dev.erased (t : Nat) (d : Dev) : Dev := ((d.secretsGone).when (decide (t = 4)) Dev.storesGone).modSec (fun s => { s with pending := none, failed := false, erased := true, chal := none })

theorem Dev.erase_clean {d : Dev} (h : d.sec.eraseBad = false) (t : Nat) : d.erase t = (d.erased t).transition t := if_neg (by simp [h])

theorem Dev.erased_secured (t : Nat) (d : Dev) : (d.erased t).secured = ({ d.sec with root := none, secrets := [], pending := none, failed := false, erased := true, chal := none }, d.stores) := by
  have h : ((d.secretsGone).when (decide (t = 4)) Dev.storesGone).secured = ({ d.sec with root := none, secrets := [] }, d.stores) := by
    unfold Dev.when
    split
    · rw [Dev.storesGone_secured, Dev.secretsGone_secured]
    · exact d.secretsGone_secured
  exact congrArg (fun x : Sec × List (Nat × Byte) => ({ x.1 with pending := none, failed := false, erased := true, chal := none }, x.2)) h

theorem Dev.erase_clean_sec {d : Dev} (h : d.sec.eraseBad = false) (t : Nat) :
    (d.erase t).sec = { d.sec with root := none, secrets := [], pending := none, failed := false, erased := true, chal := none } := by
  rw [Dev.erase_clean h, Dev.transition_sec]
  exact congrArg Prod.fst (d.erased_secured t)

theorem Dev.erase_opening (t : Nat) (d : Dev) : (d.erase t).sec.opening = d.sec.opening := by
  cases h : d.sec.eraseBad
  · rw [Dev.erase_clean_sec h]
  · simp [Dev.erase_bad h]

theorem Dev.erase_stores (t : Nat) (d : Dev) : (d.erase t).stores = d.stores := by
  cases h : d.sec.eraseBad
  · rw [Dev.erase_clean h, Dev.transition_stores]
    exact congrArg Prod.snd (d.erased_secured t)
  · simp [Dev.erase_bad h]

/-! Provisioning -/

theorem Dev.provision_eq (d : Dev) :
    d.provision = (let x := d.secretsGone
      ((({ x with free := x.free + 2, sec := { x.sec with root := some (Config.free x.free % 2 ^ 256), erased := false } } : Dev).putBlob 0x710400 (leBytes 64 (Config.free (x.free + 1)))).put (key 0x7114 12)
        (keyDigest (leBytes 32 (Config.free (x.free + 1))))).transition 1) := rfl

theorem Dev.provision_opening (d : Dev) : d.provision.sec.opening = d.sec.opening := by
  rw [Dev.provision_eq, Dev.transition_sec]
  simp [Dev.secretsGone_sec]

theorem Dev.provision_stores (d : Dev) : d.provision.stores = d.stores := by
  rw [Dev.provision_eq, Dev.transition_stores]
  simp [Dev.secretsGone_stores]

end Sys2Proof.Machine
end

section
/-! SUPPORT. The writes of the lifecycle and the keys. -/
namespace Sys2Proof.Machine

theorem Dev.secWrite_provision (p : Path) (d : Dev) : d.secWrite p 0x710100 0x5AA50001 [] = d.provision := by simp [Dev.secWrite]

theorem Dev.secWrite_deploy (p : Path) (d : Dev) : d.secWrite p 0x710100 0x5AA50002 [] = d.transition 2 := by simp [Dev.secWrite]

theorem Dev.secWrite_keyPublic {n : Nat} (hn : n < 256) (p : Path) (v : Nat) (b : List Byte) (d : Dev) : d.secWrite p (key 0x7111 n) v b = d.keyStored n b := by
  have hk : key 0x7111 n ≠ 0x710100 := by unfold key; omega
  simp only [Dev.secWrite, hk, key_div 0x7111 n hn, key_mod 0x7111 n hn, if_false, if_true]

theorem Dev.secWrite_keySecret {n : Nat} (hn : n < 256) (p : Path) (v : Nat) (b : List Byte) (d : Dev) : d.secWrite p (key 0x7112 n) v b = d.secretStored n b := by
  have hk : key 0x7112 n ≠ 0x710100 := by unfold key; omega
  simp [Dev.secWrite, hk, key_div 0x7112 n hn, key_mod 0x7112 n hn]

theorem Dev.secWrite_keyRevoke {n : Nat} (hn : n < 256) (p : Path) (b : List Byte) (d : Dev) : d.secWrite p (key 0x7113 n) 1 b = (d.put (key 0x7110 n) 2).raise 123 := by
  have hk : key 0x7113 n ≠ 0x710100 := by unfold key; omega
  simp [Dev.secWrite, hk, key_div 0x7113 n hn, key_mod 0x7113 n hn]

theorem writes_provision (a : Access) : writes (.lifecycleProvision a true) a 0x710100 0x5AA50001 (fun d => d.sec.opening = none ∧ d.sec.trngFault = false ∧ d.stores = []) Dev.provision := by
  intro s ht ⟨ho, hf, hst⟩
  have hsame : s.dev.modSec (fun q => { q with trngFault := false }) = s.dev := by simp [Dev.modSec, ← hf]
  have hset : Dev.hostSet a 0x710100 0x5AA50001 s.mem s.dev = s.dev.provision.ok a :=
    Dev.hostSet_cmd ht objRow_lifecycleCommand rfl rfl rfl (Dev.actOn_security_done rfl (Dev.secWrite_provision _ _) (by rw [Dev.provision_opening, ho]))
  refine becomes_run rfl ?_ ((Dev.ok_stores a _).trans s.dev.provision_stores) hst
  rw [← hset]
  exact congrArg (Dev.hostSet a 0x710100 0x5AA50001 s.mem) hsame

/-- A provisioning write while the health test of the TRNG fails: BUSY, which RESEND repeats and the error log keeps. -/
theorem becomes_provision_busy {s : State} {a : Access} (hp : a.path = .spi) (hup : s.dev.pathUp .spi = true) (hcap : s.dev.sup.capture = false) (hst : s.dev.stores = [])
    (hc : firstError ((s.dev.modSec (fun q => { q with trngFault := true })).writeCodes (numAccess a 0x710100 0x5AA50001) 0x710100) = eBusy) :
    becomes (.lifecycleProvision (numAccess a 0x710100 0x5AA50001) false) s (((s.dev.modSec (fun q => { q with trngFault := true })).logError 0x7101 0 eBusy 0 0xFF 0).answer .spi { status := eBusy }) := by
  generalize hd : s.dev.modSec (fun q => { q with trngFault := true }) = d at hc ⊢
  have hobj : d.objAt (key 0x7101 0) ≠ none := by
    intro hnone
    have hcodes : d.writeCodes (numAccess a (key 0x7101 0) 0x5AA50001) (key 0x7101 0) = [eNoObject] := by simp [Dev.writeCodes, Dev.plainCodes, hnone]
    exact absurd (hc.symm.trans (congrArg firstError hcodes)) (by decide)
  have hup' : d.pathUp .spi = true := by rw [← hd]; exact hup
  have hcap' : d.sup.capture = false := by rw [← hd]; exact hcap
  refine becomes_run (f := fun m x => Dev.hostSet (numAccess a 0x710100 0x5AA50001) 0x710100 0x5AA50001 m (x.modSec (fun q => { q with trngFault := true }))) rfl ?_ ?_ hst
  · rw [hd]
    exact Dev.hostSet_refused (i := 0x7101) (s := 0) hp hup' hcap' (by decide) hobj hc (by decide) (by decide)
  · rw [← hd]
    rfl

theorem writesBytes_keyPublic (a : Access) (n : Nat) (b : List Byte) (hn : n ∈ [1, 2, 3, 4, 9]) :
    writesBytes (.keyPublic a n) a (key 0x7111 n) b (fun d => d.sec.opening = none ∧ d.stores = []) (fun d => (d.putBlob (key 0x7111 n) b).keyStored n b) := by
  obtain ⟨r, hr, hrow⟩ := Option.map_eq_some_iff.mp (objRow_keyPublic n hn)
  obtain ⟨hacc, hty⟩ := Prod.mk.inj hrow
  have hlt : n < 256 := by
    simp only [List.mem_cons, List.not_mem_nil, or_false] at hn
    omega
  refine writesBytes_run (fun s => by rw [exec, execKeyPublic, Nat.mod_eq_of_lt hlt]) hr (by simp [hacc]) (fun d ⟨_, hst⟩ => ⟨hst, Dev.keyStored_stores _ _ _⟩) fun m d ⟨ho, _⟩ => ?_
  rw [Dev.takeNow_putBlob (actsOnly_rw hacc hlt (by decide)) (by simp [Obj.ofRow, hty, Ty.isBytes]) (by rw [key_div 0x7111 n hlt]; decide) (by rw [key_div 0x7111 n hlt]; decide)]
  exact Dev.actOn_security_done (key_page 0x7111 n hlt) (Dev.secWrite_keyPublic hlt _ _ _ _) (by rw [Dev.keyStored_sec]; exact ho)

theorem writesBytes_keySecret (a : Access) (n : Nat) (b : List Byte) (hn : n ∈ [5, 6, 7, 8, 10, 11]) :
    writesBytes (.keySecret a n) a (key 0x7112 n) b (fun d => d.sec.opening = none ∧ d.stores = []) (Dev.secretStored n b) := by
  obtain ⟨r, hr, hrow⟩ := Option.map_eq_some_iff.mp (objRow_keySecret n hn)
  obtain ⟨hacc, hty⟩ := Prod.mk.inj hrow
  have hlt : n < 256 := by
    simp only [List.mem_cons, List.not_mem_nil, or_false] at hn
    omega
  refine writesBytes_run (fun s => by rw [exec, execKeySecret, Nat.mod_eq_of_lt hlt]) hr (by simp [hacc]) (fun d ⟨_, hst⟩ => ⟨hst, Dev.keyStored_stores _ _ _⟩) fun m d ⟨ho, _⟩ => ?_
  rw [Dev.takeNow_acts (by simp [actsOnly, Obj.ofRow, hacc])]
  exact Dev.actOn_security_done (key_page 0x7112 n hlt) (Dev.secWrite_keySecret hlt _ _ _ _) (by rw [Dev.secretStored, Dev.keyStored_sec]; exact ho)

theorem writes_keyRevoke (a : Access) (n : Nat) (hn : n ∈ [1, 2, 3, 4]) :
    writes (.keyRevoke a n) a (key 0x7113 n) 1 (fun d => d.sec.opening = none ∧ d.stores = []) (fun d => (d.put (key 0x7110 n) 2).raise 123) := by
  have hlt : n < 256 := by
    simp only [List.mem_cons, List.not_mem_nil, or_false] at hn
    omega
  exact writes_cmd_run (fun s => by rw [exec, execKeyRevoke, Nat.mod_eq_of_lt hlt]) (objRow_keyRevoke n hn) rfl rfl rfl (fun d ⟨_, hst⟩ => ⟨hst, by simp⟩)
    fun m d ⟨ho, _⟩ => Dev.actOn_security_done (key_page 0x7113 n hlt) (Dev.secWrite_keyRevoke hlt _ _ _) (by simp [ho])

/-- Settles O46: the writes by what they start, a transition by whether it ends the sessions, and an erase by whether it reads back clean. -/
theorem lifecycle : Obligations.Lifecycle := by
  unfold Obligations.Lifecycle
  refine ⟨writes_provision, fun s a hp hup hcap hst hc => becomes_provision_busy hp hup hcap hst hc, ?deploy, writesBytes_keyPublic, writesBytes_keySecret, writes_keyRevoke, Dev.keyStored_holds, ?transition, ?erase⟩
  case deploy =>
    exact fun a => writes_cmd_run (fun _ => rfl) objRow_lifecycleCommand rfl rfl rfl (fun d ⟨_, hst⟩ => ⟨hst, d.transition_stores 2⟩)
      fun m d ⟨ho, _⟩ => Dev.actOn_security_done rfl (Dev.secWrite_deploy _ _) (by rw [Dev.transition_sec, ho])
  case transition => exact fun d t => ⟨fun h => Dev.transition_low h d, fun h => ⟨Dev.transition_life t d, Dev.transition_sessions h d⟩⟩
  case erase =>
    refine fun d t => ⟨fun h => Dev.erase_bad h t, fun h => ?_⟩
    rw [Dev.erase_clean_sec h, Dev.erase_clean h, Dev.transition_life]
    exact ⟨rfl, rfl, rfl, rfl, rfl, rfl⟩

end Sys2Proof.Machine
end

section
/-! SUPPORT. Unlocking (R454 to R458). -/
namespace Sys2Proof.Machine

/-! A request -/

theorem Dev.unlock_challenges {level : Nat} {d : Dev} (h : d.noToken level = false) : d.unlock level = d.challenge level := if_neg (by simp [h])

/-- A level that needs no token and opens the port, outside a pair: its action has begun. -/
theorem Dev.unlockDo_opens {level : Nat} {d : Dev} (hl : level < 3) (hc : d.fac.checking = false) (ht : d.twinState ≠ 3) : d.unlockDo level = { d with sec := { d.sec with chal := none, opening := some level } } := by
  have hwhen : d.when d.fac.checking (Dev.loadEnd 6 0) = d := if_neg (by simp [hc])
  have hpair : ¬ (decide (d.twinState = 3) && decide (d.twinRole = 1) && d.twin.hand.isNone) = true := by simp [ht]
  rw [Dev.unlockDo, hwhen]
  exact (if_pos (Nat.le_of_lt_succ hl)).trans (if_neg hpair)

theorem Dev.unlockDo_erases {level : Nat} {d : Dev} (hl : 3 ≤ level) (hc : d.fac.checking = false) : d.unlockDo level = ({ d with sec := { d.sec with chal := none } } : Dev).erase (if level = 3 then 3 else 4) := by
  have hwhen : d.when d.fac.checking (Dev.loadEnd 6 0) = d := if_neg (by simp [hc])
  rw [Dev.unlockDo, hwhen]
  exact if_neg (Nat.not_le.mpr hl)

/-- An open that waits for no handover and has nothing to erase goes on. -/
theorem Dev.openProceed_enters {d : Dev} {level : Nat} (ho : d.sec.opening = some level) (ht : d.twinState ≠ 3) (hl : d.life ≠ 2) (m : List Host.Cell) : d.openProceed m = d.enterService m level := by
  have hpends : d.leavePends = false := by
    unfold Dev.leavePends
    split
    · simp [ht]
    · rfl
  simp [Dev.openProceed, ho, hpends, hl]

theorem Dev.noToken_life {d : Dev} {level : Nat} (h : d.noToken level = true) : d.life ≠ 2 := by
  intro hl
  simp [Dev.noToken, hl] at h

theorem Dev.secWrite_unlock (p : Path) (level : Nat) (d : Dev) : d.secWrite p 0x712100 level [] = d.unlock level := by simp [Dev.secWrite]

theorem Dev.secWrite_token (p : Path) (b : List Byte) (d : Dev) : d.secWrite p 0x712300 0 b = d.tokenIn (some p) := by simp [Dev.secWrite]

/-- A request for a level that needs a token: a challenge. -/
theorem writes_challenge {i : Instr} {a : Access} {level : Nat} {h : Dev → Prop} (hl : level ∈ [1, 2, 3, 4]) (hi : ∀ s, exec i s = .next (s.run (Dev.hostSet a 0x712100 level)))
    (hh : ∀ d, h d → d.noToken level = false ∧ d.sec.opening = none ∧ d.stores = []) : writes i a 0x712100 level h (Dev.challenge level) := by
  have hnorm : (Obj.ofRow (.mk 0x7121 1 1 0x0 1 .u8 .cmd 0 .none 0 0 (.nat [(1, 4)])) 0x712100).norm level = level := by
    simp only [List.mem_cons, List.not_mem_nil, or_false] at hl
    rcases hl with rfl | rfl | rfl | rfl <;> rfl
  refine writes_cmd_run hi objRow_unlockRequest rfl rfl hnorm (fun d hd => ?_) fun m d hd => ?_
  · obtain ⟨-, -, hst⟩ := hh d hd
    exact ⟨hst, rfl⟩
  · obtain ⟨htoken, ho, -⟩ := hh d hd
    exact Dev.actOn_security_done rfl ((Dev.secWrite_unlock _ _ _).trans (Dev.unlock_challenges htoken)) ho

theorem becomes_unlockRetire {s : State} {a : Access} {erased : Bool} {e : Dev} (ht : (s.dev.erasing erased).takesNum a 0x712100 4) (hf : (s.dev.erasing erased).unlock 4 = e) (ho : e.sec.opening = none)
    (hst : s.dev.stores = []) (hkeeps : e.stores = s.dev.stores) : becomes (.unlockRetire a erased) s (e.ok a) := by
  have hset : Dev.hostSet a 0x712100 4 s.mem (s.dev.erasing erased) = e.ok a :=
    Dev.hostSet_cmd ht objRow_unlockRequest rfl rfl rfl (Dev.actOn_security_done rfl ((Dev.secWrite_unlock _ _ _).trans hf) ho)
  exact becomes_run rfl hset ((Dev.ok_stores a e).trans hkeeps) hst

theorem Dev.hostSet_opens {d : Dev} {a : Access} {level : Nat} (hl : level = 1 ∨ level = 2) (ht : d.takesNum a 0x712100 level) (htoken : d.noToken level = true) (hc : d.fac.checking = false) (hs : d.twinState ≠ 3)
    (m : List Host.Cell) : Dev.hostSet a 0x712100 level m d = (({ d with sec := { d.sec with chal := none, opening := some level } } : Dev).enterService m level).ok a := by
  have hnorm : (Obj.ofRow (.mk 0x7121 1 1 0x0 1 .u8 .cmd 0 .none 0 0 (.nat [(1, 4)])) 0x712100).norm level = level := by
    rcases hl with rfl | rfl <;> rfl
  have hlow : level < 3 := by omega
  refine Dev.hostSet_cmd ht objRow_unlockRequest rfl rfl hnorm ?_
  rw [Dev.actOn_security rfl, Dev.secWrite_unlock, Dev.unlock, if_pos htoken, Dev.unlockDo_opens hlow hc hs]
  exact Dev.openProceed_enters (d := { d with sec := { d.sec with chal := none, opening := some level } }) rfl hs (Dev.noToken_life htoken) m

/-! SERVICE -/

/-- The part in SERVICE as far as its mode and the port go, before its outputs settle. -/
def Dev.serviceModes (d : Dev) : Dev :=
  d.does [Dev.put kSafeCause 0, Dev.put kModeStatus (setFld (setFld (d.get kModeStatus) 7 4 0) 0 0 0), Dev.put kModeRequest 10, Dev.put kMode 10, Dev.inc 0x712600, Dev.raise 1, Dev.raise 121, Dev.taint 1]

theorem Dev.get_taint {k : Nat} (h : k ≠ kTaint) (hk : ¬ fabricKey k) (hm : k ≠ kModeRequest ∨ kTaint ≠ kBootMode) (i : Nat) (d : Dev) : (d.taint i).get k = d.get k := by
  unfold Dev.taint
  split
  · rfl
  · rw [Dev.get_raise _ _ _ (by decide) hk, Dev.putBit, Dev.get_put_other _ _ _ _ h hm]

theorem Dev.serviceModes_sec (d : Dev) : d.serviceModes.sec = d.sec := by simp [Dev.serviceModes, Dev.does]

theorem Dev.get_serviceModes {k : Nat} (h : k ∈ [kSafeCause, kModeRequest, kMode]) (d : Dev) : d.serviceModes.get k = if k = kSafeCause then 0 else 10 := by
  have hfabric : ¬ fabricKey k := by
    simp only [List.mem_cons, List.not_mem_nil, or_false] at h
    unfold fabricKey
    rcases h with rfl | rfl | rfl <;> decide
  have hk : k ≠ kTaint ∧ k ≠ 0x712600 := by
    simp only [List.mem_cons, List.not_mem_nil, or_false] at h
    rcases h with rfl | rfl | rfl <;> decide
  obtain ⟨htaint, hopens⟩ := hk
  simp only [Dev.serviceModes, Dev.does, List.foldl_cons, List.foldl_nil]
  rw [Dev.get_taint htaint hfabric (.inr (by decide)), Dev.get_raise _ _ _ (by decide) hfabric, Dev.get_raise _ _ _ (by decide) hfabric, Dev.inc, Dev.bump, Dev.get_put_other _ _ _ _ hopens (.inr (by decide))]
  simp only [List.mem_cons, List.not_mem_nil, or_false] at h
  rcases h with rfl | rfl | rfl
  · rw [Dev.get_put_other _ _ _ _ (by decide) (.inl (by decide)), Dev.get_put_other _ _ _ _ (by decide) (.inl (by decide)), Dev.get_put_other _ _ _ _ (by decide) (.inl (by decide)), Dev.get_put_same]
    rfl
  · rw [Dev.get_put_other _ _ _ _ (by decide) (.inr (by decide)), Dev.get_put_same]
    rfl
  · rw [Dev.get_put_same]
    rfl

theorem Dev.enterService_modes (d : Dev) (m : List Host.Cell) (level : Nat) :
    ∃ x : Dev, d.enterService m level = x.outSettle.hpSettle.auxSettle ∧ x.sec.port = level ∧ x.sec.opening = none ∧ x.mode = 10 ∧ x.get kModeRequest = 10 ∧ x.get kSafeCause = 0 := by
  unfold Dev.enterService
  extract_lets d1 d2 d3 tes d4 sup sec d5 d6 d7
  have hport : d5.sec.port = level := rfl
  have hopening : d5.sec.opening = none := rfl
  have hmodes : d6 = d5.serviceModes := rfl
  clear_value d5 d6
  have hsec : d7.sec = d5.sec := by rw [Dev.bbMake_sec, hmodes, Dev.serviceModes_sec]
  have hget {k : Nat} (h : k ∈ [kSafeCause, kModeRequest, kMode]) (hfabric : ¬ fabricKey k) (hbb : ¬ bbKey k) : d7.get k = if k = kSafeCause then 0 else 10 := by
    rw [Dev.get_bbMake _ _ _ _ _ _ _ _ hfabric hbb, hmodes, Dev.get_serviceModes h]
  clear_value d7
  refine ⟨d7, by simp only [Dev.does, List.foldl_cons, List.foldl_nil], by rw [hsec, hport], by rw [hsec, hopening], ?_, ?_, ?_⟩
  · exact hget (by simp) (by simp [fabricKey, kMode]) (by simp [bbKey, kMode])
  · exact hget (by simp) (by simp [fabricKey, kModeRequest]) (by simp [bbKey, kModeRequest])
  · exact hget (by simp) (by simp [fabricKey, kSafeCause]) (by simp [bbKey, kSafeCause])

end Sys2Proof.Machine
end

section
/-! SUPPORT. The token (R455): its verification, what it starts, and how it fails. -/
namespace Sys2Proof.Machine

/-- A token while a challenge waits: it is put to verification under that challenge's level. -/
theorem Dev.tokenIn_challenged {d : Dev} {c : Chal} (h : d.sec.chal = some c) (p : Option Path) :
    d.tokenIn p = { d with st := { d.st with blob := assocDel 0x712300 d.st.blob }, sec := { d.sec with verify := some { path := p, level := c.level, timely := d.now ≤ c.at_ + 60000000000 && c.life = d.life && c.count = d.get 0x710500 } } } := by
  unfold Dev.tokenIn
  extract_lets st x t
  have hchal : x.sec.chal = some c := h
  have ht : t = { path := p, level := c.level, timely := d.now ≤ c.at_ + 60000000000 && c.life = d.life && c.count = d.get 0x710500 } := by
    unfold t
    rw [hchal]
    rfl
  rw [ht]
  rfl

theorem writesBytes_token (a : Access) (b : List Byte) (c : Chal) :
    writesBytes (.token a) a 0x712300 b (fun d => d.sec.chal = some c ∧ d.sec.opening = none ∧ d.stores = [])
      (fun d => { d with st := { d.st with blob := assocDel 0x712300 d.st.blob }, sec := { d.sec with verify := some { path := some a.path, level := c.level, timely := d.now ≤ c.at_ + 60000000000 && c.life = d.life && c.count = d.get 0x710500 } } }) := by
  refine writesBytes_run (fun _ => rfl) objRow_token (by decide) (fun d ⟨_, _, hst⟩ => ⟨hst, rfl⟩) fun m d ⟨hchal, ho, _⟩ => ?_
  rw [Dev.takeNow_acts rfl]
  exact Dev.actOn_security_done rfl ((Dev.secWrite_token _ _ _).trans (Dev.tokenIn_challenged (d := d.partDone a) hchal _)) ho

/-! Verification -/

/-- The part as the verification of a token ends: what an erase will read back is known, and no token waits. -/
def Dev.unverified (erased : Bool) (d : Dev) : Dev := { d with sec := { d.sec with eraseBad := !erased, verify := none } }

section
variable {d : Dev} {t : Tok} (hv : d.sec.verify = some t)
include hv

theorem Dev.tokenVerified_good (ht : t.timely = true) (hk : d.keyValid 9 = true) (hc : d.challenged = true) (erased : Bool) :
    (d.erasing erased).tokenVerified true = ((d.unverified erased).put 0x712400 0).unlockDo t.level := by
  have hv' : (d.erasing erased).sec.verify = some t := hv
  have hgo : (true && t.timely && (d.unverified erased).keyValid 9 && (d.unverified erased).challenged) = true := by
    rw [show (d.unverified erased).keyValid 9 = d.keyValid 9 from rfl, show (d.unverified erased).challenged = d.challenged from rfl, ht, hk, hc]
    rfl
  simp only [Dev.tokenVerified, hv']
  exact if_pos hgo

theorem Dev.tokenVerified_bad {sig : Bool} (hbad : sig = false ∨ t.timely = false) (erased : Bool) : (d.erasing erased).tokenVerified sig = (d.unverified erased).tokenFails t := by
  have hv' : (d.erasing erased).sec.verify = some t := hv
  simp only [Dev.tokenVerified, hv']
  exact if_neg (by rcases hbad with h | h <;> simp [h])

end

/-! A token that fails -/

/-- The failure counted, with EV121 and its record. -/
def Dev.tokenCounted (t : Tok) (d : Dev) : Dev :=
  ((d.put 0x712400 (min 8 (d.get 0x712400 + 1))).raise 121).bbMake 12 1 121 t.level (d.get 0x710500) (min 8 (d.get 0x712400 + 1))

theorem Dev.tokenCounted_sec (t : Tok) (d : Dev) : (d.tokenCounted t).sec = d.sec := by simp [Dev.tokenCounted]

theorem Dev.tokenCounted_stores (t : Tok) (d : Dev) : (d.tokenCounted t).stores = d.stores := by simp [Dev.tokenCounted]

theorem Dev.tokenCounted_now (t : Tok) (d : Dev) : (d.tokenCounted t).now = d.now := by simp [Dev.tokenCounted]

theorem Dev.tokenCounted_fails (t : Tok) (d : Dev) : (d.tokenCounted t).get 0x712400 = min 8 (d.get 0x712400 + 1) := by
  rw [Dev.tokenCounted, Dev.get_bbMake _ _ _ _ _ _ _ _ (by simp [fabricKey]) (by simp [bbKey]), Dev.get_raise _ _ _ (by decide) (by simp [fabricKey]), Dev.get_put_same]

theorem Dev.tokenFails_written {t : Tok} {p : Path} {d : Dev} (hp : t.path = some p) (hn : d.get 0x712400 < 7) :
    d.tokenFails t = (d.tokenCounted t).logError 0x7123 0 eRange (pathSource p).1 (pathSource p).2 0 := by
  have hcount : min 8 (d.get 0x712400 + 1) ≠ 8 := by omega
  simp only [Dev.tokenFails, hp]
  exact if_neg hcount

/-- The eighth failure of tokens over the debug port: a lockout of 600 s. -/
theorem Dev.tokenFails_locks {t : Tok} {d : Dev} (hp : t.path = none) (hn : 7 ≤ d.get 0x712400) :
    d.tokenFails t = ((d.tokenCounted t).modSec (fun s => { s with lockEnd := some ((d.tokenCounted t).now + 600000000000) })).raise 121 := by
  have hcount : min 8 (d.get 0x712400 + 1) = 8 := by omega
  simp only [Dev.tokenFails, hp]
  exact if_pos hcount

/-- Fewer failures over the debug port are counted alone. -/
theorem Dev.tokenFails_counted {t : Tok} {d : Dev} (hp : t.path = none) (hn : d.get 0x712400 < 7) : d.tokenFails t = d.tokenCounted t := by
  have hcount : min 8 (d.get 0x712400 + 1) ≠ 8 := by omega
  simp only [Dev.tokenFails, hp]
  exact if_neg hcount

theorem Dev.logError_sec (index sub code source session rule : Nat) (d : Dev) : (d.logError index sub code source session rule).sec = d.sec := rfl

theorem Dev.logError_stores (index sub code source session rule : Nat) (d : Dev) : (d.logError index sub code source session rule).stores = d.stores := rfl

theorem Dev.lockoutEnd_due {d : Dev} {t : Nat} (h : d.sec.lockEnd = some t) (ht : t ≤ d.now) : d.lockoutEnd = (d.modSec (fun q => { q with lockEnd := none })).raise 121 := by
  simp [Dev.lockoutEnd, h, ht]

/-- A verified token while no open waits: it becomes what its verification starts or counts. -/
theorem becomes_tokenVerified {s : State} {sig erased : Bool} {e : Dev} (hf : (s.dev.erasing erased).tokenVerified sig = e) (ho : e.sec.opening = none) (hkeeps : e.stores = s.dev.stores) (hst : s.dev.stores = []) :
    becomes (.tokenVerified sig erased) s e := becomes_run rfl (by rw [hf, Dev.openProceed_none ho]) hkeeps hst

/-- Settles O47: a request by whether its level needs a token, a token by whether it verifies, and a failure by its count. -/
theorem unlocking : Obligations.Unlocking := by
  unfold Obligations.Unlocking
  refine ⟨fun d level => rfl, ?challenge, ?retireAsked, ?retireDone, ?opens, fun d m level => Dev.enterService_modes d m level, writesBytes_token, ?verified, ?fails, ?locks, fun s t h ht => becomes_act rfl (Dev.lockoutEnd_due h ht)⟩
  case challenge =>
    refine fun a => ⟨writes_challenge (by decide) (fun _ => rfl) fun d h => h, writes_challenge (by decide) (fun _ => rfl) fun d h => h, writes_challenge (by decide) (fun _ => rfl) fun d ⟨hl, h⟩ => ⟨?_, h⟩⟩
    simp [Dev.noToken, hl]
  case retireAsked =>
    intro s a erased ht hl ho hst
    have htoken : (s.dev.erasing erased).noToken 4 = false := by
      have hlife : (s.dev.erasing erased).life ≠ 0 := hl
      simp [Dev.noToken, hlife]
    exact becomes_unlockRetire ht (Dev.unlock_challenges htoken) ho hst rfl
  case retireDone =>
    intro s a erased ht hl hc ho hst
    have htoken : (s.dev.erasing erased).noToken 4 = true := by
      have hlife : (s.dev.erasing erased).life = 0 := hl
      simp [Dev.noToken, hlife]
    exact becomes_unlockRetire ht ((if_pos htoken).trans (Dev.unlockDo_erases (by decide) hc)) ((Dev.erase_opening 4 _).trans ho) hst (Dev.erase_stores 4 _)
  case opens =>
    intro s a level i hi ht htoken hc hs
    simp only [List.mem_cons, Prod.mk.injEq, List.not_mem_nil, or_false] at hi
    rcases hi with ⟨rfl, rfl⟩ | ⟨rfl, rfl⟩
    · exact congrArg Host.Outcome.next (State.run_congr (Dev.hostSet_opens (.inl rfl) ht htoken hc hs s.mem))
    · exact congrArg Host.Outcome.next (State.run_congr (Dev.hostSet_opens (.inr rfl) ht htoken hc hs s.mem))
  case verified =>
    intro s t erased hv ht hk hch hc ho
    have hgood := Dev.tokenVerified_good hv ht hk hch erased
    refine ⟨fun hl hst => ?_, fun hl hs hlife => ?_⟩
    · exact becomes_tokenVerified (hgood.trans (Dev.unlockDo_erases hl hc)) ((Dev.erase_opening _ _).trans ho) (Dev.erase_stores _ _) hst
    · have hs' : ((s.dev.unverified erased).put 0x712400 0).twinState ≠ 3 := by
        rw [Dev.twinState, Dev.get_twin_put (by simp [twinKey]) (by decide)]
        exact hs
      have hlife' : ((s.dev.unverified erased).put 0x712400 0).life ≠ 2 := by
        rw [Dev.life, Dev.get_put_other _ _ _ _ (by decide) (.inl (by decide))]
        exact hlife
      have hopens := hgood.trans (Dev.unlockDo_opens hl hc hs')
      refine congrArg Host.Outcome.next (State.run_congr ?_)
      dsimp only
      rw [hopens]
      exact Dev.openProceed_enters (d := { (s.dev.unverified erased).put 0x712400 0 with sec := { (s.dev.unverified erased).sec with chal := none, opening := some t.level } }) rfl hs' hlife' s.mem
  case fails =>
    intro s t p sig erased hv hp hbad ho hst hn
    have hfails := (Dev.tokenVerified_bad hv hbad erased).trans (Dev.tokenFails_written (d := s.dev.unverified erased) hp hn)
    have hmin : min 8 (s.dev.get 0x712400 + 1) = s.dev.get 0x712400 + 1 := by omega
    have hcounted : (s.dev.unverified erased).tokenCounted t =
        (((({ s.dev with sec := { s.dev.sec with eraseBad := !erased, verify := none } } : Dev).put 0x712400 (s.dev.get 0x712400 + 1)).raise 121).bbMake 12 1 121 t.level (s.dev.get 0x710500) (s.dev.get 0x712400 + 1)) := by
      rw [← hmin]
      rfl
    rw [← hcounted]
    exact becomes_tokenVerified hfails (by rw [Dev.logError_sec, Dev.tokenCounted_sec]; exact ho) (by rw [Dev.logError_stores, Dev.tokenCounted_stores]; rfl) hst
  case locks =>
    intro s t sig erased hv hp hbad ho hst hn
    have hlocks := (Dev.tokenVerified_bad hv hbad erased).trans (Dev.tokenFails_locks (d := s.dev.unverified erased) hp hn)
    have hsec : ((s.dev.unverified erased).tokenCounted t).sec = (s.dev.unverified erased).sec := Dev.tokenCounted_sec t _
    have hbecomes := becomes_tokenVerified hlocks (by rw [Dev.raise_sec, Dev.modSec, hsec]; exact ho) (by rw [Dev.raise_stores, Dev.modSec, Dev.tokenCounted_stores]; rfl) hst
    refine hbecomes.gives ⟨?_, ?_, ?_⟩
    · refine (Dev.get_raise 121 0x712400 _ (by decide) (by simp [fabricKey])).trans ((Dev.tokenCounted_fails t (s.dev.unverified erased)).trans ?_)
      exact Nat.min_eq_left (Nat.succ_le_succ hn)
    · refine (congrArg Sec.lockEnd (Dev.raise_sec 121 _)).trans ?_
      exact congrArg (fun n => some (n + 600000000000)) (Dev.tokenCounted_now t (s.dev.unverified erased))
    · refine (congrArg Sec.verify (Dev.raise_sec 121 _)).trans ?_
      exact congrArg Sec.verify hsec

end Sys2Proof.Machine
end

section
/-! REFUTATION. The test access port (R459, R460): a word that the debugger writes to memory has good check bits again (R412), so more of the part changes than the port's register. -/
namespace Sys2Proof.Machine

/-- A part that is powered, with the debug port open at FULL, whose first word of memory has bad check bits. -/
def debuggedBadWord : State := { pending := [], mem := [], dev := { sup := { coreOn := true }, sec := { port := 2 }, tes := { bad := [0] } } }

/-- What the debugger's write of that word leaves: no word with bad check bits. -/
theorem debuggedBadWord_written : ∃ t, exec (.dbgAccess (.writeMem 0 0)) debuggedBadWord = .next t ∧ t.dev.tes.bad = [] := ⟨_, rfl, rfl⟩

/-- Refutes O48: a debug write of memory is said to change nothing of the part but the port's register, and `debuggedBadWord` is a part in which it also clears a word's bad check bits. -/
theorem not_testPort : ¬ Obligations.TestPort := by
  unfold Obligations.TestPort
  rintro ⟨-, -, -, -, -, -, -, hopen, -⟩
  obtain ⟨-, -, hwrite, -⟩ := hopen debuggedBadWord rfl rfl rfl
  obtain ⟨t, hexec, -, hdev, -⟩ := hwrite 0 0 rfl rfl (by decide) (by decide)
  obtain ⟨u, hrun, hbad⟩ := debuggedBadWord_written
  have htu : t = u := Host.Outcome.next.inj (hexec.symm.trans hrun)
  have hkept : t.dev.tes.bad = [0] := congrArg (fun d : Dev => d.tes.bad) hdev
  rw [htu, hbad] at hkept
  exact absurd hkept (by decide)

end Sys2Proof.Machine
end
